-- ==== Sys2Proof/Word.lean ====
section
/-! DEFINITION. The words of the engine's registers and the shape of its sparse tables.
R7: every multi-byte field is little-endian and bit 0 is its least significant bit. -/

namespace Sys2Proof

/-- One 32-bit register of BAR0 (R241). -/
abbrev Word := BitVec 32

/-- One byte of host memory or of a table entry. -/
abbrev Byte := BitVec 8

/-- A 64-bit RESULT or epoch. -/
abbrev Long := BitVec 64

/-- A sparse table: the entries that differ from their default, by rising key. -/
abbrev Tbl (α : Type) := List (Nat × α)

end Sys2Proof
end

