-- ==== Sys2Proof/Syntax.lean ====
section
/-! DEFINITION. The commands of the engine: one constructor of `Instr` per row of spec/opcode_table.json, in its order,
with the parameter blocks and event operands the chapters give them.
In a parameter block `rsv` is the OR of the block's reserved fields (zero when the host wrote them as R8 asks). -/

namespace Sys2Proof

/-- Where a Keseuk command comes from (R214): issuing domain, carrying hopper and host tag. -/
structure Cx where
  domain : Nat
  hopper : Nat
  tag : Nat
deriving DecidableEq, Repr, Inhabited

/-- The requesters of the register fabric (R309). -/
inductive Rq where
  | pf
  | vf (d : Nat)
  | core (m : Nat)
  | smbus
  | jtag
deriving DecidableEq, Repr, Inhabited

/-- An instant of disciplined time in a parameter block: AT_SEC and AT_NS. -/
structure At where
  sec : Nat
  ns : Nat
deriving DecidableEq, Repr, Inhabited

/-- GET_INFO (R379). -/
structure GetInfoP where
  item : Nat
  rsv : Nat := 0
deriving DecidableEq, Repr, Inhabited

/-- SET_MODE (R372). -/
structure SetModeP where
  target : Nat
  rsv : Nat := 0
deriving DecidableEq, Repr, Inhabited

/-- SNAPSHOT (R324). -/
structure SnapshotP where
  whn : Nat
  at_ : At := {sec := 0, ns := 0}
  rsv : Nat := 0
deriving DecidableEq, Repr, Inhabited

/-- Parameters of R377. -/
structure FwStageP where
  addr : Nat
  length : Nat
  rsv : Nat := 0
deriving DecidableEq, Repr, Inhabited

/-- Parameters of R378. -/
structure FwActivateP where
  whn : Nat
  rsv : Nat := 0
deriving DecidableEq, Repr, Inhabited

/-- TABLE_READ and TABLE_WRITE (R231). -/
structure TableP where
  table : Nat
  first : Nat
  count : Nat
  addr : Nat
  rsv : Nat := 0
deriving DecidableEq, Repr, Inhabited

/-- Parameters of R161; `entries` are the inline words (R160). -/
structure PairTxnP where
  xid : Nat
  count : Nat
  byAddr : Bool := false
  addr : Nat
  entries : List Word := []
  rsv : Nat := 0
deriving DecidableEq, Repr, Inhabited

/-- Parameters of R170. -/
structure PairCommitP where
  xid : Nat
  whn : Nat
  early : Bool := false
  at_ : At := {sec := 0, ns := 0}
  rsv : Nat := 0
deriving DecidableEq, Repr, Inhabited

/-- Parameters of R171. -/
structure PairAbortP where
  xid : Nat
  rsv : Nat := 0
deriving DecidableEq, Repr, Inhabited

/-- Parameters of R183. -/
structure PairQueryP where
  kind : Nat
  domain : Nat
  xid : Nat
  addr : Nat
  first : Nat
  count : Nat
  rsv : Nat := 0
deriving DecidableEq, Repr, Inhabited

/-- Parameters of R182. -/
structure PortParkP where
  port : Nat
  rsv : Nat := 0
deriving DecidableEq, Repr, Inhabited

/-- Parameters of R204. -/
structure SchLoadP where
  kind : Nat
  cross : Bool := false
  first : Nat
  count : Nat
  addr : Nat
  rsv : Nat := 0
deriving DecidableEq, Repr, Inhabited

/-- Parameters of R205. -/
structure SchStartP where
  first : Nat
  source : Nat
  whn : Nat
  at_ : At := {sec := 0, ns := 0}
  rsv : Nat := 0
deriving DecidableEq, Repr, Inhabited

/-- Parameters of R206. -/
structure SchStopP where
  how : Nat
  rsv : Nat := 0
deriving DecidableEq, Repr, Inhabited

/-- Parameters of R199. -/
structure SchJumpP where
  target : Nat
  rsv : Nat := 0
deriving DecidableEq, Repr, Inhabited

/-- Parameters of R207. -/
structure SchStreamP where
  addr : Nat
  log2 : Nat
  resume : Bool := false
  start : Nat
  rsv : Nat := 0
deriving DecidableEq, Repr, Inhabited

/-- Parameters of R157; `cfg` holds words 0..10. -/
structure LoopCfgP where
  first : Nat
  count : Nat
  words : Nat
  restart : Bool := false
  cfg : List Word := []
  rsv : Nat := 0
deriving DecidableEq, Repr, Inhabited

/-- Parameters of R153. -/
structure LoopInjectP where
  aperture : Nat
  axis : Nat
  point : Nat
  wave : Nat
  start : Nat
  half : Nat
  amp : Int := 0
  duration : Nat
  f0 : Nat
  f1 : Nat
  at_ : At := {sec := 0, ns := 0}
  rsv : Nat := 0
deriving DecidableEq, Repr, Inhabited

/-- Parameters of R155. -/
structure CaptureArmP where
  unit : Nat
  axis : Nat
  aperture : Nat
  trigger : Nat
  length : Nat
  pre : Nat
  level : Nat
  at_ : At := {sec := 0, ns := 0}
  rsv : Nat := 0
deriving DecidableEq, Repr, Inhabited

/-- Parameters of R156. -/
structure CaptureReadP where
  unit : Nat
  first : Nat
  count : Nat
  addr : Nat
  rsv : Nat := 0
deriving DecidableEq, Repr, Inhabited

/-- Parameters of R133; KNOWN in 0.01 dBm. -/
structure CalSensorP where
  first : Nat
  count : Nat
  step : Nat
  known : Int := 0
  frames : Nat
  rsv : Nat := 0
deriving DecidableEq, Repr, Inhabited

/-- Parameters of R89. -/
structure CalSurveyP where
  firstRound : Nat
  rounds : Nat
  measFrames : Nat
  keep : Bool := false
  rsv : Nat := 0
deriving DecidableEq, Repr, Inhabited

/-- Parameters of R90. -/
structure CalCommitP where
  target : Nat
  action : Nat
  rsv : Nat := 0
deriving DecidableEq, Repr, Inhabited

/-- Parameters of R88. -/
structure AimUploadP where
  addr : Nat
  first : Nat
  count : Nat
  set : Nat
  rsv : Nat := 0
deriving DecidableEq, Repr, Inhabited

/-- Parameters of R228. -/
structure DomainCfgP where
  domain : Nat
  en : Bool := false
  vfEn : Bool := false
  ringEn : Bool := false
  hopFirst : Nat
  hopCount : Nat
  tagQuota : Nat
  rsv : Nat := 0
deriving DecidableEq, Repr, Inhabited

/-- Parameters of R229. -/
structure OwnerSetP where
  first : Nat
  count : Nat
  domain : Nat
  rsv : Nat := 0
deriving DecidableEq, Repr, Inhabited

/-- Parameters of R230. -/
structure PolicerSetP where
  first : Nat
  count : Nat
  rate : Nat
  burst : Nat
  overhead : Nat
  pairCost : Nat
  interval : Nat
  fill : Bool := false
  rsv : Nat := 0
deriving DecidableEq, Repr, Inhabited

/-- Parameters of R110. -/
structure DrillSwapP where
  dwellMs : Nat
  abortAge : Nat
  rsv : Nat := 0
deriving DecidableEq, Repr, Inhabited

/-- Parameters of R380. -/
structure BistRunP where
  suites : Nat
  rsv : Nat := 0
deriving DecidableEq, Repr, Inhabited

/-- Parameters of R349. -/
structure FaultClearP where
  exitSafe : Bool := false
  clearCauses : Bool := false
  clearHistory : Bool := false
  rsv : Nat := 0
deriving DecidableEq, Repr, Inhabited

/-- DMA_RESUME and DMA_ABORT (R257). -/
structure SlotSeqP where
  slot : Nat
  seq : Nat
  rsv : Nat := 0
deriving DecidableEq, Repr, Inhabited

/-- What a host read or a page-map walk meets (R250, R254). -/
inductive HostRes where
  | ok
  | mapEcc (entry : Nat)   -- an uncorrectable DDR5 error arises in this page-map entry, 512·node + index (R250)
  | hostError   -- completion timeout, UR, CA or poisoned completion
  | timeout     -- the completion timeout, counted in HIF_CPL_TO_CNT
deriving DecidableEq, Repr, Inhabited

/-- What the reads of a submission fetch meet (R212, R254): that of the header entry, and that of the continuation entries. -/
structure FetchRes where
  head : HostRes := .ok
  rest : HostRes := .ok
deriving DecidableEq, Repr, Inhabited

/-- What a read of a frame-store word finds (R96, R97). -/
inductive FsRead where
  | clean
  | corrected (word : Nat)
  | uncorrectable (word : Nat)
deriving DecidableEq, Repr, Inhabited

/-- What the residue checks find while an aperture is synthesised (R78, R79): rows recomputed once, and a second mismatch. -/
structure Residue where
  once : List Nat := []
  twice : Option Nat := none
deriving DecidableEq, Repr, Inhabited

/-- One conversion of a detector (R118, R125): the input in codes, below zero or above full scale allowed. -/
structure Conv where
  raw : Int
deriving DecidableEq, Repr, Inhabited

/-- One read of a march run (R55): the plane, the march element, the cell, and the code whose voltage the sense path finds. -/
structure MarchRead where
  shadow : Bool
  element : Nat
  aperture : Nat
  row : Nat
  col : Nat
  code : Nat
deriving DecidableEq, Repr, Inhabited

/-- One rebuild by the sweeper (R71): the entry, and what the hysteresis reads and the residue checks of a re-synthesised park
find (R72, R78, R96). -/
structure SweepP where
  index : Nat
  reads : List FsRead := []
  residue : Residue := {}
deriving DecidableEq, Repr, Inhabited

/-- An upset of a triplicated field or token latch that the scrubber finds (R313, R105). -/
structure Upset where
  offset : Nat           -- BAR0 offset; tile t's latch is 0x10000 + t
  copy0 : Option Nat := none
  copy1 : Option Nat := none
  copy2 : Option Nat := none
deriving DecidableEq, Repr, Inhabited

/-- The 802.1AE protection of a frame, as its SecTAG gives it (R277). -/
structure SecTag where
  an : Nat
  pn : Nat
  icvOk : Bool
  sci : Option Nat := none   -- the explicit SCI: the sender's MAC address, then its port identifier
deriving DecidableEq, Repr, Inhabited

/-- A frame on the ring or on a point-to-point link (R268, R278). `kind` is TYPE of the Leat tag; `eth` the EtherType
after the tag and the SecTAG; `wire` its length from DA through FCS. -/
structure Frame where
  da : Nat
  sa : Nat
  kind : Nat := 0
  pri : Nat := 0
  ringB : Bool := false
  wrap : Bool := false
  ttl : Nat := 255
  fcsOk : Bool := true
  eth : Nat := 0
  sec : Option SecTag := none
  payload : List Byte := []
  wire : Nat := 64
deriving DecidableEq, Repr, Inhabited

/-- A frame of a length the MAC accepts (R265). -/
def Frame.sized (f : Frame) : Bool := decide (64 ≤ f.wire) && decide (f.wire ≤ 2000)

/-- Where a control frame of the ring comes from: its source address and what its Leat tag says (R268). -/
structure Origin where
  sa : Nat
  ttl : Nat := 255
  wrap : Bool := false
deriving DecidableEq, Repr, Inhabited

/-- A TOKEN frame (R271). -/
structure TokenIn where
  gen : Nat
  src : Origin
deriving DecidableEq, Repr, Inhabited

/-- A PAUSE frame (R281). -/
structure PauseIn where
  da : Nat
  sa : Nat
  onB : Bool := false
  ttl : Nat := 255
deriving DecidableEq, Repr, Inhabited

/-- How a receive link fails: its lock or alignment is lost now, or its hellos have stopped (R267). -/
structure LinkLoss where
  onB : Bool
  lock : Bool
deriving DecidableEq, Repr, Inhabited

/-- The pair of a reporter: it has failed for three samples, or, with `ok`, has begun to read 0b01 again (R329, R330). -/
structure WirePair where
  code : Nat
  ok : Bool := false
deriving DecidableEq, Repr, Inhabited

/-- A feed that has carried more than 25 A for 1 ms, or, with `high` false, no longer does (R359). -/
structure FeedLoad where
  b : Bool
  high : Bool := true
deriving DecidableEq, Repr, Inhabited

/-- How a firmware image fares against the checks of R375 and R377. -/
inductive FwVerdict where
  | accepted (version : Word)
  | format
  | signature
  | rollback
deriving DecidableEq, Repr, Inhabited

/-- The commands of the block, one per row of spec/opcode_table.json. -/
inductive Instr where
  /-- NOP (R233). -/
  | nop (cx : Cx)
  /-- GET_INFO (R379). -/
  | getInfo (cx : Cx) (p : GetInfoP)
  /-- SET_MODE (R372). -/
  | setMode (cx : Cx) (p : SetModeP)
  /-- SNAPSHOT (R324). -/
  | snapshot (cx : Cx) (p : SnapshotP)
  /-- FW_STAGE (R377). -/
  | fwStage (cx : Cx) (p : FwStageP)
  /-- FW_ACTIVATE (R378). -/
  | fwActivate (cx : Cx) (p : FwActivateP)
  /-- TABLE_READ (R231). -/
  | tableRead (cx : Cx) (p : TableP)
  /-- TABLE_WRITE (R231). -/
  | tableWrite (cx : Cx) (p : TableP)
  /-- PAIR_TXN (R161). -/
  | pairTxn (cx : Cx) (p : PairTxnP)
  /-- PAIR_COMMIT (R170). -/
  | pairCommit (cx : Cx) (p : PairCommitP)
  /-- PAIR_ABORT (R171). -/
  | pairAbort (cx : Cx) (p : PairAbortP)
  /-- PAIR_QUERY (R183). -/
  | pairQuery (cx : Cx) (p : PairQueryP)
  /-- PORT_PARK (R182). -/
  | portPark (cx : Cx) (p : PortParkP)
  /-- SCH_LOAD (R204). -/
  | schLoad (cx : Cx) (p : SchLoadP)
  /-- SCH_START (R205). -/
  | schStart (cx : Cx) (p : SchStartP)
  /-- SCH_STOP (R206). -/
  | schStop (cx : Cx) (p : SchStopP)
  /-- SCH_JUMP (R199). -/
  | schJump (cx : Cx) (p : SchJumpP)
  /-- SCH_STREAM (R207). -/
  | schStream (cx : Cx) (p : SchStreamP)
  /-- LOOP_CFG (R157). -/
  | loopCfg (cx : Cx) (p : LoopCfgP)
  /-- LOOP_INJECT (R153). -/
  | loopInject (cx : Cx) (p : LoopInjectP)
  /-- CAPTURE_ARM (R155). -/
  | captureArm (cx : Cx) (p : CaptureArmP)
  /-- CAPTURE_READ (R156). -/
  | captureRead (cx : Cx) (p : CaptureReadP)
  /-- CAL_SENSOR (R133). -/
  | calSensor (cx : Cx) (p : CalSensorP)
  /-- CAL_SURVEY (R89). -/
  | calSurvey (cx : Cx) (p : CalSurveyP)
  /-- CAL_COMMIT (R90). -/
  | calCommit (cx : Cx) (p : CalCommitP)
  /-- AIM_UPLOAD (R88). -/
  | aimUpload (cx : Cx) (p : AimUploadP)
  /-- DOMAIN_CFG (R228). -/
  | domainCfg (cx : Cx) (p : DomainCfgP)
  /-- OWNER_SET (R229). -/
  | ownerSet (cx : Cx) (p : OwnerSetP)
  /-- POLICER_SET (R230). -/
  | policerSet (cx : Cx) (p : PolicerSetP)
  /-- DRILL_SWAP (R110). -/
  | drillSwap (cx : Cx) (p : DrillSwapP)
  /-- BIST_RUN (R380). -/
  | bistRun (cx : Cx) (p : BistRunP)
  /-- FAULT_CLEAR (R349). -/
  | faultClear (cx : Cx) (p : FaultClearP)
  /-- DMA_RESUME (R257). -/
  | dmaResume (cx : Cx) (p : SlotSeqP)
  /-- DMA_ABORT (R257). -/
  | dmaAbort (cx : Cx) (p : SlotSeqP)
  /-- SQ_DOORBELL (R213). -/
  | sqDoorbell (fn : Nat) (n : Nat) (v : Word) (aligned : Bool)
  /-- CQ_DOORBELL (R213). -/
  | cqDoorbell (fn : Nat) (n : Nat) (v : Word) (aligned : Bool)
  /-- COMMAND_FETCH (R216). -/
  | commandFetch (host : FetchRes)
  /-- POLICER_REFILL (R223). -/
  | policerRefill
  /-- SHAPER_SLOT (R225). -/
  | shaperSlot
  /-- COMPLETION_SIGNAL (R220). -/
  | completionSignal
  /-- HOPPER_SAMPLE (R226). -/
  | hopperSample
  /-- CHUNK (R247). -/
  | chunk (stream : Nat) (res : HostRes)
  /-- HALT_TMO (R258). -/
  | haltTmo (slot : Nat)
  /-- FLR (R261). -/
  | flr (fn : Nat)
  /-- HOT_RESET (R262). -/
  | hotReset
  /-- PERST_N (R393). -/
  | perstN (lowNs : Nat)
  /-- PCIE_LINK_DOWN (R262). -/
  | pcieLinkDown
  /-- VF_DISABLE (R240). -/
  | vfDisable (numVfs : Nat)
  /-- D3HOT_TO_D0 (R373). -/
  | d3hotToD0
  /-- POWER_ON (R374). -/
  | powerOn (straps : Nat) (brakeLow : Bool) (loadErr : List Nat)
  /-- BOOT_STAGE_TIMEOUT (R374). -/
  | bootStageTimeout (stage : Nat) (err : Nat)
  /-- THERMAL_GATE_RELEASE (R357). -/
  | thermalGateRelease
  /-- RST_N (R393). -/
  | rstN (lowNs : Nat)
  /-- RST_N_RELEASE (R393). -/
  | rstNRelease
  /-- BRAKE_N (R393). -/
  | brakeN (lowNs : Nat)
  /-- BRAKE_SLUICE (R46). -/
  | brakeSluice
  /-- BRAKE_FAIL (R47). -/
  | brakeFail (silent : List Nat)
  /-- BRAKE_RELEASE (R48). -/
  | brakeRelease
  /-- SPAN_WRITE (R51). -/
  | spanWrite (rq : Rq) (v : Word)
  /-- RESYNTHESIS_START (R24). -/
  | resynthesisStart
  /-- MARCH_RUN (R55). -/
  | marchRun (rq : Rq) (v : Word)
  /-- MARCH_END (R56). -/
  | marchEnd (reads : List MarchRead)
  /-- SHORT_RETRY (R54). -/
  | shortRetry (rq : Rq) (tile : Nat) (v : Word)
  /-- ISLAND_RST (R59). -/
  | islandRst (rq : Rq) (tile : Nat) (v : Word)
  /-- FLT_IRST (R348). -/
  | fltIrst (rq : Rq) (v : Word)
  /-- ISLAND_RESET_END (R59). -/
  | islandResetEnd (tile : Nat) (reads : List FsRead)
  /-- SHORT (R53). -/
  | short (aperture : Nat) (col : Nat)
  /-- ATN_HOLDOFF_END (R345). -/
  | atnHoldoffEnd
  /-- ARM (R165). -/
  | arm (job : Nat) (residues : List (Nat × Residue))
  /-- ARM_COMPLETE (R41). -/
  | armComplete (aperture : Nat)
  /-- PREPARED (R165). -/
  | prepared (txn : Nat) (ddrEcc : Bool)
  /-- NO_GROUP (R167). -/
  | noGroup (txn : Nat)
  /-- SYNC_MISSING (R166). -/
  | syncMissing (txn : Nat)
  /-- OPEN_TMO (R165). -/
  | openTmo (txn : Nat)
  /-- CHECK (R165). -/
  | check (job : Nat)
  /-- SLUICE (R42). -/
  | sluice
  /-- MAP_PUBLISH (R174). -/
  | mapPublish
  /-- CONDITION_REFRESH (R174). -/
  | conditionRefresh
  /-- MAJOR_PARK (R334). -/
  | majorPark
  /-- ARM_POINT (R194). -/
  | armPoint
  /-- SEGMENT_ARRIVAL (R202). -/
  | segmentArrival
  /-- FLUME_PI_WRITE (R200). -/
  | flumePiWrite (rq : Rq) (v : Word)
  /-- SURVEY_END (R86). -/
  | surveyEnd (gen : Nat)
  /-- CAL_SENSOR_END (R131). -/
  | calSensorEnd (first : Nat)
  /-- CAL_PERSIST_DONE (R90). -/
  | calPersistDone (ok : Bool)
  /-- SWEEPER_REBUILD (R71). -/
  | sweeperRebuild (p : SweepP)
  /-- CACHE_RELOAD_DONE (R68). -/
  | cacheReloadDone (tile : Nat)
  /-- REFRESH (R100). -/
  | refresh (byB : Bool) (aperture : Nat) (row : Nat) (shadow : Bool) (reads : List FsRead)
  /-- HEARTBEAT (R106). -/
  | heartbeat (fromB : Bool) (clean : Bool)
  /-- HEARTBEAT_MISSING (R106). -/
  | heartbeatMissing (ofB : Bool)
  /-- TAKEOVER (R107). -/
  | takeover
  /-- FAILBACK (R108). -/
  | failback
  /-- DRILL_END (R110). -/
  | drillEnd
  /-- DRILL_CLAIM_TIMEOUT (R110). -/
  | drillClaimTimeout
  /-- FORCE_OWNER (R109). -/
  | forceOwner (rq : Rq) (v : Word)
  /-- PEAK_CLR (R100). -/
  | peakClr (rq : Rq) (v : Word)
  /-- SCRUB (R313). -/
  | scrub (upsets : List Upset)
  /-- HOLD_EXIT (R112). -/
  | holdExit (rq : Rq)
  /-- WAKE (R373). -/
  | wake (rq : Rq)
  /-- SYNC_IN (R123). -/
  | syncIn (absent : List Nat)
  /-- SYNC_LOSS (R123). -/
  | syncLoss (tile : Nat)
  /-- FREE_RUN_FRAME (R123). -/
  | freeRunFrame (tile : Nat)
  /-- CONVERSION_DONE (R121). -/
  | conversionDone (aperture : Nat) (convs : List Conv) (converter : Nat) (oneShot : Option Conv)
  /-- ONE_SHOT (R129). -/
  | oneShot (rq : Rq) (v : Word)
  /-- REFSEL_WRITE (R127). -/
  | refselWrite (rq : Rq) (k : Nat) (v : Word)
  /-- REF_SETTLED (R127). -/
  | refSettled (tile : Nat)
  /-- LOOP_EVALUATION (R136). -/
  | loopEvaluation (aperture : Nat) (arrived : Bool) (residue : Residue) (reads : List FsRead)
  /-- DAMSEL_WRITE (R144). -/
  | damselWrite (rq : Rq) (v : Word)
  /-- THERMAL_MEASUREMENT (R352). -/
  | thermalMeasurement (group : Nat) (readings : List (Nat × Int))
  /-- COOLDOWN_END (R356). -/
  | cooldownEnd
  /-- FEED_LOSS (R359). -/
  | feedLoss (b : Bool)
  /-- FEED_RETURN (R359). -/
  | feedReturn (b : Bool)
  /-- BROWNOUT (R360). -/
  | brownout
  /-- OVERCURRENT (R359). -/
  | overcurrent (b : FeedLoad)
  /-- AUX_LOSS (R361). -/
  | auxLoss (b : Bool)
  /-- RAIL_WARN (R331). -/
  | railWarn
  /-- POWER_LOSS (R361). -/
  | powerLoss
  /-- REFCLK_LOST (R363). -/
  | refclkLost (b : Bool)
  /-- REF_GOOD (R363). -/
  | refGood (b : Bool)
  /-- TB_REVERT (R364). -/
  | tbRevert
  /-- TB_PREF_WRITE (R364). -/
  | tbPrefWrite (rq : Rq) (v : Word)
  /-- WIRE_FAULT (R330). -/
  | wireFault (block : Nat) (inst : Nat) (code : WirePair)
  /-- BUS_HANG (R347). -/
  | busHang (master : Nat) (addr : Nat)
  /-- HS_ERR (R335). -/
  | hsErr (tile : Nat)
  /-- GRAVE_PERSIST (R342). -/
  | gravePersist (ok : Bool)
  /-- GRAVE_CLR (R342). -/
  | graveClr (rq : Rq) (v : Word)
  /-- SNAP_GO (R322). -/
  | snapGo (rq : Rq) (v : Word)
  /-- SNAPSHOT_PULSE (R322). -/
  | snapshotPulse
  /-- GENERATION_READABLE (R322). -/
  | generationReadable
  /-- TIME (R289). -/
  | time (rq : Rq) (write : Bool) (idx : Nat) (data : List Word)
  /-- TIME_SLOT (R289). -/
  | timeSlot (rq : Rq) (write : Bool) (idx : Nat) (data : List Word)
  /-- TIME_SET (R289). -/
  | timeSet (rq : Rq) (write : Bool) (idx : Nat) (data : List Word)
  /-- TSQ (R299). -/
  | tsq (rq : Rq) (write : Bool) (idx : Nat) (data : List Word)
  /-- XACT_EPOCH (R173). -/
  | xactEpoch (rq : Rq) (write : Bool) (idx : Nat) (data : List Word)
  /-- XACT_MAP_EPOCH (R173). -/
  | xactMapEpoch (rq : Rq) (write : Bool) (idx : Nat) (data : List Word)
  /-- DMA_FAULT (R255). -/
  | dmaFault (rq : Rq) (write : Bool) (idx : Nat) (data : List Word)
  /-- SNAP_INFO (R323). -/
  | snapInfo (rq : Rq) (write : Bool) (idx : Nat) (data : List Word)
  /-- SNAP_REG (R321). -/
  | snapReg (rq : Rq) (write : Bool) (idx : Nat) (data : List Word)
  /-- CNT_PRESET (R321). -/
  | cntPreset (rq : Rq) (write : Bool) (idx : Nat) (data : List Word)
  /-- GUARD_WRITE (R310). -/
  | guardWrite (rq : Rq) (off : Nat) (v : Word)
  /-- GUARDED_WRITE (R312). -/
  | guardedWrite (rq : Rq) (off : Nat) (v : Word) (eight : Bool)
  /-- RWP_WRITE (R316). -/
  | rwpWrite (rq : Rq) (off : Nat) (v : Word)
  /-- NVR_PROGRAM_DONE (R316). -/
  | nvrProgramDone (ok : Bool)
  /-- DOM_EN_WRITE (R227). -/
  | domEnWrite (rq : Rq) (hi : Bool) (v : Word)
  /-- HWM_CLR (R216). -/
  | hwmClr (rq : Rq) (v : Word)
  /-- REMAP_WRITE (R376). -/
  | remapWrite (rq : Rq) (v : Word)
  /-- HANDOVER (R297). -/
  | handover (rq : Rq) (v : Word)
  /-- HANDOVER_JOIN (R297). -/
  | handoverJoin
  /-- RX_CFG_WRITE (R283). -/
  | rxCfgWrite (rq : Rq) (n : Nat) (v : Word)
  /-- RX_HEAD_WRITE (R283). -/
  | rxHeadWrite (rq : Rq) (n : Nat) (v : Word)
  /-- REGISTER_WRITE (R308). -/
  | registerWrite (rq : Rq) (off : Nat) (v : Word) (allBytes : Bool)
  /-- RING_FRAME (R269). -/
  | ringFrame (onB : Bool) (f : Frame)
  /-- COMMAND_FRAME (R278). -/
  | commandFrame (onB : Bool) (f : Frame)
  /-- TOKEN (R271). -/
  | token (onB : Bool) (gen : TokenIn)
  /-- TOKEN_HOLD_END (R271). -/
  | tokenHoldEnd (onB : Bool)
  /-- SHAPER_REFILL (R285). -/
  | shaperRefill
  /-- TRT_EXPIRY (R272). -/
  | trtExpiry (onB : Bool)
  /-- CLAIM (R272). -/
  | claim (onB : Bool) (bid : Nat) (mac : Origin) (nonce : Nat)
  /-- CLAIM_TIMEOUT (R272). -/
  | claimTimeout (onB : Bool)
  /-- HELLO_SEND (R274). -/
  | helloSend
  /-- HELLO (R274). -/
  | hello (onB : Bool) (rxA : Bool) (rxB : Bool)
  /-- LINK_DOWN (R267). -/
  | linkDown (onB : LinkLoss)
  /-- LINK_UP (R267). -/
  | linkUp (onB : Bool)
  /-- PRIMARY_RETURN (R280). -/
  | primaryReturn
  /-- PAUSE (R281). -/
  | pause (da : PauseIn) (quanta : Nat)
  /-- PAUSE_EXPIRY (R281). -/
  | pauseExpiry
  /-- PAUSE_REPEAT (R282). -/
  | pauseRepeat
  /-- PAUSE_RELEASE (R282). -/
  | pauseRelease
  /-- SYNC_MSG (R293). -/
  | syncMsg (slot : Nat) (onB : Bool) (wrap : Bool) (ttl : Nat) (twoStep : Bool) (seq : Nat) (origin : Int) (corr : Int) (rxTime : Int)
  /-- FOLLOW_UP (R294). -/
  | followUp (slot : Nat) (seq : Nat) (origin : Int) (corr : Int)
  /-- DELAY_REQ_SEND (R293). -/
  | delayReqSend (slot : Nat) (txTime : Int)
  /-- DELAY_RESP (R294). -/
  | delayResp (slot : Nat) (seq : Nat) (t4 : Int) (corr : Int) (interval : Nat)
  /-- SYNC_TMO (R295). -/
  | syncTmo (slot : Nat)
  /-- PATH_HOLD_END (R296). -/
  | pathHoldEnd (slot : Nat)
  /-- TSQ_EXPIRY (R299). -/
  | tsqExpiry
  /-- PPS_IN (R301). -/
  | ppsIn
  /-- SYNC_OUT_EDGE (R300). -/
  | syncOutEdge
  /-- PPS_OUT_EDGE (R301). -/
  | ppsOutEdge
  /-- IDENT (R398). -/
  | ident
  /-- STRAPS (R398). -/
  | straps
  /-- REG_ADDR (R398). -/
  | regAddr (w : Option Nat) (pec : Option Bool)
  /-- REG_DATA (R398). -/
  | regData (w : Option Word) (pec : Option Bool)
  /-- REG_NEXT (R398). -/
  | regNext
  /-- ALERT_RESPONSE (R399). -/
  | alertResponse
  /-- JTAG_BYPASS (R400). -/
  | jtagBypass
  /-- IDCODE (R400). -/
  | idcode
  /-- SAMPLE_PRELOAD (R400). -/
  | samplePreload (preload : Nat)
  /-- EXTEST (R401). -/
  | extest
  /-- CLAMP (R401). -/
  | clamp
  /-- HIGHZ (R401). -/
  | highz
  /-- TRST_N (R401). -/
  | trstN (low : Bool)
  /-- BOOT_END (R374). -/
  | bootEnd (bistFail : Bool)
  /-- FW_STAGED (R377). -/
  | fwStaged (verdict : FwVerdict)
  /-- FW_ACTIVATED (R378). -/
  | fwActivated (ok : Bool)
  /-- BIST_END (R380). -/
  | bistEnd (failed : Nat) (place : Nat)
  /-- RAIL_COLLAPSE (R360). -/
  | railCollapse
  /-- BLOCK_LOCK (R267). -/
  | blockLock (onB : Bool)
  /-- PCIE_LINK_UP (R239). -/
  | pcieLinkUp (speed : Nat) (width : Nat)
  /-- AER (R239). -/
  | aer
  /-- FLR_DONE (R261). -/
  | flrDone (fn : Nat)
  /-- IRST_END (R348). -/
  | irstEnd
  /-- BRAKE_N_RELEASE (R393). -/
  | brakeNRelease
  /-- AUX_RETURN (R361). -/
  | auxReturn (b : Bool)
deriving DecidableEq, Repr, Inhabited

end Sys2Proof
end

