-- ==== Sys2Proof/Decode.lean ====
section
/-! DEFINITION. The block has no instruction decoder and no row of spec/opcode_table.json gives bits: commands reach it as
bus writes, packets, frames, pins and events. So no word spells a command. -/

namespace Sys2Proof

/-- The command that a word of the table's bits spells: the table gives no row any bits. -/
def decodeTableWord (_nbits _w : Nat) : Option Instr := none

end Sys2Proof
end

