-- ==== Sys2Proof/Machine/Operands.lean ====
section
/-! DEFINITION. Bit fields, byte order and exact arithmetic shared by every command (R5, R7). -/

namespace Sys2Proof.Machine

/-- Bits [hi:lo] of a number. -/
def bits (x hi lo : Nat) : Nat := (x >>> lo) % 2 ^ (hi + 1 - lo)

/-- Bit `i` of a number. -/
def bit (x i : Nat) : Bool := (x >>> i) % 2 == 1

/-- A Boolean as a bit. -/
def ofB (b : Bool) : Nat := if b then 1 else 0

/-- `x` with bits [hi:lo] replaced by `v`. -/
def setBits (x hi lo v : Nat) : Nat :=
  let m := 2 ^ (hi + 1 - lo)
  (x >>> (hi + 1)) <<< (hi + 1) + (v % m) <<< lo + x % 2 ^ lo

/-- The word of a number. -/
def wd (x : Nat) : Word := BitVec.ofNat 32 x

/-- Two's complement value of the low `n` bits. -/
def sext (n x : Nat) : Int :=
  let y := x % 2 ^ n
  if y < 2 ^ (n - 1) then (y : Int) else (y : Int) - (2 ^ n : Nat)

/-- The low `n` bits of an integer in two's complement. -/
def trunc (n : Nat) (v : Int) : Nat := (v % (2 ^ n : Nat)).toNat

/-- Saturate to the range of `n`-bit two's complement. -/
def satS (n : Nat) (v : Int) : Int :=
  let m : Int := (2 ^ (n - 1) : Nat)
  if v ≥ m then m - 1 else if v < -m then -m else v

/-- Clamp to [-lim, lim]. -/
def clampAbs (lim v : Int) : Int := if v > lim then lim else if v < -lim then -lim else v

/-- Saturate a count at `m`. -/
def satU (m v : Nat) : Nat := if v > m then m else v

/-- Floor division of integers by 2^n (arithmetic shift right). -/
def asr (v : Int) (n : Nat) : Int := v / (2 ^ n : Nat)

/-- The bytes of `n` bytes of a number, least significant first (R7). -/
def leBytes : Nat → Nat → List Byte
  | 0, _ => []
  | n + 1, x => BitVec.ofNat 8 x :: leBytes n (x / 256)

/-- The number that bytes spell, least significant first (R7). -/
def ofBytes : List Byte → Nat
  | [] => 0
  | b :: t => b.toNat + 256 * ofBytes t

/-- The number of `n` bytes of a list starting at byte `i`; absent bytes read 0. -/
def fieldOf (l : List Byte) (i n : Nat) : Nat := ofBytes ((l.drop i).take n)

/-- The 32-bit words of a byte list. -/
def wordsOf (l : List Byte) (n : Nat) : List Word := (List.range n).map (fun k => wd (fieldOf l (4 * k) 4))

/-- The bytes of 32-bit words. -/
def bytesOf (l : List Word) : List Byte := l.flatMap (fun w => leBytes 4 w.toNat)

/-- Word `k` of a list of words; absent words read 0. -/
def wordAt (l : List Word) (k : Nat) : Nat := (l.getD k 0#32).toNat

/-- Whether bits [hi:lo] of a word are all zero. -/
def zeroBits (x hi lo : Nat) : Bool := bits x hi lo == 0

/-- Bitwise majority of three numbers (R313). -/
def majority (a b c : Nat) : Nat := (a &&& b) ||| (a &&& c) ||| (b &&& c)

/-- The value on which at least two copies agree, else the bitwise majority (R313). -/
def vote (a b c : Nat) : Nat := majority a b c

/-- One step of CRC-32C, reflected (polynomial 0x1EDC6F41). -/
def crcStep (c : Nat) : Nat := if c % 2 = 1 then (c / 2) ^^^ 0x82F63B78 else c / 2

/-- CRC-32C of a byte list (initial and final inversion, reflected). -/
def crc32c (l : List Byte) : Nat :=
  (l.foldl (fun c b => (List.range 8).foldl (fun x _ => crcStep x) (c ^^^ b.toNat)) 0xFFFFFFFF) ^^^ 0xFFFFFFFF

/-- A list of Booleans as bits, the first in bit 0. -/
def bitsOf (l : List Bool) : Nat := l.foldr (fun b n => ofB b + 2 * n) 0

end Sys2Proof.Machine
end

