-- ==== Sys2Proof/Config.lean ====
section
/-! DEFINITION. What manufacture fixes, and the values the manual leaves open.
Every `opaque` here has no body: nothing can evaluate it, so a claim holds whatever it is. -/

namespace Sys2Proof.Config

/-- R3: 4,096 ports. -/
abbrev numPorts : Nat := 4096
/-- R60: 4,100 apertures, S0..S3 being 4096..4099 (R3). -/
abbrev numApertures : Nat := 4100
/-- R37: 256 tiles. -/
abbrev numTiles : Nat := 256
/-- R210: 4,096 hoppers. -/
abbrev numHoppers : Nat := 4096
/-- R58, R186: "none" in a 13-bit target field. -/
abbrev noTarget : Nat := 0x1FFF

/-- Free value: a fresh number for each use, indexed by `State.freeCtr` (assumption log 3). -/
opaque freeValue : Nat → Nat

/-- Factory aim record of a temperature set and a record index but for its CHECK, which passes (R60, R61, R63); open, log 5. -/
opaque factoryAim : Nat → Nat → BitVec 256
/-- Factory bedstone entry of a set, an aperture, a row and a column (R65); open, log 5. -/
opaque bedstone : Nat → Nat → Nat → Nat → BitVec 16
/-- What LUT breakpoint L[i] of a tile, a span and a set exceeds the least it can be by, over the breakpoint before (R66); open,
log 5. -/
opaque lutStep : Nat → Nat → Nat → Nat → Nat
/-- Factory field delta persisted in flash for a directional pair (R64); open, log 5. -/
opaque factoryDelta : Nat → BitVec 64
/-- Word of the factory SENSORCAL entry of an aperture (R134); open, log 5. -/
opaque factorySensorCal : Nat → Nat → Word
/-- The check bits of the (72, 64) code over a frame-store word (R95); the manual gives no matrix, log 5. -/
opaque secded : BitVec 64 → BitVec 8
/-- By how much the time constant of a cell at 40 °C exceeds the 1.28 s it has at least, in ns (R94); open, log 5. -/
opaque tauExcess : Nat
/-- Serial number in fuses (R379); open, log 5. -/
opaque serialNumber : Long
/-- Station MAC address of manufacture (LRG_MAC); open, log 5. -/
opaque factoryMac : BitVec 48

end Sys2Proof.Config
end

