-- ==== Sys2Proof/Machine/RegNames.lean ====
section
/-! DEFINITION. The names of the registers (offset in BAR0) and of their fields, from the register tables of the spec's
chapters (R327). A register that repeats is named by its first offset; its copies stand a fixed stride apart. -/

namespace Sys2Proof.Machine

/-- A field of a register: offset of the register, highest and lowest bit. -/
structure Fld where
  off : Nat
  hi : Nat
  lo : Nat
deriving DecidableEq, Repr

namespace Reg

/-- BKP_SPAN (RWG). -/
abbrev BKP_SPAN : Nat := 0x3A00
/-- BKP_BRAKE_EN (RWG). -/
abbrev BKP_BRAKE_EN : Nat := 0x3A08
/-- BKP_BRAKE_STAT (RO). -/
abbrev BKP_BRAKE_STAT : Nat := 0x3A10
/-- BKP_BRAKE_CAUSE (W1C). -/
abbrev BKP_BRAKE_CAUSE : Nat := 0x3A14
/-- BKP_BRAKE_CNT (RO). -/
abbrev BKP_BRAKE_CNT : Nat := 0x3A18
/-- BKP_SLUICE_CNT (RO). -/
abbrev BKP_SLUICE_CNT : Nat := 0x3A1C
/-- BKP_SLUICE_MISS_CNT (RO). -/
abbrev BKP_SLUICE_MISS_CNT : Nat := 0x3A20
/-- BKP_SHORT_CNT (RO). -/
abbrev BKP_SHORT_CNT : Nat := 0x3A24
/-- BKP_MARCH_CTL (RW). -/
abbrev BKP_MARCH_CTL : Nat := 0x3A28
/-- BKP_MARCH_STAT (RO). -/
abbrev BKP_MARCH_STAT : Nat := 0x3A2C
/-- BKP_MARCH_FAIL_CNT (RO). -/
abbrev BKP_MARCH_FAIL_CNT : Nat := 0x3A30
/-- BKP_MARCH_FF0 (RO). -/
abbrev BKP_MARCH_FF0 : Nat := 0x3A34
/-- BKP_MARCH_FF1 (RO). -/
abbrev BKP_MARCH_FF1 : Nat := 0x3A38
/-- TILE_STAT (256 copies, stride 64). -/
abbrev TILE_STAT : Nat := 0x8000
/-- TILE_CAUSE (256 copies, stride 64). -/
abbrev TILE_CAUSE : Nat := 0x8004
/-- TILE_MASK (256 copies, stride 64). -/
abbrev TILE_MASK : Nat := 0x8008
/-- TILE_TEMP (256 copies, stride 64). -/
abbrev TILE_TEMP : Nat := 0x800C
/-- TILE_SHORT (256 copies, stride 64). -/
abbrev TILE_SHORT : Nat := 0x8010
/-- TILE_CTL (256 copies, stride 64). -/
abbrev TILE_CTL : Nat := 0x8014
/-- TILE_AGE (256 copies, stride 64). -/
abbrev TILE_AGE : Nat := 0x801C
/-- SYN_CTL (RW). -/
abbrev SYN_CTL : Nat := 0x3800
/-- SYN_STAT (RO). -/
abbrev SYN_STAT : Nat := 0x3804
/-- SYN_CAUSE (W1C). -/
abbrev SYN_CAUSE : Nat := 0x3808
/-- SYN_MASK (RW). -/
abbrev SYN_MASK : Nat := 0x380C
/-- SYN_RESIDUE_CNT (RO). -/
abbrev SYN_RESIDUE_CNT : Nat := 0x3810
/-- SYN_FREEZE_CNT (RO). -/
abbrev SYN_FREEZE_CNT : Nat := 0x3814
/-- SYN_AIM_CRC_CNT (RO). -/
abbrev SYN_AIM_CRC_CNT : Nat := 0x3818
/-- SYN_COARSE_CNT (RO). -/
abbrev SYN_COARSE_CNT : Nat := 0x381C
/-- SYN_FROZEN (8 copies, stride 4). -/
abbrev SYN_FROZEN : Nat := 0x3820
/-- SYN_SURVEY_STAT (RO). -/
abbrev SYN_SURVEY_STAT : Nat := 0x3840
/-- SYN_SURVEY_GEN (RO). -/
abbrev SYN_SURVEY_GEN : Nat := 0x3844
/-- SYN_SURVEY_ACC (RO). -/
abbrev SYN_SURVEY_ACC : Nat := 0x3848
/-- SYN_SURVEY_REJ (RO). -/
abbrev SYN_SURVEY_REJ : Nat := 0x384C
/-- SYN_CAL_STAT (RO). -/
abbrev SYN_CAL_STAT : Nat := 0x3850
/-- SYN_REGION (64 copies, stride 4). -/
abbrev SYN_REGION : Nat := 0x3900
/-- RFS_CTL (RW). -/
abbrev RFS_CTL : Nat := 0x3C00
/-- RFS_OVR (RWG). -/
abbrev RFS_OVR : Nat := 0x3C08
/-- RFS_STAT (RO). -/
abbrev RFS_STAT : Nat := 0x3C10
/-- RFS_CAUSE (W1C). -/
abbrev RFS_CAUSE : Nat := 0x3C14
/-- RFS_MASK (RW). -/
abbrev RFS_MASK : Nat := 0x3C18
/-- RFS_ROW_CNT (RO). -/
abbrev RFS_ROW_CNT : Nat := 0x3C20
/-- RFS_GUARD_CNT (RO). -/
abbrev RFS_GUARD_CNT : Nat := 0x3C24
/-- RFS_DEADLINE_CNT (RO). -/
abbrev RFS_DEADLINE_CNT : Nat := 0x3C28
/-- RFS_FS_CORR_CNT (RO). -/
abbrev RFS_FS_CORR_CNT : Nat := 0x3C2C
/-- RFS_FS_UNCORR_CNT (RO). -/
abbrev RFS_FS_UNCORR_CNT : Nat := 0x3C30
/-- RFS_TAKEOVER_CNT (RO). -/
abbrev RFS_TAKEOVER_CNT : Nat := 0x3C34
/-- RFS_NONOWNER_CNT (RO). -/
abbrev RFS_NONOWNER_CNT : Nat := 0x3C38
/-- RFS_TOKEN_SCRUB_CNT (RO). -/
abbrev RFS_TOKEN_SCRUB_CNT : Nat := 0x3C3C
/-- RFS_PEAK_AGE (RO). -/
abbrev RFS_PEAK_AGE : Nat := 0x3C40
/-- RFS_DRILL_STAT (RO). -/
abbrev RFS_DRILL_STAT : Nat := 0x3C44
/-- RFS_HOLD_STAT (RO). -/
abbrev RFS_HOLD_STAT : Nat := 0x3C48
/-- RFS_HOLD_DT (RO). -/
abbrev RFS_HOLD_DT : Nat := 0x3C4C
/-- SNS_CTL (RW). -/
abbrev SNS_CTL : Nat := 0x4000
/-- SNS_STAT (RO). -/
abbrev SNS_STAT : Nat := 0x4004
/-- SNS_CAUSE (W1C). -/
abbrev SNS_CAUSE : Nat := 0x4008
/-- SNS_MASK (RW). -/
abbrev SNS_MASK : Nat := 0x400C
/-- SNS_FRAME_CNT (RO). -/
abbrev SNS_FRAME_CNT : Nat := 0x4010
/-- SNS_SYNC_EARLY_CNT (RO). -/
abbrev SNS_SYNC_EARLY_CNT : Nat := 0x4014
/-- SNS_OVR_CNT (RO). -/
abbrev SNS_OVR_CNT : Nat := 0x4018
/-- SNS_SUSPECT_CNT (RO). -/
abbrev SNS_SUSPECT_CNT : Nat := 0x401C
/-- SNS_OS_CNT (RO). -/
abbrev SNS_OS_CNT : Nat := 0x4020
/-- SNS_OS_CTL (RW). -/
abbrev SNS_OS_CTL : Nat := 0x4024
/-- SNS_OS_STAT (RO). -/
abbrev SNS_OS_STAT : Nat := 0x4028
/-- SNS_OS_NS (RO). -/
abbrev SNS_OS_NS : Nat := 0x402C
/-- SNS_REFSEL (16 copies, stride 4). -/
abbrev SNS_REFSEL : Nat := 0x4040
/-- SNS_REFSET (8 copies, stride 4). -/
abbrev SNS_REFSET : Nat := 0x4080
/-- SNS_LOSS (8 copies, stride 4). -/
abbrev SNS_LOSS : Nat := 0x40A0
/-- LOOP_CTL (RW). -/
abbrev LOOP_CTL : Nat := 0x4200
/-- LOOP_STAT (RO). -/
abbrev LOOP_STAT : Nat := 0x4204
/-- LOOP_CAUSE (W1C). -/
abbrev LOOP_CAUSE : Nat := 0x4208
/-- LOOP_MASK (RW). -/
abbrev LOOP_MASK : Nat := 0x420C
/-- LOOP_DAMSEL (RW). -/
abbrev LOOP_DAMSEL : Nat := 0x4210
/-- LOOP_LOCK_CNT (RO). -/
abbrev LOOP_LOCK_CNT : Nat := 0x4220
/-- LOOP_LOCKLOST_CNT (RO). -/
abbrev LOOP_LOCKLOST_CNT : Nat := 0x4224
/-- LOOP_ACQ_TO_CNT (RO). -/
abbrev LOOP_ACQ_TO_CNT : Nat := 0x4228
/-- LOOP_MISS_CNT (RO). -/
abbrev LOOP_MISS_CNT : Nat := 0x422C
/-- LOOP_SAT_CNT (RO). -/
abbrev LOOP_SAT_CNT : Nat := 0x4230
/-- LOOP_FT_SKIP_CNT (RO). -/
abbrev LOOP_FT_SKIP_CNT : Nat := 0x4234
/-- LOOP_CAP_STAT (4 copies, stride 4). -/
abbrev LOOP_CAP_STAT : Nat := 0x4240
/-- XACT_CTL (RW). -/
abbrev XACT_CTL : Nat := 0x3000
/-- XACT_THR (RW). -/
abbrev XACT_THR : Nat := 0x3004
/-- XACT_STAT (RO). -/
abbrev XACT_STAT : Nat := 0x3008
/-- XACT_CAUSE (W1C). -/
abbrev XACT_CAUSE : Nat := 0x300C
/-- XACT_MASK (RW). -/
abbrev XACT_MASK : Nat := 0x3010
/-- XACT_COMMIT_CNT (RO). -/
abbrev XACT_COMMIT_CNT : Nat := 0x3020
/-- XACT_ENTRY_CNT (RO). -/
abbrev XACT_ENTRY_CNT : Nat := 0x3024
/-- XACT_PREFAIL_CNT (RO). -/
abbrev XACT_PREFAIL_CNT : Nat := 0x3028
/-- XACT_ABORT_CNT (RO). -/
abbrev XACT_ABORT_CNT : Nat := 0x302C
/-- XACT_PARTIAL_CNT (RO). -/
abbrev XACT_PARTIAL_CNT : Nat := 0x3030
/-- XACT_MAP_DEFER_CNT (RO). -/
abbrev XACT_MAP_DEFER_CNT : Nat := 0x3034
/-- XACT_PORTS0 (RO). -/
abbrev XACT_PORTS0 : Nat := 0x3040
/-- XACT_PORTS1 (RO). -/
abbrev XACT_PORTS1 : Nat := 0x3044
/-- SCH_CTL (RW). -/
abbrev SCH_CTL : Nat := 0x3200
/-- SCH_CLK_INT (RW). -/
abbrev SCH_CLK_INT : Nat := 0x3204
/-- SCH_CLK_FRAC (RW). -/
abbrev SCH_CLK_FRAC : Nat := 0x3208
/-- SCH_STAT (RO). -/
abbrev SCH_STAT : Nat := 0x320C
/-- SCH_CAUSE (W1C). -/
abbrev SCH_CAUSE : Nat := 0x3210
/-- SCH_MASK (RW). -/
abbrev SCH_MASK : Nat := 0x3214
/-- SCH_HFLAG (W1C). -/
abbrev SCH_HFLAG : Nat := 0x3218
/-- SCH_HFLAG_SET (W1S). -/
abbrev SCH_HFLAG_SET : Nat := 0x321C
/-- SCH_POS (RO). -/
abbrev SCH_POS : Nat := 0x3220
/-- SCH_FLUME_PI (RW). -/
abbrev SCH_FLUME_PI : Nat := 0x3224
/-- SCH_FLUME_CI (RO). -/
abbrev SCH_FLUME_CI : Nat := 0x3228
/-- SCH_WIN (RO). -/
abbrev SCH_WIN : Nat := 0x322C
/-- SCH_BOUNDARY_CNT (RO). -/
abbrev SCH_BOUNDARY_CNT : Nat := 0x3240
/-- SCH_UNDERRUN_CNT (RO). -/
abbrev SCH_UNDERRUN_CNT : Nat := 0x3244
/-- SCH_SKIP_CNT (RO). -/
abbrev SCH_SKIP_CNT : Nat := 0x3248
/-- SCH_SLIP (RO). -/
abbrev SCH_SLIP : Nat := 0x324C
/-- SCH_LEARN_CNT (RO). -/
abbrev SCH_LEARN_CNT : Nat := 0x3250
/-- SCH_REPAIR_CNT (RO). -/
abbrev SCH_REPAIR_CNT : Nat := 0x3254
/-- CMD_CTL (RW). -/
abbrev CMD_CTL : Nat := 0x2800
/-- CMD_STAT (RO). -/
abbrev CMD_STAT : Nat := 0x2804
/-- CMD_CAUSE (W1C). -/
abbrev CMD_CAUSE : Nat := 0x2808
/-- CMD_MASK (RW). -/
abbrev CMD_MASK : Nat := 0x280C
/-- CMD_DOM_EN0 (RWG). -/
abbrev CMD_DOM_EN0 : Nat := 0x2810
/-- CMD_DOM_EN1 (RWG). -/
abbrev CMD_DOM_EN1 : Nat := 0x2818
/-- CMD_OWN_LOCK (RWG). -/
abbrev CMD_OWN_LOCK : Nat := 0x2820
/-- CMD_DB_CNT (RO). -/
abbrev CMD_DB_CNT : Nat := 0x2830
/-- CMD_DB_BAD_CNT (RO). -/
abbrev CMD_DB_BAD_CNT : Nat := 0x2834
/-- CMD_ACCEPT_CNT (RO). -/
abbrev CMD_ACCEPT_CNT : Nat := 0x2838
/-- CMD_COMPL_CNT (RO). -/
abbrev CMD_COMPL_CNT : Nat := 0x283C
/-- CMD_POLICED_CNT (RO). -/
abbrev CMD_POLICED_CNT : Nat := 0x2840
/-- CMD_HDR_ERR_CNT (RO). -/
abbrev CMD_HDR_ERR_CNT : Nat := 0x2844
/-- CMD_CQ_DROP_CNT (RO). -/
abbrev CMD_CQ_DROP_CNT : Nat := 0x2848
/-- CMD_TAG_HWM (RO). -/
abbrev CMD_TAG_HWM : Nat := 0x284C
/-- HIF_LINK (RO). -/
abbrev HIF_LINK : Nat := 0x2000
/-- HIF_CAUSE (W1C). -/
abbrev HIF_CAUSE : Nat := 0x2008
/-- HIF_MASK (RW). -/
abbrev HIF_MASK : Nat := 0x200C
/-- HIF_FLR_CNT (RO). -/
abbrev HIF_FLR_CNT : Nat := 0x2010
/-- HIF_VEC_BAD_CNT (RO). -/
abbrev HIF_VEC_BAD_CNT : Nat := 0x2014
/-- HIF_CPL_TO_CNT (RO). -/
abbrev HIF_CPL_TO_CNT : Nat := 0x2018
/-- DMA_CTL (RW). -/
abbrev DMA_CTL : Nat := 0x2200
/-- DMA_PM_CTL (RWG). -/
abbrev DMA_PM_CTL : Nat := 0x2204
/-- DMA_STAT (RO). -/
abbrev DMA_STAT : Nat := 0x2210
/-- DMA_CAUSE (W1C). -/
abbrev DMA_CAUSE : Nat := 0x2214
/-- DMA_MASK (RW). -/
abbrev DMA_MASK : Nat := 0x2218
/-- DMA_HALT0 (RO). -/
abbrev DMA_HALT0 : Nat := 0x2220
/-- DMA_HALT1 (RO). -/
abbrev DMA_HALT1 : Nat := 0x2224
/-- DMA_FAULT_CNT (RO). -/
abbrev DMA_FAULT_CNT : Nat := 0x2230
/-- DMA_ABORT_CNT (RO). -/
abbrev DMA_ABORT_CNT : Nat := 0x2234
/-- DMA_PREEMPT_CNT (RO). -/
abbrev DMA_PREEMPT_CNT : Nat := 0x2238
/-- DMA_TC_MISS_CNT (RO). -/
abbrev DMA_TC_MISS_CNT : Nat := 0x223C
/-- DMA_TC_FLUSH_CNT (RO). -/
abbrev DMA_TC_FLUSH_CNT : Nat := 0x2240
/-- LRG_CTL (RW). -/
abbrev LRG_CTL : Nat := 0x1800
/-- LRG_MAC_LO (RWP). -/
abbrev LRG_MAC_LO : Nat := 0x1804
/-- LRG_MAC_HI (RWP). -/
abbrev LRG_MAC_HI : Nat := 0x1808
/-- LRG_BID (RW). -/
abbrev LRG_BID : Nat := 0x180C
/-- LRG_THT (RW). -/
abbrev LRG_THT : Nat := 0x1810
/-- LRG_TRT (RW). -/
abbrev LRG_TRT : Nat := 0x1814
/-- LRG_LINK (RW). -/
abbrev LRG_LINK : Nat := 0x1818
/-- LRG_STAT (RO). -/
abbrev LRG_STAT : Nat := 0x181C
/-- LRG_CAUSE (W1C). -/
abbrev LRG_CAUSE : Nat := 0x1820
/-- LRG_MASK (RW). -/
abbrev LRG_MASK : Nat := 0x1824
/-- LRG_PAUSE (RW). -/
abbrev LRG_PAUSE : Nat := 0x1828
/-- LRG_SHAPE_OVH (RW). -/
abbrev LRG_SHAPE_OVH : Nat := 0x182C
/-- LRG_SHAPE (8 copies, stride 4). -/
abbrev LRG_SHAPE : Nat := 0x1840
/-- LRG_RX_BASE_LO (4 copies, stride 32). -/
abbrev LRG_RX_BASE_LO : Nat := 0x1880
/-- LRG_RX_BASE_HI (4 copies, stride 32). -/
abbrev LRG_RX_BASE_HI : Nat := 0x1884
/-- LRG_RX_CFG (4 copies, stride 32). -/
abbrev LRG_RX_CFG : Nat := 0x1888
/-- LRG_RX_HEAD (4 copies, stride 32). -/
abbrev LRG_RX_HEAD : Nat := 0x188C
/-- LRG_RX_TAIL (4 copies, stride 32). -/
abbrev LRG_RX_TAIL : Nat := 0x1890
/-- LRG_TX_CNT (RO). -/
abbrev LRG_TX_CNT : Nat := 0x1900
/-- LRG_RX_CNT (RO). -/
abbrev LRG_RX_CNT : Nat := 0x1904
/-- LRG_FWD_CNT (RO). -/
abbrev LRG_FWD_CNT : Nat := 0x1908
/-- LRG_STRIP_CNT (RO). -/
abbrev LRG_STRIP_CNT : Nat := 0x190C
/-- LRG_ORPHAN_CNT (RO). -/
abbrev LRG_ORPHAN_CNT : Nat := 0x1910
/-- LRG_STRANGER_CNT (RO). -/
abbrev LRG_STRANGER_CNT : Nat := 0x1914
/-- LRG_NOBUF_CNT (RO). -/
abbrev LRG_NOBUF_CNT : Nat := 0x1918
/-- LRG_RXDROP_CNT (RO). -/
abbrev LRG_RXDROP_CNT : Nat := 0x191C
/-- LRG_CLAIM_CNT (RO). -/
abbrev LRG_CLAIM_CNT : Nat := 0x1920
/-- LRG_WRAP_CNT (RO). -/
abbrev LRG_WRAP_CNT : Nat := 0x1924
/-- LRG_SEC_CNT (RO). -/
abbrev LRG_SEC_CNT : Nat := 0x1928
/-- LRG_CPL_DROP_CNT (RO). -/
abbrev LRG_CPL_DROP_CNT : Nat := 0x192C
/-- LRG_CMD_BAD_CNT (RO). -/
abbrev LRG_CMD_BAD_CNT : Nat := 0x1930
/-- LRG_HOPFULL_CNT (RO). -/
abbrev LRG_HOPFULL_CNT : Nat := 0x1934
/-- LRG_PAUSE_RX_CNT (RO). -/
abbrev LRG_PAUSE_RX_CNT : Nat := 0x1938
/-- LRG_PAUSE_TX_CNT (RO). -/
abbrev LRG_PAUSE_TX_CNT : Nat := 0x193C
/-- TIM_CTL (RW). -/
abbrev TIM_CTL : Nat := 0x1000
/-- TIM_STAT (RO). -/
abbrev TIM_STAT : Nat := 0x1004
/-- TIM_CAUSE (W1C). -/
abbrev TIM_CAUSE : Nat := 0x1008
/-- TIM_MASK (RW). -/
abbrev TIM_MASK : Nat := 0x100C
/-- TIM_SWITCH (RW). -/
abbrev TIM_SWITCH : Nat := 0x1010
/-- TIM_SYNC (RW). -/
abbrev TIM_SYNC : Nat := 0x1014
/-- TIM_PPS (RW). -/
abbrev TIM_PPS : Nat := 0x1018
/-- TIM_DOM_CFG (2 copies, stride 32). -/
abbrev TIM_DOM_CFG : Nat := 0x1020
/-- TIM_DOM_SERVO (2 copies, stride 32). -/
abbrev TIM_DOM_SERVO : Nat := 0x1024
/-- TIM_DOM_SHIFT (2 copies, stride 32). -/
abbrev TIM_DOM_SHIFT : Nat := 0x1028
/-- TIM_DOM_THR (2 copies, stride 32). -/
abbrev TIM_DOM_THR : Nat := 0x102C
/-- TIM_DOM_STAT (2 copies, stride 32). -/
abbrev TIM_DOM_STAT : Nat := 0x1030
/-- TIM_DOM_OFS (2 copies, stride 32). -/
abbrev TIM_DOM_OFS : Nat := 0x1034
/-- TIM_DOM_ADJ (2 copies, stride 32). -/
abbrev TIM_DOM_ADJ : Nat := 0x1038
/-- TIM_DOM_MPD (2 copies, stride 32). -/
abbrev TIM_DOM_MPD : Nat := 0x103C
/-- TIM_PPSIN_NS (RO). -/
abbrev TIM_PPSIN_NS : Nat := 0x1060
/-- TIM_PPSIN_SEC (RO). -/
abbrev TIM_PPSIN_SEC : Nat := 0x1064
/-- TIM_TSQ_OVF_CNT (RO). -/
abbrev TIM_TSQ_OVF_CNT : Nat := 0x1070
/-- TIM_TC_CNT (RO). -/
abbrev TIM_TC_CNT : Nat := 0x1074
/-- TIM_STEP_CNT (RO). -/
abbrev TIM_STEP_CNT : Nat := 0x1078
/-- TIM_LATE_CNT (RO). -/
abbrev TIM_LATE_CNT : Nat := 0x107C
/-- TIM_TSQ_DROP (4 copies, stride 4). -/
abbrev TIM_TSQ_DROP : Nat := 0x1090
/-- NVR_STAT (RO). -/
abbrev NVR_STAT : Nat := 0x4800
/-- NVR_CAUSE (W1C). -/
abbrev NVR_CAUSE : Nat := 0x4804
/-- NVR_MASK (RW). -/
abbrev NVR_MASK : Nat := 0x4808
/-- NVR_LOCK (RWG). -/
abbrev NVR_LOCK : Nat := 0x4810
/-- NVR_WEAR_SEL (RW). -/
abbrev NVR_WEAR_SEL : Nat := 0x4818
/-- NVR_WEAR (RO). -/
abbrev NVR_WEAR : Nat := 0x481C
/-- NVR_SCRATCH (61 copies, stride 4). -/
abbrev NVR_SCRATCH : Nat := 0x4840
/-- MBX_SEL (RW). -/
abbrev MBX_SEL : Nat := 0x5000
/-- MBX_IDX (RW). -/
abbrev MBX_IDX : Nat := 0x5004
/-- MBX_CTL (MBX). -/
abbrev MBX_CTL : Nat := 0x5008
/-- MBX_STAT (RO). -/
abbrev MBX_STAT : Nat := 0x500C
/-- MBX_DATA (8 copies, stride 4). -/
abbrev MBX_DATA : Nat := 0x5010
/-- REG_CAUSE (W1C). -/
abbrev REG_CAUSE : Nat := 0x5100
/-- REG_MASK (RW). -/
abbrev REG_MASK : Nat := 0x5104
/-- REG_GUARD_LAST (RO). -/
abbrev REG_GUARD_LAST : Nat := 0x5108
/-- REG_SCRUB_LAST (RO). -/
abbrev REG_SCRUB_LAST : Nat := 0x510C
/-- REG_GUARD_CNT (RO). -/
abbrev REG_GUARD_CNT : Nat := 0x5110
/-- REG_LOCK_CNT (RO). -/
abbrev REG_LOCK_CNT : Nat := 0x5114
/-- REG_SCRUB_CNT (RO). -/
abbrev REG_SCRUB_CNT : Nat := 0x5118
/-- REG_RSV_CNT (RO). -/
abbrev REG_RSV_CNT : Nat := 0x511C
/-- SNAP_CTL (RW). -/
abbrev SNAP_CTL : Nat := 0x5140
/-- SNAP_STAT (RO). -/
abbrev SNAP_STAT : Nat := 0x5144
/-- SNAP_GEN (RO). -/
abbrev SNAP_GEN : Nat := 0x5148
/-- FLT_CTL (RW). -/
abbrev FLT_CTL : Nat := 0x0800
/-- FLT_STAT (RO). -/
abbrev FLT_STAT : Nat := 0x0804
/-- FLT_CAUSE (W1C). -/
abbrev FLT_CAUSE : Nat := 0x0808
/-- FLT_MASK (RW). -/
abbrev FLT_MASK : Nat := 0x080C
/-- FLT_EVENT_CNT (RO). -/
abbrev FLT_EVENT_CNT : Nat := 0x0810
/-- FLT_HIST_OVF_CNT (RO). -/
abbrev FLT_HIST_OVF_CNT : Nat := 0x0814
/-- FLT_WIRE_CNT (RO). -/
abbrev FLT_WIRE_CNT : Nat := 0x0818
/-- FLT_HIST_IDX (RW). -/
abbrev FLT_HIST_IDX : Nat := 0x0820
/-- FLT_HIST0 (RO). -/
abbrev FLT_HIST0 : Nat := 0x0824
/-- FLT_HIST1 (3 copies, stride 4). -/
abbrev FLT_HIST1 : Nat := 0x0828
/-- FLT_HANG (RO). -/
abbrev FLT_HANG : Nat := 0x0834
/-- FLT_GRAVE_STAT (RO). -/
abbrev FLT_GRAVE_STAT : Nat := 0x0840
/-- FLT_GRAVE (4 copies, stride 4). -/
abbrev FLT_GRAVE : Nat := 0x0844
/-- FLT_GRAVE_CLR (RWG). -/
abbrev FLT_GRAVE_CLR : Nat := 0x0858
/-- FLT_IRST (RWG). -/
abbrev FLT_IRST : Nat := 0x0860
/-- ATN_SUM (RO). -/
abbrev ATN_SUM : Nat := 0x0C00
/-- ATN_MASK (RW). -/
abbrev ATN_MASK : Nat := 0x0C04
/-- ATN_CTL (RW). -/
abbrev ATN_CTL : Nat := 0x0C08
/-- ATN_PIN (RO). -/
abbrev ATN_PIN : Nat := 0x0C0C
/-- ATN_TILE (8 copies, stride 4). -/
abbrev ATN_TILE : Nat := 0x0C10
/-- THM_STAT (RO). -/
abbrev THM_STAT : Nat := 0x0600
/-- THM_CAUSE (W1C). -/
abbrev THM_CAUSE : Nat := 0x0604
/-- THM_MASK (RW). -/
abbrev THM_MASK : Nat := 0x0608
/-- THM_BRAKE_EN (RWG). -/
abbrev THM_BRAKE_EN : Nat := 0x060C
/-- THM_RESTORE (RWP). -/
abbrev THM_RESTORE : Nat := 0x0614
/-- THM_WARN0 (RW). -/
abbrev THM_WARN0 : Nat := 0x0620
/-- THM_WARN1 (RW). -/
abbrev THM_WARN1 : Nat := 0x0624
/-- THM_GROUP (5 copies, stride 4). -/
abbrev THM_GROUP : Nat := 0x0640
/-- THM_RATE (5 copies, stride 4). -/
abbrev THM_RATE : Nat := 0x0660
/-- THM_SHUT_CNT (RO). -/
abbrev THM_SHUT_CNT : Nat := 0x0680
/-- THM_COOL_STAT (RO). -/
abbrev THM_COOL_STAT : Nat := 0x0684
/-- THM_SENS_FAIL_CNT (RO). -/
abbrev THM_SENS_FAIL_CNT : Nat := 0x0688
/-- PWR_STAT (RO). -/
abbrev PWR_STAT : Nat := 0x0400
/-- PWR_CAUSE (W1C). -/
abbrev PWR_CAUSE : Nat := 0x0404
/-- PWR_MASK (RW). -/
abbrev PWR_MASK : Nat := 0x0408
/-- PWR_BRAKE_EN (RWG). -/
abbrev PWR_BRAKE_EN : Nat := 0x040C
/-- PWR_TB_CTL (RW). -/
abbrev PWR_TB_CTL : Nat := 0x0414
/-- PWR_FEED_A (RO). -/
abbrev PWR_FEED_A : Nat := 0x0420
/-- PWR_FEED_B (RO). -/
abbrev PWR_FEED_B : Nat := 0x0424
/-- PWR_POWER (RO). -/
abbrev PWR_POWER : Nat := 0x0428
/-- PWR_FEED_LOSS_CNT (RO). -/
abbrev PWR_FEED_LOSS_CNT : Nat := 0x0430
/-- PWR_BROWNOUT_CNT (RO). -/
abbrev PWR_BROWNOUT_CNT : Nat := 0x0434
/-- PWR_TB_SWITCH_CNT (RO). -/
abbrev PWR_TB_SWITCH_CNT : Nat := 0x0438
/-- SYS_ID (RO). -/
abbrev SYS_ID : Nat := 0x0000
/-- SYS_STAT (RO). -/
abbrev SYS_STAT : Nat := 0x0004
/-- SYS_CAUSE (W1C). -/
abbrev SYS_CAUSE : Nat := 0x0008
/-- SYS_MASK (RW). -/
abbrev SYS_MASK : Nat := 0x000C
/-- SYS_BOOT (RO). -/
abbrev SYS_BOOT : Nat := 0x0010
/-- SYS_FW_ACTIVE (RO). -/
abbrev SYS_FW_ACTIVE : Nat := 0x0014
/-- SYS_FW_STAGED (RO). -/
abbrev SYS_FW_STAGED : Nat := 0x0018
/-- SYS_REMAP (RWG). -/
abbrev SYS_REMAP : Nat := 0x001C
/-- SYS_WAKE (WO). -/
abbrev SYS_WAKE : Nat := 0x0024
/-- SYS_MODE_CNT (RO). -/
abbrev SYS_MODE_CNT : Nat := 0x0030
/-- SYS_UPTIME (RO). -/
abbrev SYS_UPTIME : Nat := 0x0034

end Reg

namespace Fd

abbrev BKP_SPAN_SPAN : Fld := ⟨0x3A00, 1, 0⟩
abbrev BKP_BRAKE_EN_PIN_EN : Fld := ⟨0x3A08, 0, 0⟩
abbrev BKP_BRAKE_STAT_BRAKING : Fld := ⟨0x3A10, 31, 31⟩
abbrev BKP_BRAKE_STAT_ZERO : Fld := ⟨0x3A10, 30, 30⟩
abbrev BKP_BRAKE_STAT_PIN_LEVEL : Fld := ⟨0x3A10, 29, 29⟩
abbrev BKP_BRAKE_STAT_LIVE : Fld := ⟨0x3A10, 7, 0⟩
abbrev BKP_BRAKE_CAUSE_SPAN_BUSY : Fld := ⟨0x3A14, 10, 10⟩
abbrev BKP_BRAKE_CAUSE_SPAN_BAD : Fld := ⟨0x3A14, 9, 9⟩
abbrev BKP_BRAKE_CAUSE_BRAKE_FAIL : Fld := ⟨0x3A14, 8, 8⟩
abbrev BKP_BRAKE_CAUSE_CAUSE : Fld := ⟨0x3A14, 7, 0⟩
abbrev BKP_MARCH_CTL_WINDOW : Fld := ⟨0x3A28, 23, 16⟩
abbrev BKP_MARCH_CTL_SHADOW : Fld := ⟨0x3A28, 15, 15⟩
abbrev BKP_MARCH_CTL_ACTIVE : Fld := ⟨0x3A28, 14, 14⟩
abbrev BKP_MARCH_CTL_BACKGROUND : Fld := ⟨0x3A28, 11, 8⟩
abbrev BKP_MARCH_CTL_ALGO : Fld := ⟨0x3A28, 7, 4⟩
abbrev BKP_MARCH_CTL_GO : Fld := ⟨0x3A28, 0, 0⟩
abbrev BKP_MARCH_STAT_REFUSED : Fld := ⟨0x3A2C, 31, 31⟩
abbrev BKP_MARCH_STAT_BUSY : Fld := ⟨0x3A2C, 30, 30⟩
abbrev BKP_MARCH_STAT_DONE : Fld := ⟨0x3A2C, 29, 29⟩
abbrev BKP_MARCH_STAT_FAIL : Fld := ⟨0x3A2C, 28, 28⟩
abbrev BKP_MARCH_FF0_VALID : Fld := ⟨0x3A34, 31, 31⟩
abbrev BKP_MARCH_FF0_PLANE : Fld := ⟨0x3A34, 30, 30⟩
abbrev BKP_MARCH_FF0_DIR : Fld := ⟨0x3A34, 29, 29⟩
abbrev BKP_MARCH_FF0_APERTURE : Fld := ⟨0x3A34, 28, 16⟩
abbrev BKP_MARCH_FF0_ROW : Fld := ⟨0x3A34, 15, 9⟩
abbrev BKP_MARCH_FF0_COL : Fld := ⟨0x3A34, 8, 2⟩
abbrev BKP_MARCH_FF1_EXPECTED : Fld := ⟨0x3A38, 25, 16⟩
abbrev BKP_MARCH_FF1_ELEMENT : Fld := ⟨0x3A38, 15, 8⟩
abbrev TILE_STAT_FROZEN : Fld := ⟨0x8000, 31, 31⟩
abbrev TILE_STAT_ISLAND_RST : Fld := ⟨0x8000, 30, 30⟩
abbrev TILE_STAT_BRAKE_HELD : Fld := ⟨0x8000, 29, 29⟩
abbrev TILE_STAT_ZERO : Fld := ⟨0x8000, 28, 28⟩
abbrev TILE_STAT_TOKEN : Fld := ⟨0x8000, 27, 26⟩
abbrev TILE_STAT_TEMP_BAND : Fld := ⟨0x8000, 25, 24⟩
abbrev TILE_STAT_ARMED : Fld := ⟨0x8000, 16, 0⟩
abbrev TILE_CAUSE_LIVE_BRAKE_FAIL : Fld := ⟨0x8004, 25, 25⟩
abbrev TILE_CAUSE_LIVE_HS_ERR : Fld := ⟨0x8004, 24, 24⟩
abbrev TILE_CAUSE_LIVE_SYNC_LOSS : Fld := ⟨0x8004, 22, 22⟩
abbrev TILE_CAUSE_LIVE_FROZEN : Fld := ⟨0x8004, 19, 19⟩
abbrev TILE_CAUSE_LIVE_SHORT : Fld := ⟨0x8004, 16, 16⟩
abbrev TILE_CAUSE_BRAKE_FAIL : Fld := ⟨0x8004, 9, 9⟩
abbrev TILE_CAUSE_HS_ERR : Fld := ⟨0x8004, 8, 8⟩
abbrev TILE_CAUSE_FS_UNCORR : Fld := ⟨0x8004, 7, 7⟩
abbrev TILE_CAUSE_SYNC_LOSS : Fld := ⟨0x8004, 6, 6⟩
abbrev TILE_CAUSE_FS_CORR : Fld := ⟨0x8004, 5, 5⟩
abbrev TILE_CAUSE_BAND_CHG : Fld := ⟨0x8004, 4, 4⟩
abbrev TILE_CAUSE_FREEZE : Fld := ⟨0x8004, 3, 3⟩
abbrev TILE_CAUSE_RESIDUE : Fld := ⟨0x8004, 2, 2⟩
abbrev TILE_CAUSE_SLUICE_MISS : Fld := ⟨0x8004, 1, 1⟩
abbrev TILE_CAUSE_SHORT : Fld := ⟨0x8004, 0, 0⟩
abbrev TILE_MASK_EN : Fld := ⟨0x8008, 9, 0⟩
abbrev TILE_TEMP_TEMP : Fld := ⟨0x800C, 15, 0⟩
abbrev TILE_SHORT_SHORT_COLS : Fld := ⟨0x8010, 27, 17⟩
abbrev TILE_SHORT_APS : Fld := ⟨0x8010, 16, 0⟩
abbrev TILE_CTL_SHORT_RETRY : Fld := ⟨0x8014, 1, 1⟩
abbrev TILE_CTL_ISLAND_RST : Fld := ⟨0x8014, 0, 0⟩
abbrev TILE_AGE_SHADOW_AGE : Fld := ⟨0x801C, 25, 16⟩
abbrev TILE_AGE_ACTIVE_AGE : Fld := ⟨0x801C, 9, 0⟩
abbrev SYN_CTL_HYST_EN : Fld := ⟨0x3800, 16, 16⟩
abbrev SYN_CTL_LIB_THR : Fld := ⟨0x3800, 7, 0⟩
abbrev SYN_STAT_SWEEP_BUSY : Fld := ⟨0x3804, 31, 31⟩
abbrev SYN_STAT_CACHE_RELOAD : Fld := ⟨0x3804, 30, 30⟩
abbrev SYN_STAT_FROZEN_TILES : Fld := ⟨0x3804, 8, 0⟩
abbrev SYN_CAUSE_LIVE_TEMP_RANGE : Fld := ⟨0x3808, 19, 19⟩
abbrev SYN_CAUSE_LIVE_FREEZE : Fld := ⟨0x3808, 17, 17⟩
abbrev SYN_CAUSE_COARSE_ARMED : Fld := ⟨0x3808, 7, 7⟩
abbrev SYN_CAUSE_PERSIST_FAIL : Fld := ⟨0x3808, 6, 6⟩
abbrev SYN_CAUSE_UPLOAD_DONE : Fld := ⟨0x3808, 5, 5⟩
abbrev SYN_CAUSE_SURVEY_DONE : Fld := ⟨0x3808, 4, 4⟩
abbrev SYN_CAUSE_TEMP_RANGE : Fld := ⟨0x3808, 3, 3⟩
abbrev SYN_CAUSE_AIM_CRC : Fld := ⟨0x3808, 2, 2⟩
abbrev SYN_CAUSE_FREEZE : Fld := ⟨0x3808, 1, 1⟩
abbrev SYN_CAUSE_RESIDUE : Fld := ⟨0x3808, 0, 0⟩
abbrev SYN_MASK_EN : Fld := ⟨0x380C, 7, 0⟩
abbrev SYN_FROZEN_TILES : Fld := ⟨0x3820, 31, 0⟩
abbrev SYN_SURVEY_STAT_BUSY : Fld := ⟨0x3840, 31, 31⟩
abbrev SYN_SURVEY_STAT_DONE : Fld := ⟨0x3840, 30, 30⟩
abbrev SYN_SURVEY_STAT_ENDED_EARLY : Fld := ⟨0x3840, 29, 29⟩
abbrev SYN_SURVEY_STAT_ROUNDS_DONE : Fld := ⟨0x3840, 11, 0⟩
abbrev SYN_SURVEY_GEN_GEN : Fld := ⟨0x3844, 14, 0⟩
abbrev SYN_CAL_STAT_AIM_STAGED : Fld := ⟨0x3850, 31, 31⟩
abbrev SYN_CAL_STAT_AIM_SET : Fld := ⟨0x3850, 30, 29⟩
abbrev SYN_CAL_STAT_SURVEY_STAGED : Fld := ⟨0x3850, 28, 28⟩
abbrev SYN_CAL_STAT_PERSIST_BUSY : Fld := ⟨0x3850, 27, 27⟩
abbrev SYN_REGION_LO_SET : Fld := ⟨0x3900, 31, 30⟩
abbrev SYN_REGION_WEIGHT : Fld := ⟨0x3900, 29, 20⟩
abbrev SYN_REGION_TEMP : Fld := ⟨0x3900, 15, 0⟩
abbrev RFS_CTL_PEAK_CLR : Fld := ⟨0x3C00, 17, 17⟩
abbrev RFS_CTL_FAILBACK_EN : Fld := ⟨0x3C00, 16, 16⟩
abbrev RFS_CTL_EARLY : Fld := ⟨0x3C00, 9, 0⟩
abbrev RFS_OVR_BAND_EN : Fld := ⟨0x3C08, 4, 4⟩
abbrev RFS_OVR_BAND : Fld := ⟨0x3C08, 3, 2⟩
abbrev RFS_OVR_OWNER : Fld := ⟨0x3C08, 1, 0⟩
abbrev RFS_STAT_OWNER : Fld := ⟨0x3C10, 31, 30⟩
abbrev RFS_STAT_A_OK : Fld := ⟨0x3C10, 29, 29⟩
abbrev RFS_STAT_B_OK : Fld := ⟨0x3C10, 28, 28⟩
abbrev RFS_STAT_HB_AB : Fld := ⟨0x3C10, 27, 27⟩
abbrev RFS_STAT_HB_BA : Fld := ⟨0x3C10, 26, 26⟩
abbrev RFS_STAT_DRILL_BUSY : Fld := ⟨0x3C10, 25, 25⟩
abbrev RFS_STAT_HOLD : Fld := ⟨0x3C10, 24, 24⟩
abbrev RFS_STAT_HOLDOFF_LEFT : Fld := ⟨0x3C10, 13, 0⟩
abbrev RFS_CAUSE_LIVE_CACHE_DEFER : Fld := ⟨0x3C14, 28, 28⟩
abbrev RFS_CAUSE_LIVE_TOKEN_FAULT : Fld := ⟨0x3C14, 26, 26⟩
abbrev RFS_CAUSE_LIVE_SILENT : Fld := ⟨0x3C14, 21, 21⟩
abbrev RFS_CAUSE_LIVE_UNHEALTHY : Fld := ⟨0x3C14, 20, 20⟩
abbrev RFS_CAUSE_LIVE_HB_LINK : Fld := ⟨0x3C14, 16, 16⟩
abbrev RFS_CAUSE_HOLD_EXIT : Fld := ⟨0x3C14, 13, 13⟩
abbrev RFS_CAUSE_CACHE_DEFER : Fld := ⟨0x3C14, 12, 12⟩
abbrev RFS_CAUSE_FORCE_VOID : Fld := ⟨0x3C14, 11, 11⟩
abbrev RFS_CAUSE_TOKEN_FAULT : Fld := ⟨0x3C14, 10, 10⟩
abbrev RFS_CAUSE_TOKEN_SCRUB : Fld := ⟨0x3C14, 9, 9⟩
abbrev RFS_CAUSE_FS_UNCORR : Fld := ⟨0x3C14, 8, 8⟩
abbrev RFS_CAUSE_FS_CORR : Fld := ⟨0x3C14, 7, 7⟩
abbrev RFS_CAUSE_DEADLINE_MISS : Fld := ⟨0x3C14, 6, 6⟩
abbrev RFS_CAUSE_SILENT : Fld := ⟨0x3C14, 5, 5⟩
abbrev RFS_CAUSE_UNHEALTHY : Fld := ⟨0x3C14, 4, 4⟩
abbrev RFS_CAUSE_DRILL_FAIL : Fld := ⟨0x3C14, 3, 3⟩
abbrev RFS_CAUSE_FAILBACK : Fld := ⟨0x3C14, 2, 2⟩
abbrev RFS_CAUSE_TAKEOVER : Fld := ⟨0x3C14, 1, 1⟩
abbrev RFS_CAUSE_HB_LINK : Fld := ⟨0x3C14, 0, 0⟩
abbrev RFS_MASK_EN : Fld := ⟨0x3C18, 13, 0⟩
abbrev RFS_PEAK_AGE_PLANE : Fld := ⟨0x3C40, 24, 24⟩
abbrev RFS_PEAK_AGE_TILE : Fld := ⟨0x3C40, 23, 16⟩
abbrev RFS_PEAK_AGE_AGE : Fld := ⟨0x3C40, 11, 0⟩
abbrev RFS_DRILL_STAT_VALID : Fld := ⟨0x3C44, 31, 31⟩
abbrev RFS_DRILL_STAT_RESULT : Fld := ⟨0x3C44, 18, 16⟩
abbrev RFS_DRILL_STAT_PEAK : Fld := ⟨0x3C44, 9, 0⟩
abbrev RFS_HOLD_STAT_EXIT_CAUSE : Fld := ⟨0x3C48, 31, 28⟩
abbrev RFS_HOLD_STAT_SECONDS : Fld := ⟨0x3C48, 19, 0⟩
abbrev RFS_HOLD_DT_DT : Fld := ⟨0x3C4C, 15, 0⟩
abbrev SNS_CTL_AUTO_RANGE : Fld := ⟨0x4000, 4, 4⟩
abbrev SNS_CTL_FRAME_SRC : Fld := ⟨0x4000, 0, 0⟩
abbrev SNS_STAT_SYNC_OK : Fld := ⟨0x4004, 31, 31⟩
abbrev SNS_STAT_SRC : Fld := ⟨0x4004, 30, 30⟩
abbrev SNS_STAT_REF_SETTLED : Fld := ⟨0x4004, 29, 29⟩
abbrev SNS_STAT_FREE_RUN : Fld := ⟨0x4004, 28, 28⟩
abbrev SNS_STAT_LOST_TILES : Fld := ⟨0x4004, 8, 0⟩
abbrev SNS_CAUSE_LIVE_HK_FAIL : Fld := ⟨0x4008, 23, 23⟩
abbrev SNS_CAUSE_LIVE_REF_UNSETTLED : Fld := ⟨0x4008, 19, 19⟩
abbrev SNS_CAUSE_LIVE_SYNC_LOSS : Fld := ⟨0x4008, 16, 16⟩
abbrev SNS_CAUSE_HK_FAIL : Fld := ⟨0x4008, 7, 7⟩
abbrev SNS_CAUSE_OS_REFUSED : Fld := ⟨0x4008, 6, 6⟩
abbrev SNS_CAUSE_CAL_REJECT : Fld := ⟨0x4008, 5, 5⟩
abbrev SNS_CAUSE_CAL_DONE : Fld := ⟨0x4008, 4, 4⟩
abbrev SNS_CAUSE_REF_UNSETTLED : Fld := ⟨0x4008, 3, 3⟩
abbrev SNS_CAUSE_OVR : Fld := ⟨0x4008, 2, 2⟩
abbrev SNS_CAUSE_SYNC_EARLY : Fld := ⟨0x4008, 1, 1⟩
abbrev SNS_CAUSE_SYNC_LOSS : Fld := ⟨0x4008, 0, 0⟩
abbrev SNS_MASK_EN : Fld := ⟨0x400C, 7, 0⟩
abbrev SNS_OS_CTL_GO : Fld := ⟨0x4024, 31, 31⟩
abbrev SNS_OS_CTL_FORCE : Fld := ⟨0x4024, 30, 30⟩
abbrev SNS_OS_CTL_RANGE : Fld := ⟨0x4024, 29, 29⟩
abbrev SNS_OS_CTL_SENSOR : Fld := ⟨0x4024, 14, 0⟩
abbrev SNS_OS_STAT_DONE : Fld := ⟨0x4028, 31, 31⟩
abbrev SNS_OS_STAT_BUSY : Fld := ⟨0x4028, 30, 30⟩
abbrev SNS_OS_STAT_REFUSED : Fld := ⟨0x4028, 29, 29⟩
abbrev SNS_OS_STAT_OVR : Fld := ⟨0x4028, 28, 28⟩
abbrev SNS_OS_STAT_UNDER : Fld := ⟨0x4028, 27, 27⟩
abbrev SNS_OS_STAT_SUSPECT : Fld := ⟨0x4028, 26, 26⟩
abbrev SNS_OS_STAT_RANGE : Fld := ⟨0x4028, 25, 25⟩
abbrev SNS_OS_STAT_CODE : Fld := ⟨0x4028, 13, 0⟩
abbrev SNS_OS_NS_NS : Fld := ⟨0x402C, 31, 0⟩
abbrev LOOP_CTL_FANTAIL_EN : Fld := ⟨0x4200, 2, 2⟩
abbrev LOOP_CTL_DITHER_EN : Fld := ⟨0x4200, 1, 1⟩
abbrev LOOP_CTL_EN : Fld := ⟨0x4200, 0, 0⟩
abbrev LOOP_STAT_LOCKED : Fld := ⟨0x4204, 31, 19⟩
abbrev LOOP_STAT_ACQUIRING : Fld := ⟨0x4204, 18, 6⟩
abbrev LOOP_STAT_INJ : Fld := ⟨0x4204, 4, 0⟩
abbrev LOOP_CAUSE_LIVE_SAT : Fld := ⟨0x4208, 19, 19⟩
abbrev LOOP_CAUSE_LIVE_HOLDING : Fld := ⟨0x4208, 18, 18⟩
abbrev LOOP_CAUSE_FANTAIL_SKIP : Fld := ⟨0x4208, 7, 7⟩
abbrev LOOP_CAUSE_CAP_DONE : Fld := ⟨0x4208, 6, 6⟩
abbrev LOOP_CAUSE_INJ_DONE : Fld := ⟨0x4208, 5, 5⟩
abbrev LOOP_CAUSE_DAMSEL_BAD : Fld := ⟨0x4208, 4, 4⟩
abbrev LOOP_CAUSE_SAT : Fld := ⟨0x4208, 3, 3⟩
abbrev LOOP_CAUSE_HOLDING : Fld := ⟨0x4208, 2, 2⟩
abbrev LOOP_CAUSE_ACQ_TIMEOUT : Fld := ⟨0x4208, 1, 1⟩
abbrev LOOP_CAUSE_LOCK_LOST : Fld := ⟨0x4208, 0, 0⟩
abbrev LOOP_MASK_EN : Fld := ⟨0x420C, 7, 0⟩
abbrev LOOP_DAMSEL_KY : Fld := ⟨0x4210, 6, 4⟩
abbrev LOOP_DAMSEL_KX : Fld := ⟨0x4210, 2, 0⟩
abbrev LOOP_CAP_STAT_STATE : Fld := ⟨0x4240, 31, 30⟩
abbrev LOOP_CAP_STAT_AXIS : Fld := ⟨0x4240, 29, 29⟩
abbrev LOOP_CAP_STAT_APERTURE : Fld := ⟨0x4240, 28, 16⟩
abbrev LOOP_CAP_STAT_HELD : Fld := ⟨0x4240, 12, 0⟩
abbrev XACT_CTL_GRP_MASK : Fld := ⟨0x3000, 31, 16⟩
abbrev XACT_CTL_OPEN_TMO : Fld := ⟨0x3000, 15, 0⟩
abbrev XACT_THR_DARK_THR : Fld := ⟨0x3004, 15, 0⟩
abbrev XACT_STAT_GRP_BUSY : Fld := ⟨0x3008, 31, 16⟩
abbrev XACT_STAT_OPEN : Fld := ⟨0x3008, 15, 9⟩
abbrev XACT_STAT_MAP_PINNED : Fld := ⟨0x3008, 8, 8⟩
abbrev XACT_STAT_MAP_BEHIND : Fld := ⟨0x3008, 7, 7⟩
abbrev XACT_CAUSE_LIVE_DARK : Fld := ⟨0x300C, 23, 23⟩
abbrev XACT_CAUSE_LIVE_DIM : Fld := ⟨0x300C, 22, 22⟩
abbrev XACT_CAUSE_DARK : Fld := ⟨0x300C, 7, 7⟩
abbrev XACT_CAUSE_DIM : Fld := ⟨0x300C, 6, 6⟩
abbrev XACT_CAUSE_MAP_DEFER : Fld := ⟨0x300C, 5, 5⟩
abbrev XACT_CAUSE_NO_GROUP : Fld := ⟨0x300C, 4, 4⟩
abbrev XACT_CAUSE_LATE : Fld := ⟨0x300C, 3, 3⟩
abbrev XACT_CAUSE_OPEN_TMO : Fld := ⟨0x300C, 2, 2⟩
abbrev XACT_CAUSE_PARTIAL : Fld := ⟨0x300C, 1, 1⟩
abbrev XACT_CAUSE_PRE_FAIL : Fld := ⟨0x300C, 0, 0⟩
abbrev XACT_MASK_EN : Fld := ⟨0x3010, 7, 0⟩
abbrev XACT_PORTS0_LIT : Fld := ⟨0x3040, 28, 16⟩
abbrev XACT_PORTS0_SETTLING : Fld := ⟨0x3040, 12, 0⟩
abbrev XACT_PORTS1_DIM : Fld := ⟨0x3044, 28, 16⟩
abbrev XACT_PORTS1_DARK : Fld := ⟨0x3044, 12, 0⟩
abbrev SCH_CTL_LEARN_SH : Fld := ⟨0x3200, 20, 16⟩
abbrev SCH_CTL_LEARN_MIN : Fld := ⟨0x3200, 15, 8⟩
abbrev SCH_CTL_LEARN_EN : Fld := ⟨0x3200, 1, 1⟩
abbrev SCH_CTL_POLICY : Fld := ⟨0x3200, 0, 0⟩
abbrev SCH_CLK_INT_INT : Fld := ⟨0x3204, 15, 0⟩
abbrev SCH_CLK_FRAC_FRAC : Fld := ⟨0x3208, 23, 0⟩
abbrev SCH_STAT_STATE : Fld := ⟨0x320C, 31, 29⟩
abbrev SCH_STAT_SOURCE : Fld := ⟨0x320C, 28, 28⟩
abbrev SCH_STAT_STOP_REASON : Fld := ⟨0x320C, 27, 25⟩
abbrev SCH_STAT_JUMP_PENDING : Fld := ⟨0x320C, 24, 24⟩
abbrev SCH_STAT_SLOT : Fld := ⟨0x320C, 23, 16⟩
abbrev SCH_STAT_SEG : Fld := ⟨0x320C, 9, 0⟩
abbrev SCH_CAUSE_LIVE_UNDERRUN : Fld := ⟨0x3210, 16, 16⟩
abbrev SCH_CAUSE_FLUME_BAD : Fld := ⟨0x3210, 7, 7⟩
abbrev SCH_CAUSE_CLK_BUSY : Fld := ⟨0x3210, 6, 6⟩
abbrev SCH_CAUSE_REPAIR : Fld := ⟨0x3210, 5, 5⟩
abbrev SCH_CAUSE_FROZEN_PAIR : Fld := ⟨0x3210, 4, 4⟩
abbrev SCH_CAUSE_AIM_FAIL : Fld := ⟨0x3210, 3, 3⟩
abbrev SCH_CAUSE_STOPPED : Fld := ⟨0x3210, 2, 2⟩
abbrev SCH_CAUSE_JUMP_GONE : Fld := ⟨0x3210, 1, 1⟩
abbrev SCH_CAUSE_UNDERRUN : Fld := ⟨0x3210, 0, 0⟩
abbrev SCH_MASK_EN : Fld := ⟨0x3214, 7, 0⟩
abbrev SCH_HFLAG_FLAG : Fld := ⟨0x3218, 31, 0⟩
abbrev SCH_HFLAG_SET_FLAG : Fld := ⟨0x321C, 31, 0⟩
abbrev SCH_POS_POS : Fld := ⟨0x3220, 31, 0⟩
abbrev SCH_FLUME_PI_PI : Fld := ⟨0x3224, 31, 0⟩
abbrev SCH_FLUME_CI_CI : Fld := ⟨0x3228, 31, 0⟩
abbrev SCH_WIN_LOW : Fld := ⟨0x322C, 31, 16⟩
abbrev SCH_WIN_COUNT : Fld := ⟨0x322C, 8, 0⟩
abbrev SCH_SLIP_SLIP : Fld := ⟨0x324C, 31, 0⟩
abbrev CMD_CTL_HWM_CLR : Fld := ⟨0x2800, 3, 3⟩
abbrev CMD_CTL_SAMPLE_EN : Fld := ⟨0x2800, 2, 2⟩
abbrev CMD_CTL_SHAPE_EN : Fld := ⟨0x2800, 1, 1⟩
abbrev CMD_CTL_FETCH_EN : Fld := ⟨0x2800, 0, 0⟩
abbrev CMD_STAT_TAGS : Fld := ⟨0x2804, 31, 19⟩
abbrev CMD_STAT_HOPPERS : Fld := ⟨0x2804, 18, 6⟩
abbrev CMD_STAT_PAUSED : Fld := ⟨0x2804, 5, 5⟩
abbrev CMD_CAUSE_LIVE_TAGS_FULL : Fld := ⟨0x2808, 18, 18⟩
abbrev CMD_CAUSE_LIVE_CQ_FULL : Fld := ⟨0x2808, 17, 17⟩
abbrev CMD_CAUSE_DOMAIN_OFF : Fld := ⟨0x2808, 7, 7⟩
abbrev CMD_CAUSE_OWN_LOCKED : Fld := ⟨0x2808, 6, 6⟩
abbrev CMD_CAUSE_HDR_ERR : Fld := ⟨0x2808, 5, 5⟩
abbrev CMD_CAUSE_CQ_DROP : Fld := ⟨0x2808, 4, 4⟩
abbrev CMD_CAUSE_POLICED : Fld := ⟨0x2808, 3, 3⟩
abbrev CMD_CAUSE_TAGS_FULL : Fld := ⟨0x2808, 2, 2⟩
abbrev CMD_CAUSE_CQ_FULL : Fld := ⟨0x2808, 1, 1⟩
abbrev CMD_CAUSE_DB_BAD : Fld := ⟨0x2808, 0, 0⟩
abbrev CMD_MASK_EN : Fld := ⟨0x280C, 7, 0⟩
abbrev CMD_DOM_EN0_EN : Fld := ⟨0x2810, 31, 1⟩
abbrev CMD_DOM_EN0_EN0 : Fld := ⟨0x2810, 0, 0⟩
abbrev CMD_DOM_EN1_EN : Fld := ⟨0x2818, 31, 0⟩
abbrev CMD_OWN_LOCK_LOCK : Fld := ⟨0x2820, 0, 0⟩
abbrev CMD_TAG_HWM_HWM : Fld := ⟨0x284C, 12, 0⟩
abbrev HIF_LINK_DL_UP : Fld := ⟨0x2000, 31, 31⟩
abbrev HIF_LINK_SPEED : Fld := ⟨0x2000, 30, 28⟩
abbrev HIF_LINK_WIDTH : Fld := ⟨0x2000, 27, 24⟩
abbrev HIF_LINK_DEGRADED : Fld := ⟨0x2000, 23, 23⟩
abbrev HIF_LINK_NUMVFS : Fld := ⟨0x2000, 5, 0⟩
abbrev HIF_CAUSE_LIVE_DEGRADED : Fld := ⟨0x2008, 17, 17⟩
abbrev HIF_CAUSE_LIVE_DOWN : Fld := ⟨0x2008, 16, 16⟩
abbrev HIF_CAUSE_VEC_BAD : Fld := ⟨0x2008, 5, 5⟩
abbrev HIF_CAUSE_PARTIAL_WR : Fld := ⟨0x2008, 4, 4⟩
abbrev HIF_CAUSE_FLR : Fld := ⟨0x2008, 3, 3⟩
abbrev HIF_CAUSE_AER : Fld := ⟨0x2008, 2, 2⟩
abbrev HIF_CAUSE_DEGRADED : Fld := ⟨0x2008, 1, 1⟩
abbrev HIF_CAUSE_DOWN : Fld := ⟨0x2008, 0, 0⟩
abbrev HIF_MASK_EN : Fld := ⟨0x200C, 5, 0⟩
abbrev DMA_CTL_TC_QUOTA : Fld := ⟨0x2200, 28, 16⟩
abbrev DMA_CTL_HALT_TMO : Fld := ⟨0x2200, 15, 0⟩
abbrev DMA_PM_CTL_D0_IDENTITY : Fld := ⟨0x2204, 0, 0⟩
abbrev DMA_STAT_HALTED : Fld := ⟨0x2210, 31, 25⟩
abbrev DMA_STAT_TC_USED : Fld := ⟨0x2210, 24, 12⟩
abbrev DMA_STAT_STREAMS : Fld := ⟨0x2210, 11, 0⟩
abbrev DMA_CAUSE_LIVE_HALTED : Fld := ⟨0x2214, 16, 16⟩
abbrev DMA_CAUSE_MAP_ECC : Fld := ⟨0x2214, 3, 3⟩
abbrev DMA_CAUSE_HALT_TMO : Fld := ⟨0x2214, 2, 2⟩
abbrev DMA_CAUSE_HALT_FULL : Fld := ⟨0x2214, 1, 1⟩
abbrev DMA_CAUSE_XLATE : Fld := ⟨0x2214, 0, 0⟩
abbrev DMA_MASK_EN : Fld := ⟨0x2218, 3, 0⟩
abbrev DMA_HALT0_SLOTS : Fld := ⟨0x2220, 31, 0⟩
abbrev DMA_HALT1_SLOTS : Fld := ⟨0x2224, 31, 0⟩
abbrev LRG_CTL_BCAST_EN : Fld := ⟨0x1800, 4, 4⟩
abbrev LRG_CTL_STRIP_STRANGER : Fld := ⟨0x1800, 3, 3⟩
abbrev LRG_CTL_MODE : Fld := ⟨0x1800, 1, 1⟩
abbrev LRG_CTL_EN : Fld := ⟨0x1800, 0, 0⟩
abbrev LRG_MAC_LO_MAC : Fld := ⟨0x1804, 31, 0⟩
abbrev LRG_MAC_HI_MAC : Fld := ⟨0x1808, 15, 0⟩
abbrev LRG_BID_BID : Fld := ⟨0x180C, 7, 0⟩
abbrev LRG_THT_THT : Fld := ⟨0x1810, 15, 0⟩
abbrev LRG_TRT_TRT_TMO : Fld := ⟨0x1814, 15, 0⟩
abbrev LRG_LINK_DEBOUNCE : Fld := ⟨0x1818, 15, 0⟩
abbrev LRG_STAT_STATE : Fld := ⟨0x181C, 31, 29⟩
abbrev LRG_STAT_A_RX_UP : Fld := ⟨0x181C, 28, 28⟩
abbrev LRG_STAT_B_RX_UP : Fld := ⟨0x181C, 27, 27⟩
abbrev LRG_STAT_WRAP_A : Fld := ⟨0x181C, 26, 26⟩
abbrev LRG_STAT_WRAP_B : Fld := ⟨0x181C, 25, 25⟩
abbrev LRG_STAT_TOKEN_A : Fld := ⟨0x181C, 24, 24⟩
abbrev LRG_STAT_TOKEN_B : Fld := ⟨0x181C, 23, 23⟩
abbrev LRG_STAT_PAUSED : Fld := ⟨0x181C, 22, 22⟩
abbrev LRG_STAT_SECONDARY : Fld := ⟨0x181C, 21, 21⟩
abbrev LRG_STAT_GEN : Fld := ⟨0x181C, 15, 0⟩
abbrev LRG_CAUSE_LIVE_PN_EXHAUST : Fld := ⟨0x1820, 26, 26⟩
abbrev LRG_CAUSE_LIVE_DUP_MAC : Fld := ⟨0x1820, 20, 20⟩
abbrev LRG_CAUSE_LIVE_CLAIMING : Fld := ⟨0x1820, 19, 19⟩
abbrev LRG_CAUSE_LIVE_WRAP : Fld := ⟨0x1820, 17, 17⟩
abbrev LRG_CAUSE_LIVE_LINK_DOWN : Fld := ⟨0x1820, 16, 16⟩
abbrev LRG_CAUSE_HEAD_BAD : Fld := ⟨0x1820, 13, 13⟩
abbrev LRG_CAUSE_CFG_BUSY : Fld := ⟨0x1820, 12, 12⟩
abbrev LRG_CAUSE_HOP_FULL : Fld := ⟨0x1820, 11, 11⟩
abbrev LRG_CAUSE_PN_EXHAUST : Fld := ⟨0x1820, 10, 10⟩
abbrev LRG_CAUSE_PN_WARN : Fld := ⟨0x1820, 9, 9⟩
abbrev LRG_CAUSE_SEC_FAIL : Fld := ⟨0x1820, 8, 8⟩
abbrev LRG_CAUSE_RX_NOBUF : Fld := ⟨0x1820, 7, 7⟩
abbrev LRG_CAUSE_PAUSE_OVF : Fld := ⟨0x1820, 6, 6⟩
abbrev LRG_CAUSE_STRANGER : Fld := ⟨0x1820, 5, 5⟩
abbrev LRG_CAUSE_DUP_MAC : Fld := ⟨0x1820, 4, 4⟩
abbrev LRG_CAUSE_CLAIM : Fld := ⟨0x1820, 3, 3⟩
abbrev LRG_CAUSE_UNWRAP : Fld := ⟨0x1820, 2, 2⟩
abbrev LRG_CAUSE_WRAP : Fld := ⟨0x1820, 1, 1⟩
abbrev LRG_CAUSE_LINK_DOWN : Fld := ⟨0x1820, 0, 0⟩
abbrev LRG_MASK_EN : Fld := ⟨0x1824, 13, 0⟩
abbrev LRG_PAUSE_QUANTA : Fld := ⟨0x1828, 31, 16⟩
abbrev LRG_PAUSE_HWM : Fld := ⟨0x1828, 15, 8⟩
abbrev LRG_PAUSE_LWM : Fld := ⟨0x1828, 7, 0⟩
abbrev LRG_SHAPE_OVH_OVERHEAD : Fld := ⟨0x182C, 7, 0⟩
abbrev LRG_SHAPE_RATE : Fld := ⟨0x1840, 31, 16⟩
abbrev LRG_SHAPE_BURST : Fld := ⟨0x1840, 15, 0⟩
abbrev LRG_RX_BASE_LO_BASE : Fld := ⟨0x1880, 31, 6⟩
abbrev LRG_RX_BASE_HI_BASE : Fld := ⟨0x1884, 15, 0⟩
abbrev LRG_RX_CFG_SIZE : Fld := ⟨0x1888, 31, 16⟩
abbrev LRG_RX_CFG_BUF : Fld := ⟨0x1888, 15, 12⟩
abbrev LRG_RX_CFG_VECTOR : Fld := ⟨0x1888, 5, 0⟩
abbrev LRG_RX_HEAD_HEAD : Fld := ⟨0x188C, 15, 0⟩
abbrev LRG_RX_TAIL_TAIL : Fld := ⟨0x1890, 15, 0⟩
abbrev TIM_CTL_PPS_DISC : Fld := ⟨0x1000, 7, 7⟩
abbrev TIM_CTL_PPS_OUT_EN : Fld := ⟨0x1000, 6, 6⟩
abbrev TIM_CTL_SYNC_OUT_EN : Fld := ⟨0x1000, 5, 5⟩
abbrev TIM_CTL_TC_EN : Fld := ⟨0x1000, 4, 4⟩
abbrev TIM_CTL_AUTO_SWITCH : Fld := ⟨0x1000, 3, 3⟩
abbrev TIM_CTL_FORCE : Fld := ⟨0x1000, 1, 1⟩
abbrev TIM_CTL_SEL : Fld := ⟨0x1000, 0, 0⟩
abbrev TIM_STAT_TIME_VALID : Fld := ⟨0x1004, 31, 31⟩
abbrev TIM_STAT_SEL_ACTIVE : Fld := ⟨0x1004, 30, 30⟩
abbrev TIM_STAT_SWITCHING : Fld := ⟨0x1004, 29, 29⟩
abbrev TIM_STAT_TB : Fld := ⟨0x1004, 28, 28⟩
abbrev TIM_STAT_DOM0_STATE : Fld := ⟨0x1004, 27, 25⟩
abbrev TIM_STAT_DOM1_STATE : Fld := ⟨0x1004, 24, 22⟩
abbrev TIM_STAT_PPS_IN_SEEN : Fld := ⟨0x1004, 21, 21⟩
abbrev TIM_STAT_STEP_DEFERRED : Fld := ⟨0x1004, 20, 20⟩
abbrev TIM_STAT_TSQ_COUNT : Fld := ⟨0x1004, 6, 0⟩
abbrev TIM_CAUSE_LIVE_STEP_DEFER : Fld := ⟨0x1008, 18, 18⟩
abbrev TIM_CAUSE_LIVE_SWITCHING : Fld := ⟨0x1008, 17, 17⟩
abbrev TIM_CAUSE_LIVE_HOLDOVER : Fld := ⟨0x1008, 16, 16⟩
abbrev TIM_CAUSE_SET_REFUSED : Fld := ⟨0x1008, 9, 9⟩
abbrev TIM_CAUSE_LATE : Fld := ⟨0x1008, 8, 8⟩
abbrev TIM_CAUSE_LOCK : Fld := ⟨0x1008, 7, 7⟩
abbrev TIM_CAUSE_PATH_CHG : Fld := ⟨0x1008, 6, 6⟩
abbrev TIM_CAUSE_TS_OVF : Fld := ⟨0x1008, 5, 5⟩
abbrev TIM_CAUSE_STEP_DEFER : Fld := ⟨0x1008, 4, 4⟩
abbrev TIM_CAUSE_STEP : Fld := ⟨0x1008, 3, 3⟩
abbrev TIM_CAUSE_SWITCH_REFUSED : Fld := ⟨0x1008, 2, 2⟩
abbrev TIM_CAUSE_SWITCHED : Fld := ⟨0x1008, 1, 1⟩
abbrev TIM_CAUSE_HOLDOVER : Fld := ⟨0x1008, 0, 0⟩
abbrev TIM_MASK_EN : Fld := ⟨0x100C, 9, 0⟩
abbrev TIM_SWITCH_SLEW : Fld := ⟨0x1010, 31, 16⟩
abbrev TIM_SWITCH_RAMP : Fld := ⟨0x1010, 15, 8⟩
abbrev TIM_SWITCH_MAX : Fld := ⟨0x1010, 7, 0⟩
abbrev TIM_SYNC_PHASE : Fld := ⟨0x1014, 8, 0⟩
abbrev TIM_PPS_WIDTH : Fld := ⟨0x1018, 9, 0⟩
abbrev TIM_DOM_CFG_EN : Fld := ⟨0x1020, 31, 31⟩
abbrev TIM_DOM_CFG_RING : Fld := ⟨0x1020, 30, 30⟩
abbrev TIM_DOM_CFG_MASTER : Fld := ⟨0x1020, 15, 8⟩
abbrev TIM_DOM_CFG_DOMAIN_NUM : Fld := ⟨0x1020, 7, 0⟩
abbrev TIM_DOM_SERVO_KP : Fld := ⟨0x1024, 31, 16⟩
abbrev TIM_DOM_SERVO_KI : Fld := ⟨0x1024, 15, 0⟩
abbrev TIM_DOM_SHIFT_SH_P : Fld := ⟨0x1028, 28, 24⟩
abbrev TIM_DOM_SHIFT_SH_I : Fld := ⟨0x1028, 20, 16⟩
abbrev TIM_DOM_SHIFT_STEP_THR : Fld := ⟨0x1028, 15, 0⟩
abbrev TIM_DOM_THR_LOCK_THR : Fld := ⟨0x102C, 31, 16⟩
abbrev TIM_DOM_THR_SYNC_TMO : Fld := ⟨0x102C, 15, 0⟩
abbrev TIM_DOM_STAT_STATE : Fld := ⟨0x1030, 31, 29⟩
abbrev TIM_DOM_STAT_PATH_HOLD : Fld := ⟨0x1030, 28, 28⟩
abbrev TIM_DOM_STAT_HOPS : Fld := ⟨0x1030, 15, 8⟩
abbrev TIM_DOM_STAT_LOCK_RUN : Fld := ⟨0x1030, 7, 0⟩
abbrev TIM_DOM_OFS_OFS : Fld := ⟨0x1034, 31, 0⟩
abbrev TIM_DOM_ADJ_ADJ : Fld := ⟨0x1038, 31, 0⟩
abbrev TIM_DOM_MPD_MPD : Fld := ⟨0x103C, 31, 0⟩
abbrev TIM_PPSIN_NS_NS : Fld := ⟨0x1060, 31, 0⟩
abbrev TIM_PPSIN_SEC_SEC : Fld := ⟨0x1064, 31, 0⟩
abbrev TIM_TSQ_DROP_SEQ_HI : Fld := ⟨0x1090, 31, 16⟩
abbrev TIM_TSQ_DROP_SEQ_LO : Fld := ⟨0x1090, 15, 0⟩
abbrev NVR_STAT_BUSY : Fld := ⟨0x4800, 31, 31⟩
abbrev NVR_STAT_LOCKED : Fld := ⟨0x4800, 30, 30⟩
abbrev NVR_STAT_WARN_REGS : Fld := ⟨0x4800, 14, 8⟩
abbrev NVR_STAT_WORN_REGS : Fld := ⟨0x4800, 6, 0⟩
abbrev NVR_CAUSE_LIVE_WORN : Fld := ⟨0x4804, 18, 18⟩
abbrev NVR_CAUSE_LIVE_WEAR_WARN : Fld := ⟨0x4804, 17, 17⟩
abbrev NVR_CAUSE_PROG_FAIL : Fld := ⟨0x4804, 4, 4⟩
abbrev NVR_CAUSE_LOAD_ERR : Fld := ⟨0x4804, 3, 3⟩
abbrev NVR_CAUSE_WORN : Fld := ⟨0x4804, 2, 2⟩
abbrev NVR_CAUSE_WEAR_WARN : Fld := ⟨0x4804, 1, 1⟩
abbrev NVR_CAUSE_BUSY_DROP : Fld := ⟨0x4804, 0, 0⟩
abbrev NVR_MASK_EN : Fld := ⟨0x4808, 4, 0⟩
abbrev NVR_LOCK_LOCK : Fld := ⟨0x4810, 0, 0⟩
abbrev NVR_WEAR_SEL_OFFSET : Fld := ⟨0x4818, 15, 0⟩
abbrev NVR_WEAR_VALID : Fld := ⟨0x481C, 31, 31⟩
abbrev NVR_WEAR_WORN : Fld := ⟨0x481C, 30, 30⟩
abbrev NVR_WEAR_WARN : Fld := ⟨0x481C, 29, 29⟩
abbrev NVR_WEAR_COUNT : Fld := ⟨0x481C, 16, 0⟩
abbrev NVR_SCRATCH_DATA : Fld := ⟨0x4840, 31, 0⟩
abbrev MBX_SEL_SEL : Fld := ⟨0x5000, 15, 0⟩
abbrev MBX_IDX_IDX : Fld := ⟨0x5004, 31, 0⟩
abbrev MBX_CTL_GO : Fld := ⟨0x5008, 31, 31⟩
abbrev MBX_CTL_WRITE : Fld := ⟨0x5008, 0, 0⟩
abbrev MBX_STAT_VALID : Fld := ⟨0x500C, 31, 31⟩
abbrev MBX_STAT_BUSY : Fld := ⟨0x500C, 30, 30⟩
abbrev MBX_STAT_ERR : Fld := ⟨0x500C, 23, 20⟩
abbrev MBX_STAT_GEN : Fld := ⟨0x500C, 15, 0⟩
abbrev MBX_DATA_DATA : Fld := ⟨0x5010, 31, 0⟩
abbrev REG_CAUSE_MBX_COLLIDE : Fld := ⟨0x5100, 5, 5⟩
abbrev REG_CAUSE_RSV_CHANGED : Fld := ⟨0x5100, 4, 4⟩
abbrev REG_CAUSE_TRIPLE_FAIL : Fld := ⟨0x5100, 3, 3⟩
abbrev REG_CAUSE_SCRUB : Fld := ⟨0x5100, 2, 2⟩
abbrev REG_CAUSE_LOCK_VIOL : Fld := ⟨0x5100, 1, 1⟩
abbrev REG_CAUSE_GUARD_ERR : Fld := ⟨0x5100, 0, 0⟩
abbrev REG_MASK_EN : Fld := ⟨0x5104, 5, 0⟩
abbrev REG_GUARD_LAST_REASON : Fld := ⟨0x5108, 31, 28⟩
abbrev REG_GUARD_LAST_REQUESTER : Fld := ⟨0x5108, 27, 24⟩
abbrev REG_GUARD_LAST_OFFSET : Fld := ⟨0x5108, 15, 0⟩
abbrev REG_SCRUB_LAST_OFFSET : Fld := ⟨0x510C, 15, 0⟩
abbrev SNAP_CTL_GO : Fld := ⟨0x5140, 0, 0⟩
abbrev SNAP_STAT_BUSY : Fld := ⟨0x5144, 31, 31⟩
abbrev SNAP_STAT_AT_PENDING : Fld := ⟨0x5144, 30, 30⟩
abbrev SNAP_STAT_MISSED : Fld := ⟨0x5144, 8, 0⟩
abbrev SNAP_GEN_GEN : Fld := ⟨0x5148, 31, 0⟩
abbrev FLT_CTL_COALESCE_EN : Fld := ⟨0x0800, 8, 8⟩
abbrev FLT_CTL_LOG_MIN : Fld := ⟨0x0800, 2, 0⟩
abbrev FLT_STAT_SAFE : Fld := ⟨0x0804, 31, 31⟩
abbrev FLT_STAT_LOCKOUT : Fld := ⟨0x0804, 30, 30⟩
abbrev FLT_STAT_HIST_COUNT : Fld := ⟨0x0804, 5, 0⟩
abbrev FLT_CAUSE_LIVE_LOCKOUT : Fld := ⟨0x0808, 23, 23⟩
abbrev FLT_CAUSE_LIVE_SAFE : Fld := ⟨0x0808, 22, 22⟩
abbrev FLT_CAUSE_LIVE_OVERPOWER : Fld := ⟨0x0808, 19, 19⟩
abbrev FLT_CAUSE_LIVE_BUS_HANG : Fld := ⟨0x0808, 18, 18⟩
abbrev FLT_CAUSE_LIVE_WIRE : Fld := ⟨0x0808, 16, 16⟩
abbrev FLT_CAUSE_GRAVE : Fld := ⟨0x0808, 7, 7⟩
abbrev FLT_CAUSE_SEVERE : Fld := ⟨0x0808, 6, 6⟩
abbrev FLT_CAUSE_GRAVE_NV_FAIL : Fld := ⟨0x0808, 5, 5⟩
abbrev FLT_CAUSE_IRST_REFUSED : Fld := ⟨0x0808, 4, 4⟩
abbrev FLT_CAUSE_OVERPOWER : Fld := ⟨0x0808, 3, 3⟩
abbrev FLT_CAUSE_BUS_HANG : Fld := ⟨0x0808, 2, 2⟩
abbrev FLT_CAUSE_HIST_OVF : Fld := ⟨0x0808, 1, 1⟩
abbrev FLT_CAUSE_WIRE : Fld := ⟨0x0808, 0, 0⟩
abbrev FLT_MASK_EN_FIXED : Fld := ⟨0x080C, 7, 6⟩
abbrev FLT_MASK_EN : Fld := ⟨0x080C, 5, 0⟩
abbrev FLT_HIST_IDX_IDX : Fld := ⟨0x0820, 4, 0⟩
abbrev FLT_HIST0_WORD0 : Fld := ⟨0x0824, 31, 0⟩
abbrev FLT_HIST1_WORDk : Fld := ⟨0x0828, 31, 0⟩
abbrev FLT_HANG_MASTERS : Fld := ⟨0x0834, 7, 0⟩
abbrev FLT_GRAVE_STAT_VALID : Fld := ⟨0x0840, 31, 31⟩
abbrev FLT_GRAVE_STAT_NV_BUSY : Fld := ⟨0x0840, 30, 30⟩
abbrev FLT_GRAVE_STAT_COUNT : Fld := ⟨0x0840, 15, 0⟩
abbrev FLT_GRAVE_WORDk : Fld := ⟨0x0844, 31, 0⟩
abbrev FLT_GRAVE_CLR_CLR : Fld := ⟨0x0858, 0, 0⟩
abbrev FLT_IRST_GO : Fld := ⟨0x0860, 31, 31⟩
abbrev FLT_IRST_ISLAND : Fld := ⟨0x0860, 8, 0⟩
abbrev ATN_SUM_TILE : Fld := ⟨0x0C00, 18, 18⟩
abbrev ATN_SUM_REG : Fld := ⟨0x0C00, 17, 17⟩
abbrev ATN_SUM_NVR : Fld := ⟨0x0C00, 16, 16⟩
abbrev ATN_SUM_LOOP : Fld := ⟨0x0C00, 15, 15⟩
abbrev ATN_SUM_SNS : Fld := ⟨0x0C00, 14, 14⟩
abbrev ATN_SUM_RFS : Fld := ⟨0x0C00, 13, 13⟩
abbrev ATN_SUM_BKP : Fld := ⟨0x0C00, 12, 12⟩
abbrev ATN_SUM_SYN : Fld := ⟨0x0C00, 11, 11⟩
abbrev ATN_SUM_SCH : Fld := ⟨0x0C00, 10, 10⟩
abbrev ATN_SUM_XACT : Fld := ⟨0x0C00, 9, 9⟩
abbrev ATN_SUM_CMD : Fld := ⟨0x0C00, 8, 8⟩
abbrev ATN_SUM_DMA : Fld := ⟨0x0C00, 7, 7⟩
abbrev ATN_SUM_HIF : Fld := ⟨0x0C00, 6, 6⟩
abbrev ATN_SUM_LRG : Fld := ⟨0x0C00, 5, 5⟩
abbrev ATN_SUM_TIM : Fld := ⟨0x0C00, 4, 4⟩
abbrev ATN_SUM_THM : Fld := ⟨0x0C00, 3, 3⟩
abbrev ATN_SUM_PWR : Fld := ⟨0x0C00, 2, 2⟩
abbrev ATN_SUM_SYS : Fld := ⟨0x0C00, 1, 1⟩
abbrev ATN_SUM_FLT : Fld := ⟨0x0C00, 0, 0⟩
abbrev ATN_MASK_EN : Fld := ⟨0x0C04, 18, 1⟩
abbrev ATN_MASK_EN_FLT : Fld := ⟨0x0C04, 0, 0⟩
abbrev ATN_CTL_HOLDOFF : Fld := ⟨0x0C08, 15, 8⟩
abbrev ATN_CTL_MSI_EN : Fld := ⟨0x0C08, 1, 1⟩
abbrev ATN_CTL_PIN_EN : Fld := ⟨0x0C08, 0, 0⟩
abbrev ATN_PIN_ASSERTED : Fld := ⟨0x0C0C, 0, 0⟩
abbrev ATN_TILE_TILES : Fld := ⟨0x0C10, 31, 0⟩
abbrev THM_STAT_BOOT_WAIT : Fld := ⟨0x0600, 31, 31⟩
abbrev THM_STAT_COOLDOWN : Fld := ⟨0x0600, 30, 30⟩
abbrev THM_STAT_INTERVAL : Fld := ⟨0x0600, 9, 0⟩
abbrev THM_CAUSE_LIVE_SENSOR_FAIL : Fld := ⟨0x0604, 20, 20⟩
abbrev THM_CAUSE_LIVE_RISE_FAST : Fld := ⟨0x0604, 18, 18⟩
abbrev THM_CAUSE_LIVE_RISE : Fld := ⟨0x0604, 17, 17⟩
abbrev THM_CAUSE_LIVE_WARN : Fld := ⟨0x0604, 16, 16⟩
abbrev THM_CAUSE_RESTART : Fld := ⟨0x0604, 6, 6⟩
abbrev THM_CAUSE_RESTORE_FAIL : Fld := ⟨0x0604, 5, 5⟩
abbrev THM_CAUSE_SENSOR_FAIL : Fld := ⟨0x0604, 4, 4⟩
abbrev THM_CAUSE_SHUTDOWN : Fld := ⟨0x0604, 3, 3⟩
abbrev THM_CAUSE_RISE_FAST : Fld := ⟨0x0604, 2, 2⟩
abbrev THM_CAUSE_RISE : Fld := ⟨0x0604, 1, 1⟩
abbrev THM_CAUSE_WARN : Fld := ⟨0x0604, 0, 0⟩
abbrev THM_MASK_EN : Fld := ⟨0x0608, 6, 0⟩
abbrev THM_BRAKE_EN_GOV_EN : Fld := ⟨0x060C, 0, 0⟩
abbrev THM_RESTORE_RESTORE_AFTER_COOL : Fld := ⟨0x0614, 0, 0⟩
abbrev THM_WARN0_TILE : Fld := ⟨0x0620, 31, 24⟩
abbrev THM_WARN0_CTRL : Fld := ⟨0x0620, 23, 16⟩
abbrev THM_WARN0_PHOT : Fld := ⟨0x0620, 15, 8⟩
abbrev THM_WARN0_CAP : Fld := ⟨0x0620, 7, 0⟩
abbrev THM_WARN1_DDR5 : Fld := ⟨0x0624, 7, 0⟩
abbrev THM_GROUP_MAX : Fld := ⟨0x0640, 31, 16⟩
abbrev THM_GROUP_SENSOR : Fld := ⟨0x0640, 8, 0⟩
abbrev THM_RATE_RATE : Fld := ⟨0x0660, 15, 0⟩
abbrev THM_COOL_STAT_SECONDS : Fld := ⟨0x0684, 31, 0⟩
abbrev PWR_STAT_FEED_A_OK : Fld := ⟨0x0400, 31, 31⟩
abbrev PWR_STAT_FEED_B_OK : Fld := ⟨0x0400, 30, 30⟩
abbrev PWR_STAT_AUX_A_OK : Fld := ⟨0x0400, 29, 29⟩
abbrev PWR_STAT_AUX_B_OK : Fld := ⟨0x0400, 28, 28⟩
abbrev PWR_STAT_REF_A_OK : Fld := ⟨0x0400, 27, 27⟩
abbrev PWR_STAT_REF_B_OK : Fld := ⟨0x0400, 26, 26⟩
abbrev PWR_STAT_RAILS_ON : Fld := ⟨0x0400, 25, 25⟩
abbrev PWR_CAUSE_LIVE_RAIL_WARN : Fld := ⟨0x0404, 25, 25⟩
abbrev PWR_CAUSE_LIVE_REFCLK_LOSS : Fld := ⟨0x0404, 23, 23⟩
abbrev PWR_CAUSE_LIVE_REFCLK_B_LOSS : Fld := ⟨0x0404, 22, 22⟩
abbrev PWR_CAUSE_LIVE_REFCLK_A_LOSS : Fld := ⟨0x0404, 21, 21⟩
abbrev PWR_CAUSE_LIVE_OVERCURRENT : Fld := ⟨0x0404, 20, 20⟩
abbrev PWR_CAUSE_LIVE_AUX_LOSS : Fld := ⟨0x0404, 19, 19⟩
abbrev PWR_CAUSE_LIVE_BROWNOUT : Fld := ⟨0x0404, 18, 18⟩
abbrev PWR_CAUSE_LIVE_FEED_B_LOSS : Fld := ⟨0x0404, 17, 17⟩
abbrev PWR_CAUSE_LIVE_FEED_A_LOSS : Fld := ⟨0x0404, 16, 16⟩
abbrev PWR_CAUSE_RAIL_WARN : Fld := ⟨0x0404, 9, 9⟩
abbrev PWR_CAUSE_TB_SWITCH : Fld := ⟨0x0404, 8, 8⟩
abbrev PWR_CAUSE_REFCLK_LOSS : Fld := ⟨0x0404, 7, 7⟩
abbrev PWR_CAUSE_REFCLK_B_LOSS : Fld := ⟨0x0404, 6, 6⟩
abbrev PWR_CAUSE_REFCLK_A_LOSS : Fld := ⟨0x0404, 5, 5⟩
abbrev PWR_CAUSE_OVERCURRENT : Fld := ⟨0x0404, 4, 4⟩
abbrev PWR_CAUSE_AUX_LOSS : Fld := ⟨0x0404, 3, 3⟩
abbrev PWR_CAUSE_BROWNOUT : Fld := ⟨0x0404, 2, 2⟩
abbrev PWR_CAUSE_FEED_B_LOSS : Fld := ⟨0x0404, 1, 1⟩
abbrev PWR_CAUSE_FEED_A_LOSS : Fld := ⟨0x0404, 0, 0⟩
abbrev PWR_MASK_EN : Fld := ⟨0x0408, 9, 0⟩
abbrev PWR_BRAKE_EN_FEED_EN : Fld := ⟨0x040C, 0, 0⟩
abbrev PWR_TB_CTL_REVERT : Fld := ⟨0x0414, 1, 1⟩
abbrev PWR_TB_CTL_PREF : Fld := ⟨0x0414, 0, 0⟩
abbrev PWR_FEED_A_MV : Fld := ⟨0x0420, 31, 16⟩
abbrev PWR_FEED_A_CA : Fld := ⟨0x0420, 15, 0⟩
abbrev PWR_FEED_B_MV : Fld := ⟨0x0424, 31, 16⟩
abbrev PWR_FEED_B_CA : Fld := ⟨0x0424, 15, 0⟩
abbrev PWR_POWER_PEAK : Fld := ⟨0x0428, 31, 16⟩
abbrev PWR_POWER_NOW : Fld := ⟨0x0428, 15, 0⟩
abbrev SYS_ID_PART : Fld := ⟨0x0000, 31, 16⟩
abbrev SYS_ID_STEPPING : Fld := ⟨0x0000, 15, 8⟩
abbrev SYS_ID_BAND : Fld := ⟨0x0000, 0, 0⟩
abbrev SYS_STAT_MODE : Fld := ⟨0x0004, 31, 28⟩
abbrev SYS_STAT_PREV_MODE : Fld := ⟨0x0004, 27, 24⟩
abbrev SYS_STAT_BOOT_DONE : Fld := ⟨0x0004, 23, 23⟩
abbrev SYS_STAT_MODE_BUSY : Fld := ⟨0x0004, 22, 22⟩
abbrev SYS_STAT_ZERO_SERVICE : Fld := ⟨0x0004, 21, 21⟩
abbrev SYS_STAT_STAGED : Fld := ⟨0x0004, 20, 20⟩
abbrev SYS_STAT_SLOT : Fld := ⟨0x0004, 19, 19⟩
abbrev SYS_CAUSE_LIVE_ZERO_SERVICE : Fld := ⟨0x0008, 17, 17⟩
abbrev SYS_CAUSE_BIST_FAIL : Fld := ⟨0x0008, 5, 5⟩
abbrev SYS_CAUSE_FW_FALLBACK : Fld := ⟨0x0008, 4, 4⟩
abbrev SYS_CAUSE_FW_ACTIVATED : Fld := ⟨0x0008, 3, 3⟩
abbrev SYS_CAUSE_FW_STAGED : Fld := ⟨0x0008, 2, 2⟩
abbrev SYS_CAUSE_BOOT_END : Fld := ⟨0x0008, 1, 1⟩
abbrev SYS_CAUSE_MODE_CHG : Fld := ⟨0x0008, 0, 0⟩
abbrev SYS_MASK_EN : Fld := ⟨0x000C, 5, 0⟩
abbrev SYS_BOOT_STAGE : Fld := ⟨0x0010, 31, 28⟩
abbrev SYS_BOOT_ERR : Fld := ⟨0x0010, 27, 24⟩
abbrev SYS_BOOT_MS : Fld := ⟨0x0010, 23, 0⟩
abbrev SYS_FW_ACTIVE_MAJOR : Fld := ⟨0x0014, 31, 24⟩
abbrev SYS_FW_ACTIVE_MINOR : Fld := ⟨0x0014, 23, 16⟩
abbrev SYS_FW_ACTIVE_BUILD : Fld := ⟨0x0014, 15, 0⟩
abbrev SYS_FW_STAGED_VERSION : Fld := ⟨0x0018, 31, 0⟩
abbrev SYS_REMAP_REMAP : Fld := ⟨0x001C, 0, 0⟩
abbrev SYS_WAKE_HOLD_EXIT : Fld := ⟨0x0024, 1, 1⟩
abbrev SYS_WAKE_WAKE : Fld := ⟨0x0024, 0, 0⟩
abbrev SYS_UPTIME_SECONDS : Fld := ⟨0x0034, 31, 0⟩

end Fd

end Sys2Proof.Machine
end

