-- ==== Sys2Proof/Machine/RegMap.lean ====
section
/-! DEFINITION. The registers of BAR0 as the field tables of the chapters give them (R307, R314, R327): per register its
masks of written, write-1-to-clear, write-1-to-set, write-only and reserved bits, its reset value, whether it is a counter
and whether it is guarded or persistent. A field with no reset value reads 0 (log 4); factory and fuse values, log 5. -/

namespace Sys2Proof.Machine

/-- The kinds of register that need a sequence of their own. -/
inductive RKind where
  | plain
  | guarded    -- RWG: written through the guard sequence (R311)
  | nv         -- RWP: persistent (R316)
  | mbx        -- the mailbox (R320)
deriving DecidableEq, Repr

/-- One register, or `count` registers `stride` apart. -/
structure RegInfo where
  base : Nat
  stride : Nat := 4
  count : Nat := 1
  rw : Nat := 0
  w1c : Nat := 0
  w1s : Nat := 0
  wo : Nat := 0
  rsv : Nat := 0
  reset : Nat := 0
  counter : Bool := false
  kind : RKind := .plain
deriving DecidableEq, Repr

/-- The SYS block. -/
def sysRegs : List RegInfo := [
  {base := Reg.SYS_ID, rsv := 0xFE, reset := 0xB409C000},
  {base := Reg.SYS_STAT, rsv := 0x7FFFF, reset := 0x10000000},
  {base := Reg.SYS_CAUSE, w1c := 0x3F, rsv := 0xFFFCFFC0},
  {base := Reg.SYS_MASK, rw := 0x3F, rsv := 0xFFFFFFC0, reset := 0x30},
  {base := Reg.SYS_BOOT},
  {base := Reg.SYS_FW_ACTIVE},
  {base := Reg.SYS_FW_STAGED},
  {base := Reg.SYS_REMAP, rw := 0x1, rsv := 0xFFFFFFFE, kind := .guarded},
  {base := Reg.SYS_WAKE, wo := 0x3, rsv := 0xFFFFFFFC},
  {base := Reg.SYS_MODE_CNT, counter := true},
  {base := Reg.SYS_UPTIME}]

/-- The PWR block. -/
def pwrRegs : List RegInfo := [
  {base := Reg.PWR_STAT, rsv := 0x1FFFFFF},
  {base := Reg.PWR_CAUSE, w1c := 0x3FF, rsv := 0xFC00FC00},
  {base := Reg.PWR_MASK, rw := 0x3FF, rsv := 0xFFFFFC00, reset := 0x2FF},
  {base := Reg.PWR_BRAKE_EN, rw := 0x1, rsv := 0xFFFFFFFE, reset := 0x1, kind := .guarded},
  {base := Reg.PWR_TB_CTL, rw := 0x3, rsv := 0xFFFFFFFC, reset := 0x2},
  {base := Reg.PWR_FEED_A},
  {base := Reg.PWR_FEED_B},
  {base := Reg.PWR_POWER},
  {base := Reg.PWR_FEED_LOSS_CNT, counter := true},
  {base := Reg.PWR_BROWNOUT_CNT, counter := true},
  {base := Reg.PWR_TB_SWITCH_CNT, counter := true}]

/-- The THM block. -/
def thmRegs : List RegInfo := [
  {base := Reg.THM_STAT, rsv := 0x3FFFFC00},
  {base := Reg.THM_CAUSE, w1c := 0x7F, rsv := 0xFFE0FF80},
  {base := Reg.THM_MASK, rw := 0x7F, rsv := 0xFFFFFF80, reset := 0x3F},
  {base := Reg.THM_BRAKE_EN, rw := 0x1, rsv := 0xFFFFFFFE, reset := 0x1, kind := .guarded},
  {base := Reg.THM_RESTORE, rw := 0x1, rsv := 0xFFFFFFFE, kind := .nv},
  {base := Reg.THM_WARN0, rw := 0xFFFFFFFF, reset := 0x64695F5A},
  {base := Reg.THM_WARN1, rw := 0xFF, rsv := 0xFFFFFF00, reset := 0x55},
  {base := Reg.THM_GROUP, stride := 0x4, count := 5, rsv := 0xFE00},
  {base := Reg.THM_RATE, stride := 0x4, count := 5, rsv := 0xFFFF0000},
  {base := Reg.THM_SHUT_CNT, counter := true},
  {base := Reg.THM_COOL_STAT},
  {base := Reg.THM_SENS_FAIL_CNT, counter := true}]

/-- The FLT block. -/
def fltRegs : List RegInfo := [
  {base := Reg.FLT_CTL, rw := 0x107, rsv := 0xFFFFFEF8, reset := 0x100},
  {base := Reg.FLT_STAT, rsv := 0x3FFFFFC0},
  {base := Reg.FLT_CAUSE, w1c := 0xFF, rsv := 0xFF00FF00},
  {base := Reg.FLT_MASK, rw := 0x3F, rsv := 0xFFFFFF00, reset := 0xEC},
  {base := Reg.FLT_EVENT_CNT, counter := true},
  {base := Reg.FLT_HIST_OVF_CNT, counter := true},
  {base := Reg.FLT_WIRE_CNT, counter := true},
  {base := Reg.FLT_HIST_IDX, rw := 0x1F, rsv := 0xFFFFFFE0},
  {base := Reg.FLT_HIST0},
  {base := Reg.FLT_HIST1, stride := 0x4, count := 3},
  {base := Reg.FLT_HANG, rsv := 0xFFFFFF00},
  {base := Reg.FLT_GRAVE_STAT, rsv := 0x3FFF0000},
  {base := Reg.FLT_GRAVE, stride := 0x4, count := 4},
  {base := Reg.FLT_GRAVE_CLR, rw := 0x1, rsv := 0xFFFFFFFE, kind := .guarded},
  {base := Reg.FLT_IRST, rw := 0x800001FF, rsv := 0x7FFFFE00, kind := .guarded}]

/-- The ATN block. -/
def atnRegs : List RegInfo := [
  {base := Reg.ATN_SUM, rsv := 0xFFF80000},
  {base := Reg.ATN_MASK, rw := 0x7FFFE, rsv := 0xFFF80000, reset := 0x7FFFF},
  {base := Reg.ATN_CTL, rw := 0xFF03, rsv := 0xFFFF00FC, reset := 0xA03},
  {base := Reg.ATN_PIN, rsv := 0xFFFFFFFE},
  {base := Reg.ATN_TILE, stride := 0x4, count := 8}]

/-- The TIM block. -/
def timRegs : List RegInfo := [
  {base := Reg.TIM_CTL, rw := 0xFB, rsv := 0xFFFFFF04, reset := 0x78},
  {base := Reg.TIM_STAT, rsv := 0xFFF80},
  {base := Reg.TIM_CAUSE, w1c := 0x3FF, rsv := 0xFFF8FC00},
  {base := Reg.TIM_MASK, rw := 0x3FF, rsv := 0xFFFFFC00, reset := 0x1},
  {base := Reg.TIM_SWITCH, rw := 0xFFFFFFFF, reset := 0x3E80A0A},
  {base := Reg.TIM_SYNC, rw := 0x1FF, rsv := 0xFFFFFE00},
  {base := Reg.TIM_PPS, rw := 0x3FF, rsv := 0xFFFFFC00, reset := 0x64},
  {base := Reg.TIM_DOM_CFG, stride := 0x20, count := 2, rw := 0xC000FFFF, rsv := 0x3FFF0000},
  {base := Reg.TIM_DOM_SERVO, stride := 0x20, count := 2, rw := 0xFFFFFFFF, reset := 0x80000800},
  {base := Reg.TIM_DOM_SHIFT, stride := 0x20, count := 2, rw := 0x1F1FFFFF, rsv := 0xE0E00000, reset := 0x161603E8},
  {base := Reg.TIM_DOM_THR, stride := 0x20, count := 2, rw := 0xFFFFFFFF, reset := 0x6403E8},
  {base := Reg.TIM_DOM_STAT, stride := 0x20, count := 2, rsv := 0xFFF0000},
  {base := Reg.TIM_DOM_OFS, stride := 0x20, count := 2},
  {base := Reg.TIM_DOM_ADJ, stride := 0x20, count := 2},
  {base := Reg.TIM_DOM_MPD, stride := 0x20, count := 2},
  {base := Reg.TIM_PPSIN_NS},
  {base := Reg.TIM_PPSIN_SEC},
  {base := Reg.TIM_TSQ_OVF_CNT, counter := true},
  {base := Reg.TIM_TC_CNT, counter := true},
  {base := Reg.TIM_STEP_CNT, counter := true},
  {base := Reg.TIM_LATE_CNT, counter := true},
  {base := Reg.TIM_TSQ_DROP, stride := 0x4, count := 4}]

/-- The LRG block. -/
def lrgRegs : List RegInfo := [
  {base := Reg.LRG_CTL, rw := 0x1B, rsv := 0xFFFFFFE4, reset := 0x11},
  {base := Reg.LRG_MAC_LO, rw := 0xFFFFFFFF, kind := .nv},
  {base := Reg.LRG_MAC_HI, rw := 0xFFFF, rsv := 0xFFFF0000, kind := .nv},
  {base := Reg.LRG_BID, rw := 0xFF, rsv := 0xFFFFFF00, reset := 0x40},
  {base := Reg.LRG_THT, rw := 0xFFFF, rsv := 0xFFFF0000, reset := 0x4},
  {base := Reg.LRG_TRT, rw := 0xFFFF, rsv := 0xFFFF0000, reset := 0x7D0},
  {base := Reg.LRG_LINK, rw := 0xFFFF, rsv := 0xFFFF0000, reset := 0x64},
  {base := Reg.LRG_STAT, rsv := 0x1F0000},
  {base := Reg.LRG_CAUSE, w1c := 0x3FFF, rsv := 0xF800C000},
  {base := Reg.LRG_MASK, rw := 0x3FFF, rsv := 0xFFFFC000, reset := 0x613},
  {base := Reg.LRG_PAUSE, rw := 0xFFFFFFFF, reset := 0x10006020},
  {base := Reg.LRG_SHAPE_OVH, rw := 0xFF, rsv := 0xFFFFFF00, reset := 0x14},
  {base := Reg.LRG_SHAPE, stride := 0x4, count := 8, rw := 0xFFFFFFFF, reset := 0x40},
  {base := Reg.LRG_RX_BASE_LO, stride := 0x20, count := 4, rw := 0xFFFFFFC0, rsv := 0x3F},
  {base := Reg.LRG_RX_BASE_HI, stride := 0x20, count := 4, rw := 0xFFFF, rsv := 0xFFFF0000},
  {base := Reg.LRG_RX_CFG, stride := 0x20, count := 4, rw := 0xFFFFF03F, rsv := 0xFC0},
  {base := Reg.LRG_RX_HEAD, stride := 0x20, count := 4, rw := 0xFFFF, rsv := 0xFFFF0000},
  {base := Reg.LRG_RX_TAIL, stride := 0x20, count := 4, rsv := 0xFFFF0000},
  {base := Reg.LRG_TX_CNT, counter := true},
  {base := Reg.LRG_RX_CNT, counter := true},
  {base := Reg.LRG_FWD_CNT, counter := true},
  {base := Reg.LRG_STRIP_CNT, counter := true},
  {base := Reg.LRG_ORPHAN_CNT, counter := true},
  {base := Reg.LRG_STRANGER_CNT, counter := true},
  {base := Reg.LRG_NOBUF_CNT, counter := true},
  {base := Reg.LRG_RXDROP_CNT, counter := true},
  {base := Reg.LRG_CLAIM_CNT, counter := true},
  {base := Reg.LRG_WRAP_CNT, counter := true},
  {base := Reg.LRG_SEC_CNT, counter := true},
  {base := Reg.LRG_CPL_DROP_CNT, counter := true},
  {base := Reg.LRG_CMD_BAD_CNT, counter := true},
  {base := Reg.LRG_HOPFULL_CNT, counter := true},
  {base := Reg.LRG_PAUSE_RX_CNT, counter := true},
  {base := Reg.LRG_PAUSE_TX_CNT, counter := true}]

/-- The HIF block. -/
def hifRegs : List RegInfo := [
  {base := Reg.HIF_LINK, rsv := 0x7FFFC0},
  {base := Reg.HIF_CAUSE, w1c := 0x3F, rsv := 0xFFFCFFC0},
  {base := Reg.HIF_MASK, rw := 0x3F, rsv := 0xFFFFFFC0, reset := 0x7},
  {base := Reg.HIF_FLR_CNT, counter := true},
  {base := Reg.HIF_VEC_BAD_CNT, counter := true},
  {base := Reg.HIF_CPL_TO_CNT, counter := true}]

/-- The DMA block. -/
def dmaRegs : List RegInfo := [
  {base := Reg.DMA_CTL, rw := 0x1FFFFFFF, rsv := 0xE0000000, reset := 0x10003E8},
  {base := Reg.DMA_PM_CTL, rw := 0x1, rsv := 0xFFFFFFFE, reset := 0x1, kind := .guarded},
  {base := Reg.DMA_STAT},
  {base := Reg.DMA_CAUSE, w1c := 0xF, rsv := 0xFFFEFFF0},
  {base := Reg.DMA_MASK, rw := 0xF, rsv := 0xFFFFFFF0, reset := 0xB},
  {base := Reg.DMA_HALT0},
  {base := Reg.DMA_HALT1},
  {base := Reg.DMA_FAULT_CNT, counter := true},
  {base := Reg.DMA_ABORT_CNT, counter := true},
  {base := Reg.DMA_PREEMPT_CNT, counter := true},
  {base := Reg.DMA_TC_MISS_CNT, counter := true},
  {base := Reg.DMA_TC_FLUSH_CNT, counter := true}]

/-- The CMD block. -/
def cmdRegs : List RegInfo := [
  {base := Reg.CMD_CTL, rw := 0xF, rsv := 0xFFFFFFF0, reset := 0x7},
  {base := Reg.CMD_STAT, rsv := 0x1F},
  {base := Reg.CMD_CAUSE, w1c := 0xFF, rsv := 0xFF00FF00},
  {base := Reg.CMD_MASK, rw := 0xFF, rsv := 0xFFFFFF00, reset := 0x10},
  {base := Reg.CMD_DOM_EN0, rw := 0xFFFFFFFE, reset := 0x1, kind := .guarded},
  {base := Reg.CMD_DOM_EN1, rw := 0xFFFFFFFF, kind := .guarded},
  {base := Reg.CMD_OWN_LOCK, rw := 0x1, rsv := 0xFFFFFFFE, kind := .guarded},
  {base := Reg.CMD_DB_CNT, counter := true},
  {base := Reg.CMD_DB_BAD_CNT, counter := true},
  {base := Reg.CMD_ACCEPT_CNT, counter := true},
  {base := Reg.CMD_COMPL_CNT, counter := true},
  {base := Reg.CMD_POLICED_CNT, counter := true},
  {base := Reg.CMD_HDR_ERR_CNT, counter := true},
  {base := Reg.CMD_CQ_DROP_CNT, counter := true},
  {base := Reg.CMD_TAG_HWM, rsv := 0xFFFFE000, counter := true}]

/-- The XACT block. -/
def xactRegs : List RegInfo := [
  {base := Reg.XACT_CTL, rw := 0xFFFFFFFF, reset := 0xFFF000A},
  {base := Reg.XACT_THR, rw := 0xFFFF, rsv := 0xFFFF0000, reset := 0xF060},
  {base := Reg.XACT_STAT, rsv := 0x7F},
  {base := Reg.XACT_CAUSE, w1c := 0xFF, rsv := 0xFF00FF00},
  {base := Reg.XACT_MASK, rw := 0xFF, rsv := 0xFFFFFF00, reset := 0x82},
  {base := Reg.XACT_COMMIT_CNT, counter := true},
  {base := Reg.XACT_ENTRY_CNT, counter := true},
  {base := Reg.XACT_PREFAIL_CNT, counter := true},
  {base := Reg.XACT_ABORT_CNT, counter := true},
  {base := Reg.XACT_PARTIAL_CNT, counter := true},
  {base := Reg.XACT_MAP_DEFER_CNT, counter := true},
  {base := Reg.XACT_PORTS0, rsv := 0xE000E000},
  {base := Reg.XACT_PORTS1, rsv := 0xE000E000}]

/-- The SCH block. -/
def schRegs : List RegInfo := [
  {base := Reg.SCH_CTL, rw := 0x1FFF03, rsv := 0xFFE000FC, reset := 0x30102},
  {base := Reg.SCH_CLK_INT, rw := 0xFFFF, rsv := 0xFFFF0000, reset := 0x3E8},
  {base := Reg.SCH_CLK_FRAC, rw := 0xFFFFFF, rsv := 0xFF000000},
  {base := Reg.SCH_STAT, rsv := 0xFC00},
  {base := Reg.SCH_CAUSE, w1c := 0xFF, rsv := 0xFF00FF00},
  {base := Reg.SCH_MASK, rw := 0xFF, rsv := 0xFFFFFF00, reset := 0x3B},
  {base := Reg.SCH_HFLAG, w1c := 0xFFFFFFFF},
  {base := Reg.SCH_HFLAG_SET, w1s := 0xFFFFFFFF},
  {base := Reg.SCH_POS},
  {base := Reg.SCH_FLUME_PI, rw := 0xFFFFFFFF},
  {base := Reg.SCH_FLUME_CI},
  {base := Reg.SCH_WIN, rsv := 0xFE00},
  {base := Reg.SCH_BOUNDARY_CNT, counter := true},
  {base := Reg.SCH_UNDERRUN_CNT, counter := true},
  {base := Reg.SCH_SKIP_CNT, counter := true},
  {base := Reg.SCH_SLIP, counter := true},
  {base := Reg.SCH_LEARN_CNT, counter := true},
  {base := Reg.SCH_REPAIR_CNT, counter := true}]

/-- The SYN block. -/
def synRegs : List RegInfo := [
  {base := Reg.SYN_CTL, rw := 0x100FF, rsv := 0xFFFEFF00, reset := 0x10008},
  {base := Reg.SYN_STAT, rsv := 0x3FFFFE00},
  {base := Reg.SYN_CAUSE, w1c := 0xFF, rsv := 0xFFF0FF00},
  {base := Reg.SYN_MASK, rw := 0xFF, rsv := 0xFFFFFF00, reset := 0xDE},
  {base := Reg.SYN_RESIDUE_CNT, counter := true},
  {base := Reg.SYN_FREEZE_CNT, counter := true},
  {base := Reg.SYN_AIM_CRC_CNT, counter := true},
  {base := Reg.SYN_COARSE_CNT, counter := true},
  {base := Reg.SYN_FROZEN, stride := 0x4, count := 8},
  {base := Reg.SYN_SURVEY_STAT, rsv := 0x1FFFF000},
  {base := Reg.SYN_SURVEY_GEN, rsv := 0xFFFF8000},
  {base := Reg.SYN_SURVEY_ACC, counter := true},
  {base := Reg.SYN_SURVEY_REJ, counter := true},
  {base := Reg.SYN_CAL_STAT, rsv := 0x7FFFFFF},
  {base := Reg.SYN_REGION, stride := 0x4, count := 64, rsv := 0xF0000}]

/-- The BKP block. -/
def bkpRegs : List RegInfo := [
  {base := Reg.BKP_SPAN, rw := 0x3, rsv := 0xFFFFFFFC, kind := .guarded},
  {base := Reg.BKP_BRAKE_EN, rw := 0x1, rsv := 0xFFFFFFFE, reset := 0x1, kind := .guarded},
  {base := Reg.BKP_BRAKE_STAT, rsv := 0x1FFFFF00, reset := 0xC0000020},
  {base := Reg.BKP_BRAKE_CAUSE, w1c := 0x7FF, rsv := 0xFFFFF800, reset := 0x20},
  {base := Reg.BKP_BRAKE_CNT, counter := true},
  {base := Reg.BKP_SLUICE_CNT, counter := true},
  {base := Reg.BKP_SLUICE_MISS_CNT, counter := true},
  {base := Reg.BKP_SHORT_CNT, counter := true},
  {base := Reg.BKP_MARCH_CTL, rw := 0xFFCFF1, rsv := 0xFF00300E, reset := 0x8C010},
  {base := Reg.BKP_MARCH_STAT, rsv := 0xFFFFFFF},
  {base := Reg.BKP_MARCH_FAIL_CNT, counter := true},
  {base := Reg.BKP_MARCH_FF0, rsv := 0x3},
  {base := Reg.BKP_MARCH_FF1, rsv := 0xFC0000FF}]

/-- The RFS block. -/
def rfsRegs : List RegInfo := [
  {base := Reg.RFS_CTL, rw := 0x303FF, rsv := 0xFFFCFC00, reset := 0x10200},
  {base := Reg.RFS_OVR, rw := 0x1F, rsv := 0xFFFFFFE0, kind := .guarded},
  {base := Reg.RFS_STAT, rsv := 0xFFC000},
  {base := Reg.RFS_CAUSE, w1c := 0x3FFF, rsv := 0xE000C000},
  {base := Reg.RFS_MASK, rw := 0x3FFF, rsv := 0xFFFFC000, reset := 0x57B},
  {base := Reg.RFS_ROW_CNT, counter := true},
  {base := Reg.RFS_GUARD_CNT, counter := true},
  {base := Reg.RFS_DEADLINE_CNT, counter := true},
  {base := Reg.RFS_FS_CORR_CNT, counter := true},
  {base := Reg.RFS_FS_UNCORR_CNT, counter := true},
  {base := Reg.RFS_TAKEOVER_CNT, counter := true},
  {base := Reg.RFS_NONOWNER_CNT, counter := true},
  {base := Reg.RFS_TOKEN_SCRUB_CNT, counter := true},
  {base := Reg.RFS_PEAK_AGE, rsv := 0xFE00F000},
  {base := Reg.RFS_DRILL_STAT, rsv := 0x7FF8FC00},
  {base := Reg.RFS_HOLD_STAT, rsv := 0xFF00000},
  {base := Reg.RFS_HOLD_DT, rsv := 0xFFFF0000}]

/-- The SNS block. -/
def snsRegs : List RegInfo := [
  {base := Reg.SNS_CTL, rw := 0x11, rsv := 0xFFFFFFEE, reset := 0x10},
  {base := Reg.SNS_STAT, rsv := 0xFFFFE00},
  {base := Reg.SNS_CAUSE, w1c := 0xFF, rsv := 0xFF00FF00},
  {base := Reg.SNS_MASK, rw := 0xFF, rsv := 0xFFFFFF00, reset := 0x81},
  {base := Reg.SNS_FRAME_CNT, counter := true},
  {base := Reg.SNS_SYNC_EARLY_CNT, counter := true},
  {base := Reg.SNS_OVR_CNT, counter := true},
  {base := Reg.SNS_SUSPECT_CNT, counter := true},
  {base := Reg.SNS_OS_CNT, counter := true},
  {base := Reg.SNS_OS_CTL, rw := 0xE0007FFF, rsv := 0x1FFF8000},
  {base := Reg.SNS_OS_STAT, rsv := 0x1FFC000},
  {base := Reg.SNS_OS_NS},
  {base := Reg.SNS_REFSEL, stride := 0x4, count := 16, rw := 0xFFFFFFFF},
  {base := Reg.SNS_REFSET, stride := 0x4, count := 8},
  {base := Reg.SNS_LOSS, stride := 0x4, count := 8}]

/-- The LOOP block. -/
def loopRegs : List RegInfo := [
  {base := Reg.LOOP_CTL, rw := 0x7, rsv := 0xFFFFFFF8, reset := 0x7},
  {base := Reg.LOOP_STAT, rsv := 0x20},
  {base := Reg.LOOP_CAUSE, w1c := 0xFF, rsv := 0xFFF0FF00},
  {base := Reg.LOOP_MASK, rw := 0xFF, rsv := 0xFFFFFF00, reset := 0x5},
  {base := Reg.LOOP_DAMSEL, rw := 0x77, rsv := 0xFFFFFF88, reset := 0x32},
  {base := Reg.LOOP_LOCK_CNT, counter := true},
  {base := Reg.LOOP_LOCKLOST_CNT, counter := true},
  {base := Reg.LOOP_ACQ_TO_CNT, counter := true},
  {base := Reg.LOOP_MISS_CNT, counter := true},
  {base := Reg.LOOP_SAT_CNT, counter := true},
  {base := Reg.LOOP_FT_SKIP_CNT, counter := true},
  {base := Reg.LOOP_CAP_STAT, stride := 0x4, count := 4, rsv := 0xE000}]

/-- The NVR block. -/
def nvrRegs : List RegInfo := [
  {base := Reg.NVR_STAT, rsv := 0x3FFF8080},
  {base := Reg.NVR_CAUSE, w1c := 0x1F, rsv := 0xFFF8FFE0},
  {base := Reg.NVR_MASK, rw := 0x1F, rsv := 0xFFFFFFE0, reset := 0x1A},
  {base := Reg.NVR_LOCK, rw := 0x1, rsv := 0xFFFFFFFE, kind := .guarded},
  {base := Reg.NVR_WEAR_SEL, rw := 0xFFFF, rsv := 0xFFFF0000},
  {base := Reg.NVR_WEAR, rsv := 0x1FFE0000},
  {base := Reg.NVR_SCRATCH, stride := 0x4, count := 61, rw := 0xFFFFFFFF, kind := .nv}]

/-- The MBX block. -/
def mbxRegs : List RegInfo := [
  {base := Reg.MBX_SEL, rw := 0xFFFF, rsv := 0xFFFF0000, kind := .mbx},
  {base := Reg.MBX_IDX, rw := 0xFFFFFFFF, kind := .mbx},
  {base := Reg.MBX_CTL, rw := 0x80000001, rsv := 0x7FFFFFFE, kind := .mbx},
  {base := Reg.MBX_STAT, rsv := 0x3F0F0000, kind := .mbx},
  {base := Reg.MBX_DATA, stride := 0x4, count := 8, rw := 0xFFFFFFFF, kind := .mbx}]

/-- The TBL block. -/
def tblRegs : List RegInfo := [
  {base := Reg.REG_CAUSE, w1c := 0x3F, rsv := 0xFFC0FFC0},
  {base := Reg.REG_MASK, rw := 0x3F, rsv := 0xFFFFFFC0, reset := 0x8},
  {base := Reg.REG_GUARD_LAST, rsv := 0xFF0000},
  {base := Reg.REG_SCRUB_LAST, rsv := 0xFFFF0000},
  {base := Reg.REG_GUARD_CNT, counter := true},
  {base := Reg.REG_LOCK_CNT, counter := true},
  {base := Reg.REG_SCRUB_CNT, counter := true},
  {base := Reg.REG_RSV_CNT, counter := true},
  {base := Reg.SNAP_CTL, rw := 0x1, rsv := 0xFFFFFFFE},
  {base := Reg.SNAP_STAT, rsv := 0x3FFFFE00},
  {base := Reg.SNAP_GEN}]

/-- The TILE block. -/
def tileRegs : List RegInfo := [
  {base := Reg.TILE_STAT, stride := 0x40, count := 256, rsv := 0xFE0000, reset := 0x30000000},
  {base := Reg.TILE_CAUSE, stride := 0x40, count := 256, w1c := 0x3FF, rsv := 0xFC00FC00},
  {base := Reg.TILE_MASK, stride := 0x40, count := 256, rw := 0x3FF, rsv := 0xFFFFFC00, reset := 0x3FF},
  {base := Reg.TILE_TEMP, stride := 0x40, count := 256, rsv := 0xFFFF0000},
  {base := Reg.TILE_SHORT, stride := 0x40, count := 256, rsv := 0xF0000000},
  {base := Reg.TILE_CTL, stride := 0x40, count := 256, rw := 0x3, rsv := 0xFFFFFFFC, kind := .guarded},
  {base := Reg.TILE_AGE, stride := 0x40, count := 256, rsv := 0xFC00FC00}]

/-- The registers of the block an offset lies in. -/
def blockOf (off : Nat) : List RegInfo :=
  if off < 0x400 then sysRegs else
  if off < 0x600 then pwrRegs else
  if off < 0x800 then thmRegs else
  if off < 0xC00 then fltRegs else
  if off < 0x1000 then atnRegs else
  if off < 0x1200 then timRegs else
  if off < 0x1800 then [] else if off < 0x1A00 then lrgRegs else
  if off < 0x2000 then [] else if off < 0x2200 then hifRegs else
  if off < 0x2400 then dmaRegs else
  if off < 0x2800 then [] else if off < 0x2A00 then cmdRegs else
  if off < 0x3000 then [] else if off < 0x3200 then xactRegs else
  if off < 0x3400 then schRegs else
  if off < 0x3800 then [] else if off < 0x3A00 then synRegs else
  if off < 0x3C00 then bkpRegs else
  if off < 0x3E00 then rfsRegs else
  if off < 0x4000 then [] else if off < 0x4200 then snsRegs else
  if off < 0x4400 then loopRegs else
  if off < 0x4800 then [] else if off < 0x4A00 then nvrRegs else
  if off < 0x5000 then [] else if off < 0x5100 then mbxRegs else
  if off < 0x5200 then tblRegs else
  if off < 0x8000 then [] else if off < 0xC000 then tileRegs else
  []

/-- Whether a register description covers an offset. -/
def RegInfo.covers (r : RegInfo) (off : Nat) : Bool :=
  decide (r.base ≤ off) && decide ((off - r.base) % r.stride = 0) && decide ((off - r.base) / r.stride < r.count)

/-- The register at an offset, if the offset is defined (R327). -/
def regInfo (off : Nat) : Option RegInfo := (blockOf off).find? (·.covers off)

/-- The reset value of the register at an offset; undefined offsets read 0 (R327). The MAC address is the factory's. -/
def resetVal (off : Nat) : Word :=
  if off = Reg.LRG_MAC_LO then wd Config.factoryMac.toNat
  else if off = Reg.LRG_MAC_HI then wd (Config.factoryMac.toNat / 4294967296)
  else
  match regInfo off with
  | some r => wd r.reset
  | none => 0

/-- Whether an offset holds a counter (R321, R325). -/
def isCounter (off : Nat) : Bool :=
  match regInfo off with
  | some r => r.counter
  | none => false

end Sys2Proof.Machine
end

