-- ==== Sys2Proof/Machine/Table.lean ====
section
/-! DEFINITION. Sparse tables by key in one canonical form: keys strictly rising, no entry equal to what an unlisted key
reads as. `d` gives that default by key. -/

namespace Sys2Proof.Machine

/-- The value at key `k`. -/
def Tbl.get {α : Type} (d : Nat → α) : Tbl α → Nat → α
  | [], k => d k
  | (k', v) :: t, k => if k' = k then v else Tbl.get d t k

/-- Insert an entry at its place, replacing one with the same key. -/
def Tbl.ins {α : Type} : Tbl α → Nat → α → Tbl α
  | [], k, v => [(k, v)]
  | (k', v') :: t, k, v =>
    if k < k' then (k, v) :: (k', v') :: t
    else if k = k' then (k, v) :: t
    else (k', v') :: Tbl.ins t k v

/-- Remove the entry of a key. -/
def Tbl.del {α : Type} (t : Tbl α) (k : Nat) : Tbl α := t.filter (fun p => p.1 != k)

/-- Write `v` at key `k`: writing the default removes the entry. -/
def Tbl.put {α : Type} [DecidableEq α] (d : Nat → α) (t : Tbl α) (k : Nat) (v : α) : Tbl α :=
  if v = d k then Tbl.del t k else Tbl.ins t k v

/-- Change the value at key `k`. -/
def Tbl.upd {α : Type} [DecidableEq α] (d : Nat → α) (t : Tbl α) (k : Nat) (f : α → α) : Tbl α :=
  Tbl.put d t k (f (Tbl.get d t k))

/-- Apply `f` to every listed entry; entries that become the default go. -/
def Tbl.mapAll {α : Type} [DecidableEq α] (d : Nat → α) (f : Nat → α → α) (t : Tbl α) : Tbl α :=
  t.filterMap (fun p => let v := f p.1 p.2; if v = d p.1 then none else some (p.1, v))

/-- Every key is above `k`. -/
def Tbl.above {α : Type} (k : Nat) (t : Tbl α) : Bool := t.all (fun p => decide (k < p.1))

/-- Keys strictly rising. -/
def Tbl.rising {α : Type} : Tbl α → Bool
  | [] => true
  | (k, _) :: t => Tbl.above k t && Tbl.rising t

/-- The canonical form. -/
def Tbl.wf {α : Type} [DecidableEq α] (d : Nat → α) (t : Tbl α) : Bool :=
  Tbl.rising t && t.all (fun p => decide (p.2 ≠ d p.1))

/-- The keys `a .. a+n-1`. -/
def span (a n : Nat) : List Nat := (List.range n).map (· + a)

/-- The first index of a list whose element satisfies `p`. -/
def firstIdx {α : Type} (p : α → Bool) (l : List α) : Option Nat := l.findIdx? p

/-- Replace element `i` of a list. -/
def setAt {α : Type} (l : List α) (i : Nat) (v : α) : List α := l.set i v

/-- Insert into a list kept sorted by `key`, after equal keys. -/
def insertBy {α : Type} (key : α → Nat) (x : α) : List α → List α
  | [] => [x]
  | y :: t => if key x < key y then x :: y :: t else y :: insertBy key x t

/-- Stable sort by a key. -/
def sortBy {α : Type} (key : α → Nat) (l : List α) : List α := l.foldl (fun acc x => insertBy key x acc) []

/-- Drop repeats, keeping the first. -/
def dedup {α : Type} [DecidableEq α] : List α → List α
  | [] => []
  | x :: t => x :: (dedup t).filter (· ≠ x)

end Sys2Proof.Machine
end

