-- ==== Sys2Proof/Machine/State.lean ====
section
/-! DEFINITION. The state of the engine as plain data, the state right after power-on reset, and the reasons a step can stop.
The rules of spec/ that name each piece stand beside it. `State` is the queue of waiting commands and the engine itself, so
that no command can touch the queue. -/

namespace Sys2Proof.Machine

/-- Faults: the spec describes no event that stops this block; every command has an effect (log 2). Uninhabited. -/
inductive Fault where
deriving DecidableEq, Repr

/-- Refusals. -/
inductive Refusal where
  /-- Raised by an arm of `exec` whose command has no meaning yet (safe: the run stops); no arm raises it now. -/
  | notModelled (mnemonic : String)
deriving DecidableEq, Repr

/-- The twelve modes (R367). -/
inductive Mode where
  | off | boot | bypass | calibrate | service | schedule | hold | sleep | test | safe | cooldown | lockout
deriving DecidableEq, Repr

/-- What one step sends to the outside: signals, frames and replies. -/
inductive OutEv where
  | msix (fn : Nat) (vector : Nat) (addr data : Nat)   -- an MSI-X message of a function (R220, R245, R345)
  | frame (onB : Bool) (f : Frame)            -- a frame put on a ring or link (R269, R279)
  | smb (bytes : List Byte)                   -- SMBus data returned (R398)
  | smbNack                                   -- SMBus NACK (R398)
  | tdo (n : Nat)                             -- data shifted out of the TAP (R400)
deriving DecidableEq, Repr

-- registers, mailbox, snapshot -------------------------------------------------------------------------------------

/-- One mailbox (R319, R320). -/
structure Mbx where
  sel : Nat := 0
  idx : Nat := 0
  write : Bool := false
  selRsv : Nat := 0            -- reserved bits of MBX_SEL, as TEST has set them (R314)
  ctlRsv : Nat := 0            -- reserved bits of MBX_CTL
  data : List Word := []       -- words written, then words read
  valid : Bool := false
  busy : Bool := false
  err : Nat := 0
  gen : Nat := 0
deriving DecidableEq, Repr

/-- An armed guard latch (R310): word, main address, time of arming. -/
structure Latch where
  word : Word
  main : Nat
  at_ : Nat
deriving DecidableEq, Repr

/-- QUEUE view 1 of a hopper (R226). -/
structure View1 where
  depthLast : Nat := 0
  depthMax : Nat := 0
  ageLast : Nat := 0
  ageMax : Nat := 0
  accepted : Nat := 0
  policed : Nat := 0
  completed : Nat := 0
  ageLb : Bool := false
  samples : Nat := 0
deriving DecidableEq, Repr

/-- One complete generation of shadows (R322, R323). -/
structure Shadows where
  gen : Nat := 0
  counters : Tbl Word := []
  views : Tbl View1 := []
  epoch : Nat := 0
  time : Nat := 0              -- disciplined time of the pulse
  missed : Nat := 0
  missedIslands : List Nat := []
deriving DecidableEq, Repr

/-- The snapshot unit (R322, R324, R325). -/
structure SnapSt where
  cur : Shadows := {}
  latched : Option Shadows := none       -- latched, not yet readable
  nowWait : List (Option Cx) := []       -- NOW requests whose pulse has not been sent; `none` is SNAP_CTL.GO
  nowAt : Nat := 0                       -- tick of the first of them: the next one after it was asked for or had to wait (R322)
  serving : List (Option Cx) := []       -- requests the latched generation answers
  atPend : Option (Cx × Nat) := none     -- the pending AT and its time
  atTick : Nat := 0                      -- its tick: the first at or after its time, later where it has been passed over (R303, R324)
  copyTo : Nat := 0                      -- clk at which a COUNTERS copy ends (R325)
deriving DecidableEq, Repr

/-- Non-volatile registers (R316, R317). -/
structure NvrSt where
  stored : Tbl Word := []                -- last completed programming
  wear : Tbl Nat := []
  busy : Option (Nat × Word) := none     -- register and word being programmed
  busyAt : Nat := 0                      -- clk at the start of that programming
deriving DecidableEq, Repr

/-- One record of the history queue (R337). -/
structure Rec where
  wire : Bool := false
  timeValid : Bool := false
  ns : Nat := 0
  sec : Nat := 0
  block : Nat := 0
  inst : Nat := 0
  code : Nat := 0
  rep : Nat := 0
  cls : Nat := 0
  detail : Nat := 0
  clk : Nat := 0                         -- when it was entered, for R338
deriving DecidableEq, Repr

/-- The park of a MAJOR event's scope: it takes order tags like a PORT_PARK (R334). -/
structure MajorPark where
  ports : List Nat
  order : Nat                            -- commands accepted before it
  job : Option Nat := none               -- its sluice, once nothing accepted before it holds the ports
deriving DecidableEq, Repr

/-- The fault collector and the attention tree (R329-R348). -/
structure FltSt where
  hist : List Rec := []                  -- newest first, at most 32
  histWords : List Word := []            -- words latched by a read of FLT_HIST0
  graveValid : Bool := false
  graveBusy : Bool := false
  graveCount : Nat := 0
  graveRec : Rec := {}
  wires : List (Nat × Nat × Nat) := []   -- reporters in wire fault: block, instance, code
  runs : Tbl Nat := []                   -- OVERPOWER run count per port (R403)
  irst : Option Nat := none              -- island reset in progress (R348)
  parks : List MajorPark := []           -- MAJOR parks whose sluice has not opened, oldest first (R334)
  holdUntil : Nat := 0                   -- vector 0 not signalled again before this (R345)
  risePend : Bool := false
  smbAlert : Bool := false               -- SMB_ALERT_N driven low (R344, R399)
deriving DecidableEq, Repr

-- modes, boot, firmware --------------------------------------------------------------------------------------------

/-- What a SET_MODE in progress waits for (R370-R373): `sleepPost`, the posting of its own completion. -/
inductive ModeWait where
  | entrySluice | spanEnd | sleepBrake | sleepPost
deriving DecidableEq, Repr

/-- A SET_MODE in progress (R372). -/
structure SetModeJob where
  cx : Cx
  target : Mode
  prev : Mode
  wait : ModeWait
deriving DecidableEq, Repr

/-- What started the BOOT in progress (R357, R369). -/
inductive BootFrom where
  | por | rst | sleep | cooldown
deriving DecidableEq, Repr

/-- An image in flash, as its header and its signature stand (R375): the byte layout of the header is not given. -/
structure Image where
  version : Word
  format : Nat := 0
  length : Nat := 0                      -- bytes
  security : Nat := 0                    -- security version
  keyOk : Bool := true                   -- the hash of its key is that of the fuses
  sigOk : Bool := true                   -- its signature verifies
deriving DecidableEq, Repr

/-- The boot ROM accepts the image; `least`: the fuses' minimum security version (R375). -/
def Image.accepted (least : Nat) (i : Image) : Bool :=
  i.keyOk && i.sigOk && decide (least ≤ i.security) && decide (i.length ≤ 16777216)

/-- A BIST_RUN in progress (R380): its suites, the clk at which the last is over, and the tile of the first failing read of its march
run. -/
structure BistJob where
  cx : Cx
  suites : Nat
  endAt : Nat
  march : Option Nat := none
deriving DecidableEq, Repr

/-- Firmware restart of FW_ACTIVATE with WHEN 1 (R378). -/
structure FwRestart where
  cx : Cx
  inHold : Bool
  oldSlot : Nat
deriving DecidableEq, Repr

/-- Modes, BOOT and firmware (R367-R380). -/
structure SysSt where
  mode : Mode := .boot
  prev : Mode := .off
  bandCB : Bool := false                 -- fuse (R2); log 5
  bootDone : Bool := false
  setMode : Option SetModeJob := none
  zeroService : Bool := false
  stage : Nat := 0                       -- R374: 0..8, 15 FAILED
  err : Nat := 0
  bootAt : Nat := 0                      -- clk at t+0
  gateDone : Bool := false               -- the thermal gate has been checked in this BOOT (R357)
  gateAt : Option Nat := none            -- thermal gate: waiting, since when both thresholds hold (R357)
  gateWaiting : Bool := false
  gateNs : Nat := 0                      -- time spent at the gate
  bootMs : Nat := 0
  bootEnd : Nat := 0                     -- clk at the end of the last BOOT
  severeSeen : Bool := false             -- a SEVERE event during this BOOT or the COOLDOWN before it
  from_ : BootFrom := .por
  slots : List (Option Image) := [some { version := 0x02040000#32 }, none]   -- flash slots 0, 1; log 5
  leastSecurity : Nat := 0               -- minimum security version, a fuse (R375); log 5
  active : Nat := 0                      -- active-slot marker
  running : Word := 0x02040000#32        -- running firmware version; log 5
  staged : Option Word := none           -- R377
  fwStage : Option (Cx × List Byte) := none   -- FW_STAGE whose image has been copied and waits for its check
  fwBusy : Bool := false                 -- a FW_STAGE runs
  fwRestart : Option FwRestart := none
  bist : Option BistJob := none          -- BIST_RUN in progress
  leaving : Option (Cx × Nat) := none    -- FAULT_CLEAR that left SAFE, with its clk: it completes when the cycle is over (R336)
  uptimeOn : Bool := false               -- a BOOT has ended
deriving DecidableEq, Repr

-- thermal, power ----------------------------------------------------------------------------------------------------

/-- One temperature sensor (R350-R354). Readings in 1/16 °C. -/
structure Sensor where
  reading : Int := 0
  failed : Bool := false
  good : Nat := 0                        -- consecutive plausible readings while failed
  hist : List (Nat × Int) := []          -- recent readings with their clk, newest first (R354)
  rate : Int := 0                        -- 1/16 °C/s
  over2 : Option Nat := none             -- clk since which every rate exceeded 2 °C/s
  over10 : Nat := 0                      -- consecutive measurements over 10 °C/s
  below2 : Option Nat := none            -- clk since which the rate stays below 2 °C/s, while RISE is live
  below10 : Option Nat := none
  riseLive : Bool := false
  fastLive : Bool := false
deriving DecidableEq, Repr

/-- The thermal governor (R350-R358). -/
structure ThmSt where
  sensors : Tbl Sensor := []
  interval : List Nat := [0, 0, 0, 0, 0]       -- per group: 0 10 ms, 1 1 ms, 2 100 µs
  lastAt : List (Option Nat) := [none, none, none, none, none]
  warnLive : List Bool := [false, false, false, false, false]
  shutOver : List Bool := [false, false]        -- TILE, CTRL: the last maximum was at the shutdown limit (R355)
  coolPend : Option Nat := none                 -- a shutdown's t+0, until COOLDOWN is entered (R355)
  coolAt : Nat := 0                             -- clk at which COOLDOWN began
  coolOk : Option Nat := none                   -- clk since which the restart thresholds hold (R356)
  restore : Tbl Nat := []                       -- restore image: partner of a port (R358)
  restoreTries : Nat := 0
  restoring : Option Nat := none                -- id of the restore transaction
deriving DecidableEq, Repr

/-- The power monitor and the references (R359-R365). Flags of the supplies: log 4. -/
structure PwrSt where
  feedA : Bool := true
  feedB : Bool := true
  auxA : Bool := true
  auxB : Bool := true
  refA : Bool := false
  refB : Bool := false
  refAAt : Option Nat := none             -- clk since which it is good
  refBAt : Option Nat := none
  lostA : Bool := false                   -- lost since seen good or since POR
  lostB : Bool := false
  rails : Bool := false                   -- main regulators on
  overA : Bool := false                   -- feed A carries more than 25 A (R359)
  overB : Bool := false
  railWarn : Bool := false                -- a rail has been outside ±5 %; whether it still is, is free (log 1)
  collapsed : Bool := false               -- rails collapsed with both feeds low (R360)
  tbB : Bool := false                     -- active timebase: B (R302, R364)
deriving DecidableEq, Repr

-- time ----------------------------------------------------------------------------------------------------------------

/-- The latest Sync of a slot, with its Follow_Up (R293, R294). Times in 2⁻¹⁶ ns. -/
structure SyncRec where
  seq : Nat
  t1 : Int
  cs : Int
  t2 : Int
  complete : Bool                         -- one-step, or its Follow_Up has come
deriving DecidableEq, Repr

/-- The time slots' states (R295). -/
inductive SlotState where
  | disabled | listening | acquiring | locked | holdover
deriving DecidableEq, Repr

/-- One time slot (R293-R296). Clock in 2⁻¹⁶ ns, adj and i in 1/256 ppb. -/
structure TSlot where
  state : SlotState := .disabled
  clock : Int := 0
  acc : Int := 0                          -- remainder of the clock's increment, 10⁻⁹ of 2⁻¹⁶ ns
  adj : Int := 0
  i : Int := 0
  lockRun : Nat := 0
  overRun : Nat := 0                      -- consecutive exchanges beyond 4·LOCK_THR
  pathHoldTo : Option Nat := none         -- clk until which measurement is suspended
  hops : Option Nat := none
  sync : Option SyncRec := none
  lastSync : Nat := 0                     -- clk of the last Sync
  reqAt : Option Nat := none              -- clk of the last Delay_Req
  reqEvery : Nat := 0                     -- interval asked for, ns (log 53)
  seq : Nat := 0                          -- next sequenceId of a Delay_Req
  ofs : Int := 0
  mpd : Int := 0
deriving DecidableEq, Repr

/-- One entry of the timestamp queue (R299). -/
structure TsEntry where
  t3 : Int
  ringB : Bool
  seq : Nat
  domain : Nat
  slot : Nat
  at_ : Nat
deriving DecidableEq, Repr

/-- A handover in progress (R297). -/
structure Handover where
  target : Nat
  rel : Int                               -- frequency of D relative to C_new, 1/256 ppb
  at_ : Nat                               -- clk of the last change of `rel`
  slew : Int                              -- SLEW when the handover began, 1/256 ppb
deriving DecidableEq, Repr

/-- A servo step held back (R304): its slot, the offset measured, the clk of that measurement, and the clk from which the slot's
correction at the adjustment limit has made the step needless. -/
structure StepDefer where
  slot : Nat
  o : Int
  at_ : Nat
  until_ : Nat
deriving DecidableEq, Repr

/-- The time unit (R287-R305). -/
structure TimSt where
  d : Nat := 0                            -- disciplined time, 2⁻¹⁶ ns
  acc : Int := 0
  valid : Bool := false
  sel : Nat := 0                          -- SEL_ACTIVE
  ho : Option Handover := none
  s0 : TSlot := {}
  s1 : TSlot := {}
  tsq : List TsEntry := []                -- oldest first
  drops : List Nat := []                  -- newest first, at most 8
  stepDefer : Option StepDefer := none
  syncHigh : Bool := false                -- SYNC_OUT
  syncRise : Option Nat := none           -- clk of its last rising edge
  ppsHigh : Bool := false
  ppsRise : Option Nat := none
  ppsInAt : Option Nat := none            -- clk of the last PPS_IN edge
  ppsInFed : Option Nat := none           -- clk of the last accepted edge
deriving DecidableEq, Repr

-- pins ----------------------------------------------------------------------------------------------------------------

/-- Input pins, straps, the SMBus pointer and the TAP (R384-R401). -/
structure PinSt where
  brakeLow : Bool := false
  rstLow : Bool := false
  rstAt : Nat := 0
  straps : Nat := 0
  smbAddr : Nat := 0                      -- REG_ADDR
  jtagIr : Nat := 1                       -- instruction loaded: 0 BYPASS, 1 IDCODE, 2 SAMPLE/PRELOAD, 3 EXTEST, 4 CLAMP, 5 HIGHZ
  boundary : Nat := 0                     -- boundary register as preloaded, a bit per land (R400)
  trstLow : Bool := true                   -- the land has a pull-down (R390)
deriving DecidableEq, Repr

-- commands, hoppers, domains ----------------------------------------------------------------------------------------

/-- The roster entry, sequence and arrival link of a command that came by the ring (R278, R279). -/
structure RingRef where
  roster : Nat
  dom : Nat                                -- domain of the association at its arrival (R222)
  mac : Nat                                -- the station that sent it (R279)
  seq : Nat
  onB : Bool
deriving DecidableEq, Repr

/-- One entry of a ring hopper's on-chip submission ring (R222, R278): its packet bytes, where they came from and its place in
the order of submission (R180). -/
structure RingEntry where
  ref : RingRef
  bytes : List Byte
  sub : Nat := 0
deriving DecidableEq, Repr

/-- A completion made and not yet posted (R218, R220): the command, whether it holds its tag, and bytes 0..13. -/
structure Held where
  cx : Cx
  own : Bool
  bytes : List Byte
deriving DecidableEq, Repr

/-- One hopper: QUEUE view 0 (R237), its live sampling values, and its intake state (R210-R226). -/
structure Hopper where
  sqBase : Nat := 0
  cqBase : Nat := 0
  sqSize : Nat := 0
  cqSize : Nat := 0
  vector : Nat := 0xFFFF
  sqHead : Nat := 0
  sqTail : Nat := 0
  cqTail : Nat := 0
  cqHead : Nat := 0
  rate : Nat := 0x01000000
  burst : Nat := 0xFFFFFFFF
  tokens : Nat := 0xFFFFFFFF00             -- 1/256 byte; full (R230)
  overhead : Nat := 32
  pairCost : Nat := 4
  interval : Nat := 0
  phase : Bool := false
  wheel : Option Nat := none               -- slot of the timing wheel it waits for (R225)
  dbTimes : List (Nat × Nat) := []         -- last SQ doorbells: new SQ_TAIL, µs; newest first, eight and the one before (R226)
  live : View1 := {}                       -- sampling values and counters since the last snapshot
  sigUs : Option Nat := none               -- last µs in which its vector was signalled (R220)
  sigPend : Bool := false
  held : List Held := []                   -- completions held behind a halted CQ stream or HOLD, oldest first (R254, R259)
  bells : List (Nat × Nat) := []           -- SQ doorbells whose entries are not all fetched: SQ_TAIL and place, oldest first (R180)
  ring : List RingEntry := []              -- ring hopper: on-chip submission ring, oldest first (R222)
deriving DecidableEq, Repr

/-- A command holding its tag (R216-R218). -/
structure Infl where
  cx : Cx
  opcode : Nat
  ports : List Nat := []                   -- order tags it holds (R180, R181)
  accepted : Bool := true
  sub : Nat := 0                           -- place in the order of submission (R180)
  order : Nat := 0                         -- number of its acceptance (R169)
  at_ : Nat := 0                           -- disciplined time of acceptance
  sqHead : Nat := 0                        -- SQ_HEAD after its fetch
  ring : Option RingRef := none            -- it came by the ring
  wait : Option Instr := none              -- the command itself while it waits for its order tags (R181)
  orphan : Bool := false                   -- its hopper was disabled since: the completion is discarded (R221)
  done : Bool := false                     -- its completion has been made and waits to be posted (R218)
deriving DecidableEq, Repr

/-- One domain (R227, R228). EN lies in CMD_DOM_EN. -/
structure Domain where
  vfEn : Bool := false
  ringEn : Bool := false
  tagQuota : Nat := 64
  hopFirst : Nat := 0
  hopCount : Nat := 0
deriving DecidableEq, Repr

/-- The command processor (R210-R238). -/
structure CmdSt where
  hoppers : Tbl Hopper := []
  domains : Tbl Domain := []
  last : Nat := 4095                       -- hopper last served (R216)
  inflight : List Infl := []               -- in order of acceptance
  accepts : Nat := 0                       -- commands accepted (R169)
  subs : Nat := 0                          -- doorbells and command frames so far (R180)
  us : Nat := 0                            -- last microsecond of disciplined time refilled (R223)
  ms : Nat := 0                            -- last millisecond sampled (R226)
deriving DecidableEq, Repr

-- DMA, page map, PCI Express ------------------------------------------------------------------------------------------

/-- What a stream serves (R246). -/
inductive DmaJob where
  | sq (hopper : Nat)
  | param (hopper : Nat) (header : List Byte) (at_ next : Nat) (loose : Option Nat)   -- `loose`: its place in the order of
    -- submission where another command held its TAG when it was fetched (R217)
  | list (cx : Cx) (p : PairTxnP)
  | cq (hopper : Nat)
  | flume (first count : Nat)              -- positions of the segments fetched (R200)
  | aim (cx : Cx) (p : AimUploadP)
  | sload (cx : Cx) (p : SchLoadP)
  | tableRead (cx : Cx) (p : TableP) (copy : List Byte)   -- `copy`: the copy taken at execution, or the entries read ahead
  | tableWrite (cx : Cx) (p : TableP) (applied : Nat)
  | capture (cx : Cx) (p : CaptureReadP)
  | query (cx : Cx) (p : PairQueryP)
  | fw (cx : Cx) (p : FwStageP)
  | leatRx (ring : Nat)
deriving DecidableEq, Repr

/-- One stream (R246-R248). -/
structure Stream where
  id : Nat
  kind : Nat
  dom : Nat
  iova : Nat
  len : Nat
  done : Nat := 0
  write : Bool
  hopper : Nat := 0xFFFF
  tag : Nat := 0xFFFF
  buf : List Byte := []                    -- bytes read so far, or bytes still to write
  halted : Bool := false
  started : Bool := false                  -- has moved a chunk
  orphan : Bool := false                   -- of a packet without its TAG: its hopper was disabled since (R221)
  job : DmaJob
deriving DecidableEq, Repr

/-- A fault record in its slot (R254, R255). -/
structure FaultSlot where
  halted : Bool := false
  stream : Nat := 0
  seq : Nat := 0
  iova : Nat := 0
  reason : Nat := 0
  kind : Nat := 0
  cls : Nat := 0
  write : Bool := false
  level : Nat := 0
  dom : Nat := 0
  hopper : Nat := 0
  tag : Nat := 0
  done : Nat := 0
  sec : Nat := 0
  ns : Nat := 0
  at_ : Nat := 0                           -- clk at the halt
  tmo : Nat := 0                           -- DMA_CTL.HALT_TMO at the halt, ms
deriving DecidableEq, Repr

/-- One completed translation in the cache (R252). -/
structure TcEntry where
  dom : Nat
  page : Nat                               -- I/O virtual address of the page
  big : Bool                               -- 2 MiB
  r : Bool
  w : Bool
  addr : Nat
deriving DecidableEq, Repr

/-- The DMA engine and the page map (R246-R260). -/
structure DmaSt where
  streams : List Stream := []              -- in the order of their turns
  nextId : Nat := 0
  last : Option Nat := none                -- stream that moved the last chunk
  sqBefore : List Nat := []                -- class-1 streams whose turn comes before the next submission fetch (R248)
  slots : Tbl FaultSlot := []
  seq : Nat := 0
  tc : List TcEntry := []                  -- most recently used first
  map : Tbl Nat := []                      -- node pool: entry 512·node + index
  bad : List Nat := []                     -- entries holding an uncorrectable DDR5 error, until written (R250; log 85)
deriving DecidableEq, Repr

/-- One vector of an MSI-X table (R241, R242, R245): address, data, and its mask bit where the host has written it. -/
structure Vec where
  addr : Nat := 0
  data : Nat := 0
  mask : Option Bool := none
deriving DecidableEq, Repr

/-- The configuration of a PCI Express function (R239); its reset values are the standard's (log 86). -/
structure FnCfg where
  master : Bool := false                   -- Bus Master Enable
  mps : Nat := 0                           -- max payload size: 128·2ⁿ bytes
  mrrs : Nat := 2                          -- max read request size: 128·2ⁿ bytes
  cplTo : Nat := 0                         -- completion timeout value; 0 is the default, 50 ms
  msixEn : Bool := false                   -- MSI-X Enable
  fnMask : Bool := false                   -- MSI-X Function Mask
  power : Nat := 0                         -- 0 D0, 3 D3hot
  aspm : Bool := false                     -- ASPM L1 enabled
  aer : Nat := 0                           -- uncorrectable error status of Advanced Error Reporting
deriving DecidableEq, Repr

/-- The PCI Express functions (R239-R245, R261, R262). -/
structure HifSt where
  up : Bool := false
  speed : Nat := 0
  width : Nat := 0
  numVfs : Nat := 0                        -- virtual functions that exist
  flrBusy : List Nat := []                 -- functions in a function-level reset
  cfg : Tbl FnCfg := []
  vecs : Tbl Vec := []                     -- vectors written, 64·function + vector
  opened : List Nat := []                  -- functions whose other vectors the host has unmasked (log 60)
  pba : List (Nat × Nat) := []             -- pending vectors: function, vector
deriving DecidableEq, Repr

-- pairing transactions, jobs of the arming agents, the map --------------------------------------------------------------

/-- One entry of a list (R160) with its implicit drop and its outcome (R179). -/
structure Entry where
  drop : Bool
  a : Nat
  b : Nat
  implicit : Option Nat := none
  outcome : Nat := 0x10
deriving DecidableEq, Repr

/-- What an aperture is steered to: the zero pattern, a park, or another aperture (R58, R60). -/
inductive Aim where
  | zero
  | park
  | to (ap : Nat)
deriving DecidableEq, Repr

/-- Stages of a transaction (R165); the codes are those of R183. -/
inductive TxSt where
  | opened | prepared | armed | committed | failed | aborted
deriving DecidableEq, Repr

/-- A transaction, open or closed (R161-R183). Times in 2⁻¹⁶ ns of disciplined time unless they are clk. -/
structure Txn where
  id : Nat
  dom : Nat
  xid : Nat                                -- 0: PORT_PARK or the restore transaction, no record (R182)
  entries : List Entry
  st : TxSt := .opened
  cause : Nat := 0
  failIdx : Nat := 0xFFFF
  whn : Nat := 0                           -- 0 NOW, 1 AT, 2 ON_SYNC
  early : Bool := false
  earlyDone : Bool := false                -- its EARLY_COMPLETE completion has been posted
  req : Nat := 0                           -- requested time of AT and ON_SYNC
  t : Option Nat := none                   -- T
  group : Option Nat := none
  ready : Bool := false                    -- records on chip and checked (R165)
  waitFrom : Nat := 0                      -- clk since which it waits for a group
  checked : Bool := false                  -- past its check instant
  job : Option Nat := none
  recs : Tbl Nat := []                     -- records fetched at PREPARED, by aperture
  epoch : Nat := 0
  partial_ : Bool := false
  commit : Option Cx := none
  order : Nat := 0                         -- number of the acceptance of its commit (R169)
  openAt : Nat := 0                        -- clk
  tmoMs : Nat := 0                         -- OPEN_TMO when its timer started
  restore : Bool := false
deriving DecidableEq, Repr

/-- Who arms (R168). -/
inductive Owner where
  | txn (id : Nat)
  | entry                                  -- the entry sluice (R370)
  | park (ports : List Nat)                -- the engine's own parks: advances the epoch (R334, R371, R206)
  | repair (epoch : Nat)                   -- repair of the transaction that committed at this epoch (R178)
  | schRepair                              -- repair or AIM_FAIL park of the player (R197)
  | survey (round : Nat) (last : Bool)
  | resynth
  | slot                                   -- the schedule player's boundary (R195)
deriving DecidableEq, Repr

inductive JobPhase where
  | waiting | arming | latched
deriving DecidableEq, Repr

/-- One sluice request in the making (R42, R165). -/
structure Job where
  id : Nat
  owner : Owner
  grp : Nat
  t : Option Nat                           -- tick of the sluice; none until ON_SYNC's edge
  armAt : Nat                              -- disciplined time at which arming begins
  targets : List (Nat × Aim)
  recs : Tbl Nat := []                     -- records fetched for the arm, by aperture
  corrs : Tbl (Int × Int) := []            -- slot-learning corrections fetched with them
  away : List Nat := []                    -- ports whose pairing ends though their aperture cannot be armed
  phase : JobPhase := .waiting
  cx : Option Cx := none                   -- command completed by the sluice
deriving DecidableEq, Repr

/-- The pairing fields of the map for one port (R174). -/
structure Pairing where
  partner : Nat := 0x1FFF
  epochChg : Nat := 0
deriving DecidableEq, Repr

/-- What belongs to a port beside its pairing (R176, R179, R186). -/
structure Port where
  owner : Nat := 0
  txn : Option Nat := none                 -- open transaction holding it
  lastOutcome : Nat := 0
  awaiting : Bool := false                 -- missed its sluice, awaits its repair (R178)
  state : Nat := 0                         -- condition row of R176 at the last refresh: 4..7
  shown : Nat := 0                         -- STATE at the last refresh, whatever its row (R176, R186)
  rx : Nat := 0x8000
  lockFrames : Nat := 0
  litSeen : Bool := false                  -- LIT since the last sluice
  frames : Nat := 0                        -- frames since the last sluice
  dimCnt : Nat := 0
  darkCnt : Nat := 0
  taps : List Int := []                    -- tap POWER of the last valid frames, newest first
deriving DecidableEq, Repr

/-- A completion that waits for a publication (R175). -/
structure PubWait where
  cx : Cx
  status : Nat
  result : Nat
  epoch : Nat
deriving DecidableEq, Repr

/-- The transaction unit (R160-R186). -/
structure XactSt where
  txns : List Txn := []                    -- open ones
  closed : List Txn := []                  -- newest first; each domain's last 16
  nextId : Nat := 1
  jobs : List Job := []
  nextJob : Nat := 1
  epoch : Nat := 0
  pubEpoch : Nat := 0
  cur : Tbl Pairing := []                  -- the map at the latest epoch
  pub : Tbl Pairing := []                  -- the published buffer
  unpub : Bool := false                    -- an epoch waits for publication
  shown : Option (Tbl (List Word)) := none -- entries as published, while a sluice or an epoch is not (R174)
  pinned : Option (Cx × Nat) := none       -- PORT read that pins the published buffer, and clk since which
  pubWait : List PubWait := []
  ports : Tbl Port := []
  lastRefresh : Nat := 0                   -- frame of the last condition refresh
deriving DecidableEq, Repr

-- apertures, planes, tiles, the brake -----------------------------------------------------------------------------------

/-- A plane of cell codes: 80 rows of 96 codes (R38); the empty list is code 0 everywhere. -/
abbrev Plane := List (List Nat)

/-- A finished trim pass (R145): the clk at which its last row had been written, its dither and the index of the damsel. -/
structure Pass where
  done : Nat
  dith : Int × Int
  idx : Nat × Nat
deriving DecidableEq, Repr

/-- A pass over the active plane that waits for its row strobes or runs (R40, R72, R137). -/
structure TrimPass where
  plane : Plane
  from_ : Nat                              -- no strobe of it before this clk
  row : Nat := 0                           -- rows granted
  stop : Nat := 80                         -- rows it writes
  dith : Int × Int := (0, 0)
  idx : Nat × Nat := (0, 0)
deriving DecidableEq, Repr

/-- One aperture (R41, R58, R72). -/
structure Aper where
  grp : Nat := 0
  armed : Bool := false
  arming : Bool := false                   -- an arm has begun and its last row is not written
  beacon : Bool := true
  marchFails : Nat := 0
  shortMap : Nat := 0                      -- 96 bits
  actKind : Nat := 0                       -- 0 zero, 1 circuit, 2 park, 3 station
  shKind : Nat := 0
  actTarget : Nat := 0x1FFF
  shTarget : Nat := 0x1FFF
  active : Plane := []
  shadow : Plane := []
  store : Plane := []                      -- frame store: the active codes as last recorded (R43, R46, R95)
  actAt : Tbl Nat := []                    -- clk of the last write of each active row
  shAt : Tbl Nat := []
  rec_ : Nat := 0                          -- record copy behind the active pattern, 256 bits (R72)
  shRec : Nat := 0                         -- record fetched for the shadow pattern
  corr : Int × Int := (0, 0)               -- slot-learning correction in the pointing of the active pattern (R74, R203)
  shCorr : Int × Int := (0, 0)             -- that of the shadow pattern
  copyAt : Nat := 0                        -- clk of the last copy, when every active row was written (R43, R98)
  armRow : Nat := 0                        -- rows granted of the arm in progress (R40)
  trim : Option TrimPass := none           -- the trim pass whose rows are not all written (R40)
  strobe : Nat := 0                        -- clk at which the last strobe granted to an arm or a pass ends
  passes : List Pass := []                 -- trim passes finished since the latest sluice, newest first, at most four (R145)
  shortAt : Tbl Nat := []                  -- clk at which the write gate of a shorted column closed (R53)
  lastSluice : Nat := 0                    -- clk of the last sluice that copied it
  repark : Bool := false                   -- its park record was rebuilt during the island reset of its tile (R72)
deriving DecidableEq, Repr

/-- One tile (R37, R41, R59, R99-R105, R123). -/
structure Tile where
  frozen : Bool := false
  islandRst : Bool := false
  silent : Bool := false                   -- missed a brake (R47), until power-on reset
  hsStall : Bool := false
  silentAt : Nat := 0                      -- clk of the brake sluice it missed: its cells decay from then (R47)
  token : Nat := 0                         -- token latch, voted: 0 none, 1 A, 2 B, 3 fault
  claimAt : Nat := 0                       -- clk of the last claim, its sequencer and the owner before it (R105)
  claimBy : Nat := 0
  claimOver : Nat := 0
  claimTo : Nat := 0                       -- clk at which the latch changes owner: the end of the strobe in progress (R105)
  band : Nat := 0
  temp : Int := 0
  pairLo : Nat := 0                        -- bracketing pair in the cache: lower set (R68)
  reload : Option Nat := none              -- pair whose reload is in progress
  deferred : Option Nat := none            -- pair whose reload is deferred (R103)
  frameAt : Option Nat := none             -- clk of the last frame start
  framePrev : Option Nat := none           -- clk of the frame start before it: a conversion begun in that frame completes (R123)
  edgeAt : Option Nat := none              -- clk of the last accepted edge
  initAt : Nat := 0                        -- clk of the end of the tile's last island reset (R405)
  lost : Bool := false                     -- SYNC_IN missing now
  autoRange : Bool := true                 -- AUTO_RANGE as of the last frame start (R119)
  damsel : Nat := 0x32                     -- LOOP_DAMSEL as of the last frame start (R143)
  frameTs : Nat := 0                       -- T of R143: nanoseconds of the edge that started the last frame, whole (R305)
  frameD : Nat := 0                        -- disciplined time of that edge
  holdFrame : Option Nat := none           -- clk of the first frame start after t+0 of the last HOLD entry that met one (R113)
  loopFree : Nat := 0                      -- clk at which the loop engine may start the next evaluation (R137)
deriving DecidableEq, Repr

/-- A span change in progress (R51, R52). -/
structure SpanJob where
  at_ : Nat                                -- clk of t+0
  saved : List (Nat × Aim)                 -- apertures to re-synthesise
  cancelled : Bool := false
  sluiced : Bool := false                  -- its brake sluice has opened
  rq : Rq
deriving DecidableEq, Repr

/-- What comes between the strobes of a march run: a refresh strobe granted to an aperture (R40), and the island reset of a tile,
in which none of its rows is strobed (R59). -/
inductive MarchEv where
  | strobe (ap : Nat)
  | reset (tile : Nat) (began : Bool)
deriving DecidableEq, Repr

/-- A march run (R55): BKP_MARCH_CTL at GO, whether BIST_RUN began it, the clk of its first strobe, what has come between its
strobes since, with its clk, oldest first, and when it ended: what it has written stays until the brake sluice (R46, R56). -/
structure MarchRun where
  ctl : Nat
  bist : Bool
  at_ : Nat
  evs : List (Nat × MarchEv) := []
  stop : Option Nat := none
deriving DecidableEq, Repr

/-- The brake controller and the backplane (R37-R59). Triggers: bit order of BKP_BRAKE_STAT.LIVE. -/
structure BkpSt where
  braking : Bool := true
  zero : Bool := true
  live : Nat := 0x20
  brakeAt : Nat := 0                       -- clk at t+0 of the brake in force
  zeroing : Bool := false                  -- asserted, brake sluice not yet opened
  failed : Bool := false                   -- a tile missed a brake since POR (R47)
  span : Option SpanJob := none
  march : Option MarchRun := none          -- march run whose data the array holds
  apers : Tbl Aper := []
  tiles : Tbl Tile := []
  sluiced : List Nat := []                 -- jobs latched for a sluice, by id
deriving DecidableEq, Repr

-- stores, survey ----------------------------------------------------------------------------------------------------------

/-- A region's bracketing pair, weight and temperature (R67, R68). -/
structure Region where
  lo : Nat := 0
  w : Nat := 0
  temp : Int := 0                          -- 1/16 °C
  seen : Bool := false                     -- measured since power-on reset
deriving DecidableEq, Repr

/-- An entry of the effective library with its build notes (R70, R92). -/
structure Eff where
  rec_ : Nat
  w : Nat
  temp : Int
  lo : Nat
  applied : Bool
  gen : Nat
deriving DecidableEq, Repr

/-- A staged survey entry (R85, R92). -/
structure Staged where
  delta : Nat
  reason : Nat
  dkx : Int := 0
  dky : Int := 0
deriving DecidableEq, Repr

/-- What a survey round has measured of one direction (R84). Powers in 2⁻¹⁰ µW. -/
structure Meas where
  p0 : Option Int := none                  -- tap power of frame 0
  n : Nat := 0                             -- valid measurement samples
  frames : Nat := 0
  kx : Int := 0                            -- sum of kx24 less dither
  ky : Int := 0
  tap : Int := 0
  locked : Bool := false                   -- locked at the end of frame 9
deriving DecidableEq, Repr

/-- A survey in progress (R84, R89). -/
structure Survey where
  cx : Cx
  first : Nat
  last : Nat
  meas : Nat
  round : Nat                              -- round now lit or being armed
  frame : Nat := 0                         -- frames since its sluice
  lit : Bool := false                      -- its sluice has opened
  ending : Bool := false                   -- rounds done: the station circuits are measured (R86)
  acc : Nat := 0
  rej : Nat := 0
  dirs : Tbl Meas := []                    -- by source aperture
  p0st : Tbl Int := []                     -- tap powers of the station circuits at survey start, by source aperture (R86)
deriving DecidableEq, Repr

/-- The calibration stores (R60-R72, R88-R93). Stored records are keyed set·16,810,000 + index over the factory's. -/
structure SynSt where
  aims : Tbl Nat := []
  deltas : Tbl Nat := []
  bootAims : Tbl Nat := []                 -- the stores as BOOT built the effective library from them
  bootDeltas : Tbl Nat := []
  bootRegions : Tbl Region := []
  eff : Tbl Eff := []                      -- entries rebuilt since
  flashAims : Tbl Nat := []                -- persisted stores
  flashDeltas : Tbl Nat := []
  flashSensor : Tbl (List Word) := []
  regions : Tbl Region := []
  aimStage : Option (Nat × Tbl Nat) := none          -- staged set, its records as overlay over the factory's
  survStage : Option (Tbl Staged) := none
  persist : Option Nat := none             -- target being persisted (R90)
  gen : Nat := 0                           -- SYN_SURVEY_GEN; log 5
  survey : Option Survey := none
  sweep : List Nat := []                   -- entries whose rebuild is wanted because of a commit, by index
deriving DecidableEq, Repr

-- refresh, hold, sensing, loops ---------------------------------------------------------------------------------------------

/-- A drill in progress (R110). -/
structure Drill where
  cx : Cx
  at_ : Nat                                -- clk of its start
  dwell : Nat                              -- ms
  abort : Nat                              -- 1/1024 of P
  peak : Nat := 0
  aFailed : Bool := false                  -- A's self-check has failed during the drill
deriving DecidableEq, Repr

/-- The refresh sequencers and the hold state (R94-R116). -/
structure RfsSt where
  hbA : Option Nat := none                 -- clk of A's last heartbeat at B
  hbB : Option Nat := none                 -- clk of B's last heartbeat at A
  checkA : Bool := true                    -- parity and sequence checks of A clean (R106); log 21
  checkB : Bool := true
  rstA : Bool := false                     -- A in island reset
  rstB : Bool := false
  gapless : Option Nat := none             -- clk since which A's heartbeats reach B without a gap while B owns (R108)
  drill : Option Drill := none
  holdEntry : Option Nat := none           -- clk of t+0 of HOLD entry while the entry sequence runs
  holdStop : Bool := false                 -- synthesis and loops stopped (R113)
  holdAt : Nat := 0
  exitAt : Option Nat := none              -- clk of the last exit from HOLD (R114)
  holdSec : Nat := 0
  holdTemps : Tbl Int := []                -- region temperatures at HOLD entry (R115)
deriving DecidableEq, Repr

/-- The sensors of one aperture (R119, R124, R125). -/
structure Sens where
  range : List Bool := [false, false, false, false, false]    -- true: L
  words : List Nat := []                   -- last published sample words, N E S W tap (R124)
  frame : Nat := 0                         -- clk of the frame start they belong to
  pubAt : Nat := 0                         -- clk of their publication (R121)
deriving DecidableEq, Repr

/-- A one-shot request in a tile's queue (R129). -/
structure Shot where
  sensor : Nat
  range : Bool
  force : Bool
  host : Bool                              -- from SNS_OS_CTL; else firmware's
  at_ : Nat                                -- clk of the request
deriving DecidableEq, Repr

/-- The detector bank of a tile (R122, R127-R129). -/
structure Bank where
  settling : Option Nat := none            -- clk of the last change of selection, while unsettled
  settled : Bool := false                  -- since reset: the first settling (log 22)
  hkFail : Bool := false
  hkFrame : Nat := 0                       -- clk of the frame whose window has made its fixed conversions
  ratio : Nat := 16383                     -- code of the bandgap against the selected reference (R128)
  temp : Option Int := none                -- tile temperature last converted, 1/16 °C (R122)
  supply : Nat := 0                        -- code of the supply monitor (R122)
  ground : Nat := 0                        -- code of the grounded input
  shots : List Shot := []                  -- one-shot queue, oldest first, at most eight
  free : List Nat := [0, 0, 0, 0, 0, 0, 0, 0]   -- clk at which a converter's last one-shot ends
deriving DecidableEq, Repr

/-- What a CAL_SENSOR step has measured of one aperture (R130-R132): sums of codes in 1/16 code with their counts, for the tap in
ranges H and L and for each guard. -/
structure CalAcc where
  frames : Nat := 0                        -- frames converted
  bad : Nat := 0                           -- samples of the step with OVR, SUSPECT or MISSING
  parked : Bool := true                    -- PARKED at every frame so far
  locked : Bool := true                    -- the arriving beam's loop locked at every frame so far
  low : Bool := false                      -- BALANCE: the range of the guards, set at the first frame
  tapH : Nat × Nat := (0, 0)
  tapL : Nat × Nat := (0, 0)
  guards : List (Nat × Nat) := [(0, 0), (0, 0), (0, 0), (0, 0)]
deriving DecidableEq, Repr

/-- A CAL_SENSOR step in progress (R133). -/
structure CalJob where
  cx : Cx
  p : CalSensorP
  at_ : Nat                                -- clk at its start
  acc : Tbl CalAcc := []                   -- by aperture
deriving DecidableEq, Repr

/-- Converters and sensor calibration (R117-R134, R405). -/
structure SnsSt where
  sens : Tbl Sens := []
  banks : Tbl Bank := []
  suspect : Tbl (List Bool) := []          -- per tile: the next conversion on converter 0..7 carries SUSPECT (R125)
  cal : Tbl (List Word) := []              -- live SENSORCAL entries, 8 words, over the factory's
  stage : Tbl (List Word) := []            -- staged entries; word 8 is 1 once a DARK result is staged
  job : Option CalJob := none
  frameNo : Nat := 0                       -- edges that a tile has accepted
  frameD : Nat := 0                        -- disciplined time of the last of them, the frame of the engine's own units (R84, R174)
  initAt : Nat := 0                        -- clk of the end of tile initialisation (R405)
deriving DecidableEq, Repr

/-- LOOPCFG.STATE (R159). -/
inductive LState where
  | off | acquire | track | holding | frozen | disabled
deriving DecidableEq, Repr

/-- One axis of a loop (R139, R146). Trim and integrator in kx24 units, errors and set-point in Q16.16. -/
structure Axis where
  i : Int := 0
  d : Int := 0
  ePrev : Int := 0
  out : Int := 0
  sp : Int := 0
  sat : Bool := false
deriving DecidableEq, Repr

/-- One loop: both axes and the fantail (R135-R152). -/
structure Loop where
  st : LState := .off
  before : LState := .off                  -- state behind FROZEN
  x : Axis := {}
  y : Axis := {}
  first : Bool := true                     -- no valid evaluation since the sluice (R139)
  locked : Bool := false
  missRun : Nat := 0
  lockRun : Nat := 0                       -- consecutive valid samples within LOCK_TOL
  overRun : Nat := 0                       -- consecutive valid samples beyond 4·LOCK_TOL
  acqFrames : Nat := 0                     -- frame starts from the first edge after entering ACQUIRE on (R150)
  acqTold : Bool := false                  -- ACQ_TIMEOUT raised in this ACQUIRE
  timedOut : Bool := false                 -- ACQ_TIMEOUT raised since the sluice (R176)
  evals : Nat := 0                         -- evaluations since entry to TRACK (R146)
  window : List (Option (Int × Int × Int)) := []   -- newest first: tap POWER, r_x, r_y; `none` a missing sample
  sluices : Nat := 0                       -- sluices that copied the aperture (injection and capture triggers)
  waitEdge : Bool := false                 -- evaluated from the next accepted edge on (R114, R148, R152)
  acqEdge : Bool := false                  -- no edge has been accepted since it entered ACQUIRE (R150)
  evalAt : Nat := 0                        -- start of the last frame evaluated, as clk; frames begun later are to come (R136)
deriving DecidableEq, Repr

/-- An injection (R153, R154). -/
structure Inject where
  ap : Nat
  p : LoopInjectP
  running : Bool := false
  step : Nat := 0                          -- evaluations done
  lfsr : Nat := 0
  sluices : Nat := 0                       -- the loop's sluice count when it was placed
deriving DecidableEq, Repr

/-- One record of a capture (R155). -/
structure CapRec where
  e : Int
  out : Int
  i : Int
  tap : Nat
deriving DecidableEq, Repr

/-- A capture unit (R155, R156). State: 0 idle, 1 armed, 2 recording, 3 done. -/
structure Capture where
  st : Nat := 0
  p : CaptureArmP := {unit := 0, axis := 0, aperture := 0, trigger := 0, length := 0, pre := 0, level := 0}
  recs : List CapRec := []                 -- newest first
  pre : Nat := 0                           -- pre-trigger records held
  sec : Nat := 0
  ns : Nat := 0
  sluices : Nat := 0
deriving DecidableEq, Repr

/-- The loops, injections and captures (R135-R159). -/
structure LoopSt where
  cfg : Tbl (List Word) := []              -- LOOPCFG words 0..10
  loops : Tbl Loop := []
  inj : List Inject := []
  caps : Tbl Capture := []
deriving DecidableEq, Repr

-- schedules -------------------------------------------------------------------------------------------------------------------

/-- A segment's four words (R190); all zero: not loaded. -/
abbrev SegWords := List Word

/-- One slot (R187, R188, R203). -/
structure Slot where
  loaded : Bool := false
  cross : Bool := false
  partners : Tbl Nat := []                 -- default 0x1FFF: parked
  visits : Nat := 0
  updates : Nat := 0
  corr : Tbl (Int × Int) := []             -- slot-learning corrections, by aperture
deriving DecidableEq, Repr

/-- SCH_STAT.STATE. -/
inductive PlState where
  | idle | waitStart | playing | held | stopped
deriving DecidableEq, Repr

/-- A play: the segment playing or resolved to play next (R192, R194). -/
structure Play where
  pos : Nat                                -- table index or stream position
  left : Nat                               -- plays remaining after this one; with REPEAT 0 it stays 0
  endE : Nat                               -- exact offset E of its end, 2⁻²⁴ ns; of a play wanted, of its nominal start
  at_ : Nat                                -- boundary at which it starts, ns
  jump : Option Cx := none                 -- the SCH_JUMP it answers (R199)
deriving DecidableEq, Repr

/-- A boundary whose arm point has passed (R194, R195): the play that starts there with its arming job unless it opens no
sluice, or the stop of a STOP segment. -/
structure Boundary where
  play : Play
  job : Option Nat := none
  stop : Bool := false
deriving DecidableEq, Repr

/-- The schedule player and the flume (R187-R209). -/
structure SchSt where
  segs : Tbl SegWords := []
  slots : Tbl Slot := []
  st : PlState := .idle
  stream : Bool := false
  reason : Nat := 0
  start : Option (Cx × Nat × Nat) := none  -- SCH_START waiting: WHEN, T_0 or the requested time in ns
  base : Nat := 0                          -- T_0 or the tick E was re-based on, ns
  cur : Option Play := none                -- playing; its end is base + rounded endE
  nextB : List Boundary := []               -- boundaries resolved and not yet reached, oldest first
  jump : Option (Cx × Nat) := none         -- SCH_JUMP pending and its target field
  missing : Option Play := none            -- the play wanted: of an under-run, or the first one while the start waits
  startPos : Nat := 0                      -- START of the stream
  visit : Tbl Nat := []                    -- apertures armed for the visit: 1 + valid evaluations made
  visitSlot : Option Nat := none
  failPorts : List Nat := []               -- ports of pairs parked for the rest of the visit last resolved (R197, R334)
  stopCx : Option (Cx × Nat) := none       -- SCH_STOP waiting for a latched boundary: HOW
  stopAfter : Option Nat := none           -- the player stops at the latched boundary, with this reason (R201)
  repairs : Nat := 0
  window : Tbl SegWords := []              -- resident segments by stream position
  flume : Option (Cx × Nat × Nat) := none  -- SCH_STREAM: base address, log2 of the size
  fetched : Nat := 0
  spent : Bool := false                    -- the stream was aborted: nothing more comes
  flagSet : Nat × Nat := (0, 0)            -- last write of SCH_HFLAG_SET: its cycle, in 10 ns, and the flags set in it (R198)
deriving DecidableEq, Repr

-- the Leat station ------------------------------------------------------------------------------------------------------------

/-- An own DATA frame waiting in a transmit queue (R271, R279). -/
structure TxFrame where
  da : Nat
  eth : Nat
  payload : List Byte
  wire : Nat                               -- bytes on the wire, tag and 802.1AE overhead included
  roster : Option Nat := none              -- protected by this entry's transmit SA
  onB : Bool := false                      -- link its command arrived on (R280)
  cpl : Bool := false                      -- a completion (R279)
  req : Option TsEntry := none             -- a Delay_Req: its entry of the timestamp queue (R299)
  at_ : Nat := 0                           -- clk at which it entered its queue
deriving DecidableEq, Repr

/-- A token held: its frame, the clk at which it arrived, and the own frames sent with it (R271). -/
structure HeldToken where
  at_ : Nat
  f : Frame
  sent : Nat := 0
deriving DecidableEq, Repr

/-- A frame that waits for its transmitter; `tc`: the clk at which it arrived, where its residence time is added (R271, R292). -/
structure Transit where
  f : Frame
  tc : Option Nat := none
deriving DecidableEq, Repr

/-- One ring, or one point-to-point link (R267-R274). -/
structure RingSt where
  rxUp : Bool := false
  lock : Bool := true                      -- PCS lock and RS-FEC alignment; in loopback while detached (R264)
  lostAt : Nat := 0                        -- clk at which lock was lost
  goodAt : Option Nat := none              -- clk since which the conditions of R267 hold
  helloAt : Option Nat := none             -- clk of the last valid hello
  wrap : Bool := false
  token : Option HeldToken := none
  gen : Nat := 0                           -- GEN of the last token seen on the ring
  tokenAt : Nat := 0                       -- clk of the last token seen, or of a start of watching
  claiming : Bool := false
  nonce : Nat := 0
  claimAt : Nat := 0
  heard : Bool := true                     -- the neighbour reports that it receives this ring
  txEnd : Option Nat := none               -- clk at which the frame leaving by this ring's transmitter ends
  transit : List Transit := []             -- frames waiting for it, oldest first: at most 16 KiB (R271)
deriving DecidableEq, Repr

/-- A frame in the receive buffer (R282). -/
structure RxFrame where
  ring : Nat                               -- host receive ring
  onB : Bool
  pri : Nat
  secured : Bool
  roster : Nat
  bytes : List Byte
  ns : Nat
  size : Nat                               -- bytes it holds in the buffer
  off : Nat := 0                           -- bytes already delivered
deriving DecidableEq, Repr

/-- A station paused by this engine (R282). -/
structure Paused where
  mac : Nat
  onB : Bool
  at_ : Nat                                -- clk of the last PAUSE sent to it
deriving DecidableEq, Repr

/-- The Leat station (R263-R286). -/
structure LrgSt where
  inserted : Bool := false
  a : RingSt := {}
  b : RingSt := {}
  gen : Nat := 0
  dupMac : Bool := false
  operational : Bool := false
  roster : Tbl (List Word) := []           -- 32 words per entry, keys included
  exhausted : List Nat := []               -- roster entries whose transmit SA is exhausted
  rxSpent : List Nat := []                 -- receive SAs no packet number is left for: 2·entry + slot (R277)
  queues : Tbl (List TxFrame) := []
  bucket : List Int := [32768, 32768, 32768, 32768, 32768, 32768, 32768, 32768]   -- 1/8 byte; full at BURST 64 (R285)
  shapeUs : Nat := 0                       -- last microsecond of clk refilled (R285)
  pauseTo : Option Nat := none             -- clk until which own DATA frames are paused
  rxq : List RxFrame := []                 -- frames for the host, oldest first
  used : Nat := 0                          -- bytes in the receive buffer
  above : Bool := false                    -- the buffer has risen to HWM and not fallen to LWM
  pausedBy : List Paused := []
  rxIndex : Tbl Nat := []                  -- descriptors fetched ahead of TAIL per ring
  secondary : Bool := false
  primaryAt : Option Nat := none           -- clk since which the primary link is up
  helloSent : Option Nat := none           -- clk of the last hellos sent (R274)
deriving DecidableEq, Repr

-- the engine --------------------------------------------------------------------------------------------------------------------

/-- Everything of the engine but the queue of waiting commands. -/
structure Engine where
  clk : Nat := 0                           -- time since power-on reset by the active timebase, ns
  freeCtr : Nat := 0                       -- the model's own: index of the next free value (log 3)
  regs : Tbl Word := []                    -- stored register words by BAR0 offset (R307)
  trip1 : Tbl Word := []                   -- second and third copy of guarded registers (R313), where they differ
  trip2 : Tbl Word := []
  reach : Tbl Word := []                   -- per cause register: sticky causes whose event was enabled to the tree (R343)
  guards : Tbl Latch := []                 -- guard latches by requester (R310)
  mbx : Tbl Mbx := []                      -- mailboxes by requester (R319)
  snap : SnapSt := {}
  nvr : NvrSt := {}
  flt : FltSt := {}
  sys : SysSt := {}
  thm : ThmSt := {}
  pwr : PwrSt := {}
  tim : TimSt := {}
  pins : PinSt := {}
  cmd : CmdSt := {}
  dma : DmaSt := {}
  hif : HifSt := {}
  xact : XactSt := {}
  bkp : BkpSt := {}
  syn : SynSt := {}
  rfs : RfsSt := {}
  sns : SnsSt := {}
  loop : LoopSt := {}
  sch : SchSt := {}
  lrg : LrgSt := {}
  hostMem : Tbl Byte := []                 -- host memory by physical address (log 6)
  out : List OutEv := []                   -- what the last command sent out, oldest first
deriving DecidableEq, Repr

/-- The state: the commands waiting, first in first out, and the engine. -/
structure State where
  pending : List Instr := []
  eng : Engine := {}
deriving DecidableEq, Repr

/-- Right after power-on reset with the straps low and BRAKE_N high: BOOT has begun (R326, R369, R374); every register at
its reset value (R307); memory with nothing listed. -/
def State.reset : State := {}

/-- Apply an effect to the engine; `out` starts empty, so that it holds what this command sends. -/
def State.run (f : Engine → Engine) (s : State) : State := { s with eng := f { s.eng with out := [] } }

end Sys2Proof.Machine
end

