-- ==== Sys2Proof/Machine/Synth.lean ====
section
/-! DEFINITION. Geometry, aim records and phase synthesis: the exact arithmetic of R26, R29, R37, R60-R77.
Records are 256-bit numbers; phases are in units of 2⁻²⁶ turn. -/

namespace Sys2Proof.Machine

/-- round_half_up of num/den, den positive. -/
def rhu (num den : Int) : Int := (2 * num + den) / (2 * den)

/-- R139's rnd and every rounding shift: round half up of v / 2^n. -/
def rnd (v : Int) (n : Nat) : Int := if n = 0 then v else (v + (2 ^ (n - 1) : Nat)) / (2 ^ n : Nat)

-- geometry -----------------------------------------------------------------------------------------------------------

/-- The tile of an aperture (R37). -/
def tileOf (ap : Nat) : Nat :=
  if ap < 4096 then 16 * ((ap / 64) / 4) + (ap % 64) / 4
  else if ap = 4096 then 0 else if ap = 4097 then 15 else if ap = 4098 then 240 else 255

/-- The slot of an aperture in its tile (R37). -/
def slotOf (ap : Nat) : Nat :=
  if ap < 4096 then 4 * ((ap / 64) % 4) + (ap % 64) % 4 else 16

/-- The apertures of a tile, by slot (R37). -/
def tileAps (t : Nat) : List Nat :=
  (List.range 16).map (fun s => 64 * (4 * (t / 16) + s / 4) + 4 * (t % 16) + s % 4) ++
    (if t = 0 then [4096] else if t = 15 then [4097] else if t = 240 then [4098] else if t = 255 then [4099] else [])

/-- The photonic-die sensor region of a tile (R67). -/
def regionOf (t : Nat) : Nat := 8 * (t / 32) + (t % 16) / 2

/-- The partner of a port in bypass pairing (R4). -/
def bypassPartner (p : Nat) : Nat := 4095 - p

/-- Ports 0, 1, 4094 and 4095 (R28). -/
def reservedPort (p : Nat) : Bool := p == 0 || p == 1 || p == 4094 || p == 4095

/-- The ordinary ports 2..4093. -/
def ordinary (p : Nat) : Bool := decide (2 ≤ p) && decide (p ≤ 4093)

/-- The station circuits (R29): station aperture and port. -/
def stationPairs : List (Nat × Nat) := [(4099, 0), (4096, 4095), (4098, 1), (4097, 4094)]

/-- The partner of an aperture in the station circuits. -/
def stationPartner (ap : Nat) : Option Nat :=
  if ap = 4099 then some 0 else if ap = 0 then some 4099
  else if ap = 4096 then some 4095 else if ap = 4095 then some 4096
  else if ap = 4098 then some 1 else if ap = 1 then some 4098
  else if ap = 4097 then some 4094 else if ap = 4094 then some 4097 else none

/-- The station steers, in pitches (R29). -/
def stationSteer (ap : Nat) : Int × Int :=
  if ap = 4099 ∨ ap = 0 then (2, 2)
  else if ap = 4096 ∨ ap = 4095 then (-2, -2)
  else if ap = 4098 ∨ ap = 1 then (-64, 2)
  else (64, -2)

/-- The park steer of a port aperture, in pitches (R26). -/
def parkSteer (ap : Nat) : Int × Int :=
  let row := ap / 64
  let col := ap % 64
  let dc := min col (63 - col)
  let dr := min row (63 - row)
  if dc ≤ dr then (if col ≤ 31 then ((dc : Int) + 4, 0) else (-((dc : Int) + 4), 0))
  else (if row ≤ 31 then (0, (dr : Int) + 4) else (0, -((dr : Int) + 4)))

/-- The phase slope that steers by a number of pitches, in 2⁻²⁰ turn per cell (R18), rounded half up (log 20). -/
def steerSlope (cb : Bool) (pitches : Int) : Int :=
  rhu (pitches * (2443 * 2400 * 1048576 : Nat)) (if cb then 1550000000 else 1310000000)

-- records -------------------------------------------------------------------------------------------------------------

/-- The record index of the direction from `a` to `b` (R63). -/
def aimIndex (a b : Nat) : Nat := if b < a then a * 4099 + b else a * 4099 + b - 1

/-- The park record index of an aperture (R63). -/
def parkIndex (a : Nat) : Nat := 16805900 + a

/-- The source aperture of a record index. -/
def indexSource (i : Nat) : Nat := if i < 16805900 then i / 4099 else i - 16805900

/-- The number of records of a set. -/
abbrev numRecords : Nat := 16810000

def recKx (r : Nat) : Int := sext 20 (bits r 19 0)
def recKy (r : Nat) : Int := sext 20 (bits r 39 20)
def recFocus (r : Nat) : Int := sext 16 (bits r 55 40)
/-- A_i, i = 1..12. -/
def recA (r i : Nat) : Int := sext 14 (bits r (69 + 14 * (i - 1)) (56 + 14 * (i - 1)))
def recQuality (r : Nat) : Nat := bits r 231 224
def recValid (r : Nat) : Bool := bit r 232
def recCoarse (r : Nat) : Bool := bit r 233
def recFieldAdj (r : Nat) : Bool := bit r 234
def recBlocked (r : Nat) : Bool := bit r 235
def recReserved (r : Nat) : Nat := bits r 239 236
def recCheck (r : Nat) : Nat := bits r 255 240

/-- One step of CRC-16/CCITT on one bit. -/
def crc16Bit (c : Nat) : Nat := if c ≥ 0x8000 then ((c * 2) ^^^ 0x1021) % 65536 else c * 2

/-- CRC-16/CCITT of a byte list: 0x1021, initial 0xFFFF, no reflection, no final XOR (R61). -/
def crc16 (l : List Byte) : Nat :=
  l.foldl (fun c b => (List.range 8).foldl (fun x _ => crc16Bit x) (c ^^^ (b.toNat * 256))) 0xFFFF

/-- CHECK of a record: the CRC over its bytes 0..29 (R61). -/
def checkOf (r : Nat) : Nat := crc16 (leBytes 30 r)

/-- The record passes CHECK. -/
def checkOk (r : Nat) : Bool := recCheck r == checkOf r

/-- A record with its CHECK recomputed. -/
def sealRec (r : Nat) : Nat := r % 2 ^ 240 + (checkOf r) <<< 240

/-- A record of given slopes with focus and residuals zero, VALID and COARSE as a default arm counts (R63, R402). -/
def defaultRec (kx ky : Int) : Nat :=
  sealRec (trunc 20 kx + (trunc 20 ky) <<< 20 + 1 <<< 232 + 1 <<< 233)

/-- The geometric default of a park (R26, R63). -/
def parkDefault (cb : Bool) (ap : Nat) : Nat :=
  defaultRec (steerSlope cb (parkSteer ap).1) (steerSlope cb (parkSteer ap).2)

/-- The geometric default of a station direction (R29, R402). -/
def stationDefault (cb : Bool) (ap : Nat) : Nat :=
  defaultRec (steerSlope cb (stationSteer ap).1) (steerSlope cb (stationSteer ap).2)

def deltaKx (d : Nat) : Int := sext 16 (bits d 15 0)
def deltaKy (d : Nat) : Int := sext 16 (bits d 31 16)
def deltaTemp (d : Nat) : Int := sext 16 (bits d 47 32)
def deltaGen (d : Nat) : Nat := bits d 62 48
def deltaValid (d : Nat) : Bool := bit d 63

/-- A field-delta entry (R64). -/
def mkDelta (kx ky temp : Int) (gen : Nat) : Nat :=
  trunc 16 kx + (trunc 16 ky) <<< 16 + (trunc 16 temp) <<< 32 + (gen % 32768) <<< 48 + 1 <<< 63

-- temperature -------------------------------------------------------------------------------------------------------------

/-- The set temperatures in 1/16 °C (R60, R68). -/
def setTemp (i : Nat) : Int := if i = 0 then 320 else if i = 1 then 720 else if i = 2 then 1120 else 1520

/-- The bracketing pair after a reading, given the pair before: the lower set, with R68's hysteresis of 0.25 °C. -/
def nextPair (lo : Nat) (t : Int) : Nat :=
  let up := if lo < 2 ∧ t ≥ setTemp (lo + 1) + 4 then lo + 1 else lo
  let up := if up < 2 ∧ up ≠ lo ∧ t ≥ setTemp (up + 1) + 4 then up + 1 else up
  if up ≠ lo then up
  else
    let dn := if lo > 0 ∧ t ≤ setTemp lo - 4 then lo - 1 else lo
    if dn ≠ lo ∧ dn > 0 ∧ t ≤ setTemp dn - 4 then dn - 1 else dn

/-- The weight of the upper set, 0..1024 (R68). -/
def weightOf (lo : Nat) (t : Int) : Nat :=
  let w := rhu (1024 * (t - setTemp lo)) 400
  if w < 0 then 0 else if w > 1024 then 1024 else w.toNat

/-- R68: v_lo + round_half_up(w·(v_hi − v_lo)/1024). -/
def interp (w : Nat) (lo hi : Int) : Int := lo + rhu (w * (hi - lo)) 1024

/-- The effective record built from the two bracketing records and the field delta (R70). -/
def effRecord (w rLo rHi delta : Nat) : Nat :=
  let adj := deltaValid delta
  let kx := interp w (recKx rLo) (recKx rHi)
  let ky := interp w (recKy rLo) (recKy rHi)
  let kx := if adj then satS 20 (kx + deltaKx delta) else kx
  let ky := if adj then satS 20 (ky + deltaKy delta) else ky
  let as := (List.range 12).foldl
    (fun acc i => acc + (trunc 14 (interp w (recA rLo (i + 1)) (recA rHi (i + 1)))) <<< (56 + 14 * i)) 0
  let q := max (recQuality rLo) (recQuality rHi)
  sealRec (trunc 20 kx + (trunc 20 ky) <<< 20 + (trunc 16 (interp w (recFocus rLo) (recFocus rHi))) <<< 40 + as
    + q <<< 224 + (ofB (recValid rLo && recValid rHi)) <<< 232 + (ofB (recCoarse rLo || recCoarse rHi)) <<< 233
    + (ofB adj) <<< 234 + (ofB (recBlocked rLo || recBlocked rHi)) <<< 235)

-- synthesis ---------------------------------------------------------------------------------------------------------------

/-- 2¹⁴ times the Legendre polynomial L_m at x = n/d, rounded half up (R75). -/
def legendre (m : Nat) (n d : Int) : Int :=
  if m = 0 then 16384
  else if m = 1 then rhu (16384 * n) d
  else if m = 2 then rhu (16384 * (3 * n ^ 2 - d ^ 2)) (2 * d ^ 2)
  else if m = 3 then rhu (16384 * (5 * n ^ 3 - 3 * n * d ^ 2)) (2 * d ^ 3)
  else rhu (16384 * (35 * n ^ 4 - 30 * n ^ 2 * d ^ 2 + 3 * d ^ 4)) (8 * d ^ 4)

/-- X = 2c − 95. -/
def cellX (c : Nat) : Int := 2 * (c : Int) - 95
/-- Y = 2r − 79. -/
def cellY (r : Nat) : Int := 2 * (r : Int) - 79

/-- The orders (m, n) of term i (R75). -/
def termOrder (i : Nat) : Nat × Nat :=
  match i with
  | 1 => (2, 0) | 2 => (1, 1) | 3 => (0, 2) | 4 => (3, 0) | 5 => (2, 1) | 6 => (1, 2)
  | 7 => (0, 3) | 8 => (4, 0) | 9 => (3, 1) | 10 => (2, 2) | 11 => (1, 3) | _ => (0, 4)

/-- P_i(r, c) in Q1.14 (R75). -/
def termP (i r c : Nat) : Int :=
  rhu (legendre (termOrder i).1 (cellX c) 95 * legendre (termOrder i).2 (cellY r) 79) 16384

/-- What a row is synthesised from (R73, R74, R77): slopes in 2⁻²⁴ turn per cell, the record, and the bracketing pair. -/
structure SynthIn where
  ap : Nat
  rec_ : Nat
  kx24 : Int
  ky24 : Int
  lo : Nat
  w : Nat
  span : Nat
deriving DecidableEq, Repr

/-- The clamp of R74. -/
def clamp24 (v : Int) : Int := satS 24 v

/-- The terms of R73 other than the bedstone, in U. -/
def phiTerms (i : SynthIn) (r c : Nat) : Int :=
  2 * clamp24 i.kx24 * cellX c + 2 * clamp24 i.ky24 * cellY r
    + recFocus i.rec_ * (cellX c ^ 2 + cellY r ^ 2)
    + ((List.range 12).map (fun k => recA i.rec_ (k + 1) * termP (k + 1) r c)).sum

/-- The bedstone term of R73, in U. -/
def bedTerm (w bLo bHi : Nat) : Int := 16 * (1024 * (bLo : Int) + w * ((bHi : Int) - bLo))

/-- The wrapped phase: the low 26 bits of the accumulator (R76). -/
def wrapPhase (v : Int) : Nat := trunc 26 v

/-- Placement (R76), in 2⁻²⁶ turn. `upper`: the cell's previous code lies in the upper turn. -/
def place (oneTurn hyst upper : Bool) (phi : Nat) : Nat :=
  if oneTurn then phi
  else if !hyst then (if 2 * phi ≥ 67108864 then phi else phi + 67108864)
  else if upper then (if 10 * phi < 6 * 67108864 then phi + 67108864 else phi)
  else (if 10 * phi ≥ 4 * 67108864 then phi else phi + 67108864)

/-- The code from the interpolated breakpoints (R77). -/
def codeOf (l0 l1 f : Nat) : Nat :=
  let q := (l0 : Int) + (((l1 : Int) - l0) * f + 524288) / 1048576
  min (((q + 32) / 64).toNat) 1023

/-- The last breakpoint's number (R66). -/
def lutTop (span : Nat) : Nat := if span < 2 then 64 else 128

/-- The sum of the first `n + 1` steps of a LUT. -/
def lutSum (tile span set : Nat) : Nat → Nat
  | 0 => Config.lutStep tile span set 0
  | n + 1 => lutSum tile span set n + Config.lutStep tile span set (n + 1)

/-- Breakpoint L[i] of a LUT: breakpoints rise and the last is no greater than 0xFFC0 (R66). -/
def lutPoint (tile span set i : Nat) : Nat := min (i + lutSum tile span set i) (0xFFC0 - (lutTop span - i))

/-- Breakpoint i of the interpolated LUT of a tile and span (R66, R68). -/
def lutAt (tile span lo w i : Nat) : Nat :=
  (interp w (lutPoint tile span lo i) (lutPoint tile span (lo + 1) i)).toNat

/-- A bedstone entry (R65): set, aperture, row, column. -/
def bedOffset (set ap r c : Nat) : Nat := bits (Config.bedstone set ap r c).toNat 15 4
def bedState (set ap r c : Nat) : Nat := bits (Config.bedstone set ap r c).toNat 3 2

/-- DEAD in either bracketing set (R65). -/
def deadCell (lo ap r c : Nat) : Bool := bedState lo ap r c == 2 || bedState (lo + 1) ap r c == 2

/-- The code of one cell (R73-R77). `prev`: its active code in the frame store; `hyst`: trim or re-aim with HYST_EN. -/
def cellCode (i : SynthIn) (hyst : Bool) (prev r c : Nat) : Nat :=
  if deadCell i.lo i.ap r c then 0
  else
    let t := tileOf i.ap
    let phi := wrapPhase (phiTerms i r c + bedTerm i.w (bedOffset i.lo i.ap r c) (bedOffset (i.lo + 1) i.ap r c))
    let top := min ((lutAt t i.span i.lo i.w 64 + 32) / 64) 1023
    let u := place (decide (i.span < 2)) hyst (decide (prev ≥ top)) phi
    codeOf (lutAt t i.span i.lo i.w (u / 1048576)) (lutAt t i.span i.lo i.w (u / 1048576 + 1)) (u % 1048576)

/-- The row `r` of a plane: 96 codes; an absent row is code 0. -/
def rowOf (p : List (List Nat)) (r : Nat) : List Nat := p.getD r (List.replicate 96 0)

/-- One synthesised row. Columns of `short` keep what `old` holds: no writer writes a shorted column (R53). -/
def synthRow (i : SynthIn) (hyst : Bool) (short : Nat) (old store : List Nat) (r : Nat) : List Nat :=
  (List.range 96).map (fun c => if bit short c then old.getD c 0 else cellCode i hyst (store.getD c 0) r c)

/-- The 80 rows of a pattern. -/
def synthPlane (i : SynthIn) (hyst : Bool) (short : Nat) (old store : List (List Nat)) : List (List Nat) :=
  (List.range 80).map (fun r => synthRow i hyst short (rowOf old r) (rowOf store r) r)

end Sys2Proof.Machine
end

