-- ==== Sys2Proof/Machine/Ops.lean ====
section
/-! DEFINITION. The named operations over the engine's registers, memories and clocks that every command shares. -/

namespace Sys2Proof.Machine

-- registers ---------------------------------------------------------------------------------------------------------------

/-- The first copy of a register. -/
def raw (e : Engine) (off : Nat) : Nat := (Tbl.get resetVal e.regs off).toNat

/-- The second copy of a triplicated register. -/
def copy1 (e : Engine) (off : Nat) : Nat := (Tbl.get (fun k => wd (raw e k)) e.trip1 off).toNat

/-- The third copy. -/
def copy2 (e : Engine) (off : Nat) : Nat := (Tbl.get (fun k => wd (raw e k)) e.trip2 off).toNat

/-- The stored word of a register: the value on which two copies agree, or their bitwise majority (R313). -/
def rd (e : Engine) (off : Nat) : Nat := vote (raw e off) (copy1 e off) (copy2 e off)

/-- Write a register: all three copies (R313). -/
def wr (off v : Nat) (e : Engine) : Engine :=
  { e with regs := Tbl.put resetVal e.regs off (wd v), trip1 := Tbl.del e.trip1 off, trip2 := Tbl.del e.trip2 off }

/-- Copy `i` of a field of a register that repeats with a stride. -/
def Fld.at (f : Fld) (i stride : Nat) : Fld := { f with off := f.off + i * stride }

/-- The value of a field. -/
def rdF (e : Engine) (f : Fld) : Nat := bits (rd e f.off) f.hi f.lo

/-- Set a field. -/
def wrF (f : Fld) (v : Nat) (e : Engine) : Engine := wr f.off (setBits (rd e f.off) f.hi f.lo v) e

/-- Whether a one-bit field is 1. -/
def on (e : Engine) (f : Fld) : Bool := rdF e f == 1

/-- Add to a counter; it wraps at 2³². -/
def addC (off n : Nat) (e : Engine) : Engine := wr off (rd e off + n) e

/-- Count one. -/
def inc (off : Nat) (e : Engine) : Engine := addC off 1 e

/-- Add to a register that saturates at 2³² − 1. -/
def satC (off n : Nat) (e : Engine) : Engine := wr off (min (rd e off + n) 0xFFFFFFFF) e

-- row strobes --------------------------------------------------------------------------------------------------------------

/-- A row of code 0. -/
def zeroRow : List Nat := List.replicate 96 0

/-- What a write of `new` leaves in a row that holds `old`: no writer writes a shorted column (R53). -/
def mixRow (short : Nat) (new old : List Nat) : List Nat :=
  if short = 0 then new else (List.range 96).map (fun c => if bit short c then old.getD c 0 else new.getD c 0)

/-- A plane after `n` of its rows from `r` on have been written with those of `src`. -/
def putRows (short r n : Nat) (src p : Plane) : Plane :=
  let p := if p = [] then List.replicate 80 zeroRow else p
  p.take r ++ List.zipWith (mixRow short) ((src.drop r).take n) ((p.drop r).take n) ++ p.drop (r + n)

/-- A plane after code 0 has been written to all of it: shorted columns keep their codes (R53). -/
def zeroPlane (short : Nat) (p : Plane) : Plane := if short = 0 ∨ p = [] then [] else p.map (mixRow short zeroRow)

/-- The instants of `n` strobes from clk `s` on, by row from `r` on (R39). -/
def strobeTimes (s r n : Nat) : Tbl Nat := (List.range n).map (fun i => (r + i, s + 10 * i))

/-- Strobes granted from `s` on before `clk`: one every 10 ns, at most `left` (R39). -/
def strobesBy (clk s left : Nat) : Nat := min left ((clk - s + 9) / 10)

/-- The arm of an aperture at `clk`: every strobe from the last grant on is its own, and the last row sets ARMED (R40, R41). -/
def Aper.armed_ (clk : Nat) (x : Aper) : Aper :=
  if !x.arming then x
  else
    let n := strobesBy clk x.strobe (80 - x.armRow)
    let t := x.strobe + 10 * n
    let done := decide (80 ≤ x.armRow + n ∧ t ≤ clk)
    { x with armRow := x.armRow + n, strobe := t, shAt := x.shAt ++ strobeTimes x.strobe x.armRow n, arming := !done, armed := done }

/-- The trim pass of an aperture at `clk`: it waits while an arm holds the strobes (R40); its rows are credited (R98). -/
def Aper.trimmed (clk : Nat) (x : Aper) : Aper :=
  match x.trim with
  | none => x
  | some t =>
    if x.arming then x
    else
      let s := max x.strobe t.from_
      let n := strobesBy clk s (t.stop - t.row)
      if n = 0 then x
      else
        let at_ := x.actAt.filter (fun p => decide (p.1 < t.row)) ++ strobeTimes s t.row n
          ++ x.actAt.filter (fun p => decide (t.row + n ≤ p.1))
        let y := { x with active := putRows x.shortMap t.row n t.plane x.active, store := putRows 0 t.row n t.plane x.store,
                          actAt := at_, strobe := s + 10 * n }
        if t.stop ≤ t.row + n then { y with trim := none, passes := ({ done := y.strobe, dith := t.dith, idx := t.idx } :: x.passes).take 4 }
        else { y with trim := some { t with row := t.row + n } }

/-- The row strobes of an aperture granted before `clk`, in the order of R40: the arm's, then the pass's. -/
def Aper.strobed (x : Aper) (clk : Nat) : Aper := (x.armed_ clk).trimmed clk

-- sparse tables ----------------------------------------------------------------------------------------------------------

/-- The domain entry after reset (R228). -/
def domDef (d : Nat) : Domain := if d = 0 then { tagQuota := 4096, hopCount := 4080 } else {}

def Engine.hop (e : Engine) (q : Nat) : Hopper := Tbl.get (fun _ => {}) e.cmd.hoppers q
def updHop (q : Nat) (f : Hopper → Hopper) (e : Engine) : Engine :=
  { e with cmd := { e.cmd with hoppers := Tbl.upd (fun _ => {}) e.cmd.hoppers q f } }
def Engine.dom (e : Engine) (d : Nat) : Domain := Tbl.get domDef e.cmd.domains d
def updDom (d : Nat) (f : Domain → Domain) (e : Engine) : Engine :=
  { e with cmd := { e.cmd with domains := Tbl.upd domDef e.cmd.domains d f } }
/-- An aperture as it stands now: the strobes granted since its last change are carried out. -/
def Engine.aper (e : Engine) (a : Nat) : Aper := (Tbl.get (fun _ => {}) e.bkp.apers a).strobed e.clk
def updAper (a : Nat) (f : Aper → Aper) (e : Engine) : Engine :=
  { e with bkp := { e.bkp with apers := Tbl.upd (fun _ => {}) e.bkp.apers a (fun x => f (x.strobed e.clk)) } }
/-- Apply `f` to every aperture. -/
def allApers (f : Nat → Aper → Aper) (e : Engine) : Engine :=
  { e with bkp := { e.bkp with apers := Tbl.mapAll (fun _ => {}) (fun a x => f a (x.strobed e.clk)) e.bkp.apers } }
def Engine.tile (e : Engine) (t : Nat) : Tile := Tbl.get (fun _ => {}) e.bkp.tiles t
def updTile (t : Nat) (f : Tile → Tile) (e : Engine) : Engine :=
  { e with bkp := { e.bkp with tiles := Tbl.upd (fun _ => {}) e.bkp.tiles t f } }
def Engine.port (e : Engine) (p : Nat) : Port := Tbl.get (fun _ => {}) e.xact.ports p
def updPort (p : Nat) (f : Port → Port) (e : Engine) : Engine :=
  { e with xact := { e.xact with ports := Tbl.upd (fun _ => {}) e.xact.ports p f } }
/-- The pairing of a port at the latest epoch. -/
def Engine.pair (e : Engine) (p : Nat) : Pairing := Tbl.get (fun _ => {}) e.xact.cur p
/-- The pairing of a port in the published map. -/
def Engine.pubPair (e : Engine) (p : Nat) : Pairing := Tbl.get (fun _ => {}) e.xact.pub p
def Engine.region (e : Engine) (r : Nat) : Region := Tbl.get (fun _ => {}) e.syn.regions r
def Engine.sens (e : Engine) (a : Nat) : Sens := Tbl.get (fun _ => {}) e.sns.sens a
def updSens (a : Nat) (f : Sens → Sens) (e : Engine) : Engine :=
  { e with sns := { e.sns with sens := Tbl.upd (fun _ => {}) e.sns.sens a f } }
def Engine.bank (e : Engine) (t : Nat) : Bank := Tbl.get (fun _ => {}) e.sns.banks t
def updBank (t : Nat) (f : Bank → Bank) (e : Engine) : Engine :=
  { e with sns := { e.sns with banks := Tbl.upd (fun _ => {}) e.sns.banks t f } }
def Engine.loopOf (e : Engine) (a : Nat) : Loop := Tbl.get (fun _ => {}) e.loop.loops a
def updLoop (a : Nat) (f : Loop → Loop) (e : Engine) : Engine :=
  { e with loop := { e.loop with loops := Tbl.upd (fun _ => {}) e.loop.loops a f } }
def allLoops (f : Nat → Loop → Loop) (e : Engine) : Engine :=
  { e with loop := { e.loop with loops := Tbl.mapAll (fun _ => {}) f e.loop.loops } }
def Engine.slot (e : Engine) (n : Nat) : Slot := Tbl.get (fun _ => {}) e.sch.slots n
def updSlot (n : Nat) (f : Slot → Slot) (e : Engine) : Engine :=
  { e with sch := { e.sch with slots := Tbl.upd (fun _ => {}) e.sch.slots n f } }
/-- The partner of a port in a slot (R187). -/
def Slot.partner (s : Slot) (p : Nat) : Nat := Tbl.get (fun _ => Config.noTarget) s.partners p
def Engine.sensor (e : Engine) (i : Nat) : Sensor := Tbl.get (fun _ => {}) e.thm.sensors i
def updSensor (i : Nat) (f : Sensor → Sensor) (e : Engine) : Engine :=
  { e with thm := { e.thm with sensors := Tbl.upd (fun _ => {}) e.thm.sensors i f } }
/-- A roster entry's 32 words. -/
def Engine.rosterOf (e : Engine) (i : Nat) : List Word := Tbl.get (fun _ => []) e.lrg.roster i

-- host memory -------------------------------------------------------------------------------------------------------------

/-- What a byte of host memory that nothing has written reads as (log 6). -/
def memDefault (_a : Nat) : Byte := 0

/-- One byte of host memory. -/
def rdByte (e : Engine) (a : Nat) : Byte := Tbl.get memDefault e.hostMem a

/-- `n` bytes of host memory from `a`. -/
def rdBytes (e : Engine) (a n : Nat) : List Byte := (List.range n).map (fun i => rdByte e (a + i))

/-- Write one byte of host memory. -/
def putByte (a : Nat) (b : Byte) (m : Tbl Byte) : Tbl Byte := Tbl.put memDefault m a b

/-- Write bytes of host memory from `a` upward. -/
def putBytes : Nat → List Byte → Tbl Byte → Tbl Byte
  | _, [], m => m
  | a, b :: t, m => putBytes (a + 1) t (putByte a b m)

def wrBytes (a : Nat) (l : List Byte) (e : Engine) : Engine := { e with hostMem := putBytes a l e.hostMem }

/-- The canonical form of host memory: addresses strictly rising, no entry equal to the default. -/
abbrev Memory.wf (m : Tbl Byte) : Bool := Tbl.wf memDefault m

-- time ----------------------------------------------------------------------------------------------------------------------

/-- Disciplined time in whole nanoseconds (R287). -/
def dNs (e : Engine) : Nat := e.tim.d / 65536
/-- Seconds of disciplined time. -/
def dSec (e : Engine) : Nat := dNs e / 1000000000
/-- Nanoseconds field of disciplined time. -/
def dNsF (e : Engine) : Nat := dNs e % 1000000000
/-- Microseconds of disciplined time. -/
def dUs (e : Engine) : Nat := dNs e / 1000
/-- An instant in whole nanoseconds. -/
def At.toNs (a : At) : Nat := a.sec * 1000000000 + a.ns
/-- The first instant of the 10 ns grid at or after `t` ns. -/
def gridUp (t : Nat) : Nat := (t + 9) / 10 * 10
/-- The first tick after `t` ns. -/
def tickAfter (t : Nat) : Nat := gridUp (t + 1)

-- modes ---------------------------------------------------------------------------------------------------------------------

/-- Mode codes (R367). -/
def Mode.code : Mode → Nat
  | .off => 0 | .boot => 1 | .bypass => 2 | .calibrate => 3 | .service => 4 | .schedule => 5
  | .hold => 6 | .sleep => 7 | .test => 8 | .safe => 9 | .cooldown => 10 | .lockout => 11

/-- The mode of a code. -/
def Mode.ofCode (n : Nat) : Option Mode :=
  match n with
  | 0 => some .off | 1 => some .boot | 2 => some .bypass | 3 => some .calibrate | 4 => some .service
  | 5 => some .schedule | 6 => some .hold | 7 => some .sleep | 8 => some .test | 9 => some .safe
  | 10 => some .cooldown | 11 => some .lockout | _ => none

/-- The six modes in which commands execute (R368). -/
def execModes : List Mode := [.bypass, .calibrate, .service, .schedule, .test, .safe]

/-- The modes in which the station circuits are held (R264). -/
def litModes : List Mode := [.calibrate, .service, .schedule, .hold]

def inMode (e : Engine) (l : List Mode) : Bool := decide (e.sys.mode ∈ l)

/-- The modes in which the main rails are off. -/
def unpowered (e : Engine) : Bool := inMode e [.off, .sleep, .cooldown]

/-- The array's apertures may be armed by commands: not with the array left at zero phase by a failed restore (R371). -/
def zeroService (e : Engine) : Bool := e.sys.zeroService

/-- The span in force (R50). -/
def spanNow (e : Engine) : Nat := rdF e Fd.BKP_SPAN_SPAN

-- outputs, free values -----------------------------------------------------------------------------------------------------

def emit (ev : OutEv) (e : Engine) : Engine := { e with out := e.out ++ [ev] }

/-- A fresh free value (log 3). -/
def free (e : Engine) : Nat := Config.freeValue e.freeCtr
/-- The engine after using it. -/
def useFree (e : Engine) : Engine := { e with freeCtr := e.freeCtr + 1 }

/-- The configuration of a function. -/
def Engine.fnCfg (e : Engine) (fn : Nat) : FnCfg := Tbl.get (fun _ => {}) e.hif.cfg fn

/-- A vector of a function's MSI-X table. -/
def Engine.vec (e : Engine) (fn v : Nat) : Vec := Tbl.get (fun _ => {}) e.hif.vecs (64 * fn + v)

/-- The vector is masked: its own bit, or as after reset, when every vector is (R261). -/
def vecMasked (e : Engine) (fn v : Nat) : Bool := (e.vec fn v).mask.getD (!decide (fn ∈ e.hif.opened))

/-- The function sends the vector's message now (R239, R245). -/
def vecOpen (e : Engine) (fn v : Nat) : Bool :=
  e.hif.up && (e.fnCfg fn).master && (e.fnCfg fn).msixEn && !(e.fnCfg fn).fnMask && !vecMasked e fn v && !decide (fn ∈ e.hif.flrBusy)

/-- Master `m` of the bus matrix is held (R347). -/
def masterHeld (e : Engine) (m : Nat) : Bool := bit (rd e Reg.FLT_HANG) m

/-- The reset of island `n` is in progress (R348). -/
def islandDown (e : Engine) (n : Nat) : Bool := e.flt.irst == some n

/-- The DMA engine makes no access: its master is held, or its island is in reset (R347, R348). -/
def dmaOff (e : Engine) : Bool := masterHeld e 4 || islandDown e 257

/-- The millpond island has power: an auxiliary supply or a feed (R361, R398). -/
def millpondOn (e : Engine) : Bool := e.pwr.auxA || e.pwr.auxB || e.pwr.feedA || e.pwr.feedB

/-- The TAP runs: on the main rails, out of TRST_N (R384, R401). -/
def tapOn (e : Engine) : Bool := !unpowered e && !e.pins.trstLow

/-- The instruction the TAP executes: EXTEST, CLAMP and HIGHZ only in BYPASS, TEST and SAFE, elsewhere BYPASS (R401). -/
def tapIr (e : Engine) : Nat := if 3 ≤ e.pins.jtagIr ∧ !inMode e [.bypass, .test, .safe] then 0 else e.pins.jtagIr

/-- The engine's outputs stand under the boundary register (R401). -/
def pinsHeld (e : Engine) : Bool := tapOn e && decide (3 ≤ tapIr e)

/-- The band of the engine: the field of SYS_ID, held in three copies that a reset loads from the fuse, as they vote (R2, R313). -/
def bandNow (e : Engine) : Bool := rdF e Fd.SYS_ID_BAND == 1

/-- Signal an MSI-X vector of a function: its message goes to its address; a masked vector is left pending (R245, R261). -/
def signalMsix (fn v : Nat) (e : Engine) : Engine :=
  if vecOpen e fn v then emit (.msix fn v (e.vec fn v).addr (e.vec fn v).data) e
  else if (fn, v) ∈ e.hif.pba then e
  else { e with hif := { e.hif with pba := e.hif.pba ++ [(fn, v)] } }

/-- Run an effect for every element of a list, in order. -/
def each {α : Type} (l : List α) (f : α → Engine → Engine) (e : Engine) : Engine := l.foldl (fun s x => f x s) e

/-- Run an effect under a condition. -/
def whenE (b : Bool) (f : Engine → Engine) (e : Engine) : Engine := if b then f e else e

end Sys2Proof.Machine
end

