-- ==== Sys2Proof/Machine/Clock.lean ====
section
/-! DEFINITION. The passing of time: the engine's clock, disciplined time and the clocks of the time slots (R287, R288, R293).
An event that a command names happens at its instant, so a command that names one still ahead moves the clock on to it (log 1). -/

namespace Sys2Proof.Machine

/-- A clock in 2⁻¹⁶ ns and its remainder after `n` ns at a frequency offset in 1/256 ppb (R287): a nanosecond adds
65,536 + 256·adj·10⁻⁹ units, kept exact. -/
def clockAfter (n : Nat) (adj clock acc : Int) : Int × Int :=
  let a := acc + 256 * adj * n
  (clock + 65536 * n + a / 1000000000, a % 1000000000)

/-- D counts 48-bit seconds (R287): in 2⁻¹⁶ ns it wraps at this. -/
def dWrap : Nat := 281474976710656 * 1000000000 * 65536

/-- How far a clock is ahead of D, around the wrap. -/
def clockGap (c d : Int) : Int := (c - d + (dWrap / 2 : Nat)) % (dWrap : Nat) - (dWrap / 2 : Nat)

/-- ±200 ppm in 1/256 ppb (R287, R294). -/
def adjLim : Int := 51200000

/-- A timestamp taken by the time unit resolves 0.25 ns (R287). -/
def stamp (t : Int) : Int := t / 16384 * 16384

/-- One time slot `n` ns later. -/
def TSlot.after (n : Nat) (x : TSlot) : TSlot :=
  let r := clockAfter n x.adj x.clock x.acc
  { x with clock := r.1 % (dWrap : Nat), acc := r.2 }

/-- The slot D follows. -/
def TimSt.slot (t : TimSt) (n : Nat) : TSlot := if n = 0 then t.s0 else t.s1

/-- The frequency of D in 1/256 ppb: that of the slot it follows, during a handover the new one's plus the remainder, and always
within ±200 ppm (R287, R297). -/
def TimSt.freq (t : TimSt) : Int :=
  match t.ho with
  | some h => clampAbs adjLim ((t.slot h.target).adj + h.rel)
  | none => (t.slot t.sel).adj

/-- The time unit `n` ns later at a frequency that does not change. -/
def TimSt.after (n : Nat) (t : TimSt) : TimSt :=
  let r := clockAfter n t.freq t.d t.acc
  { t with d := r.1.toNat % dWrap, acc := r.2, s0 := t.s0.after n, s1 := t.s1.after n }

/-- The frequency of D relative to C_new for the next millisecond of a handover, in 1/256 ppb: it changes by at most `ramp`
and stays within `slew`, and is the greatest from which the distance still left can be closed (R297). A millisecond at
`v` covers 0.256·v units of 2⁻¹⁶ ns. -/
def hoRel (slew ramp rel gap : Int) : Int :=
  let s : Int := if gap < 0 then -1 else 1
  let v := rel * s
  let room := 2000 * ramp * (gap * s)
  let w :=
    if v < 0 then min 0 (v + ramp)
    else if v > slew then v - ramp
    else if 256 * (v + ramp) * (v + ramp) ≤ room then min slew (v + ramp)
    else if 256 * v * v ≤ room then v
    else max 0 (v - ramp)
  w * s

/-- The end of a millisecond of a handover. -/
def TimSt.hoStep (ramp : Int) (h : Handover) (t : TimSt) : TimSt :=
  let rel := t.freq - (t.slot h.target).adj
  { t with ho := some { h with rel := hoRel h.slew ramp rel (clockGap (t.slot h.target).clock t.d), at_ := h.at_ + 1000000 } }

/-- `n` ns of the time unit from clock `clk`, of a handover to the end of its millisecond, from where `next` goes on. -/
def TimSt.runMs (ramp : Int) (next : Nat → Nat → TimSt → TimSt) (clk n : Nat) (t : TimSt) : TimSt :=
  match t.ho with
  | none => t.after n
  | some h =>
    let m := h.at_ + 1000000 - clk
    if n < m then t.after n else next (clk + m) (n - m) ((t.after m).hoStep ramp h)

/-- The time unit `n` ns later, `clk` being the engine's clock: in a handover millisecond by millisecond. -/
def TimSt.run (ramp : Int) : Nat → Nat → Nat → TimSt → TimSt
  | 0, _, n, t => t.after n
  | k + 1, clk, n, t => TimSt.runMs ramp (TimSt.run ramp k) clk n t

/-- SLEW and RAMP in 1/256 ppb; 0 acts as 1 (TIM_SWITCH). -/
def hoSlew (e : Engine) : Int := ((max 1 (rdF e Fd.TIM_SWITCH_SLEW) * 256 : Nat) : Int)
def hoRamp (e : Engine) : Int := ((max 1 (rdF e Fd.TIM_SWITCH_RAMP) * 256 : Nat) : Int)

/-- A deferred step is needed no more: its slot runs at its integrated frequency again (R304). -/
def TimSt.undefer (t : TimSt) : TimSt :=
  match t.stepDefer with
  | none => t
  | some d =>
    let f (x : TSlot) : TSlot := { x with adj := x.i }
    if d.slot = 0 then { t with stepDefer := none, s0 := f t.s0 } else { t with stepDefer := none, s1 := f t.s1 }

/-- The time unit `n` ns later; a slot that corrects at the limit in place of a step does so until that is not needed (R304). -/
def TimSt.passed (ramp : Int) (clk n : Nat) (t : TimSt) : TimSt :=
  match t.stepDefer with
  | none => TimSt.run ramp (n / 1000000 + 1) clk n t
  | some d =>
    let m := d.until_ - clk
    if n < m then TimSt.run ramp (n / 1000000 + 1) clk n t
    else TimSt.run ramp ((n - m) / 1000000 + 1) (clk + m) (n - m) (TimSt.undefer (TimSt.run ramp (m / 1000000 + 1) clk m t))

/-- `n` ns pass. The time unit is unpowered in OFF, SLEEP and COOLDOWN (R288). -/
def pass (n : Nat) (e : Engine) : Engine :=
  { e with clk := e.clk + n, tim := if unpowered e then e.tim else e.tim.passed (hoRamp e) e.clk n }

/-- Wait for an instant of the engine's clock. -/
def waitClk (t : Nat) (e : Engine) : Engine := if e.clk < t then pass (t - e.clk) e else e

/-- The nanoseconds until disciplined time reads `t` ns. -/
def untilD (e : Engine) (t : Nat) : Nat :=
  let rate : Int := 65536000000000 + 256 * e.tim.freq
  let need : Int := ((t : Int) * 65536 - e.tim.d) * 1000000000 - e.tim.acc
  if need ≤ 0 then 0 else ((need + rate - 1) / rate).toNat

/-- The nanoseconds for which the frequency of D stays as it is: to the end of a handover's millisecond, or of a correction in
place of a step (R297, R304). -/
def steadyFor (e : Engine) : Option Nat :=
  ((e.tim.ho.map (fun h => h.at_ + 1000000 - e.clk)).toList ++ (e.tim.stepDefer.map (fun d => d.until_ - e.clk)).toList).min?

/-- Wait until disciplined time reads `t` ns, its frequency changing at most `k` times. -/
def waitDIn : Nat → Nat → Engine → Engine
  | 0, t, e => if dNs e < t then pass (untilD e t) e else e
  | k + 1, t, e =>
    if dNs e < t then
      match steadyFor e with
      | none => pass (untilD e t) e
      | some m => if untilD e t ≤ m then pass (untilD e t) e else waitDIn k t (pass (max 1 m) e)
    else e

/-- Wait until disciplined time reads `t` ns. -/
def waitD (t : Nat) (e : Engine) : Engine := waitDIn ((untilD e t) / 999000 + 3) t e

end Sys2Proof.Machine
end

