-- ==== Sys2Proof/Machine/Flags.lean ====
section
/-! DEFINITION. Cause bits, classes, the history queue and the attention tree (R329-R345): every flag of the engine is
raised here. -/

namespace Sys2Proof.Machine

/-- The block number of a cause register: its ATN_SUM bit (R337). -/
def blockNo (off : Nat) : Nat :=
  if off ≥ 0x8000 then 18 else if off ≥ 0x5100 then 17 else if off ≥ 0x4800 then 16 else if off ≥ 0x4200 then 15
  else if off ≥ 0x4000 then 14 else if off ≥ 0x3C00 then 13 else if off ≥ 0x3A00 then 12 else if off ≥ 0x3800 then 11
  else if off ≥ 0x3200 then 10 else if off ≥ 0x3000 then 9 else if off ≥ 0x2800 then 8 else if off ≥ 0x2200 then 7
  else if off ≥ 0x2000 then 6 else if off ≥ 0x1800 then 5 else if off ≥ 0x1000 then 4 else if off ≥ 0x0800 then 0
  else if off ≥ 0x0600 then 3 else if off ≥ 0x0400 then 2 else 1

/-- The cause register of a block number; tiles are 0x40 apart (R337). -/
def causeOff (block inst : Nat) : Option Nat :=
  match block with
  | 0 => some Reg.FLT_CAUSE | 1 => some Reg.SYS_CAUSE | 2 => some Reg.PWR_CAUSE | 3 => some Reg.THM_CAUSE
  | 4 => some Reg.TIM_CAUSE | 5 => some Reg.LRG_CAUSE | 6 => some Reg.HIF_CAUSE | 7 => some Reg.DMA_CAUSE
  | 8 => some Reg.CMD_CAUSE | 9 => some Reg.XACT_CAUSE | 10 => some Reg.SCH_CAUSE | 11 => some Reg.SYN_CAUSE
  | 12 => some Reg.BKP_BRAKE_CAUSE | 13 => some Reg.RFS_CAUSE | 14 => some Reg.SNS_CAUSE | 15 => some Reg.LOOP_CAUSE
  | 16 => some Reg.NVR_CAUSE | 17 => some Reg.REG_CAUSE
  | 18 => if inst < 256 then some (Reg.TILE_CAUSE + 0x40 * inst) else none
  | _ => none

/-- The mask of the sticky bits of each block's cause register that have a cause. -/
def causeBits (block : Nat) : Nat :=
  match block with
  | 0 => 0xFF | 1 => 0x3F | 2 => 0x3FF | 3 => 0x7F | 4 => 0x3FF | 5 => 0x3FFF | 6 => 0x3F | 7 => 0xF | 8 => 0xFF
  | 9 => 0xFF | 10 => 0xFF | 11 => 0xFF | 12 => 0x7FF | 13 => 0x3FFF | 14 => 0xFF | 15 => 0xFF | 16 => 0x1F | 17 => 0x3F
  | 18 => 0x3FF | _ => 0

/-- The class of a cause: 0 NOTE, 1 MINOR, 2 MAJOR, 3 SEVERE, 4 GRAVE (R331, R335). Causes with no class stated are NOTE. -/
def classOf (block code : Nat) : Nat :=
  match block with
  | 0 => if code = 7 then 4 else if code = 6 then 3 else if code = 3 ∨ code = 2 then 2 else if code = 5 then 1 else 0
  | 1 => if code = 5 ∨ code = 4 then 1 else 0
  | 2 => if code = 2 ∨ code = 7 then 3 else if code = 8 then 0 else 1
  | 3 => if code = 3 ∨ code = 2 then 3 else if code = 1 then 2 else if code = 6 then 0 else 1
  | 4 => if code = 0 then 1 else 0
  | 5 => if code ∈ [0, 1, 4, 9, 10] then 1 else 0
  | 6 => if code ≤ 2 then 1 else 0
  | 7 => if code = 2 then 0 else 1
  | 8 => if code = 4 then 1 else 0
  | 9 => if code = 7 ∨ code = 1 then 1 else 0
  | 10 => if code ∈ [0, 1, 3, 4, 5] then 1 else 0
  | 11 => if code ∈ [2, 3, 6] then 1 else 0
  | 12 => if code = 0 then 3 else 0
  | 13 => if code = 10 then 4 else if code ∈ [0, 1, 3, 4, 5, 6, 8] then 1 else 0
  | 14 => if code = 7 ∨ code = 0 then 1 else 0
  | 15 => if code = 0 ∨ code = 2 then 1 else 0
  | 16 => if code ∈ [1, 3, 4] then 1 else 0
  | 17 => if code = 3 then 4 else 0
  | 18 => if code = 9 then 4 else if code = 3 ∨ code = 8 then 2 else if code ∈ [0, 6, 7] then 1 else 0
  | _ => 0

/-- The bits of a cause register that its block mask lets reach the tree (R343); BKP has no block mask. -/
def maskOf (e : Engine) (off : Nat) : Nat :=
  if off = Reg.BKP_BRAKE_CAUSE then 0x1FF else rd e (off + 4)

/-- ATN_SUM (R343). -/
def atnSum (e : Engine) : Nat :=
  (e.reach.foldl (fun acc p => if p.2.toNat = 0 then acc else acc ||| (1 <<< blockNo p.1)) 0)
    ||| (if bits (rd e Reg.BKP_BRAKE_CAUSE) 8 0 = 0 then 0 else 1 <<< 12)

/-- ATN_TILEk (R343). -/
def atnTile (e : Engine) (k : Nat) : Nat :=
  e.reach.foldl (fun acc p =>
    if p.1 ≥ 0x8000 ∧ p.2.toNat ≠ 0 ∧ (p.1 - 0x8000) / 0x40 / 32 = k then acc ||| (1 <<< ((p.1 - 0x8000) / 0x40 % 32)) else acc) 0

/-- ATN_SUM & ATN_MASK. -/
def atnVis (e : Engine) : Nat := atnSum e &&& rd e Reg.ATN_MASK

/-- ATTN_N driven low (R344, R333, R397). -/
def attnLow (e : Engine) : Bool :=
  (on e Fd.ATN_CTL_PIN_EN && atnVis e != 0) || bits (rd e Reg.FLT_CAUSE) 7 6 != 0 || e.sys.mode == .lockout

/-- Vector 0 of the physical function at a rise of ATN_SUM & ATN_MASK, at most once per HOLDOFF µs (R345). -/
def atnRise (before : Nat) (e : Engine) : Engine :=
  let now := atnVis e
  if now &&& (now ^^^ before) = 0 then e
  else if !on e Fd.ATN_CTL_MSI_EN then e
  else if e.clk < e.flt.holdUntil then { e with flt := { e.flt with risePend := true } }
  else signalMsix 0 0 { e with flt := { e.flt with holdUntil := e.clk + 1000 * rdF e Fd.ATN_CTL_HOLDOFF } }

/-- Run an effect and signal the rises it causes. -/
def withAttn (f : Engine → Engine) (e : Engine) : Engine := atnRise (atnVis e) (f e)

/-- Set a sticky bit; it reaches the tree if its mask bit is 1 now (R341, R343). -/
def setCause (off code : Nat) (e : Engine) : Engine :=
  withAttn (fun e =>
    let e1 := wr off (rd e off ||| (1 <<< code)) e
    if bit (maskOf e off) code then
      { e1 with reach := Tbl.upd (fun _ => (0 : Word)) e1.reach off (fun w => wd (w.toNat ||| (1 <<< code))) }
    else e1) e

/-- Clear sticky bits of a cause register: they leave the tree too (R341). -/
def clearCause (off m : Nat) (e : Engine) : Engine :=
  let e1 := wr off (rd e off &&& (0xFFFFFFFF ^^^ (m % 4294967296))) e
  { e1 with reach := Tbl.upd (fun _ => (0 : Word)) e1.reach off (fun w => wd (w.toNat &&& (0xFFFFFFFF ^^^ (m % 4294967296)))) }

/-- Set or clear a live bit kept in a cause register. -/
def setLive (f : Fld) (v : Bool) (e : Engine) : Engine := wrF f (ofB v) e

-- history ---------------------------------------------------------------------------------------------------------------------

/-- The order of records of the same 10 ns: descending class, then ascending source (R338). -/
def recKey (r : Rec) : Nat := (7 - r.cls) * 65536 + r.block * 256 + r.inst

/-- Enter a record, newest first; records of the same 10 ns stay in the order of `recKey`. -/
def insertRec (r : Rec) : List Rec → List Rec
  | [] => [r]
  | h :: t => if h.clk / 10 = r.clk / 10 ∧ recKey r < recKey h then h :: insertRec r t else r :: h :: t

/-- Enter an event in the queue, coalescing repeats and pushing out the oldest (R338, R339). -/
def logEvent (r : Rec) (e : Engine) : Engine :=
  if r.cls < min (rdF e Fd.FLT_CTL_LOG_MIN) 4 then e
  else
    match e.flt.hist with
    | h :: t =>
      if on e Fd.FLT_CTL_COALESCE_EN ∧ r.cls ≤ 1 ∧ h.block = r.block ∧ h.inst = r.inst ∧ h.code = r.code
          ∧ r.clk ≤ h.clk + 1000000 then
        { e with flt := { e.flt with hist := { h with rep := min (h.rep + 1) 31 } :: t } }
      else
        let e1 := { e with flt := { e.flt with hist := (insertRec r e.flt.hist).take 32 } }
        if e.flt.hist.length < 32 then e1
        else setCause Reg.FLT_CAUSE 1 (inc Reg.FLT_EVENT_CNT (inc Reg.FLT_HIST_OVF_CNT e1))
    | [] => { e with flt := { e.flt with hist := [r] } }

/-- The record of an event now (R337); made while the time unit is unpowered it carries no valid time and a time of zero (R288). -/
def mkRec (e : Engine) (wire : Bool) (block inst code cls detail : Nat) : Rec :=
  let off := unpowered e
  { wire := wire, timeValid := !off && e.tim.valid, ns := if off then 0 else dNsF e, sec := if off then 0 else dSec e % 4294967296,
    block := block,
    inst := if block = 18 ∨ (block = 0 ∧ code = 2) then inst else 0, code := code, cls := cls, detail := detail, clk := e.clk }

/-- The first GRAVE event is persisted; later ones count (R342). -/
def persistGrave (r : Rec) (e : Engine) : Engine :=
  if e.flt.graveValid then
    { e with flt := { e.flt with graveCount := min (e.flt.graveCount + 1) 0xFFFF } }
  else { e with flt := { e.flt with graveValid := true, graveBusy := true, graveCount := 1, graveRec := r } }

/-- What every event does whatever its reaction: its sticky bit, FLT_EVENT_CNT, the history queue, FLT_CAUSE.SEVERE or
GRAVE with SMB_ALERT_N, and the persisted record (R331, R338, R341, R342, R344). -/
def noteRec (r : Rec) (off : Nat) (e : Engine) : Engine :=
  let e := setCause off r.code e
  let e := logEvent r (inc Reg.FLT_EVENT_CNT e)
  let e := if r.cls = 4 then persistGrave r (setCause Reg.FLT_CAUSE 7 e)
           else if r.cls = 3 then setCause Reg.FLT_CAUSE 6 e else e
  if r.cls ≥ 3 then { e with flt := { e.flt with smbAlert := true } } else e

/-- An event of a cause, with its instance and detail, without the reaction of its class. -/
def noteD (c : Fld) (inst detail : Nat) (e : Engine) : Engine :=
  let b := blockNo c.off
  noteRec (mkRec e false b inst c.lo (classOf b c.lo) detail) c.off e

/-- An event of a NOTE or MINOR cause of a controller block. -/
def note (c : Fld) (e : Engine) : Engine := noteD c 0 0 e

/-- A cause of tile `t`. -/
def tileCause (c : Fld) (t : Nat) : Fld := c.at t 0x40

/-- An event of a NOTE or MINOR cause of tile `t`, with its detail. -/
def noteTile (c : Fld) (t detail : Nat) (e : Engine) : Engine := noteD (tileCause c t) t detail e

/-- Set a summary bit that is logged elsewhere (R335). -/
def mark (c : Fld) (e : Engine) : Engine := setCause c.off c.lo e

/-- The bytes of a record (R337). -/
def Rec.words (r : Rec) : List Word :=
  [wd (ofB r.wire <<< 31 + ofB r.timeValid <<< 30 + r.ns), wd r.sec,
   wd ((r.block * 256 + r.inst % 256) + r.code <<< 16 + (r.rep * 8 + r.cls) <<< 24), wd r.detail]

end Sys2Proof.Machine
end

