-- ==== Sys2Proof/Machine/Servo.lean ====
section
/-! DEFINITION. The slots' servos, holdover, path changes, handovers and the steps of disciplined time (R294-R298, R303, R304). -/

namespace Sys2Proof.Machine

def updSlotT (n : Nat) (f : TSlot → TSlot) (e : Engine) : Engine :=
  if n = 0 then { e with tim := { e.tim with s0 := f e.tim.s0 } } else { e with tim := { e.tim with s1 := f e.tim.s1 } }

/-- The slot is enabled. -/
def slotEn (e : Engine) (n : Nat) : Bool := on e (Fd.TIM_DOM_CFG_EN.at n 32)

-- steps of D -----------------------------------------------------------------------------------------------------------------

/-- The instants of the timed actions still waiting: a SNAPSHOT, commits, injections and captures AT (R303). -/
def timedActions (e : Engine) : List Nat :=
  (match e.snap.atPend with | some (_, t) => [t] | none => [])
    ++ e.xact.txns.filterMap (fun t => if t.whn = 1 ∧ t.commit.isSome ∧ t.st ≠ .committed then some t.req else none)
    ++ (match e.sch.start with | some (_, 1, t) => [t] | _ => [])
    ++ e.loop.inj.filterMap (fun i => if i.p.start = 1 ∧ !i.running then some (At.toNs i.p.at_) else none)
    ++ e.loop.caps.filterMap (fun c => if c.2.st = 1 ∧ c.2.p.trigger = 1 then some (At.toNs c.2.p.at_) else none)

/-- The tick of an action after a step from `d` to `d'` units: one that was passed acts at the first tick after the step (R303). -/
def retick (d d' t : Nat) : Nat := if d < t * 65536 ∧ t * 65536 < d' then tickAfter (d' / 65536) else t

/-- The ticks that wait after a step from `d` to `d'`: sluices requested, a snapshot asked for, and the AT that waits (R303, R322). -/
def reticks (d d' : Nat) (e : Engine) : Engine :=
  { e with xact := { e.xact with jobs := e.xact.jobs.map (fun j => { j with t := j.t.map (retick d d') }),
                                 txns := e.xact.txns.map (fun x => { x with t := x.t.map (retick d d') }) },
           snap := { e.snap with nowAt := tickAfter (d' / 65536),
                                 atTick := match e.snap.atPend with
                                   | some (_, t) => max (gridUp t) (tickAfter (d' / 65536))
                                   | none => e.snap.atTick } }

/-- D steps by `v` units of 2⁻¹⁶ ns; a step past the time of an action makes it late (R303, R304). -/
def dStep (v : Int) (e : Engine) : Engine :=
  let d := e.tim.d
  let d' := (((d : Int) + v) % (dWrap : Int)).toNat
  let late := (timedActions e).filter (fun t => decide (d < t * 65536) && decide (t * 65536 < d'))
  let e := reticks d d' (note Fd.TIM_CAUSE_STEP (inc Reg.TIM_STEP_CNT { e with tim := { e.tim with d := d' } }))
  each late (fun _ e => note Fd.TIM_CAUSE_LATE (inc Reg.TIM_LATE_CNT e)) e

/-- Steps larger than 2 ns are held back (R304). -/
def stepHeld (e : Engine) : Bool :=
  e.xact.txns.any (fun t => t.st == .prepared && t.whn != 0)
    || decide (e.sch.st = .waitStart) || decide (e.sch.st = .playing) || decide (e.sch.st = .held)

/-- 2 ns in 2⁻¹⁶ ns. -/
def twoNs : Int := 131072

def intAbs (x : Int) : Int := if x < 0 then -x else x

-- handovers --------------------------------------------------------------------------------------------------------------------

/-- The slot that D follows or is being handed over to. -/
def selTarget (e : Engine) : Nat := match e.tim.ho with | some h => h.target | none => e.tim.sel

/-- D joins the clock of slot `n` (R297). -/
def joinSlot (n : Nat) (e : Engine) : Engine :=
  let s := e.tim.slot n
  let gap := clockGap s.clock e.tim.d
  let e := if gap = 0 then e else dStep gap e
  note Fd.TIM_CAUSE_SWITCHED { e with tim := { e.tim with sel := n, ho := none, acc := s.acc } }

/-- D joins the clock of slot `n` around the next tick: a step forward at the tick, a step back once the tick lies further behind
than the step, so that none is skipped or repeated and the two ticks are 8 to 12 ns apart (R297). -/
def joinAtTick (n : Nat) (e : Engine) : Engine :=
  let e := waitD (tickAfter (dNs e)) e
  let gap := clockGap (e.tim.slot n).clock e.tim.d
  joinSlot n (if gap < 0 then waitD (dNs e + (intAbs gap).toNat / 65536 + 2) e else e)

/-- Start, or retarget, a handover to slot `n` (R297); `auto`: the engine's own, which raises no SWITCH_REFUSED (R298). -/
def startHandover (n : Nat) (force auto : Bool) (e : Engine) : Engine :=
  let gap := clockGap (e.tim.slot n).clock e.tim.d
  let rel := e.tim.freq - (e.tim.slot n).adj
  let max_ : Int := ((rdF e Fd.TIM_SWITCH_MAX * 1000 * 65536 : Nat) : Int)
  -- SLEW applies to the next handover: one that is retargeted keeps its own
  let slew := match e.tim.ho with | some h => h.slew | none => hoSlew e
  let refuse := if auto then e else note Fd.TIM_CAUSE_SWITCH_REFUSED e
  if intAbs gap ≤ twoNs then { e with tim := { e.tim with ho := some { target := n, rel := 0, at_ := e.clk, slew := slew } } }
  else if intAbs gap ≤ max_ then { e with tim := { e.tim with ho := some { target := n, rel := rel, at_ := e.clk, slew := slew } } }
  else if force && !stepHeld e then joinSlot n e
  else refuse

/-- The handover may end: within 2 ns, and the change of frequency at the join within RAMP. -/
def joinable (e : Engine) (h : Handover) : Bool :=
  decide (intAbs (clockGap (e.tim.slot h.target).clock e.tim.d) ≤ twoNs) && decide (intAbs h.rel ≤ hoRamp e)

/-- Run a handover to its end, millisecond by millisecond. -/
def joinRun : Nat → Engine → Engine
  | 0, e => e
  | k + 1, e =>
    match e.tim.ho with
    | none => e
    | some h =>
      if joinable e h then joinAtTick h.target e
      else joinRun k (pass (max 1 (h.at_ + 1000000 - e.clk)) e)

/-- HANDOVER_JOIN (R297). -/
def execHandoverJoin (s : State) : Host.Outcome State Fault Refusal :=
  .next (s.run (fun e => if unpowered e then e else joinRun 1000000000 e))

/-- An authorised write of TIM_CTL: a SEL other than the slot followed starts a handover; FORCE clears itself (R297). -/
def timCtlApply (v : Nat) (e : Engine) : Engine :=
  let e := wr Reg.TIM_CTL (setBits v 1 1 0) e
  let n := bits v 0 0
  if n = selTarget e then e else startHandover n (bit v 1) false e

-- the slots --------------------------------------------------------------------------------------------------------------------

/-- A slot enters HOLDOVER: adj is held at i (R295); an automatic handover may follow (R298). -/
def enterHoldover (n : Nat) (e : Engine) : Engine :=
  let e := updSlotT n (fun x => { x with state := .holdover, adj := x.i, lockRun := 0, overRun := 0 }) e
  let e := if (e.tim.stepDefer.map (·.slot)) = some n then { e with tim := { e.tim with stepDefer := none } } else e
  if n ≠ e.tim.sel then e
  else
    let e := note Fd.TIM_CAUSE_HOLDOVER e
    let o := 1 - n
    if on e Fd.TIM_CTL_AUTO_SWITCH && (e.tim.slot o).state == .locked && selTarget e != o then
      startHandover o false true (wrF Fd.TIM_CTL_SEL o e)
    else e

/-- A path change: no measurement is used for 2 s (R296). -/
def pathChange (n : Nat) (e : Engine) : Engine :=
  if !slotEn e n then e
  else
    let clk := e.clk
    let e := note Fd.TIM_CAUSE_PATH_CHG (updSlotT n (fun x => { x with pathHoldTo := some (clk + 2000000000) }) e)
    if (e.tim.slot n).state = .locked then enterHoldover n e else e

/-- A wrap or claim at the station changes both paths (R296). -/
def pathChangeBoth (e : Engine) : Engine := pathChange 1 (pathChange 0 e)

/-- Within the 2 s of R296. -/
def pathHeld (e : Engine) (n : Nat) : Bool :=
  match (e.tim.slot n).pathHoldTo with | some t => decide (e.clk < t) | none => false

/-- Clamp to the adjustment limit. -/
def clampAdj (x : Int) : Int := clampAbs adjLim x

/-- The integrating branch of the servo (R294). -/
def servoRun (n : Nat) (o : Int) (e : Engine) : Engine :=
  let kp : Int := rdF e (Fd.TIM_DOM_SERVO_KP.at n 32)
  let ki : Int := rdF e (Fd.TIM_DOM_SERVO_KI.at n 32)
  let shp := rdF e (Fd.TIM_DOM_SHIFT_SH_P.at n 32)
  let shi := rdF e (Fd.TIM_DOM_SHIFT_SH_I.at n 32)
  updSlotT n (fun x =>
    let i := clampAdj (x.i - rnd (ki * o) shi)
    { x with i := i, adj := clampAdj (i - rnd (kp * o) shp) }) e

/-- STEP_THR of slot `n` in 2⁻¹⁶ ns. -/
def stepThr (e : Engine) (n : Nat) : Int := ((rdF e (Fd.TIM_DOM_SHIFT_STEP_THR.at n 32) * 65536 : Nat) : Int)

/-- The frequency by which a slot that corrects at the limit closes an offset, in 1/256 ppb: what adj differs by from the slot's
integrated frequency. -/
def deferRate (e : Engine) (n : Nat) : Int := (e.tim.slot n).adj - (e.tim.slot n).i

/-- The clk from which the correction of an offset `o` at the limit has made the step needless: the offset within STEP_THR (R304). -/
def deferUntil (e : Engine) (n : Nat) (o : Int) : Nat :=
  let r := (intAbs (deferRate e n)).toNat
  let left := (intAbs o - stepThr e n).toNat
  e.clk + (if r = 0 then 1000000000000000000 else (left * 1000000000 + 256 * r - 1) / (256 * r))

/-- A step of slot `n` by −o is held back: the slot corrects at the adjustment limit meanwhile (R304). -/
def deferStep (n : Nat) (o : Int) (e : Engine) : Engine :=
  let e := if e.tim.stepDefer.isSome then e else note Fd.TIM_CAUSE_STEP_DEFER e
  let e := updSlotT n (fun x => { x with adj := if o > 0 then -adjLim else adjLim }) e
  { e with tim := { e.tim with stepDefer := some { slot := n, o := o, at_ := e.clk, until_ := deferUntil e n o } } }

/-- C_n steps by −o, and D with it where the slot is selected (R294, R304); a step of D held back is deferred, and the slot
corrects at the adjustment limit. -/
def servoStep (n : Nat) (o : Int) (e : Engine) : Engine :=
  let sel := n == e.tim.sel
  if sel && stepHeld e && decide (intAbs o > twoNs) then
    deferStep n o e
  else
    let back := e.tim.stepDefer.isSome
    let e := updSlotT n (fun x => { x with clock := (x.clock - o) % (dWrap : Nat), adj := if sel && back then x.i else x.adj }) e
    if sel then dStep (-o) { e with tim := { e.tim with stepDefer := none } } else e

/-- A deferred step is taken once nothing holds it back: what the correction has left of its offset (R304). -/
def stepCheck (e : Engine) : Engine :=
  match e.tim.stepDefer with
  | some d => if stepHeld e then e else servoStep d.slot (d.o + 256 * deferRate e d.slot * ((e.clk - d.at_ : Nat) : Int) / 1000000000) e
  | none => e

/-- The lock rules after a measurement (R295). -/
def lockRules (n : Nat) (o : Int) (e : Engine) : Engine :=
  let thr : Int := ((max 1 (rdF e (Fd.TIM_DOM_THR_LOCK_THR.at n 32)) * 65536 : Nat) : Int)
  let ok := decide (intAbs o ≤ thr)
  let far := decide (intAbs o > 4 * thr)
  let e := updSlotT n (fun x => { x with lockRun := if ok then min (x.lockRun + 1) 255 else 0,
                                         overRun := if far then x.overRun + 1 else 0 }) e
  let x := e.tim.slot n
  if x.state = .acquiring ∧ x.lockRun ≥ 8 then
    note Fd.TIM_CAUSE_LOCK (updSlotT n (fun x => { x with state := .locked, overRun := 0 }) { e with tim := { e.tim with valid := true } })
  else if x.state = .locked ∧ x.overRun ≥ 4 then enterHoldover n e
  else e

/-- A valid exchange gives a measurement: offset `o` and mean path delay `mpd` (R294, R295). -/
def measure (n : Nat) (o mpd : Int) (e : Engine) : Engine :=
  let e := updSlotT n (fun x => { x with ofs := o, mpd := mpd,
                                         state := if x.state = .locked then .locked else .acquiring }) (stepCheck e)
  let thr := stepThr e n
  if (e.tim.slot n).state ≠ .locked ∧ thr ≠ 0 ∧ intAbs o > thr then lockRules n o (servoStep n o e)
  else
    let e := if (e.tim.stepDefer.map (·.slot)) = some n then { e with tim := { e.tim with stepDefer := none } } else e
    lockRules n o (servoRun n o e)

/-- An authorised write of TIM_DOMn_CFG: a DOMAIN_NUM above 127 discards it; with EN 1 the slot starts over in LISTENING. -/
def domCfgApply (n v : Nat) (e : Engine) : Engine :=
  if bits v 7 0 > 127 then e
  else
    let was := slotEn e n
    let e := wr (Reg.TIM_DOM_CFG + 32 * n) v e
    let e := if (e.tim.stepDefer.map (·.slot)) = some n then { e with tim := { e.tim with stepDefer := none } } else e
    let fresh (st : SlotState) (x : TSlot) : TSlot :=
      { x with state := st, lockRun := 0, overRun := 0, pathHoldTo := none, hops := none, sync := none, reqAt := none }
    if bit v 31 then updSlotT n (fresh .listening) e
    else if was then updSlotT n (fresh .disabled) e else e

end Sys2Proof.Machine
end

