-- ==== Sys2Proof/Machine/Power10.lean ====
section
/-! DEFINITION. Exact comparisons of rational numbers with powers of ten: decibels without logarithms (R84, R130, R176, R186). -/

namespace Sys2Proof.Machine

/-- 10^(k/1000) ≤ num/den. -/
def tenLe (num den : Nat) (k : Int) : Bool :=
  if 0 ≤ k then decide (den ^ 1000 * 10 ^ k.toNat ≤ num ^ 1000) else decide (den ^ 1000 ≤ num ^ 1000 * 10 ^ (-k).toNat)

/-- num/den ≤ 10^(k/1000). -/
def leTen (num den : Nat) (k : Int) : Bool :=
  if 0 ≤ k then decide (num ^ 1000 ≤ den ^ 1000 * 10 ^ k.toNat) else decide (num ^ 1000 * 10 ^ (-k).toNat ≤ den ^ 1000)

/-- The greatest `n` in [lo, lo + 2^s) with `p n`, for a `p` that holds up to some point; `lo` where none does. -/
def greatest (p : Int → Bool) : Nat → Int → Int
  | 0, lo => lo
  | s + 1, lo => if p (lo + (2 ^ s : Nat)) then greatest p s (lo + (2 ^ s : Nat)) else greatest p s lo

/-- A power num/den in units of 2⁻¹⁰ µW as 0.01 dBm, rounded half up and clamped to ±32,767; zero reads −32,767 (R186). -/
def dbm100 (num den : Nat) : Int :=
  if num = 0 then -32767
  else
    let d := den * 1024000
    let n := greatest (fun n => tenLe (num * num) (d * d) (2 * n - 1)) 16 (-32768)
    if n < -32767 then -32767 else if n > 32767 then 32767 else n

/-- A power num/den in units of 2⁻¹⁰ µW lies below `thr` in 0.01 dBm (R176). -/
def belowDbm (num den : Nat) (thr : Int) : Bool := !tenLe num (den * 1024000) thr

/-- `a/n` lies below `p` less 0.05 dB (R85). -/
def below005 (a n p : Nat) : Bool := decide (a ^ 200 * 10 < (p * n) ^ 200)

end Sys2Proof.Machine
end

