-- ==== Sys2Proof/Machine/March.lean ====
section
/-! DEFINITION. March runs: the operations of each algorithm, their instants in one aperture, with the refresh strobes that come
between them, and what the run has written to a cell (R40, R55, R56, R59; log 83). -/

namespace Sys2Proof.Machine

/-- Fields of BKP_MARCH_CTL. -/
def marchAlgo (ctl : Nat) : Nat := bits ctl 7 4
def marchBack (ctl : Nat) : Nat := bits ctl 11 8
def marchActive (ctl : Nat) : Bool := bit ctl 14
def marchShadow (ctl : Nat) : Bool := bit ctl 15
/-- WINDOW: 0 and 1 act as 2. -/
def marchWindow (ctl : Nat) : Nat := max 2 (bits ctl 23 16)

/-- Data 0 and data 1 of a background (R56). -/
def marchData (back : Nat) (one : Bool) : Nat :=
  match back, one with
  | 0, false => 0x000 | 0, true => 0x3FF | 1, false => 0x155 | 1, true => 0x2AA
  | 2, false => 0x1FF | 2, true => 0x200 | _, false => 0x0FF | _, true => 0x300

/-- The distances of BUTTERFLY. -/
def butterfly (d : Nat) : Bool := d == 1 || d == 2 || d == 4 || d == 8 || d == 16 || d == 32

/-- The distance between two rows. -/
def apart (r k : Nat) : Nat := (r - k) + (k - r)

/-- Whether an element reads row `r`, for the algorithms of R56; elements count from 0, the first write being 0, and each turn of
a walk is one element (log 83). -/
def marchReads (algo el r : Nat) : Bool :=
  match algo with
  | 0 => el == 1
  | 1 => decide (1 ≤ el) && decide (el ≤ 5)
  | 2 => decide (1 ≤ el) && decide (el ≤ 80)
  | 3 => decide (1 ≤ el) && decide (el ≤ 96)
  | 4 => decide (1 ≤ el) && decide (el ≤ 96)
  | 5 => el == 1 || el == 3
  | _ => decide (1 ≤ el) && decide (el ≤ 80) && butterfly (apart r (el - 1))

/-- Whether a read of a cell expects data 1 (R56); CHECKER begins with data 0 where row plus column is even (log 83). -/
def marchOne (algo el r c : Nat) : Bool :=
  match algo with
  | 0 => false
  | 1 => el == 2 || el == 4
  | 2 => r == el - 1
  | 3 => c == el - 1
  | 4 => c == (r + (el - 1)) % 96
  | 5 => (r + c + el / 2) % 2 == 1
  | _ => false

/-- The code a read expects. -/
def marchExpected (ctl el r c : Nat) : Nat := marchData (marchBack ctl) (marchOne (marchAlgo ctl) el r c)

/-- The place of row `r` in the order of an element: elements 3 and 4 of MARCH_CM go down (R56). -/
def marchOrder (algo el r : Nat) : Nat := if algo = 1 ∧ (el = 3 ∨ el = 4) then 79 - r else r

/-- Reads of every cell of a row in one plane (R56). -/
def readsOfRow (algo r : Nat) : Nat := ((List.range 97).filter (fun el => marchReads algo el r)).length

/-- Time of one plane in ns: 10 a written row, 40 a read row (R55, R56). -/
def marchTime (algo : Nat) : Nat :=
  let reads := ((List.range 80).map (readsOfRow algo)).sum
  40 * reads + (match algo with | 0 => 800 | 1 => 4000 | 2 => 2400 | 3 => 154400 | 4 => 154400 | 5 => 1600 | _ => 2400)

/-- Planes a run includes. -/
def marchPlanes (ctl : Nat) : Nat := ofB (marchActive ctl) + ofB (marchShadow ctl)

/-- The rows in order, and backwards. -/
def rowsUp : List Nat := List.range 80
def rowsDown : List Nat := rowsUp.reverse

/-- One operation of a march run: its plane, element and row, and the data it writes by column, data 1 where true, or a read. -/
structure MarchOp where
  shadow : Bool
  el : Nat
  row : Nat
  data : Option (Nat → Bool)

/-- The operation's strobe: 10 ns to write a row, 40 ns to read one (R55). -/
def MarchOp.time (o : MarchOp) : Nat := if o.data.isSome then 10 else 40

/-- Rows written with one data in one element; rows read. -/
def writes (s : Bool) (el : Nat) (rows : List Nat) (one : Nat → Nat → Bool) : List MarchOp := rows.map (fun r => ⟨s, el, r, some (one r)⟩)
def readRows (s : Bool) (el : Nat) (rows : List Nat) : List MarchOp := rows.map (fun r => ⟨s, el, r, none⟩)

/-- Every row written with data 0. -/
def clearAll (s : Bool) : List MarchOp := writes s 0 rowsUp (fun _ _ => false)

/-- A walk of `n` turns, each writing data 1 with `one`, reading `rd`, and writing data 0 again (R56). -/
def walkOps (s : Bool) (n : Nat) (rows : Nat → List Nat) (one : Nat → Nat → Nat → Bool) (rd : Nat → List Nat) : List MarchOp :=
  (List.range n).flatMap (fun k =>
    writes s (k + 1) (rows k) (one k) ++ readRows s (k + 1) (rd k) ++ writes s (k + 1) (rows k) (fun _ _ => false))

/-- An element of MARCH_CM: each row read, then written with one data. -/
def readWrite (s : Bool) (el : Nat) (rows : List Nat) (one : Bool) : List MarchOp :=
  rows.flatMap (fun r => [⟨s, el, r, none⟩, ⟨s, el, r, some (fun _ => one)⟩])

/-- The operations of a run on one plane, by algorithm (R56). -/
def marchOps (s : Bool) (algo : Nat) : List MarchOp :=
  match algo with
  | 0 => clearAll s ++ readRows s 1 rowsUp
  | 1 => clearAll s ++ readWrite s 1 rowsUp true ++ readWrite s 2 rowsUp false ++ readWrite s 3 rowsDown true
      ++ readWrite s 4 rowsDown false ++ readRows s 5 rowsUp
  | 2 => clearAll s ++ walkOps s 80 (fun k => [k]) (fun _ _ _ => true) (fun _ => rowsUp)
  | 3 => clearAll s ++ walkOps s 96 (fun _ => rowsUp) (fun k _ c => c == k) (fun _ => rowsUp)
  | 4 => clearAll s ++ walkOps s 96 (fun _ => rowsUp) (fun k r c => c == (r + k) % 96) (fun _ => rowsUp)
  | 5 => writes s 0 rowsUp (fun r c => (r + c) % 2 == 1) ++ readRows s 1 rowsUp
      ++ writes s 2 rowsUp (fun r c => (r + c) % 2 == 0) ++ readRows s 3 rowsUp
  | _ => clearAll s ++ walkOps s 80 (fun k => [k]) (fun _ _ _ => true) (fun k => rowsUp.filter (fun r => butterfly (apart r k)))

/-- The operations of a run: the active planes first (R55). -/
def runOps (ctl : Nat) : List MarchOp :=
  (if marchActive ctl then marchOps false (marchAlgo ctl) else []) ++ (if marchShadow ctl then marchOps true (marchAlgo ctl) else [])

/-- The key of a read: plane, element, place of its row, aperture, column, in the order in which a run meets them; reads of one
strobe are ordered by aperture and column (log 83). -/
def marchKey (algo : Nat) (f : MarchRead) : Nat :=
  (((ofB f.shadow * 128 + f.element) * 128 + marchOrder algo f.element f.row) * 8192 + f.aperture) * 128 + f.col

-- one aperture -------------------------------------------------------------------------------------------------------------------

/-- The refresh strobes granted by `x`, each of 10 ns, come before the next operation: when it may begin, and those still to come. -/
def stolen : List Nat → Nat → Nat × List Nat
  | [], x => (x, [])
  | g :: l, x => if g ≤ x then stolen l (x + 10) else (x, g :: l)

/-- The operations with the instants at which they begin in an aperture whose refresh strobes are granted at `gs` (R40, R55). -/
def opStarts : List MarchOp → Nat → List Nat → List (Nat × MarchOp)
  | [], _, _ => []
  | o :: l, x, gs =>
    let y := stolen gs x
    (y.1, o) :: opStarts l (y.1 + o.time) y.2

/-- The clks of the refresh strobes granted to an aperture during a run. -/
def MarchRun.strobes (m : MarchRun) (a : Nat) : List Nat :=
  m.evs.filterMap (fun x => match x.2 with | .strobe b => if b = a then some x.1 else none | .reset _ _ => none)

/-- A tile is in island reset at clk `t` of a run: none of its rows is strobed (R59). -/
def MarchRun.inReset (m : MarchRun) (t clk : Nat) : Bool :=
  m.evs.foldl (fun r x => match x.2 with
    | .reset u b => if u = t ∧ x.1 ≤ clk then b else r
    | .strobe _ => r) false

/-- A tile has been in island reset during a run. -/
def MarchRun.resets (m : MarchRun) (t : Nat) : Bool :=
  m.evs.any (fun x => match x.2 with | .reset u _ => u == t | .strobe _ => false)

/-- The operations of a run in one aperture with the clks at which they begin. -/
def MarchRun.walk (m : MarchRun) (a : Nat) : List (Nat × MarchOp) := opStarts (runOps m.ctl) m.at_ (m.strobes a)

/-- The operations that the tile of the aperture carries out: those begun in its island reset are passed over (R59, log 83). -/
def MarchRun.made (m : MarchRun) (a : Nat) : List (Nat × MarchOp) := (m.walk a).filter (fun x => !m.inReset (tileOf a) x.1)

/-- The first clk from `clk` on at which no operation of the run is in progress in an aperture: the next strobe goes to the writer of a
higher rank, and the run's next operation waits (R40). -/
def MarchRun.freeAt (m : MarchRun) (a clk : Nat) : Nat :=
  match (m.walk a).find? (fun x => decide (x.1 < clk) && decide (clk < x.1 + x.2.time)) with
  | some x => x.1 + x.2.time
  | none => clk

/-- The apertures in which refresh has taken strobes from a run. -/
def MarchRun.delayed (m : MarchRun) : List Nat :=
  dedup (m.evs.filterMap (fun x => match x.2 with | .strobe a => some a | .reset _ _ => none))

/-- When the run is over in every aperture: its own time, later in those whose strobes refresh has taken (R40, R55). -/
def MarchRun.endAt (m : MarchRun) : Nat :=
  m.delayed.foldl (fun t a => (m.walk a).foldl (fun s x => max s (x.1 + x.2.time)) t) (m.at_ + marchPlanes m.ctl * marchTime (marchAlgo m.ctl))

/-- What a run has written last to a cell by `clk`: the end of the strobe, and the data. -/
def MarchRun.wrote (m : MarchRun) (shadow : Bool) (a r c clk : Nat) : Option (Nat × Bool) :=
  (m.made a).foldl (fun y x =>
    match x.2.data with
    | some f => if x.2.shadow = shadow ∧ x.2.row = r ∧ x.1 + 10 ≤ clk then some (x.1 + 10, f c) else y
    | none => y) none

/-- The code that a run has written last to a cell, with the clk of that write. -/
def marchCode (e : Engine) (shadow : Bool) (a r c : Nat) : Option (Nat × Nat) :=
  e.bkp.march.bind (fun m => (m.wrote shadow a r c (m.stop.getD e.clk)).map (fun x => (x.1, marchData (marchBack m.ctl) x.2)))

/-- The run in progress. -/
def marching (e : Engine) : Option MarchRun := e.bkp.march.filter (fun m => m.stop.isNone)

/-- A run's strobes end now. -/
def haltMarch (m : MarchRun) (e : Engine) : Engine := { e with bkp := { e.bkp with march := some { m with stop := some e.clk } } }

/-- Something comes between the strobes of a run in progress. -/
def marchEv (clk : Nat) (v : MarchEv) (e : Engine) : Engine :=
  match marching e with
  | some m => { e with bkp := { e.bkp with march := some { m with evs := m.evs ++ [(clk, v)] } } }
  | none => e

end Sys2Proof.Machine
end

