-- ==== Sys2Proof/Machine/Dma.lean ====
section
/-! DEFINITION. The page map, the translation cache, streams and halted-stream slots (R246-R260). -/

namespace Sys2Proof.Machine

-- the page map ------------------------------------------------------------------------------------------------------------

/-- Entry `i` of node `n` (R251). -/
def pmEntry (e : Engine) (n i : Nat) : Nat := Tbl.get (fun _ => 0) e.dma.map (512 * n + i)

/-- Reserved bits of a page-map entry (R251). -/
def pmReserved (x : Nat) : Bool := bits x 11 4 != 0 || bits x 63 48 != 0

/-- A page-map entry a TABLE_WRITE accepts (R251). -/
def pmWritable (x : Nat) : Bool :=
  !pmReserved x && (!(bit x 0 && !bit x 3) || (decide (bits x 27 12 ≥ 64) && bits x 47 28 == 0))

/-- How a walk ends. -/
inductive Walk where
  | page (big r w : Bool) (addr : Nat)
  | fail (reason level : Nat)
deriving DecidableEq, Repr

/-- The entry a walk reads at a level. -/
def walkAt (iova l node : Nat) : Nat := 512 * node + iova / 2 ^ (12 + 9 * l) % 512

/-- The walk over the levels still to do, from `node` (R250). -/
def walk (e : Engine) (iova : Nat) : List Nat → Nat → Walk
  | [], _ => .fail 4 0
  | l :: ls, node =>
    let x := pmEntry e node ((iova / 2 ^ (12 + 9 * l)) % 512)
    if walkAt iova l node ∈ e.dma.bad then .fail 5 l
    else if !bit x 0 then .fail 1 l
    else if bit x 3 then
      if l ≥ 2 then .fail 4 l
      else if l = 1 then (if bits x 20 12 ≠ 0 then .fail 4 l else .page true (bit x 1) (bit x 2) (bits x 47 12 * 4096))
      else .page false (bit x 1) (bit x 2) (bits x 47 12 * 4096)
    else if l = 0 then .fail 4 l
    else if bits x 27 12 < 64 then .fail 4 l
    else walk e iova ls (bits x 27 12)

/-- Size of a page. -/
def pageSize (big : Bool) : Nat := if big then 2097152 else 4096

def TcEntry.hits (c : TcEntry) (d iova : Nat) : Bool := c.dom == d && c.page == iova / pageSize c.big * pageSize c.big

/-- Put a completed translation in the cache: a tenant keeps its most recently used entries within its quota, and at 4,096
entries the least recently used of all goes (R252). Most recently used stand first. -/
def tcInsert (c : TcEntry) (e : Engine) : Engine :=
  let quota := max 1 (rdF e Fd.DMA_CTL_TC_QUOTA)
  let mine := (e.dma.tc.filter (fun x => x.dom == c.dom)).take (quota - 1)
  let tc := if c.dom ≠ 0 then e.dma.tc.filter (fun x => x.dom != c.dom || decide (x ∈ mine)) else e.dma.tc
  { e with dma := { e.dma with tc := c :: tc.take 4095 } }

/-- Mark a cache entry as used last. -/
def tcTouch (c : TcEntry) (e : Engine) : Engine :=
  { e with dma := { e.dma with tc := c :: e.dma.tc.filter (fun x => x != c) } }

/-- The permission check: reason 2 NO_READ, 3 NO_WRITE. -/
def permFail (r w write : Bool) : Option Nat := if write then (if w then none else some 3) else if r then none else some 2

/-- Translate one address: the bus address, or the reason and level of the fault (R249-R252). -/
def translate (d iova : Nat) (write : Bool) (e : Engine) : Engine × (Nat ⊕ Nat × Nat) :=
  if d = 0 ∧ on e Fd.DMA_PM_CTL_D0_IDENTITY then (e, .inl iova)
  else
    match e.dma.tc.find? (fun c => c.hits d iova) with
    | some c =>
      (tcTouch c e, match permFail c.r c.w write with
        | none => .inl (c.addr + iova % pageSize c.big)
        | some why => .inr (why, if c.big then 1 else 0))
    | none =>
      let e := inc Reg.DMA_TC_MISS_CNT e
      match walk e iova [3, 2, 1, 0] d with
      | .fail why l => (e, .inr (why, l))
      | .page big r w addr =>
        match permFail r w write with
        | some why => (e, .inr (why, if big then 1 else 0))
        | none => (tcInsert ⟨d, iova / pageSize big * pageSize big, big, r, w, addr⟩ e, .inl (addr + iova % pageSize big))

/-- Where the host's answer names a page-map entry, an uncorrectable DDR5 error arises in it before the move: whichever walk
reads it next meets it, a completion's and a descriptor's among them (R250; log 85). -/
def eccMeets (res : HostRes) (e : Engine) : Engine :=
  match res with
  | .mapEcc i => { e with dma := { e.dma with bad := dedup (i :: e.dma.bad) } }
  | _ => e

/-- Translate every page a run of at most 256 bytes touches: the bus addresses of its parts with their lengths (R247). -/
def translateRun (d iova len : Nat) (write : Bool) (e : Engine) : Engine × (List (Nat × Nat) ⊕ Nat × Nat) :=
  let first := min len (4096 - iova % 4096)
  match translate d iova write e with
  | (e, .inr f) => (e, .inr f)
  | (e, .inl a) =>
    if first = len then (e, .inl [(a, first)])
    else
      match translate d (iova + first) write e with
      | (e, .inr f) => (e, .inr f)
      | (e, .inl b) => (e, .inl [(a, first), (b, len - first)])

/-- The bytes of a translated run. -/
def readRun (e : Engine) (parts : List (Nat × Nat)) : List Byte := parts.flatMap (fun p => rdBytes e p.1 p.2)

/-- Write bytes over a translated run. -/
def writeRun : List (Nat × Nat) → List Byte → Engine → Engine
  | [], _, e => e
  | (a, n) :: t, l, e => writeRun t (l.drop n) (wrBytes a (l.take n) e)

/-- The function of a domain exists, has its Bus Master Enable, and is in no reset (R240, R254, R261). -/
def masterOk (e : Engine) (d : Nat) : Bool :=
  e.hif.up && (e.fnCfg d).master && !decide (d ∈ e.hif.flrBusy) && (d == 0 || decide (d ≤ e.hif.numVfs))

/-- Move a run: NO_MASTER, then translation, then for a read a host error (R247, R254). -/
def moveRun (d iova len : Nat) (write : Bool) (res : HostRes) (e : Engine) : Engine × (List (Nat × Nat) ⊕ Nat × Nat) :=
  if !masterOk e d then (e, .inr (7, 0))
  else
    match translateRun d iova len write e with
    | (e, .inr f) => (e, .inr f)
    | (e, .inl parts) =>
      if !write ∧ res = .timeout then (inc Reg.HIF_CPL_TO_CNT e, .inr (6, 0))
      else if !write ∧ res = .hostError then (e, .inr (6, 0))
      else (e, .inl parts)

/-- Empty the translation cache (R253). -/
def tcFlush (e : Engine) : Engine := inc Reg.DMA_TC_FLUSH_CNT { e with dma := { e.dma with tc := [] } }

/-- Drop a domain's translations (R261). -/
def tcDropDom (d : Nat) (e : Engine) : Engine := { e with dma := { e.dma with tc := e.dma.tc.filter (fun c => c.dom != d) } }

-- streams ------------------------------------------------------------------------------------------------------------------

/-- The class of a stream kind (R246). -/
def kindClass (k : Nat) : Nat := if k = 4 then 0 else if k ≤ 3 then 1 else if k = 12 then 2 else 3

/-- Open a stream at the end of the turns. -/
def openStream (kind d iova len : Nat) (write : Bool) (hopper tag : Nat) (job : DmaJob) (e : Engine) : Engine :=
  { e with dma := { e.dma with
      streams := e.dma.streams ++ [{ id := e.dma.nextId, kind := kind, dom := d, iova := iova, len := len, write := write,
                                     hopper := hopper, tag := tag, job := job }],
      nextId := e.dma.nextId + 1 } }

/-- Open a stream of a command. -/
def openCmd (kind : Nat) (cx : Cx) (iova len : Nat) (write : Bool) (job : DmaJob) (e : Engine) : Engine :=
  openStream kind cx.domain iova len write cx.hopper cx.tag job e

def Engine.stream (e : Engine) (id : Nat) : Option Stream := e.dma.streams.find? (fun s => s.id == id)

def updStream (id : Nat) (f : Stream → Stream) (e : Engine) : Engine :=
  { e with dma := { e.dma with streams := e.dma.streams.map (fun s => if s.id = id then f s else s) } }

/-- Remove a stream; a slot it holds is freed, keeping its last record (R255, R260). -/
def dropStream (id : Nat) (e : Engine) : Engine :=
  { e with dma := { e.dma with
      streams := e.dma.streams.filter (fun s => s.id != id),
      slots := e.dma.slots.map (fun p => if p.2.halted ∧ p.2.stream = id then (p.1, { p.2 with halted := false }) else p) } }

def Engine.slotRec (e : Engine) (n : Nat) : FaultSlot := Tbl.get (fun _ => {}) e.dma.slots n

/-- The lowest free halted-stream slot. -/
def freeSlot (e : Engine) : Option Nat := (List.range 64).find? (fun n => !(e.slotRec n).halted)

/-- A stream halts in a slot; `none` where no slot is free (R254, R256). -/
def haltStream (id reason level : Nat) (e : Engine) : Option Engine :=
  match e.stream id, freeSlot e with
  | some s, some n =>
    let seq := (e.dma.seq + 1) % 65536
    let rec_ : FaultSlot :=
      { halted := true, stream := id, seq := seq, iova := s.iova + s.done, reason := reason, kind := s.kind,
        cls := kindClass s.kind, write := s.write, level := if reason ≥ 6 then 0 else level, dom := s.dom,
        hopper := if s.kind = 5 ∨ s.kind ≥ 11 then 0xFFFF else s.hopper, tag := s.tag, done := s.done, sec := dSec e % 4294967296, ns := dNsF e, at_ := e.clk,
        tmo := rdF e Fd.DMA_CTL_HALT_TMO }
    let e := updStream id (fun s => { s with halted := true }) e
    let e := { e with dma := { e.dma with seq := seq, slots := Tbl.put (fun _ => {}) e.dma.slots n rec_ } }
    let e := inc Reg.DMA_FAULT_CNT (note Fd.DMA_CAUSE_XLATE e)
    some (if reason = 5 then note Fd.DMA_CAUSE_MAP_ECC e else e)
  | _, _ => none

/-- A stream can move a chunk now: not halted, and HOLD pauses every stream (R248, R254). -/
def Stream.ready (e : Engine) (s : Stream) : Bool :=
  !s.halted && !inMode e [.hold, .lockout] && !unpowered e && !dmaOff e && (match s.job with | .sq _ => false | .cq _ => false | _ => true)

/-- The stream whose turn it is: the first ready one of the highest class (R248). -/
def turn (e : Engine) : Option Stream :=
  let r := e.dma.streams.filter (fun s => s.ready e)
  [0, 1, 2, 3].findSome? (fun c => r.find? (fun s => kindClass s.kind == c))

/-- A chunk of class `c` runs while the stream that moved last, of a lower class, has more to move (R248). -/
def preempts (e : Engine) (c : Nat) : Bool :=
  match e.dma.last with
  | none => false
  | some l => e.dma.streams.any (fun x => x.id == l && x.ready e && decide (c < kindClass x.kind))

/-- A submission fetch or a completion post, of class `c`, takes the link: a lower-class stream in the middle of its transfer is
pre-empted once (R246, R248). -/
def takeLink (c : Nat) (e : Engine) : Engine :=
  if preempts e c then inc Reg.DMA_PREEMPT_CNT { e with dma := { e.dma with last := none } } else e

/-- A submission fetch has its turn: the class-1 streams open now come before the next one (R248). -/
def sqTurn (e : Engine) : Engine :=
  { e with dma := { e.dma with sqBefore := (e.dma.streams.filter (fun s => kindClass s.kind == 1)).map (·.id) } }

/-- A stream of its own class comes before the next submission fetch (R248). -/
def sqWaits (e : Engine) : Bool :=
  e.dma.streams.any (fun s => kindClass s.kind == 1 && s.ready e && decide (s.id ∈ e.dma.sqBefore))

/-- The halted slots as a 64-bit mask. -/
def haltedMask (e : Engine) (p : FaultSlot → Bool) : Nat :=
  e.dma.slots.foldl (fun acc x => if x.2.halted && p x.2 then acc ||| (1 <<< x.1) else acc) 0

/-- A record's eight words (R255). -/
def FaultSlot.words (n : Nat) (r : FaultSlot) : List Word :=
  [wd r.iova, wd (r.iova / 4294967296),
   wd (r.seq + n <<< 16 + r.reason <<< 24),
   wd (r.kind + r.cls <<< 4 + (ofB r.write) <<< 6 + r.level <<< 8 + r.dom <<< 16),
   wd (r.hopper + r.tag <<< 16), wd r.done, wd r.sec, wd r.ns]

end Sys2Proof.Machine
end

