-- ==== Sys2Proof/Machine/Cmd.lean ====
section
/-! DEFINITION. Completions, order tags and the frame every Keseuk command runs in (R180, R181, R217-R222, R279, R404). -/

namespace Sys2Proof.Machine

-- statuses (R235)
abbrev stOk : Nat := 0x0000
abbrev stEmpty : Nat := 0x0001
abbrev stBadOpcode : Nat := 0x0010
abbrev stBadParam : Nat := 0x0011
abbrev stNotOwner : Nat := 0x0012
abbrev stPortBusy : Nat := 0x0013
abbrev stReserved : Nat := 0x0014
abbrev stPoliced : Nat := 0x0020
abbrev stWrongMode : Nat := 0x0030
abbrev stXlate : Nat := 0x0040
abbrev stDmaAborted : Nat := 0x0041
abbrev stDataEcc : Nat := 0x0050
abbrev stResidue : Nat := 0x0051
abbrev stImplausible : Nat := 0x0060
abbrev stJumpGone : Nat := 0x0061
abbrev stTimeout : Nat := 0x0070

-- roster ---------------------------------------------------------------------------------------------------------------------

/-- Bits of word `w` of roster entry `i` (R286). -/
def rosBits (e : Engine) (i w hi lo : Nat) : Nat := bits (wordAt (e.rosterOf i) w) hi lo
def rosValid (e : Engine) (i : Nat) : Bool := rosBits e i 0 31 31 == 1
def rosMac (e : Engine) (i : Nat) : Nat := rosBits e i 1 31 0 + rosBits e i 2 15 0 * 4294967296
def rosDomain (e : Engine) (i : Nat) : Nat := rosBits e i 0 5 0
def rosHopper (e : Engine) (i : Nat) : Nat := 4080 + rosBits e i 0 27 24

/-- Replace bits of a roster word. -/
def setRos (i w hi lo v : Nat) (e : Engine) : Engine :=
  let t := Tbl.upd (fun _ => []) e.lrg.roster i (fun l => l.set w (wd (setBits (wordAt l w) hi lo v)))
  { e with lrg := { e.lrg with roster := t } }

/-- The entry has a transmit SA that may still send (R277). -/
def txUsable (e : Engine) (i : Nat) : Bool :=
  rosValid e i && rosBits e i 3 25 25 == 1 && decide (rosBits e i 6 31 0 < 0xFFFFFFFF)

-- hoppers --------------------------------------------------------------------------------------------------------------------

/-- A ring hopper (R210). -/
def isRing (q : Nat) : Bool := decide (4080 ≤ q)

/-- The domain of a hopper: the one whose range contains it; for a ring hopper that of its association (R210, R222). -/
def hopDom (e : Engine) (q : Nat) : Option Nat :=
  if isRing q then
    ((e.lrg.roster.find? (fun p => rosValid e p.1 && rosHopper e p.1 == q)).map (fun p => rosDomain e p.1))
  else (List.range 64).find? (fun d => decide ((e.dom d).hopFirst ≤ q) && decide (q < (e.dom d).hopFirst + (e.dom d).hopCount))

/-- R211: both sizes non-zero. A ring hopper is always enabled. -/
def Hopper.enabled (h : Hopper) : Bool := h.sqSize != 0 && h.cqSize != 0

/-- Distance from `a` forward to `b` in a ring of `n`. -/
def ringDist (n a b : Nat) : Nat := (b + n - a) % n

/-- Entries of the submission ring made visible and not fetched. -/
def Hopper.depth (h : Hopper) : Nat := if h.sqSize = 0 then 0 else ringDist h.sqSize h.sqHead h.sqTail

/-- Domain enabled (R227). -/
def domEn (e : Engine) (d : Nat) : Bool :=
  d == 0 || (if d < 32 then bit (rd e Reg.CMD_DOM_EN0) d else bit (rd e Reg.CMD_DOM_EN1) (d - 32))

/-- The MSI-X table size of a function (R245). -/
def vectors (fn : Nat) : Nat := if fn = 0 then 64 else 16

/-- Signal a hopper's vector after a completion, at most once per microsecond of disciplined time (R220, R245). -/
def signalHopper (q : Nat) (e : Engine) : Engine :=
  let h := e.hop q
  let fn := (hopDom e q).getD 0
  if h.vector = 0xFFFF then e
  else if h.vector ≥ vectors fn then note Fd.HIF_CAUSE_VEC_BAD (inc Reg.HIF_VEC_BAD_CNT e)
  else if h.sigUs = some (dUs e) then updHop q (fun h => { h with sigPend := true }) e
  else signalMsix fn h.vector (updHop q (fun h => { h with sigUs := some (dUs e) }) e)

/-- Completion bytes 0..13 (R219). -/
def cplHead (status tag sqHead result : Nat) : List Byte :=
  leBytes 8 result ++ leBytes 2 status ++ leBytes 2 (tag % 4096) ++ leBytes 2 sqHead

/-- Count a posted completion. -/
def countPosted (q : Nat) (e : Engine) : Engine :=
  inc Reg.CMD_COMPL_CNT (updHop q (fun h => { h with live := { h.live with completed := (h.live.completed + 1) % 4294967296 } }) e)

/-- Discard the completion of a disabled hopper (R221). -/
def cqDrop (e : Engine) : Engine := note Fd.CMD_CAUSE_CQ_DROP (inc Reg.CMD_CQ_DROP_CNT e)

/-- Release a command's tag and order tags (R181, R218). -/
def release (cx : Cx) (e : Engine) : Engine :=
  { e with cmd := { e.cmd with inflight := e.cmd.inflight.filter (fun i => i.cx != cx) } }

/-- A completion leaves the engine, posted or discarded: the tag it holds is released (R181, R218). -/
def Held.free (h : Held) (e : Engine) : Engine := if h.own then release h.cx e else e

/-- A hopper is being disabled: the commands it carried lose their completions, and those held for it are discarded and their
tags released (R221). -/
def orphanHopper (q : Nat) (e : Engine) : Engine :=
  let l := (e.hop q).held
  let fl := e.cmd.inflight.map (fun i => if i.cx.hopper = q then { i with orphan := true } else i)
  let st := e.dma.streams.map (fun s => match s.job with
    | .param p _ _ _ (some _) => if p = q then { s with orphan := true } else s
    | _ => s)
  each l (fun h e => cqDrop (h.free e))
    (updHop q (fun h => { h with held := [], sigPend := false })
      { e with cmd := { e.cmd with inflight := fl }, dma := { e.dma with streams := st } })

/-- Disable a hopper: SQ_SIZE written to 0 (R211). -/
def disableHopper (q : Nat) (e : Engine) : Engine := orphanHopper q (updHop q (fun h => { h with sqSize := 0 }) e)

/-- End of a CQ stream: the held completions are discarded and the hopper disabled (R259). -/
def endCq (q : Nat) (e : Engine) : Engine := disableHopper q e

/-- Post the oldest completion held for a hopper, which releases its tag; `none` where its stream halts (R218, R220, R254). -/
def postOne (q : Nat) (e : Engine) : Option Engine :=
  let h := e.hop q
  match h.held with
  | [] => some e
  | c :: rest =>
    match moveRun ((hopDom e q).getD 0) (h.cqBase + 16 * h.cqTail) 16 true .ok (takeLink 0 e) with
    | (e, .inl parts) =>
      let e := writeRun parts (c.bytes ++ leBytes 2 (ofB h.phase * 32768)) e
      let wrap := decide (h.cqTail + 1 ≥ h.cqSize)
      let e := updHop q (fun h => { h with held := rest, cqTail := if wrap then 0 else h.cqTail + 1,
                                           phase := if wrap then !h.phase else h.phase }) e
      some (signalHopper q (countPosted q (c.free e)))
    | (e, .inr (why, l)) =>
      let id := e.dma.nextId
      let e := openStream 4 ((hopDom e q).getD 0) (h.cqBase + 16 * h.cqTail) 16 true q 0xFFFF (.cq q) e
      match haltStream id why l e with
      | some e => some e
      | none => some (endCq q (note Fd.DMA_CAUSE_HALT_FULL (dropStream id e)))

/-- The hopper's completion stream is halted. -/
def cqHalted (e : Engine) (q : Nat) : Bool :=
  e.dma.streams.any (fun s => match s.job with | .cq x => x == q | _ => false)

/-- Post every completion held for a hopper, unless its stream is halted or the DMA is stopped by HOLD, a hang or its reset (R113, R254,
R347). -/
def flushHeld (q : Nat) (e : Engine) : Engine :=
  (List.range (e.hop q).held.length).foldl
    (fun e _ => if cqHalted e q || e.sys.mode == .hold || dmaOff e then e else (postOne q e).getD e) e

/-- Put an own frame in its transmit queue (R271). -/
def queueFrame (pri : Nat) (f : TxFrame) (e : Engine) : Engine :=
  let clk := e.clk
  { e with lrg := { e.lrg with queues := Tbl.upd (fun _ => []) e.lrg.queues pri (fun l => l ++ [{ f with at_ := clk }]) } }

/-- Bytes on the wire of a protected own frame: addresses, Leat tag, SecTAG, EtherType, payload, ICV, FCS (R268, R277). -/
def wireLen (p2p prot : Bool) (n : Nat) : Nat := max 64 (12 + (if p2p then 0 else 6) + (if prot then 32 else 0) + 2 + n + 4)

/-- The completion frame of a ring command (R279). -/
def ringComplete (r : RingRef) (q status tag result : Nat) (e : Engine) : Engine :=
  if !e.lrg.inserted || !txUsable e r.roster then inc Reg.LRG_CPL_DROP_CNT e
  else
    let pl := leBytes 1 1 ++ leBytes 1 2 ++ leBytes 2 r.seq ++ cplHead status tag q result ++ leBytes 2 32768
    countPosted q (queueFrame (rosBits e r.roster 0 23 21)
      { da := r.mac, eth := 0x88B5, payload := pl, wire := wireLen (on e Fd.LRG_CTL_MODE) true pl.length,
        roster := some r.roster, onB := r.onB, cpl := true } e)

def Engine.infl (e : Engine) (cx : Cx) : Option Infl := e.cmd.inflight.find? (fun i => i.cx == cx)

/-- Deliver a completion by the way its command came (R219-R222); `own`: it holds the command's tag until it is posted, or a
ring command's is queued for its station (R218). -/
def deliver (cx : Cx) (own : Bool) (ref : Option RingRef) (sqHead status result : Nat) (e : Engine) : Engine :=
  let h : Held := { cx := cx, own := own, bytes := cplHead status cx.tag sqHead result }
  match ref with
  | some r => ringComplete r cx.hopper status cx.tag result (h.free e)
  | none =>
    if isRing cx.hopper then inc Reg.LRG_CPL_DROP_CNT (h.free e)
    else if !(e.hop cx.hopper).enabled then cqDrop (h.free e)
    else flushHeld cx.hopper (updHop cx.hopper (fun x => { x with held := x.held ++ [h] }) e)

def updInfl (cx : Cx) (f : Infl → Infl) (e : Engine) : Engine :=
  { e with cmd := { e.cmd with inflight := e.cmd.inflight.map (fun i => if i.cx = cx then f i else i) } }

/-- Complete a command: its one completion is delivered. In LOCKOUT none is posted (R333). -/
def complete (cx : Cx) (status result : Nat) (e : Engine) : Engine :=
  if e.sys.mode = .lockout then e
  else
    match e.infl cx with
    | none => deliver cx false none (e.hop cx.hopper).sqHead status result e
    | some i =>
      if i.orphan then cqDrop (release cx e)
      else deliver cx true i.ring i.sqHead status result (updInfl cx (fun x => { x with done := true }) e)

-- the order of commands that name ports --------------------------------------------------------------------------------------------

-- the header entry ----------------------------------------------------------------------------------------------------------------

def hOpcode (h : List Byte) : Nat := fieldOf h 0 2
def hParamRef (h : List Byte) : Bool := bit (fieldOf h 2 1) 0
def hFence (h : List Byte) : Bool := bit (fieldOf h 2 1) 1
def hDomain (h : List Byte) : Nat := fieldOf h 3 1
def hTag (h : List Byte) : Nat := bits (fieldOf h 4 4) 11 0
def hQueue (h : List Byte) : Nat := bits (fieldOf h 4 4) 23 12
def hPlen (h : List Byte) : Nat := fieldOf h 8 2
def hAddr (h : List Byte) : Nat := fieldOf h 16 8

/-- Continuation entries of a command: none with PARAM_REF or with PLEN above 224 (R212, R215). -/
def contEntries (h : List Byte) : Nat := if hParamRef h ∨ hPlen h > 224 then 0 else (hPlen h + 31) / 32

/-- The bytes of entry `i` of a host hopper's ring, where they can be read. -/
def peekAt (e : Engine) (q d i : Nat) : Option (List Byte) :=
  let h := e.hop q
  match moveRun d (h.sqBase + 32 * (i % max 1 h.sqSize)) 32 false .ok e with
  | (_, .inl parts) => some (readRun e parts)
  | (_, .inr _) => none

/-- Opcodes of the commands that name ports (R180). -/
def namingOps : List Nat := [0x0201, 0x0202, 0x0203, 0x0205, 0x0602]

/-- The command names ports. -/
def Infl.naming (i : Infl) : Bool := decide (i.opcode ∈ namingOps)

/-- Among the next `left` entries of a hopper's ring from entry `i` on stands a command that names ports, or one that cannot be
read (log 84). -/
def namingIn (e : Engine) (q d : Nat) : Nat → Nat → Nat → Bool
  | 0, _, _ => false
  | f + 1, i, left =>
    if left = 0 then false
    else
      match peekAt e q d i with
      | none => true
      | some h =>
        let n := 1 + contEntries h
        if left < n then false else decide (hOpcode h ∈ namingOps) || namingIn e q d f (i + n) (left - n)

/-- Entries of a hopper made visible before place `sub` and not fetched. -/
def Hopper.before (h : Hopper) (sub : Nat) : Nat :=
  match (h.bells.filter (fun b => decide (b.2 < sub))).getLast? with
  | some b => ringDist h.sqSize h.sqHead b.1
  | none => 0

/-- A command of the domain that names ports was submitted before place `sub` and has not been fetched (R180). -/
def unfetchedAhead (e : Engine) (dom sub : Nat) : Bool :=
  e.cmd.hoppers.any (fun x =>
    if isRing x.1 then
      x.2.ring.any (fun r => decide (r.sub < sub) && r.ref.dom == dom && decide (hOpcode r.bytes ∈ namingOps))
    else x.2.enabled && hopDom e x.1 == some dom && namingIn e x.1 dom (x.2.before sub) x.2.sqHead (x.2.before sub))

/-- The commands before a command in the list of those in flight. -/
def inflBefore (e : Engine) (i : Infl) : List Infl := e.cmd.inflight.takeWhile (fun j => j.cx != i.cx)

/-- A command that names ports waits to be accepted while one of its domain submitted before it is not accepted (R180). -/
def notFirst (e : Engine) (i : Infl) : Bool :=
  e.cmd.inflight.any (fun j => j.cx != i.cx && !j.accepted && !j.done && j.naming && j.cx.domain == i.cx.domain &&
    (decide (j.sub < i.sub) || (j.sub == i.sub && decide (j ∈ inflBefore e i)))) || unfetchedAhead e i.cx.domain i.sub

/-- `j` is the pending PAIR_COMMIT of the transaction that the PAIR_ABORT `i` names: the abort ends it, or finds it past its
check, so it does not wait behind that commit's tags (R171 against R181; DESIGN CHOICE, log 102). -/
def abortsCommit (e : Engine) (i j : Infl) : Bool :=
  match i.wait with
  | some (.pairAbort cx p) => e.xact.txns.any (fun t => t.dom == cx.domain && t.xid == p.xid && t.commit == some j.cx)
  | _ => false

/-- The park of a MAJOR event still holds its order tags: until its sluice has opened, or nothing is left to park (R334). -/
def MajorPark.live (e : Engine) (k : MajorPark) : Bool :=
  match k.job with
  | some j => e.xact.jobs.any (fun x => x.id == j)
  | none => inMode e litModes && !e.bkp.zero

/-- The ports of its circuits, both ends (R334). -/
def MajorPark.scope (e : Engine) (k : MajorPark) : List Nat :=
  k.ports ++ (k.ports.map (fun p => (e.pair p).partner)).filter (fun q => decide (q < 4096))

/-- A command accepted after the event of a MAJOR park waits for its tags; the commit and the abort of a transaction that holds
the ports since before do not, as the park waits for that transaction (R181, R334; log 103). -/
def behindPark (e : Engine) (i : Infl) : Bool :=
  i.accepted && decide (i.opcode ∉ [0x0202, 0x0203]) &&
    e.flt.parks.any (fun k => decide (k.order ≤ i.order) && k.live e && i.ports.any (fun p => decide (p ∈ k.scope e)))

/-- A command waits behind those accepted before it that hold a tag on one of its ports, the parks of MAJOR events among them,
and one that names ports for its acceptance (R180, R181, R334). -/
def mustWait (e : Engine) (i : Infl) : Bool :=
  (inflBefore e i).any (fun j => !abortsCommit e i j && j.ports.any (fun p => decide (p ∈ i.ports))) || behindPark e i ||
    (i.naming && !i.accepted && notFirst e i)

/-- Count an acceptance (R169, R217). -/
def countAccept (q : Nat) (e : Engine) : Engine :=
  let e := { e with cmd := { e.cmd with accepts := e.cmd.accepts + 1 } }
  inc Reg.CMD_ACCEPT_CNT
    (updHop q (fun h => { h with live := { h.live with accepted := (h.live.accepted + 1) % 4294967296 } }) e)

/-- Internal tags held by packets whose own TAG another command holds: while their parameters are fetched, and until their refusal
is posted (R216, R217). -/
def looseTags (e : Engine) (p : Cx → Bool) : List Cx :=
  e.cmd.hoppers.flatMap (fun x => x.2.held.filterMap (fun h => if !h.own && p h.cx then some h.cx else none)) ++
    e.dma.streams.filterMap (fun s => match s.job with
      | .param _ _ _ _ (some _) => let cx : Cx := { domain := s.dom, hopper := s.hopper, tag := s.tag }; if p cx then some cx else none
      | _ => none)

/-- Completions that a hopper's earlier commands have still to post: of those carried since it was last enabled (R214, R216,
R221). -/
def owed (e : Engine) (q : Nat) : Nat :=
  (e.cmd.inflight.filter (fun i => i.cx.hopper == q && !i.orphan)).length + ((e.hop q).held.filter (fun h => !h.own)).length +
    (e.dma.streams.filter (fun s => !s.orphan && (match s.job with | .param p _ _ _ (some _) => p == q | _ => false))).length

/-- A command of the hopper still holds this TAG (R217; log 108). -/
def tagTaken (cx : Cx) (e : Engine) : Bool :=
  e.cmd.inflight.any (fun i => i.cx.hopper == cx.hopper && i.cx.tag == cx.tag) ||
    !(looseTags e (fun c => c.hopper == cx.hopper && c.tag == cx.tag)).isEmpty

/-- Internal tags in use (R216). -/
def tagsUsed (e : Engine) : Nat := e.cmd.inflight.length + (looseTags e (fun _ => true)).length

/-- Internal tags a domain holds (R216, R238). -/
def domTags (e : Engine) (d : Nat) : Nat :=
  (e.cmd.inflight.filter (fun i => i.cx.domain == d)).length + (looseTags e (·.domain == d)).length

/-- A command takes its tag; CMD_TAG_HWM follows (R216). -/
def holdTag (i : Infl) (e : Engine) : Engine :=
  let e := { e with cmd := { e.cmd with inflight := e.cmd.inflight ++ [i] } }
  let n := tagsUsed e
  if n > rdF e Fd.CMD_TAG_HWM_HWM then wrF Fd.CMD_TAG_HWM_HWM n e else e

/-- Take a command in: it holds its tag, and where `accepted` it is accepted now with the order tags of its ports, after
every command accepted before it (R180, R181, R217). -/
def takeIn (cx : Cx) (opcode : Nat) (ports : List Nat) (accepted : Bool) (e : Engine) : Engine :=
  match e.infl cx with
  | none =>
    let e := holdTag { cx := cx, opcode := opcode, ports := ports, accepted := accepted, at_ := dNs e, sub := e.cmd.subs,
                       order := e.cmd.accepts, sqHead := (e.hop cx.hopper).sqHead } e
    if accepted then countAccept cx.hopper e else e
  | some i =>
    if i.accepted || !accepted then e
    else
      let j := { i with accepted := true, ports := ports, at_ := dNs e, order := e.cmd.accepts }
      countAccept cx.hopper { e with cmd := { e.cmd with inflight := e.cmd.inflight.filter (fun x => x.cx != cx) ++ [j] } }

/-- The result of a command refused under R217. -/
def refuseResult (index cause : Nat) : Nat := index % 65536 * 281474976710656 + cause

/-- What a kind of command needs to execute (R217, R368, R404). -/
structure CmdInfo where
  opcode : Nat
  operator : Bool := true
  hostMem : Bool := false                  -- it reads or writes host memory (R222)
  modes : List Mode := execModes
deriving Repr

/-- The commands a ring station may run in HOLD: SET_MODE, GET_INFO, SNAPSHOT, FAULT_CLEAR (R111). -/
def holdOps : List Nat := [0x0003, 0x0002, 0x0004, 0x0703]

/-- Commands execute now (R111, R368). -/
def executing (e : Engine) (cx : Cx) : Bool := inMode e execModes || (e.sys.mode == .hold && isRing cx.hopper)

/-- The mode check of R404, step 1. -/
def modeOk (e : Engine) (i : CmdInfo) : Bool :=
  if e.sys.mode = .hold then decide (i.opcode ∈ holdOps) else inMode e i.modes

/-- Check 0xE6 or 0xE8 of R217 for a command that was not fetched through a hopper. -/
def headerRefusal (i : CmdInfo) (cx : Cx) : Option (Nat × Nat) :=
  if i.operator && cx.domain != 0 then some (stNotOwner, 0xE6)
  else if i.hostMem && isRing cx.hopper then some (stBadParam, 0xE8)
  else none

/-- The frame of every Keseuk command: it waits where commands do not execute or an older command holds one of its ports;
then the issuer, host-memory, mode and reserved-field checks; then its own part (R181, R217, R404). -/
def runCmd (i : CmdInfo) (cx : Cx) (rsv : Nat) (ports : Engine → List Nat) (body : Engine → Engine) (e : Engine) : Engine :=
  if !executing e cx then e
  else
    match (if (e.infl cx).isNone then headerRefusal i cx else none) with
    | some (st, cause) =>
      complete cx st (refuseResult (e.hop cx.hopper).sqHead cause) (note Fd.CMD_CAUSE_HDR_ERR (inc Reg.CMD_HDR_ERR_CNT e))
    | none =>
      let e := takeIn cx i.opcode (ports e) true e
      if mustWait e ((e.infl cx).getD { cx := cx, opcode := i.opcode }) then e
      else if !modeOk e i then complete cx stWrongMode 0 e
      else if rsv ≠ 0 then complete cx stBadParam 0 e
      else body e

/-- Refuse a command that is not taken in: its completion alone (R217). -/
def refuse (cx : Cx) (ref : Option RingRef) (status index cause : Nat) (sqHead : Nat) (e : Engine) : Engine :=
  deliver cx false ref sqHead status (refuseResult index cause) (note Fd.CMD_CAUSE_HDR_ERR (inc Reg.CMD_HDR_ERR_CNT e))

/-- A command arrives through its hopper with its packet in order: nothing is fetched where commands do not execute (R368);
DOMAIN must be the hopper's (R217, 0xE4), a tenant may not issue the operator's (0xE6), and the tag must be free (0xE7). -/
def arriveAs (operator : Bool) (cx : Cx) (go : Engine → Engine) (e : Engine) : Engine :=
  let h := (e.hop cx.hopper).sqHead
  if !executing e cx then e
  else if hopDom e cx.hopper ≠ some cx.domain then refuse cx none stNotOwner h 0xE4 h e
  else if operator ∧ cx.domain ≠ 0 then refuse cx none stNotOwner h 0xE6 h e
  else if tagTaken cx e then refuse cx none stBadParam h 0xE7 h e
  else go e

/-- An operator's command arrives. -/
def arrive (cx : Cx) (go : Engine → Engine) (e : Engine) : Engine := arriveAs true cx go e

/-- A command that tenants may issue arrives. -/
def arriveT (cx : Cx) (go : Engine → Engine) (e : Engine) : Engine := arriveAs false cx go e

/-- No ports named. -/
def noPorts (_e : Engine) : List Nat := []

/-- An I/O virtual address a command may name: below 2⁴⁸, aligned, and the run ends below 2⁴⁸ (R8, R247). -/
def iovaOk (a align len : Nat) : Bool := decide (a < 281474976710656) && decide (a % align = 0) && decide (a + len ≤ 281474976710656)

end Sys2Proof.Machine
end

