-- ==== Sys2Proof/Machine/Lib.lean ====
section
/-! DEFINITION. The calibration stores, the effective library and what a tile synthesises from (R60-R74, R81, R402). -/

namespace Sys2Proof.Machine

/-- The stored record of a set and an index; unlisted ones are the factory's (R60, log 5). -/
def aimRec (t : Tbl Nat) (set idx : Nat) : Nat :=
  Tbl.get (fun k => sealRec (Config.factoryAim (k / numRecords) (k % numRecords)).toNat) t (set * numRecords + idx)

/-- The field-delta entry of a directional pair (R64); park records have none. -/
def deltaAt (t : Tbl Nat) (idx : Nat) : Nat :=
  if idx ≥ 16805900 then 0 else Tbl.get (fun k => (Config.factoryDelta k).toNat) t idx

/-- Build an effective entry for a region's pair, weight and temperature (R70). A stored record that fails CHECK is not
used: the entry then holds no record that passes CHECK. -/
def buildEff (aims deltas : Tbl Nat) (r : Region) (idx : Nat) : Eff :=
  let lo := aimRec aims r.lo idx
  let hi := aimRec aims (r.lo + 1) idx
  let d := deltaAt deltas idx
  { rec_ := if checkOk lo && checkOk hi then effRecord r.w lo hi d else 0,
    w := r.w, temp := r.temp, lo := r.lo, applied := deltaValid d, gen := deltaGen d }

/-- The sensor region of the source of a record index (R67, R70). -/
def idxRegion (idx : Nat) : Nat := regionOf (tileOf (indexSource idx))

/-- An entry of the effective library: as rebuilt, else as BOOT built it (R70, R71, R374). -/
def effEntry (e : Engine) (idx : Nat) : Eff :=
  Tbl.get (fun k => buildEff e.syn.bootAims e.syn.bootDeltas (Tbl.get (fun _ => {}) e.syn.bootRegions (idxRegion k)) k)
    e.syn.eff idx

/-- The record of an effective entry. -/
def effRec (e : Engine) (idx : Nat) : Nat := (effEntry e idx).rec_

/-- Put a rebuilt entry in the library. -/
def putEff (idx : Nat) (x : Eff) (e : Engine) : Engine :=
  { e with syn := { e.syn with eff := Tbl.ins e.syn.eff idx x } }

/-- What a fetched record is good for (R61, R62). -/
inductive RecState where
  | good | crc | unusable
deriving DecidableEq, Repr

def recState (r : Nat) : RecState :=
  if !checkOk r then .crc else if !recValid r || recBlocked r then .unusable else .good

/-- A record fails CHECK (R61). -/
def aimCrc (e : Engine) : Engine := note Fd.SYN_CAUSE_AIM_CRC (inc Reg.SYN_AIM_CRC_CNT e)

/-- The geometric default of a target the engine arms on its own account (R402). -/
def geoDefault (e : Engine) (a : Nat) (t : Aim) : Nat :=
  match t with
  | .to _ => stationDefault (bandNow e) a
  | _ => parkDefault (bandNow e) a

/-- The record index of an aim. -/
def targetIndex (a : Nat) (t : Aim) : Nat :=
  match t with
  | .to b => aimIndex a b
  | _ => parkIndex a

/-- The record the engine arms on its own account: the effective one, or the default of R402. -/
def ownRec (a : Nat) (t : Aim) (e : Engine) : Engine × Nat :=
  let r := effRec e (targetIndex a t)
  match recState r with
  | .good => (e, r)
  | .crc => (aimCrc e, geoDefault e a t)
  | .unusable => (e, geoDefault e a t)

-- the tile's synthesis inputs ---------------------------------------------------------------------------------------------

/-- The weight a tile synthesises with: while it still holds the old pair it is clamped at the shared set (R68). -/
def tileWeight (e : Engine) (t : Nat) : Nat :=
  let r := e.region (regionOf t)
  let lo := (e.tile t).pairLo
  if r.lo = lo then r.w else if r.lo > lo then 1024 else 0

/-- Inputs of a synthesis of aperture `a` with a record and a pointing in kx24 units. -/
def synthIn (e : Engine) (a rec_ : Nat) (kx24 ky24 : Int) : SynthIn :=
  { ap := a, rec_ := rec_, kx24 := kx24, ky24 := ky24, lo := (e.tile (tileOf a)).pairLo, w := tileWeight e (tileOf a),
    span := spanNow e }

/-- The pointing of an aperture's active pattern before trim and dither, in kx24 units: its record and the correction of its slot
(R74, R203). -/
def Aper.base (x : Aper) : Int × Int := (16 * recKx x.rec_ + x.corr.1, 16 * recKy x.rec_ + x.corr.2)

/-- Wrap hysteresis applies: a trim or re-aim in a two-turn span with HYST_EN (R76). -/
def hystOn (e : Engine) : Bool := decide (spanNow e ≥ 2) && on e Fd.SYN_CTL_HYST_EN

-- annotations -----------------------------------------------------------------------------------------------------------------

/-- DEAD cells of an aperture in either bracketing set of its tile (R58, R65). -/
def deadCells (e : Engine) (a : Nat) : Nat :=
  let lo := (e.tile (tileOf a)).pairLo
  ((List.range 7680).filter (fun k => deadCell lo a (k / 96) (k % 96))).length

/-- σ² of the uniform-RMS column of R80 for an entry, in 10⁻⁶ mturn² / 768: the temperature term is the one of the entry's
build (log 72), (1.5 + 3·out/16)²/3 mturn² with `out` in 1/16 °C. -/
def sigma2 (e : Engine) (x : Eff) : Nat :=
  let out : Int := if x.temp < 320 then 320 - x.temp else if x.temp > 1520 then x.temp - 1520 else 0
  768 * ((if spanNow e < 2 then 93636 else 374544) + 53361 + 4761 + (recQuality x.rec_) ^ 2 * 62500) + (24000 + 3000 * out.toNat) ^ 2

/-- EXP_PENALTY of an entry, 0.0001 dB per unit, rounded half up: 4.343·(2π)²·σ² dB, the factor to 19 digits, and 0.001131 dB
for a dead cell (R80, R81). -/
def expPenalty (e : Engine) (a : Nat) (x : Eff) : Nat :=
  let num := 1714547676557243379 * sigma2 e x + 11310000000000 * 1000000000000 * 768 * deadCells e a
  min ((2 * num + 768 * 10 ^ 24) / (2 * 768 * 10 ^ 24)) 0xFFFF

end Sys2Proof.Machine
end

