-- ==== Sys2Proof/Machine/Txn.lean ====
section
/-! DEFINITION. Transactions, order of ports, jobs and the pairing map: what the transaction unit's commands and every
brake, mode change and sluice share (R160-R182). -/

namespace Sys2Proof.Machine

-- the map ----------------------------------------------------------------------------------------------------------------------

/-- The circuit partner of a port at the latest epoch. -/
def partner (e : Engine) (p : Nat) : Nat := (e.pair p).partner

/-- The port has a circuit partner. -/
def paired (e : Engine) (p : Nat) : Bool := decide (partner e p < 4096)

/-- The active pattern of the port is a park. -/
def isParked (e : Engine) (p : Nat) : Bool := (e.aper p).actKind == 2

/-- The tile of an aperture is frozen. -/
def frozenAp (e : Engine) (a : Nat) : Bool := (e.tile (tileOf a)).frozen

/-- The tile of an aperture is in island reset. -/
def resetAp (e : Engine) (a : Nat) : Bool := (e.tile (tileOf a)).islandRst

/-- The epoch after the next advance. -/
def nextEpoch (e : Engine) : Nat := (e.xact.epoch + 1) % 18446744073709551616

/-- Give a port a partner (or none) at an epoch; `chg`: its park state changes (R186). -/
def setPair (p q ep : Nat) (chg : Bool) (e : Engine) : Engine :=
  let o := e.pair p
  { e with xact := { e.xact with
      cur := Tbl.put (fun _ => {}) e.xact.cur p { partner := q, epochChg := if o.partner = q ∧ !chg then o.epochChg else ep } } }

/-- The partners of a map by port: the restore image (R358). -/
def imageOf (m : Tbl Pairing) : Tbl Nat := m.filterMap (fun x => if x.2.partner < 4096 then some (x.1, x.2.partner) else none)

/-- A read pins the published buffer, for at most 8 µs (R174). -/
def pinnedNow (e : Engine) : Bool :=
  match e.xact.pinned with
  | none => false
  | some (_, t) => decide (e.clk < t + 8000)

def Engine.txn (e : Engine) (id : Nat) : Option Txn := e.xact.txns.find? (fun t => t.id == id)

/-- A port belongs to a transaction whose arm has begun, or awaits its repair (R176). -/
def portArmed (e : Engine) (p : Nat) : Bool :=
  (e.port p).awaiting || (match (e.port p).txn with
    | some id => (e.txn id).any (fun t => t.st == .armed)
    | none => false)

/-- STATE of a port (R176) with a given pairing. -/
def portState (e : Engine) (m : Pairing) (p : Nat) : Nat :=
  if e.bkp.zero || e.bkp.failed then 0
  else if reservedPort p then 1
  else if frozenAp e p then 8
  else if portArmed e p then 3
  else if e.sys.mode = .calibrate ∨ m.partner ≥ 4096 ∧ (isParked e p ∨ e.syn.survey.isSome) then 2
  else if m.partner < 4096 then (if (e.port p).state = 0 then 4 else (e.port p).state)
  else 0

/-- The entry of the PORT table (R174, R186): the pairing from the published map. -/
def portWords (e : Engine) (p : Nat) : List Word :=
  let m := e.pubPair p
  let x := e.port p
  let xid := (x.txn.bind (fun id => e.txn id)).map (·.xid)
  [wd (portState e m p * 268435456 + x.owner * 1048576 + ofB e.syn.survey.isSome * 524288 + ofB x.txn.isSome * 262144
      + ofB (decide (p < m.partner) && decide (m.partner < 4096)) * 131072 + m.partner),
    wd (xid.getD 0 * 65536 + x.lastOutcome * 256), wd m.epochChg, wd (m.epochChg / 4294967296), wd (x.rx * 65536),
    wd (x.lockFrames * 65536), wd (x.dimCnt * 65536 + x.darkCnt)]

/-- The ports whose entry a sluice may change: those the engine holds anything of, and the reserved ones. -/
def shownPorts (e : Engine) : List Nat :=
  dedup ((e.xact.ports.map (·.1) ++ e.xact.cur.map (·.1) ++ e.xact.pub.map (·.1) ++ e.bkp.apers.map (·.1)).filter
    (fun p => decide (p < 4096)) ++ [0, 1, 4094, 4095])

/-- A step that may advance the epoch: until the map at the new epoch is published, a read sees every entry as it stood before
(R174). -/
def mapStep (f : Engine → Engine) (e : Engine) : Engine :=
  let old := match e.xact.shown with | some t => t | none => (shownPorts e).map (fun p => (p, portWords e p))
  let e := f e
  { e with xact := { e.xact with shown := if e.xact.unpub then some old else none } }

/-- An entry as a read sees it (R174). -/
def portSeen (e : Engine) (p : Nat) : List Word :=
  match e.xact.shown.bind (fun t => t.find? (fun x => x.1 == p)) with
  | some x => x.2
  | none => portWords e p

/-- A publication that a read defers (R174). -/
def mapDefer (e : Engine) : Engine := note Fd.XACT_CAUSE_MAP_DEFER (inc Reg.XACT_MAP_DEFER_CNT e)

/-- Advance the epoch; the map waits for publication; the restore image follows, except at a brake sluice (R172, R174, R358). -/
def advanceEpoch (brake : Bool) (e : Engine) : Engine :=
  let e := whenE (pinnedNow e && !e.xact.unpub) mapDefer e
  let e := { e with xact := { e.xact with epoch := nextEpoch e, unpub := true } }
  if brake then e else { e with thm := { e.thm with restore := imageOf e.xact.cur } }

/-- Complete a command whose result carries an epoch once the map at that epoch is published (R175). -/
def completeAt (cx : Cx) (status result epoch : Nat) (e : Engine) : Engine :=
  if !e.xact.unpub then complete cx status result e
  else { e with xact := { e.xact with pubWait := e.xact.pubWait ++ [⟨cx, status, result, epoch⟩] } }

/-- Publish the map at the latest epoch and post the completions that waited for it (R174, R175). -/
def publish (e : Engine) : Engine :=
  let w := e.xact.pubWait
  let e := { e with xact := { e.xact with pub := e.xact.cur, pubEpoch := e.xact.epoch, unpub := false, pubWait := [], shown := none } }
  each w (fun x e => complete x.cx x.status x.result e) e

/-- The read that pins the map ends: the pin is released, and an epoch that waited is published (R174). -/
def releasePin (cx : Cx) (e : Engine) : Engine :=
  if e.xact.pinned.any (fun p => p.1 == cx) then
    let e := { e with xact := { e.xact with pinned := none } }
    if e.xact.unpub then publish e else e
  else e

-- transactions ----------------------------------------------------------------------------------------------------------------

def updTxn (id : Nat) (f : Txn → Txn) (e : Engine) : Engine :=
  { e with xact := { e.xact with txns := e.xact.txns.map (fun t => if t.id = id then f t else t) } }

/-- The open transaction a domain calls `xid`. -/
def byXid (e : Engine) (dom xid : Nat) : Option Txn := e.xact.txns.find? (fun t => t.dom == dom && t.xid == xid && xid != 0)

/-- The ports of an entry: named ones and an implicit drop (R160). -/
def Entry.ports (x : Entry) : List Nat :=
  (if x.drop then [x.a] else [x.a, x.b]) ++ (match x.implicit with | some c => [c] | none => [])

def Txn.ports (t : Txn) : List Nat := t.entries.flatMap (·.ports)

/-- The reserved fields of an entry word (R160). -/
def entryReserved (w : Nat) : Bool := bits w 30 29 != 0 || bits w 15 13 != 0

/-- The ports the words of a list name, as far as their form is right. -/
def listNames (l : List Word) : List Nat :=
  l.flatMap (fun w => let x := w.toNat; if bit x 31 then [bits x 12 0] else [bits x 12 0, bits x 28 16])

/-- The implicit drop of DROP(a): a's partner, unless the list names it (R160). -/
def implicitOf (e : Engine) (names : List Nat) (a : Nat) : Option Nat :=
  if paired e a ∧ partner e a ∉ names then some (partner e a) else none

/-- An entry of a list. -/
def parseEntry (e : Engine) (names : List Nat) (w : Word) : Entry :=
  let x := w.toNat
  if bit x 31 then { drop := true, a := bits x 12 0, b := 0, implicit := implicitOf e names (bits x 12 0) }
  else { drop := false, a := bits x 12 0, b := bits x 28 16 }

/-- A refusal of a list: status, cause, index of the entry (R161, R162). -/
structure ListErr where
  status : Nat
  cause : Nat
  idx : Nat
deriving DecidableEq, Repr

/-- Checks 3 to 8 of R162 for one entry; `before`: ports named by earlier entries. -/
def checkEntry (e : Engine) (dom : Nat) (names before : List Nat) (w : Word) : Option (Nat × Nat) :=
  let x := w.toNat
  let n := parseEntry e names w
  let ps := n.ports
  if entryReserved x || decide (n.a ≥ 4096) || (if bit x 31 then bits x 28 16 != 0 else decide (n.b ≥ 4096) || n.a == n.b)
      || decide (n.a ∈ before) || (!n.drop && decide (n.b ∈ before)) then some (stBadParam, 0x23)
  else if ps.any reservedPort then some (stReserved, 0x24)
  else if dom ≠ 0 ∧ ps.any (fun p => (e.port p).owner != dom) then some (stNotOwner, 0x25)
  else if ps.any (fun p => (e.port p).txn.isSome) then some (stPortBusy, 0x26)
  else if ps.any (frozenAp e) then some (stResidue, 0x27)
  else if !n.drop && ((paired e n.a && partner e n.a != n.b && !decide (partner e n.a ∈ names))
      || (paired e n.b && partner e n.b != n.a && !decide (partner e n.b ∈ names))) then some (stBadParam, 0x28)
  else none

/-- Checks 3 to 8 entry by entry (R162). -/
def checkEntries (e : Engine) (dom : Nat) (names : List Nat) : List Word → List Nat → Nat → Option ListErr
  | [], _, _ => none
  | w :: t, before, i =>
    match checkEntry e dom names before w with
    | some (s, c) => some ⟨s, c, i⟩
    | none => checkEntries e dom names t (before ++ (parseEntry e names w).ports) (i + 1)

/-- Validation of a list (R162). PORT_PARK has no XID, so check 1 never meets it. -/
def validate (e : Engine) (dom xid : Nat) (l : List Word) : Option ListErr :=
  if (byXid e dom xid).isSome then some ⟨stBadParam, 0x21, 0xFFFF⟩
  else if e.xact.txns.length ≥ 64 then some ⟨stPortBusy, 0x22, 0xFFFF⟩
  else checkEntries e dom (listNames l) l [] 0

/-- The apertures an entry arms with their aims (R160). -/
def Entry.targets (e : Engine) (x : Entry) : List (Nat × Aim) :=
  if x.drop then
    (if isParked e x.a then [] else [(x.a, .park)]) ++ (match x.implicit with | some c => [(c, .park)] | none => [])
  else [(x.a, .to x.b), (x.b, .to x.a)]

def Txn.targets (e : Engine) (t : Txn) : List (Nat × Aim) := t.entries.flatMap (·.targets e)

/-- Open a transaction over validated entries; its ports become PENDING (R165). Answers its number with the engine. -/
def openTxn (dom xid : Nat) (entries : List Entry) (e : Engine) : Engine :=
  let id := e.xact.nextId
  let t : Txn := { id := id, dom := dom, xid := xid, entries := entries, openAt := e.clk,
                   tmoMs := rdF e Fd.XACT_CTL_OPEN_TMO }
  let e := { e with xact := { e.xact with txns := e.xact.txns ++ [t], nextId := id + 1 } }
  each t.ports (fun p => updPort p (fun x => { x with txn := some id })) e

-- jobs ------------------------------------------------------------------------------------------------------------------------

def Engine.job (e : Engine) (id : Nat) : Option Job := e.xact.jobs.find? (fun j => j.id == id)

def updJob (id : Nat) (f : Job → Job) (e : Engine) : Engine :=
  { e with xact := { e.xact with jobs := e.xact.jobs.map (fun j => if j.id = id then f j else j) } }

/-- Clear an aperture's ARMED bit and drop an arm in progress (R41). -/
def disarm (a : Nat) (e : Engine) : Engine := updAper a (fun x => { x with armed := false, arming := false }) e

/-- Discard the rows a pass over the active plane has not written (R40, R44). -/
def dropPass (a : Nat) (e : Engine) : Engine := updAper a (fun x => { x with trim := none }) e

/-- Drop a job; what it has armed is disarmed. -/
def dropJob (id : Nat) (e : Engine) : Engine :=
  match e.job id with
  | none => e
  | some j =>
    let e := if j.phase = .waiting then e else each j.targets (fun t => disarm t.1) e
    { e with xact := { e.xact with jobs := e.xact.jobs.filter (fun x => x.id != id) } }

/-- Enter a job. -/
def addJob (j : Job) (e : Engine) : Engine :=
  { e with xact := { e.xact with jobs := e.xact.jobs ++ [{ j with id := e.xact.nextJob }], nextJob := e.xact.nextJob + 1 } }

/-- A job of the engine itself, committed NOW: the sluice 2.00 µs after now on the grid (R166, R168). -/
def addNow (o : Owner) (grp : Nat) (targets : List (Nat × Aim)) (recs : Tbl Nat) (away : List Nat) (cx : Option Cx)
    (e : Engine) : Engine :=
  let t := gridUp (dNs e + 2000)
  addJob { id := 0, owner := o, grp := grp, t := some t, armAt := t - 2000, targets := targets, recs := recs, away := away,
           cx := cx } e

/-- Records the engine arms on its own account, with the defaults of R402. -/
def ownRecs (targets : List (Nat × Aim)) (e : Engine) : Engine × Tbl Nat :=
  let r := targets.foldl (fun (acc : Engine × Tbl Nat) t => let x := ownRec t.1 t.2 acc.1; (x.1, (t.1, x.2) :: acc.2)) (e, [])
  (r.1, r.2.reverse)

-- closing ---------------------------------------------------------------------------------------------------------------------

/-- Status of PAIR_COMMIT for a failure cause (R177). -/
def causeStatus (c : Nat) : Nat :=
  if c = 0x01 ∨ c = 0x03 then stDataEcc else if c = 0x02 then stBadParam else if c = 0x08 then stResidue
  else if c = 0x09 ∨ c = 0x0A ∨ c = 0x0B then stWrongMode else stTimeout

/-- The records kept of closed transactions: the 16 newest of each domain (R183). -/
def keepClosed (t : Txn) (l : List Txn) : List Txn :=
  if t.xid = 0 then l
  else
    let same := (l.filter (fun x => x.dom == t.dom)).take 15
    t :: l.filter (fun x => x.dom != t.dom || decide (x.id ∈ same.map (·.id)))

/-- Close a transaction: its record is kept, its group and jobs are released, PENDING clears and each port of an entry
takes the entry's outcome (R171, R177, R179). -/
def closeTxn (t : Txn) (e : Engine) : Engine :=
  let e := match t.job with | some j => dropJob j e | none => e
  let e := { e with xact := { e.xact with txns := e.xact.txns.filter (fun x => x.id != t.id),
                                          closed := keepClosed { t with job := none, group := none, recs := [] } e.xact.closed } }
  each t.entries (fun n e => each n.ports (fun p => updPort p (fun x => { x with txn := none, lastOutcome := n.outcome })) e) e

/-- The restore transaction over the entries left (R358). -/
def openRestore (entries : List Entry) (tries : Nat) (e : Engine) : Engine :=
  let e := openTxn 0 0 entries e
  let id := e.xact.nextId - 1
  let e := updTxn id (fun t => { t with restore := true, st := .prepared, waitFrom := e.clk, order := e.cmd.accepts }) e
  { e with thm := { e.thm with restoring := some id, restoreTries := tries } }

/-- A restore transaction has failed: without the entry whose record failed it is retried up to 8 times; otherwise
RESTORE_FAIL, and SERVICE stays at zero phase (R358, R371). -/
def restoreFailed (t : Txn) (cause idx : Nat) (e : Engine) : Engine :=
  let left := t.entries.eraseIdx idx
  let e := each (e.xact.jobs.filter (fun j => j.owner == .entry)) (fun j => dropJob j.id) e
  if (cause = 1 ∨ cause = 2) ∧ e.thm.restoreTries < 8 ∧ left ≠ [] then openRestore left (e.thm.restoreTries + 1) e
  else
    let e := { e with thm := { e.thm with restoring := none } }
    let e := note Fd.THM_CAUSE_RESTORE_FAIL e
    if e.sys.mode = .service ∧ e.bkp.zero then { e with sys := { e.sys with zeroService := true } } else e

/-- A transaction fails before its sluice: nothing changes in the light (R177). -/
def failTxn (id cause idx : Nat) (e : Engine) : Engine :=
  match e.txn id with
  | none => e
  | some t =>
    let t' := { t with st := if cause = 0x0C ∨ cause = 0x0E then .aborted else .failed, cause := cause, failIdx := idx,
                       entries := t.entries.map (fun n => { n with outcome := 0x10 }) }
    let e := closeTxn t' e
    let e := if cause = 0x0C ∨ cause = 0x0E then inc Reg.XACT_ABORT_CNT e else inc Reg.XACT_PREFAIL_CNT e
    let e := if (cause = 0x0C ∨ cause = 0x0E) ∧ !t.earlyDone then e else note Fd.XACT_CAUSE_PRE_FAIL e
    let e := if cause = 0x04 ∨ cause = 0x06 then note Fd.XACT_CAUSE_LATE e
             else if cause = 0x05 then note Fd.XACT_CAUSE_NO_GROUP e
             else if cause = 0x0D then note Fd.XACT_CAUSE_OPEN_TMO e else e
    let e := if t.restore then restoreFailed t cause idx e else e
    match t.commit with
    | some cx =>
      if t.earlyDone then e
      else if cause = 0x0E then release cx e
      else complete cx (causeStatus cause) (cause + (if cause = 1 ∨ cause = 2 then idx * 65536 else 0)) e
    | none => e

/-- Every open transaction satisfying `p` that is not past its check instant fails. -/
def failAll (p : Txn → Bool) (cause : Nat) (e : Engine) : Engine :=
  each (e.xact.txns.filter (fun t => p t && !t.checked)) (fun t => failTxn t.id cause 0xFFFF) e

end Sys2Proof.Machine
end

