-- ==== Sys2Proof/Machine/Array.lean ====
section
/-! DEFINITION. The array: loops' starts and stops, the station's place in it and the copy of one aperture (R41-R43, R148, R152,
R159, R264). -/

namespace Sys2Proof.Machine

-- loop configuration ------------------------------------------------------------------------------------------------------

/-- The reset words 0..10 of a LOOPCFG entry by band (R159). -/
def cfgDefault (cb : Bool) : List Word :=
  [wd (if cb then 5196 else 6147), wd (if cb then 10391 else 12295), 0, 0x10101007, 0x40000000, 65536,
   wd ((if cb then 19456 else 13926) * 65536 + 0xC04), wd ((if cb then 12989 * 65536 + 41333 else 15368 * 65536 + 34933)),
   wd (4096 * 65536 + 2 * 256 + 8), wd (32768 * 65536 + 655), wd (8 * 65536 + 2)]

/-- Words 0..10 of the LOOPCFG entry of an aperture (R159). -/
def cfgOf (e : Engine) (a : Nat) : List Word := Tbl.get (fun _ => cfgDefault e.sys.bandCB) e.loop.cfg a

/-- Bits of word `w` of a LOOPCFG entry. -/
def cfgBits (e : Engine) (a w hi lo : Nat) : Nat := bits (wordAt (cfgOf e a) w) hi lo

/-- TRIM_LIM of an aperture. -/
def trimLim (e : Engine) (a : Nat) : Int := cfgBits e a 5 23 0

-- loops ---------------------------------------------------------------------------------------------------------------------

/-- Clear the trims of an axis, keeping its set-point (R148). -/
def Axis.restart (x : Axis) : Axis := { sp := x.sp }

/-- A loop at a sluice that copies its aperture to a lit pattern (R148). `keep`: the target is unchanged. -/
def Loop.sluiced (l : Loop) (keep : Bool) (clk : Nat) : Loop :=
  { st := .acquire, x := if keep then l.x.restart else {}, y := if keep then l.y.restart else {}, sluices := l.sluices + 1,
    waitEdge := true, acqEdge := true, evalAt := clk }

/-- A loop that stops with its state discarded (R148, R152); `keepSp`: the brake of a span change keeps the set-points. -/
def Loop.offed (l : Loop) (keepSp : Bool) : Loop :=
  { x := if keepSp then l.x.restart else {}, y := if keepSp then l.y.restart else {}, sluices := l.sluices }

/-- A loop put back in ACQUIRE with its integrators, outputs and set-points kept (R141, R150, R152). -/
def Loop.reacquire (l : Loop) : Loop :=
  { l with st := .acquire, locked := false, lockRun := 0, overRun := 0, missRun := 0, acqFrames := 0, acqEdge := true,
           acqTold := false, evals := 0, window := [] }

/-- A station circuit aperture. -/
def isStation (a : Nat) : Bool := (stationPartner a).isSome

/-- ACTIVE_KIND of an aim (R58). -/
def kindOf (a : Nat) (t : Aim) : Nat :=
  match t with
  | .zero => 0
  | .park => 2
  | .to _ => if isStation a then 3 else 1

/-- ACTIVE_TARGET of an aim (R58). -/
def targetOf (t : Aim) : Nat := match t with | .to b => b | _ => Config.noTarget

/-- The aim of an aperture's active pattern. -/
def aimNow (e : Engine) (a : Nat) : Aim :=
  let x := e.aper a
  if x.actKind = 0 then .zero else if x.actKind = 2 then .park else .to x.actTarget

-- station ---------------------------------------------------------------------------------------------------------------------

/-- The station leaves the ring (R264): it holds no token, claims nothing and hears nothing. -/
def detach (e : Engine) : Engine :=
  { e with lrg := { e.lrg with inserted := false, operational := false, a := { nonce := e.lrg.a.nonce },
                               b := { nonce := e.lrg.b.nonce } } }

/-- The station is inserted while the station circuits are held, its transceivers locked (R264); in point-to-point mode lock alone
is what a link needs (R280). -/
def updStation (e : Engine) : Engine :=
  let held := inMode e litModes && stationPairs.all (fun p => (e.aper p.1).actKind == 3 && (e.aper p.2).actKind == 3)
  if held && !e.lrg.inserted then
    let begin_ (r : RingSt) : RingSt := { r with tokenAt := e.clk, goodAt := if on e Fd.LRG_CTL_MODE then some e.clk else none }
    { e with lrg := { e.lrg with inserted := true, a := begin_ e.lrg.a, b := begin_ e.lrg.b } }
  else if !held && e.lrg.inserted then detach e else e

-- one aperture at a sluice ------------------------------------------------------------------------------------------------

/-- The port of an aperture starts over at the sluice that copies it (R176, R186). -/
def portSluiced (a : Nat) (e : Engine) : Engine :=
  if a < 4096 then
    updPort a (fun p => { p with litSeen := false, frames := 0, lockFrames := 0, taps := [], rx := 0x8000, state := 0 }) e
  else e

/-- Copy the shadow plane of an armed aperture to its active plane; the frame store records it, its ages start over and its
loop begins or stops (R42, R43, R72, R148). -/
def copyAper (a : Nat) (e : Engine) : Engine :=
  let x := e.aper a
  let same := x.actKind == x.shKind && x.actTarget == x.shTarget
  let clk := e.clk
  let kept := (x.shKind == 1 || x.shKind == 3) && (same || (x.actKind == 0 && e.bkp.span.isSome))
  let e := updAper a (fun x => { x with active := x.shadow, store := x.shadow, actKind := x.shKind, actTarget := x.shTarget,
                                        rec_ := x.shRec, corr := x.shCorr, armed := false, trim := none, repark := false, passes := [], actAt := [], copyAt := clk,
                                        lastSluice := clk }) e
  let lit := x.shKind == 1 || x.shKind == 3
  let e := updLoop a (fun l => if lit then l.sluiced kept clk else
    let o := l.offed false
    { o with sluices := l.sluices + 1 }) e
  portSluiced a e

end Sys2Proof.Machine
end

