-- ==== Sys2Proof/Machine/Player.lean ====
section
/-! DEFINITION. The schedule player: its segments and positions, the flume's reads, what reaching a boundary does, and the stop
of a schedule; and the engine's own parks, which a stop may ask for (R182, R190-R194, R199-R203, R206, R334). -/

namespace Sys2Proof.Machine

-- segments -----------------------------------------------------------------------------------------------------------------------

def segSlot (w : SegWords) : Nat := bits (wordAt w 0) 31 24
def segNext (w : SegWords) : Nat := bits (wordAt w 0) 23 14
def segJump (w : SegWords) : Nat := bits (wordAt w 0) 13 4
def segCond (w : SegWords) : Nat := bits (wordAt w 0) 3 2
def segClr (w : SegWords) : Bool := bit (wordAt w 0) 1
def segStop (w : SegWords) : Bool := bit (wordAt w 0) 0
def segDwell (w : SegWords) : Nat := wordAt w 1
def segRepeat (w : SegWords) : Nat := bits (wordAt w 2) 31 16
def segFlag (w : SegWords) : Nat := bits (wordAt w 2) 4 0

/-- The slot-clock tick in 2⁻²⁴ ns (R192). -/
def tickPeriod (e : Engine) : Nat := rdF e Fd.SCH_CLK_INT_INT * 16777216 + rdF e Fd.SCH_CLK_FRAC_FRAC

/-- The length of a play in 2⁻²⁴ ns. -/
def playLen (e : Engine) (w : SegWords) : Nat := segDwell w * tickPeriod e

/-- R193: a play lasts 2,000 ns or more. -/
def longEnough (e : Engine) (w : SegWords) : Bool := decide (2000 * 16777216 ≤ playLen e w)

/-- The form of a segment (R190, R193). -/
def segOk (e : Engine) (w : SegWords) : Bool :=
  segDwell w != 0 && segCond w != 3 && bits (wordAt w 2) 15 5 == 0 && wordAt w 3 == 0 && longEnough e w

/-- The tick of an exact offset (R192). -/
def boundaryTick (base endE : Nat) : Nat := base + 10 * ((endE + 83886080) / 167772160)

-- positions ------------------------------------------------------------------------------------------------------------------------

/-- Stream position `q` lies before `p` (positions are 32-bit). -/
def posBefore (q p : Nat) : Bool := decide (q ≠ p) && decide ((p + 4294967296 - q) % 4294967296 < 2147483648)

/-- The position a 10-bit field names in the segment at `r` (R191). -/
def fieldPos (r field : Nat) : Nat :=
  let d := (field + 1024 - r % 1024) % 1024
  if d ≤ 512 then (r + d) % 4294967296 else (r + 4294967296 + d - 1024) % 4294967296

/-- A field's target seen from position `r` (R191). -/
def resolveField (e : Engine) (r field : Nat) : Nat := if e.sch.stream then fieldPos r field else field % 1024

/-- The position playing, or the one the stream begins with. -/
def playingPos (e : Engine) : Nat := match e.sch.cur with | some p => p.pos | none => e.sch.startPos

/-- The play after which the next boundary is resolved: the last one resolved, else the one playing. -/
def lastPlay (e : Engine) : Option Play :=
  match e.sch.nextB.getLast? with
  | some b => if b.stop then none else some b.play
  | none => e.sch.cur

/-- The words of a play's segment. -/
def segOf (e : Engine) (pos : Nat) : SegWords := Tbl.get (fun _ => []) (if e.sch.stream then e.sch.window else e.sch.segs) pos

-- parks of the engine itself -------------------------------------------------------------------------------------------------

/-- The parks of a set of ports (R334, R371): each circuit whole, ordinary ports only, not those already parked; an end in a
frozen tile is not armed but loses its partner. -/
def parkScope (ports : List Nat) (e : Engine) : List (Nat × Aim) × List Nat :=
  let all := dedup (ports.flatMap (fun p => if paired e p then [p, partner e p] else [p]))
  let all := all.filter (fun p => ordinary p)
  ((all.filter (fun p => !isParked e p && !frozenAp e p)).map (fun p => (p, Aim.park)),
   all.filter (fun p => frozenAp e p && paired e p))

/-- Park a set of ports in one sluice committed NOW in group 12 (R168); no sluice where every port is parked already. -/
def parkNow (ports : List Nat) (cx : Option Cx) (e : Engine) : Option Engine :=
  let s := parkScope ports e
  if s.1 = [] then none
  else
    let r := ownRecs s.1 e
    some (addNow (.park ports) 12 s.1 r.2 s.2 cx r.1)

/-- Every ordinary port. -/
def ordinaryPorts : List Nat := span 2 4092

-- the schedule player ---------------------------------------------------------------------------------------------------------

/-- The player runs: neither IDLE nor STOPPED. -/
def playerRuns (e : Engine) : Bool := e.sch.st == .waitStart || e.sch.st == .playing || e.sch.st == .held

/-- The job of the boundary whose check instant has passed. -/
def latchedSlot (e : Engine) : Option Job :=
  e.xact.jobs.find? (fun j => j.owner == .slot && j.phase == .latched)

/-- The commands waiting on the player end: jumps and a start WRONG_MODE, the stream OK with the positions fetched
(R199, R205, R207). A SCH_STOP that waited for a boundary that is lost completes with the stop; its park, if it asked for one, is
lost with the light (R206; log 88). -/
def endPlayerCmds (e : Engine) : Engine :=
  let s := e.sch
  let e := { e with sch := { s with jump := none, start := none, flume := none, nextB := [], missing := none, stopCx := none } }
  let e := match s.stopCx with
    | some (cx, 0) => completeAt cx stOk e.xact.epoch e.xact.epoch e
    | some (cx, _) => complete cx stWrongMode 0 e
    | none => e
  let e := match s.jump with | some (cx, _) => complete cx stWrongMode 0 e | none => e
  let e := match s.start with | some (cx, _, _) => complete cx stWrongMode 0 e | none => e
  let e := match s.missing with
    | some p => (match p.jump with | some cx => complete cx stWrongMode 0 e | none => e)
    | none => e
  let e := each s.nextB (fun b e => match b.play.jump with | some cx => complete cx stWrongMode 0 e | none => e) e
  match s.flume with
  | some (cx, _, _) =>
    let e := each (e.dma.streams.filter (fun x => x.kind == 5)) (fun x e => dropStream x.id e) e
    complete cx stOk s.fetched e
  | none => e

/-- The schedule stops now: arms whose check instant has not passed are discarded, the current slot stays lit (R201). -/
def stopNow (reason : Nat) (e : Engine) : Engine :=
  if !playerRuns e then e
  else
    let e := each (e.xact.jobs.filter (fun j => j.owner == .slot && j.phase != .latched)) (fun j => dropJob j.id) e
    let e := setLive Fd.SCH_CAUSE_LIVE_UNDERRUN false (endPlayerCmds e)
    note Fd.SCH_CAUSE_STOPPED
      { e with sch := { e.sch with st := .stopped, reason := reason, cur := none, stopAfter := none, nextB := [], visit := [],
                                   visitSlot := none } }

-- the flume's reads ----------------------------------------------------------------------------------------------------------------

/-- A resident position stays: it plays, follows, or is named by the NEXT or JUMP of a resident one at a higher position (R200). -/
def keepPos (e : Engine) (q : Nat) : Bool :=
  !posBefore q (playingPos e) || e.sch.nextB.any (fun b => b.play.pos == q) ||
    e.sch.window.any (fun x => posBefore q x.1 && (fieldPos x.1 (segNext x.2) == q || fieldPos x.1 (segJump x.2) == q))

/-- The oldest resident position that may go. -/
def evictable (e : Engine) : Option Nat :=
  (sortBy (fun q => (q + 4294967296 - playingPos e + 2147483648) % 4294967296) (e.sch.window.map (·.1))).find? (fun q => !keepPos e q)

/-- Evict until `n` more positions fit. -/
def makeRoom (n : Nat) : Nat → Engine → Engine
  | 0, e => e
  | k + 1, e =>
    if e.sch.window.length + n ≤ 256 then e
    else
      match evictable e with
      | some q => makeRoom n k { e with sch := { e.sch with window := Tbl.del e.sch.window q } }
      | none => e

/-- Positions the window can take, evicting what may go. -/
def roomFor (e : Engine) : Nat := 256 - (e.sch.window.filter (fun x => keepPos e x.1)).length

/-- The flume opens its next block: up to 16 segments of one 256-byte block, while the window has room (R200). -/
def flumeFetch (e : Engine) : Engine :=
  match e.sch.flume with
  | none => e
  | some (cx, base, log2) =>
    let ci := rd e Reg.SCH_FLUME_CI
    let pi := rd e Reg.SCH_FLUME_PI
    let n := min (min ((pi + 4294967296 - ci) % 4294967296) (16 - ci % 16)) (roomFor e)
    if n = 0 ∨ e.sch.spent ∨ e.dma.streams.any (fun s => s.kind == 5) then e
    else openCmd 5 cx (base + 16 * (ci % 2 ^ log2)) (16 * n) false (.flume ci n) e

-- reaching a boundary ----------------------------------------------------------------------------------------------------------------

/-- Learning at the end of a visit (R203). -/
def learn (e : Engine) : Engine :=
  match e.sch.visitSlot with
  | none => e
  | some n =>
    if !on e Fd.SCH_CTL_LEARN_EN then e
    else
      let ok := e.sch.visit.filter (fun x => decide (max 1 (rdF e Fd.SCH_CTL_LEARN_MIN) ≤ x.2 - 1))
      let sh := rdF e Fd.SCH_CTL_LEARN_SH
      let e := each ok (fun x e =>
        let l := e.loopOf x.1
        let lim := trimLim e x.1
        updSlot n (fun s =>
          let c := Tbl.get (fun _ => (0, 0)) s.corr x.1
          let c' := (clampAbs lim (c.1 + rnd l.x.out sh), clampAbs lim (c.2 + rnd l.y.out sh))
          { s with corr := Tbl.put (fun _ => (0, 0)) s.corr x.1 c', updates := min (s.updates + 1) 0xFFFFFFFF }) e) e
      addC Reg.SCH_LEARN_CNT ok.length e

/-- The visit that begins at a boundary: the apertures armed for it that were copied. -/
def beginVisit (slot : Nat) (aps : List Nat) (e : Engine) : Engine :=
  let e := updSlot slot (fun s => { s with visits := min (s.visits + 1) 0xFFFFFFFF }) e
  { e with sch := { e.sch with visitSlot := some slot, visit := sortBy (·.1) (aps.map (fun a => (a, 1))) } }

/-- SCH_STOP finishes: with HOW 1 it parks every ordinary port, and its completion carries the epoch after (R206). -/
def finishStop (cx : Cx) (how : Nat) (e : Engine) : Engine :=
  match (if how = 1 then parkNow ordinaryPorts (some cx) e else none) with
  | some e => e
  | none => completeAt cx stOk e.xact.epoch e.xact.epoch e

/-- A stop that waited for a latched boundary follows it (R201). -/
def stopAfterBoundary (e : Engine) : Engine :=
  match e.sch.stopAfter with
  | none => e
  | some why =>
    if (latchedSlot e).isSome then e
    else
      let c := e.sch.stopCx
      let e := stopNow why { e with sch := { e.sch with stopCx := none } }
      match c with | some (cx, how) => finishStop cx how e | none => e

/-- Boundary `b` is reached; `aps`: apertures its sluice copied; the window may have room for the flume's next block (R195, R199,
R200, R203, R205). -/
def enterBoundary (b : Boundary) (aps : List Nat) (e : Engine) : Engine :=
  let e := { e with sch := { e.sch with nextB := e.sch.nextB.drop 1 } }
  if b.stop then stopNow 2 e
  else
    let slot := segSlot (segOf e b.play.pos)
    let fresh := b.job.isSome || e.sch.visitSlot != some slot
    let e := if fresh then beginVisit slot aps e else e
    let st := if e.sch.st = .held then .held else .playing
    let c := e.sch.start
    let e := inc Reg.SCH_BOUNDARY_CNT { e with sch := { e.sch with cur := some { b.play with jump := none }, st := st, start := none } }
    let e := match c with | some (cx, _, _) => completeAt cx stOk e.xact.epoch e.xact.epoch e | none => e
    let e := match b.play.jump with | some cx => completeAt cx stOk e.xact.epoch e.xact.epoch e | none => e
    flumeFetch (stopAfterBoundary e)

/-- A start ON_SYNC waits for its edge: no boundary is reached before (R205). -/
def awaitsEdge (e : Engine) : Bool := e.sch.start.any (fun s => s.2.1 == 2)

/-- A boundary that opens no sluice passes; a visit that ends there is learned from. -/
def quietEnter (b : Boundary) (e : Engine) : Engine :=
  let slot := segSlot (segOf e b.play.pos)
  enterBoundary b [] (if !b.stop ∧ e.sch.visitSlot ≠ some slot then learn e else e)

/-- The boundary at the front, if it opens no sluice and its instant is not past `t`. -/
def quietFront (t : Nat) (e : Engine) : Option Boundary :=
  e.sch.nextB.head?.filter (fun b => b.job.isNone && decide (b.play.at_ ≤ t) && !awaitsEdge e)

/-- Boundaries that open no sluice pass at their tick, up to disciplined time `t` ns. -/
def passQuiet (t : Nat) : Nat → Engine → Engine
  | 0, e => e
  | n + 1, e =>
    match quietFront t e with
    | some b => passQuiet t n (quietEnter b (waitD b.play.at_ e))
    | none => e

/-- At most `n` of the boundaries that open no sluice and whose tick has come pass. -/
def passPast : Nat → Engine → Engine
  | 0, e => e
  | n + 1, e =>
    match quietFront (dNs e) e with
    | some b => passPast n (quietEnter b e)
    | none => e

/-- The boundaries that open no sluice and whose tick has come pass. -/
def passDue (e : Engine) : Engine := passPast e.sch.nextB.length e

/-- The schedule stops; a latched boundary still sluices first (R201). A stream alone ends at a mode change. -/
def stopPlayer (reason : Nat) (e : Engine) : Engine :=
  let e := passDue e
  if !playerRuns e then (if reason = 5 ∧ e.sch.flume.isSome then endPlayerCmds e else e)
  else if (latchedSlot e).isSome then { e with sch := { e.sch with stopAfter := some reason } }
  else stopNow reason e

end Sys2Proof.Machine
end

