-- ==== Sys2Proof/Machine/Halt.lean ====
section
/-! DEFINITION. What ends at a mode change or a brake, and the start of a brake (R45-R48, R89, R133, R201). -/

namespace Sys2Proof.Machine

-- survey and sensor calibration -------------------------------------------------------------------------------------------

/-- A survey is over, `early` before its last round (R89). -/
def surveyOver (early : Bool) (e : Engine) : Engine :=
  let e := { e with syn := { e.syn with survey := none } }
  note Fd.SYN_CAUSE_SURVEY_DONE (wrF Fd.SYN_SURVEY_STAT_DONE 1 (wrF Fd.SYN_SURVEY_STAT_ENDED_EARLY (ofB early) e))

/-- A survey ends before its last round: its command completes with `status` (R89, R348). -/
def loseSurvey (status : Nat) (e : Engine) : Engine :=
  match e.syn.survey with
  | none => e
  | some v =>
    let e := surveyOver true e
    let e := each (e.xact.jobs.filter (fun j => match j.owner with | .survey _ _ => true | _ => false)) (fun j => dropJob j.id) e
    complete v.cx status (rdF e Fd.SYN_SURVEY_STAT_ROUNDS_DONE * 4294967296) e

/-- A survey ends: `early` by a mode change or brake (R89). -/
def endSurvey (early : Bool) (e : Engine) : Engine :=
  if early then loseSurvey stWrongMode e
  else match e.syn.survey with
    | none => e
    | some v => complete v.cx stOk (v.acc + v.rej * 4294967296) (surveyOver false e)

/-- A sensor calibration step is lost: its command completes with `status` (R133, R348). -/
def loseCalSensor (status : Nat) (e : Engine) : Engine :=
  match e.sns.job with
  | none => e
  | some j => note Fd.SNS_CAUSE_CAL_DONE (complete j.cx status 0 { e with sns := { e.sns with job := none } })

/-- A sensor calibration step ends by a brake or mode change (R133). -/
def endCalSensor (e : Engine) : Engine := loseCalSensor stWrongMode e

-- the brake -------------------------------------------------------------------------------------------------------------------

/-- Ports await no repair any more (R176). -/
def notAwaiting (ports : List Nat) (e : Engine) : Engine := each ports (fun p => updPort p (fun x => { x with awaiting := false })) e

/-- The job is the repair of a transaction or of a boundary (R178, R197). -/
def Owner.repairs (o : Owner) : Bool :=
  match o with
  | .repair _ => true
  | .schRepair => true
  | _ => false

/-- A job is dropped; the ports of a repair await it no more. -/
def endJob (j : Job) (e : Engine) : Engine :=
  let e := dropJob j.id e
  if j.owner.repairs then notAwaiting (j.targets.map (·.1)) e else e

/-- The owner of a lost sluice other than a transaction is told: its command completes WRONG_MODE (R52), the commit of a
transaction that awaited its repair OK with the transaction's epoch (R179). -/
def loseJob (j : Job) (e : Engine) : Engine :=
  let e := endJob j e
  match j.cx, j.owner with
  | some cx, .repair ep => completeAt cx stOk ep ep e
  | some cx, _ => complete cx stWrongMode 0 e
  | none, _ => e

/-- Every arm and pass is discarded, every ARMED bit cleared and every shadow plane zeroed (R46). -/
def zeroShadows (e : Engine) : Engine :=
  allApers (fun _ x => { x with armed := false, arming := false, trim := none, shadow := zeroPlane x.shortMap x.shadow, shKind := 0,
                                shTarget := Config.noTarget, shAt := [] }) e

/-- Every loop OFF (R152). -/
def loopsOff (keepSp : Bool) (e : Engine) : Engine := allLoops (fun _ l => l.offed keepSp) e

/-- A march run is stopped by the brake, as every other writer: it is over with the results it has (R46, log 83). -/
def stopMarch (e : Engine) : Engine :=
  match marching e with
  | some m => wrF Fd.BKP_MARCH_CTL_GO 0 (wr Reg.BKP_MARCH_STAT 0x20000000 (haltMarch m e))
  | none => e

/-- What a brake takes from every other agent (R46, R89, R133, R201, R381): arms and their transactions are lost, and the schedule, a
survey, a sensor calibration and a march run end. -/
def brakeStop (span : Bool) (e : Engine) : Engine :=
  let e := if span then
      each (e.xact.txns.filter (fun t => t.st == .armed || (match t.t with | some x => decide (x < dNs e + 4000) | none => false)))
        (fun t => failTxn t.id 0x0A 0xFFFF) e
    else each e.xact.txns (fun t => failTxn t.id 0x09 0xFFFF) e
  let e := each e.xact.jobs (fun j e => match j.owner with
    | .txn _ => e
    | .resynth => e
    | _ => loseJob j e) e
  loopsOff span (zeroShadows (stopMarch (endCalSensor (endSurvey true (stopPlayer 5 e)))))

/-- The brake controller asserts at t+0 (R46). A brake already asserted goes on, with its zeroing under way or done; what has been
requested meanwhile is lost all the same (R12, R381). -/
def brakeStart (span : Bool) (e : Engine) : Engine :=
  brakeStop span (if e.bkp.braking then e else { e with bkp := { e.bkp with braking := true, zeroing := true, brakeAt := e.clk } })

/-- The brake is released where nothing holds it and its 2.0 µs have passed (R48). -/
def releaseDue (e : Engine) : Engine :=
  if e.bkp.braking && !e.bkp.zeroing && e.bkp.live == 0 && decide (e.bkp.brakeAt + 2000 ≤ e.clk) then
    { e with bkp := { e.bkp with braking := false } }
  else e

/-- A trigger of the brake (R45): its live bit is set and the brake asserts. -/
def brakeOn (b : Nat) (e : Engine) : Engine :=
  let e := releaseDue e
  brakeStart (b == 4) { e with bkp := { e.bkp with live := e.bkp.live ||| (1 <<< b) } }

/-- A trigger goes. -/
def brakeOff (b : Nat) (e : Engine) : Engine :=
  { e with bkp := { e.bkp with live := e.bkp.live &&& (255 ^^^ (1 <<< b)) } }

end Sys2Proof.Machine
end

