-- ==== Sys2Proof/Machine/Reactions.lean ====
section
/-! DEFINITION. What classes of events do beyond the record: modes, the brake sluice, SAFE, LOCKOUT, COOLDOWN, HOLD, tile
freezes, engine parks and the resets of R326 (R45-R49, R52, R79, R113, R114, R172, R326, R331-R334, R355, R369). -/

namespace Sys2Proof.Machine

-- modes -----------------------------------------------------------------------------------------------------------------------

/-- Leaving TEST sets REMAP, GOV_EN and FEED_EN again (R376, THM_BRAKE_EN, PWR_BRAKE_EN). -/
def leaveTest (e : Engine) : Engine :=
  wrF Fd.SYS_REMAP_REMAP 1 (wrF Fd.THM_BRAKE_EN_GOV_EN 1 (wrF Fd.PWR_BRAKE_EN_FEED_EN 1 e))

/-- Change the mode (R369): counted, logged as MODE_CHG, and the station follows (R264). An array left at zero phase stays so
through HOLD and back (R371, R378). -/
def toMode (m : Mode) (e : Engine) : Engine :=
  let zs := e.sys.zeroService && (m == .service || m == .hold)
  let e := if e.sys.mode = .test ∧ m ≠ .test then leaveTest e else e
  let e := { e with sys := { e.sys with prev := e.sys.mode, mode := m, zeroService := zs } }
  updStation (note Fd.SYS_CAUSE_MODE_CHG (inc Reg.SYS_MODE_CNT e))

/-- The result of a SET_MODE that reached a mode: [7:0] the mode, [15:8] the one before (R372). -/
def modeResult (now before : Mode) : Nat := now.code + 256 * before.code

/-- A SET_MODE overtaken by another transition completes WRONG_MODE with the mode that followed, and the trigger of a SLEEP not
entered goes (R372, R373). -/
def loseSetMode (e : Engine) : Engine :=
  match e.sys.setMode with
  | none => e
  | some j =>
    let e := { e with sys := { e.sys with setMode := none } }
    let e := if j.target = .sleep then brakeOff 6 e else e
    if j.wait = .sleepPost then e else complete j.cx stWrongMode e.sys.mode.code e

/-- What every descent from the lit modes ends: schedule, survey and sensor calibration (R89, R133, R201, R332). -/
def endWork (e : Engine) : Engine := endCalSensor (endSurvey true (stopPlayer 5 e))

-- HOLD ------------------------------------------------------------------------------------------------------------------------

/-- Whole seconds in HOLD, saturating in 20 bits. -/
def holdSecs (e : Engine) : Nat := min ((e.clk - e.rfs.holdAt) / 1000000000) 0xFFFFF

/-- Largest change of a region's temperature since HOLD entry, as it stands now (R115; DESIGN CHOICE, log 92). -/
def holdDt (e : Engine) : Nat :=
  (List.range 64).foldl (fun m r => max m ((e.region r).temp - Tbl.get (fun _ => 0) e.rfs.holdTemps r).natAbs) 0

/-- Entry to HOLD at t+0 (R113): execution stops, arms whose check instant has not passed are discarded, the schedule stops
on its current slot. The last trims follow at the first frame. -/
def enterHold (e : Engine) : Engine :=
  let e := failAll (fun _ => true) 0x0B e
  let e := each (e.xact.jobs.filter (fun j => j.phase != .latched)) loseJob e
  let e := endWork e
  let e := toMode .hold e
  { e with rfs := { e.rfs with holdEntry := some e.clk, holdStop := false, holdAt := e.clk,
                               holdTemps := (List.range 64).map (fun r => (r, (e.region r).temp)) } }

/-- The steps of R113 are undone (R114): loops reacquire, held completions are posted. -/
def resumeHold (e : Engine) : Engine :=
  let e := allLoops (fun _ l => if l.st = .off ∨ l.st = .disabled ∨ l.st = .frozen then l else { l.reacquire with waitEdge := true }) e
  each (e.cmd.hoppers.map (·.1)) flushHeld e

/-- HOLD ends into `m` with a cause of RFS_HOLD_STAT (R114). -/
def exitHold (cause : Nat) (m : Mode) (e : Engine) : Engine :=
  let e := wrF Fd.RFS_HOLD_STAT_EXIT_CAUSE cause (wrF Fd.RFS_HOLD_STAT_SECONDS (holdSecs e) (wrF Fd.RFS_HOLD_DT_DT (holdDt e) e))
  let e := { e with rfs := { e.rfs with holdEntry := none, holdStop := false, exitAt := some e.clk } }
  let e := note Fd.RFS_CAUSE_HOLD_EXIT (toMode m e)
  if m = .lockout ∨ m = .cooldown then e else resumeHold e

-- the brake sluice ------------------------------------------------------------------------------------------------------------

/-- Advance the epoch with a map of no circuit and no park (R172): ports that were in one change at the new epoch. -/
def brakeEpoch (lit : List Nat) (e : Engine) : Engine :=
  let ep := nextEpoch e
  let e := each (e.xact.cur.filterMap (fun x => if x.2.partner < 4096 then some x.1 else none))
    (fun p => setPair p Config.noTarget ep true) e
  advanceEpoch true (each (lit.filter (fun a => decide (a < 4096))) (fun p => setPair p Config.noTarget ep true) e)

/-- Apertures that show a pattern, with their aims. -/
def litApers (e : Engine) : List (Nat × Aim) :=
  e.bkp.apers.filterMap (fun x => if x.2.actKind = 0 then none else some (x.1, aimNow e x.1))

/-- One aperture at the brake sluice: zero phase, and code 0 in the frame store; a silent tile's keeps its kind (R46, R47). -/
def Aper.zeroed (x : Aper) (silent : Bool) (clk : Nat) : Aper :=
  let x := { x with store := [], armed := false, arming := false, trim := none, passes := [], shadow := zeroPlane x.shortMap x.shadow,
                    shKind := 0, shTarget := Config.noTarget, shCorr := (0, 0) }
  if silent then x
  else { x with active := x.shadow, actKind := 0, actTarget := Config.noTarget, rec_ := 0, corr := (0, 0), repark := false, actAt := [], copyAt := clk }

/-- The brake sluice (R46, R47): every aperture but those of silent tiles goes to zero phase. -/
def zeroArray (silent : List Nat) (e : Engine) : Engine :=
  let clk := e.clk
  let e := each silent (fun t => updTile t (fun x => { x with silent := true, silentAt := clk })) e
  let isSilent := fun (a : Nat) => (e.tile (tileOf a)).silent
  let e := allApers (fun a x => x.zeroed (isSilent a) clk) e
  let e := each (e.xact.ports.map (·.1)) portSluiced e
  let failed := e.bkp.failed || !silent.isEmpty
  { e with bkp := { e.bkp with zeroing := false, failed := failed, zero := !failed, march := none } }

/-- Another trigger during a span change cancels its re-synthesis (R52). -/
def cancelSpan (e : Engine) : Engine :=
  match e.bkp.span with
  | none => e
  | some j =>
    if j.cancelled then e
    else
      let e := each (e.xact.jobs.filter (fun x => x.owner == .resynth)) (fun x => dropJob x.id) e
      let e := each e.xact.txns (fun t => failTxn t.id 0x09 0xFFFF) e
      let e := loopsOff false (zeroShadows e)
      if !e.bkp.braking then { e with bkp := { e.bkp with span := none } }
      else if j.sluiced then
        brakeOff 4 (brakeEpoch (j.saved.map (·.1)) { e with bkp := { e.bkp with span := none } })
      else { e with bkp := { e.bkp with span := some { j with cancelled := true } } }

/-- A brake trigger (R45): its live and sticky bits, and the brake. GOV, FAULT and FEED are never logged, PIN is logged as a
SEVERE event by `raise` (R335). -/
def trigger (b : Nat) (e : Engine) : Engine :=
  if bit e.bkp.live b then e
  else
    let e := if b = 4 then e else cancelSpan e
    let e := brakeOn b e
    let c : Fld := { off := Reg.BKP_BRAKE_CAUSE, hi := b, lo := b }
    if b = 0 then e else if b ≤ 3 then mark c e else note c e

-- classes -----------------------------------------------------------------------------------------------------------------------

/-- The first SEVERE cause that is still live: block and code, by ascending source (R349). -/
def severeLive (e : Engine) : Option (Nat × Nat) :=
  let wire (b c : Nat) : Bool := e.flt.wires.any (fun w => w.1 == b && w.2.2 == c)
  let live : List (Bool × Nat × Nat) :=
    [(on e Fd.PWR_CAUSE_LIVE_BROWNOUT || !e.pwr.feedA && !e.pwr.feedB || wire 2 2, 2, 2),
     (e.pwr.lostA && e.pwr.lostB || wire 2 7, 2, 7),
     (e.thm.sensors.any (fun x => x.2.fastLive) || wire 3 2, 3, 2), (wire 3 3, 3, 3),
     (e.pins.brakeLow && on e Fd.BKP_BRAKE_EN_PIN_EN || wire 12 0, 12, 0)]
  (live.find? (·.1)).map (·.2)

/-- The result of a FAULT_CLEAR that a SEVERE cause keeps in SAFE (R349). -/
def severeResult (e : Engine) : Nat := match severeLive e with | some (b, c) => b * 256 + c * 65536 | none => 0

/-- A FAULT_CLEAR that has left SAFE completes once its cycle is over; a SEVERE event of that cycle wins, and it completes WRONG_MODE
(R336). -/
def leaveEnd (e : Engine) : Engine :=
  match e.sys.leaving with
  | none => e
  | some (cx, t) =>
    let lost := e.clk / 10 == t / 10
    complete cx (if lost then stWrongMode else stOk) (if lost then severeResult e else 0) { e with sys := { e.sys with leaving := none } }

/-- SEVERE (R332, R336, R355, R369): brake and SAFE; in BOOT and COOLDOWN SAFE follows the BOOT. -/
def enterSafe (e : Engine) : Engine :=
  if inMode e [.off, .lockout, .safe] then e
  else if e.sys.mode = .cooldown then { e with sys := { e.sys with severeSeen := true } }
  else if e.thm.coolPend.isSome then e
  else if e.sys.mode = .boot then trigger 2 { e with sys := { e.sys with severeSeen := true } }
  else
    let e := endWork (trigger 2 (leaveEnd e))
    let e := if e.sys.mode = .hold then exitHold 4 .safe e else toMode .safe e
    loseSetMode e

/-- GRAVE (R333): brake and LOCKOUT, in any mode. No completion is posted from then on. -/
def enterLockout (e : Engine) : Engine :=
  if inMode e [.off, .lockout] then e
  else
    let e := trigger 2 e
    let e := if e.sys.mode = .hold then exitHold 4 .lockout e else toMode .lockout e
    let e := loseSetMode (endWork e)
    loopsOff false { e with thm := { e.thm with coolPend := none } }

/-- The reaction of a class above MAJOR. -/
def react (cls : Nat) (e : Engine) : Engine := if cls = 4 then enterLockout e else if cls = 3 then enterSafe e else e

/-- An event of any class with the reaction of SEVERE and GRAVE; the park or freeze of a MAJOR event is its own. -/
def raiseD (c : Fld) (inst detail : Nat) (e : Engine) : Engine :=
  react (classOf (blockNo c.off) c.lo) (noteD c inst detail e)

/-- An event of a cause of a controller block. -/
def raise (c : Fld) (e : Engine) : Engine := raiseD c 0 0 e

/-- PIN of BKP_BRAKE_CAUSE. -/
def pinCause : Fld := { off := Reg.BKP_BRAKE_CAUSE, hi := 0, lo := 0 }

/-- BRAKE_N low with PIN_EN 1 (R45, R335). -/
def pinBrake (e : Engine) : Engine := if bit e.bkp.live 0 then e else raise pinCause (trigger 0 e)

/-- A MAJOR event parks the circuits of its ports (R334): the park waits for MAJOR_PARK; with no circuits, or at zero phase,
nothing is parked. -/
def wantPark (ports : List Nat) (e : Engine) : Engine :=
  if inMode e litModes && !e.bkp.zero then { e with flt := { e.flt with parks := e.flt.parks ++ [{ ports := ports, order := e.cmd.accepts }] } } else e

/-- Tile `t` freezes (R79): the freeze is counted; its arms are discarded, its ARMED bits cleared, its loops stopped, and the transactions that
touch it fail unless past their check instant (R177). A loop that is OFF has nothing to freeze and stays OFF (R152; DESIGN CHOICE,
log 100). -/
def freezeTile (t : Nat) (e : Engine) : Engine :=
  if (e.tile t).frozen then e
  else
    let e := updTile t (fun x => { x with frozen := true }) (inc Reg.SYN_FREEZE_CNT e)
    let e := each (tileAps t) (fun a e => dropPass a (disarm a e)) e
    let e := each (tileAps t) (fun a => updLoop a (fun l => if l.st = .off then l else { l with st := .frozen, before := l.st })) e
    failAll (fun x => x.ports.any (fun p => tileOf p == t)) 0x08 e

/-- FREEZE of tile `t` (R79, R335). -/
def freezeEvent (t : Nat) (e : Engine) : Engine :=
  freezeTile t (mark Fd.SYN_CAUSE_FREEZE (noteTile Fd.TILE_CAUSE_FREEZE t 0 e))

-- resets --------------------------------------------------------------------------------------------------------------------------

/-- A register that RST_N, SLEEP and COOLDOWN keep (R326): RWP registers and the PWR, THM and NVR blocks but NVR_LOCK. -/
def keptReg (off : Nat) : Bool :=
  (decide (0x0400 ≤ off) && decide (off < 0x0800)) || (decide (0x4800 ≤ off) && decide (off < 0x4A00) && off != Reg.NVR_LOCK)
    || (match regInfo off with | some r => r.kind == .nv | none => false)

/-- The registers kept by a power-on reset: RWP ones. -/
def keptPor (off : Nat) : Bool := match regInfo off with | some r => r.kind == .nv | none => false

/-- Keep the entries whose key satisfies `p`. -/
def keepKeys {α : Type} (p : Nat → Bool) (t : Tbl α) : Tbl α := t.filter (fun x => p x.1)

/-- The committed stores over RST_N, SLEEP and COOLDOWN: kept, with a persist in progress (R90, R326). -/
def keepStores (e : Engine) : SynSt :=
  { aims := e.syn.aims, deltas := e.syn.deltas, flashAims := e.syn.flashAims, flashDeltas := e.syn.flashDeltas,
    flashSensor := e.syn.flashSensor, bootAims := e.syn.aims, bootDeltas := e.syn.deltas,
    bootRegions := e.syn.regions, regions := e.syn.regions, gen := e.syn.gen, persist := e.syn.persist }

/-- A live SENSORCAL entry over RST_N, SLEEP and COOLDOWN: only its OVR and UNDER bits clear (R131, R134, R326). -/
def calAfterReset (w : List Word) : List Word := w.set 5 (wd (bits (wordAt w 5) 31 10 <<< 10))

/-- The stores as flash holds them (R326, R374). -/
def reloadStores (e : Engine) : SynSt :=
  { aims := e.syn.flashAims, deltas := e.syn.flashDeltas, flashAims := e.syn.flashAims, flashDeltas := e.syn.flashDeltas,
    flashSensor := e.syn.flashSensor, bootAims := e.syn.flashAims, bootDeltas := e.syn.flashDeltas,
    bootRegions := e.syn.regions, regions := e.syn.regions, gen := e.syn.gen }

/-- A tile after BOOT has initialised it: temperature and band stand, its caches hold its region's pair, A owns it (R105). -/
def tileAfterReset (e : Engine) (t : Nat) (x : Tile) : Tile :=
  { temp := x.temp, band := x.band, silent := x.silent, pairLo := (e.region (regionOf t)).lo }

/-- What a reset loads from the band fuse: the copies of SYS_ID's band field, and SPAN (R2, R50, R313). -/
def resetSpan (e : Engine) : Engine := wrF Fd.SYS_ID_BAND (ofB e.sys.bandCB) (wrF Fd.BKP_SPAN_SPAN (ofB e.sys.bandCB) e)

/-- An aperture after the reset of its table entry, its light not yet zeroed. -/
def Aper.afterReset (x : Aper) : Aper :=
  { active := x.active, store := x.store, actKind := x.actKind, actTarget := x.actTarget, rec_ := x.rec_, corr := x.corr, copyAt := x.copyAt }

/-- What the RST_N, SLEEP and COOLDOWN columns of R326 leave; `pci`: PCI Express configuration is kept (SLEEP). The light of
the array is left as it is: a brake sluice or the loss of the rails takes it to zero phase. -/
def resetEngine (pci : Bool) (from_ : BootFrom) (e : Engine) : Engine :=
  let apers := Tbl.mapAll (fun _ => {}) (fun _ x => x.afterReset) e.bkp.apers
  let tiles := Tbl.mapAll (fun _ => {}) (tileAfterReset e) e.bkp.tiles
  let hif := if pci then e.hif else {}
  let n : Engine :=
    { clk := e.clk, freeCtr := e.freeCtr, out := e.out, hostMem := e.hostMem,
      regs := keepKeys keptReg e.regs, trip1 := keepKeys keptReg e.trip1, trip2 := keepKeys keptReg e.trip2,
      reach := keepKeys keptReg e.reach, nvr := e.nvr,
      flt := { hist := e.flt.hist, graveValid := e.flt.graveValid, graveBusy := e.flt.graveBusy,
               graveCount := e.flt.graveCount, graveRec := e.flt.graveRec, wires := e.flt.wires },
      sys := { mode := .boot, prev := e.sys.mode, bandCB := e.sys.bandCB, bootDone := e.sys.bootDone, bootAt := e.clk,
               leastSecurity := e.sys.leastSecurity, bootMs := e.sys.bootMs, severeSeen := from_ == .cooldown && e.sys.severeSeen, from_ := from_,
               slots := e.sys.slots, active := e.sys.active, running := e.sys.running },
      thm := { e.thm with coolPend := none, restoring := none, restoreTries := 0 },
      pwr := e.pwr, pins := e.pins, hif := hif, syn := keepStores e,
      bkp := { apers := apers, tiles := tiles, zero := e.bkp.zero, zeroing := e.bkp.zeroing, brakeAt := e.bkp.brakeAt,
               failed := e.bkp.failed },
      sns := { cal := e.sns.cal.map (fun x => (x.1, calAfterReset x.2)) } }
  resetSpan n

/-- Every plane at 0 V: the rails have gone (R49). -/
def darkArray (e : Engine) : Engine :=
  let tiles := e.bkp.tiles
  { e with bkp := { e.bkp with apers := [], zero := !e.bkp.failed, zeroing := false, tiles := tiles } }

/-- Power-on reset (R326, R374, R393): only fuses, RWP registers with their wear, the GRAVE record and flash stay. -/
def porEngine (straps : Nat) (brakeLow : Bool) (e : Engine) : Engine :=
  let all := !(e.pwr.feedA || e.pwr.feedB || e.pwr.auxA || e.pwr.auxB)
  resetSpan
    { clk := 0, freeCtr := e.freeCtr, out := e.out, hostMem := e.hostMem, regs := keepKeys keptPor e.regs,
      nvr := { stored := e.nvr.stored, wear := e.nvr.wear },
      flt := { graveValid := e.flt.graveValid, graveCount := e.flt.graveCount, graveRec := e.flt.graveRec },
      sys := { bandCB := e.sys.bandCB, leastSecurity := e.sys.leastSecurity, slots := e.sys.slots, active := e.sys.active, running := e.sys.running },
      pwr := { feedA := all || e.pwr.feedA, feedB := all || e.pwr.feedB, auxA := all || e.pwr.auxA, auxB := all || e.pwr.auxB },
      pins := { straps := straps, brakeLow := brakeLow },
      syn := { reloadStores e with regions := [], bootRegions := [] }, sns := { cal := e.syn.flashSensor } }

end Sys2Proof.Machine
end

