-- ==== Sys2Proof/Machine/Modes.lean ====
section
/-! DEFINITION. Modes, BOOT, SLEEP and wake, firmware, self-test and FAULT_CLEAR: the commands of chapters 15 and 17 that
move the engine between its modes (R112, R349, R356-R358, R367-R381, R393). -/

namespace Sys2Proof.Machine

-- the entry sluice -----------------------------------------------------------------------------------------------------------

/-- What the entry sluice arms: the station circuits and the park of every ordinary port (R370). -/
def entryTargets : List (Nat × Aim) :=
  [(0, .to 4099), (1, .to 4098)] ++ ordinaryPorts.map (fun p => (p, Aim.park)) ++
    [(4094, .to 4097), (4095, .to 4096), (4096, .to 4095), (4097, .to 4094), (4098, .to 1), (4099, .to 0)]

/-- Request the entry sluice in group 14 (R370). -/
def entryNow (e : Engine) : Engine :=
  let ts := entryTargets.filter (fun t => !frozenAp e t.1)
  let r := ownRecs ts e
  addNow .entry 14 ts r.2 [] none r.1

-- SET_MODE ------------------------------------------------------------------------------------------------------------------

/-- The targets SET_MODE reaches (R369). -/
def reaches (m : Mode) (zero : Bool) : List Mode :=
  match m with
  | .bypass => [.calibrate, .service, .schedule, .test, .sleep]
  | .test => [.bypass, .sleep]
  | .service => if zero then [.service, .sleep] else [.calibrate, .schedule, .hold, .sleep]
  | .calibrate => [.service, .sleep]
  | .schedule => [.service, .hold, .sleep]
  | _ => []

/-- Complete a SET_MODE that has reached its target. -/
def setModeDone (j : SetModeJob) (e : Engine) : Engine :=
  complete j.cx stOk (modeResult e.sys.mode j.prev) { e with sys := { e.sys with setMode := none } }

def waitMode (j : SetModeJob) (w : ModeWait) (e : Engine) : Engine :=
  { e with sys := { e.sys with setMode := some { j with wait := w } } }

/-- The completion of a command waits to be posted. -/
def cplHeld (e : Engine) (cx : Cx) : Bool := (e.hop cx.hopper).held.any (fun h => h.cx == cx)

/-- SLEEP is entered once the completion of its SET_MODE has been posted: the time unit stops and the regulators turn off (R288,
R373). -/
def sleepDone (e : Engine) : Engine :=
  match e.sys.setMode with
  | none => e
  | some j =>
    if j.wait = .sleepPost ∧ !cplHeld e j.cx then
      let e := toMode .sleep { e with sys := { e.sys with setMode := none } }
      { e with tim := {}, pwr := { e.pwr with rails := false } }
    else e

/-- The FW_ACTIVATE commands that wait behind a SET_MODE. -/
def fwWaiting (e : Engine) : List Cx :=
  e.cmd.inflight.filterMap (fun i => match i.wait with | some (.fwActivate cx _) => if i.done then none else some cx | _ => none)

/-- SLEEP after its brake sluice: SET_MODE completes OK, and a FW_ACTIVATE that waited behind it WRONG_MODE (R373, R381). -/
def enterSleep (j : SetModeJob) (e : Engine) : Engine :=
  let e := complete j.cx stOk (modeResult .sleep e.sys.mode) (waitMode j .sleepPost e)
  sleepDone (each (fwWaiting e) (fun cx => complete cx stWrongMode 0) e)

/-- SET_MODE to SLEEP brakes; where a brake holds the array already and its sluice has opened, nothing is left to wait for (R46,
R373). -/
def goSleep (j : SetModeJob) (e : Engine) : Engine :=
  let e := trigger 6 (waitMode j .sleepBrake (endWork e))
  if e.bkp.zeroing then e else enterSleep j e

/-- Carry out a SET_MODE that passed its checks; during a span change it waits (R52, R113, R370, R371, R373). A restore of R358 that
it overtakes fails, and leaves the SERVICE at zero phase from which only SERVICE and SLEEP are reached (R371; log 104). -/
def goMode (j : SetModeJob) (e : Engine) : Engine :=
  if e.bkp.span.isSome then waitMode j .spanEnd e
  else if e.sys.mode = .bypass ∧ j.target ∈ litModes ∨ e.sys.zeroService ∧ j.target = .service then
    waitMode j .entrySluice (entryNow e)
  else if j.target = .sleep then goSleep j e
  else
    let e := failAll (fun _ => true) 0x0B { e with sys := { e.sys with setMode := none } }
    if e.sys.zeroService then complete j.cx stWrongMode 0 e
    else if j.target = .hold then enterHold (complete j.cx stOk (modeResult .hold e.sys.mode) e)
    else
      let e := endWork e
      let fromService := e.sys.mode == .service
      let e := setModeDone j (toMode j.target e)
      if fromService && j.target == .calibrate then (parkNow ordinaryPorts none e).getD e else e

/-- The checks of R372 after the mode and the reserved fields. A SET_MODE executed in HOLD ends HOLD and proceeds from
SERVICE (DEDUCED, log 30). -/
def setModeBody (cx : Cx) (p : SetModeP) (e : Engine) : Engine :=
  match Mode.ofCode p.target with
  | none => complete cx stBadParam 0 e
  | some m =>
    if m ∈ [.off, .boot, .safe, .cooldown, .lockout] then complete cx stBadParam 0 e
    else if e.sys.setMode.isSome then complete cx stPortBusy 0 e
    else if m = e.sys.mode ∧ !e.sys.zeroService then complete cx stEmpty 0 e
    else
      let held := e.sys.mode == .hold
      let e := if held then exitHold 1 .service e else e
      if held ∧ m = .service then complete cx stOk (modeResult .service .hold) e
      else if m ∉ reaches e.sys.mode e.sys.zeroService then complete cx stWrongMode 0 e
      else if m = .sleep ∧ !e.pwr.auxA ∧ !e.pwr.auxB then complete cx stWrongMode 0 e
      else goMode { cx := cx, target := m, prev := e.sys.mode, wait := .spanEnd } e

/-- A SET_MODE that waited for the end of a span change goes on (R52, R372). -/
def resumeSetMode (e : Engine) : Engine :=
  match e.sys.setMode with
  | some j => if j.wait = .spanEnd ∧ e.bkp.span.isNone then goMode j { e with sys := { e.sys with setMode := none } } else e
  | none => e

def cmdSetMode : CmdInfo := { opcode := 0x0003 }

/-- setMode at execution. -/
def goSetMode (cx : Cx) (p : SetModeP) : Engine → Engine :=
  runCmd cmdSetMode cx p.rsv noPorts (setModeBody cx p)

/-- SET_MODE (R372). -/
def execSetMode (cx : Cx) (p : SetModeP) (s : State) : Host.Outcome State Fault Refusal :=
  .next (s.run (arrive cx (goSetMode cx p)))

-- the thermal gate and the start of BOOT ---------------------------------------------------------------------------------

/-- The restart thresholds: TILE maximum at most 95 °C and CTRL maximum at most 100 °C, of working sensors (R356). -/
def coolEnough (e : Engine) : Bool :=
  e.thm.sensors.all (fun x => x.2.failed || (decide (x.1 ≥ 256 ∨ x.2.reading ≤ 1520) &&
    decide (¬(328 ≤ x.1 ∧ x.1 ≤ 339) ∨ x.2.reading ≤ 1600)))

/-- End BOOT in stage 15 FAILED (R374). -/
def bootFail (err : Nat) (e : Engine) : Engine := { e with sys := { e.sys with stage := 15, err := err } }

/-- The boot ROM picks the image: the active slot's where it accepts it, else the other's (R375). -/
def authenticate (e : Engine) : Engine :=
  let slot (n : Nat) : Option Image := (e.sys.slots.getD n none).filter (Image.accepted e.sys.leastSecurity)
  match slot e.sys.active, slot (1 - e.sys.active) with
  | some i, _ => { e with sys := { e.sys with running := i.version } }
  | none, some i => note Fd.SYS_CAUSE_FW_FALLBACK { e with sys := { e.sys with running := i.version } }
  | none, none => bootFail 1 e

/-- BOOT begins at t+0 (R357, R374). BRAKE_N low is met here (R397). -/
def beginBoot (e : Engine) : Engine :=
  let e := { e with sys := { e.sys with bootAt := e.clk, gateDone := false, gateWaiting := false, gateAt := none, gateNs := 0 },
                    pwr := { e.pwr with collapsed := false } }
  if e.pins.brakeLow then pinBrake e else e

/-- At t+0.1 ms the main regulators turn on, and before that the thermal gate is checked, once: a BOOT it holds waits without them
(R357, R374; log 110). -/
def bootGate (e : Engine) : Engine :=
  if e.sys.gateDone ∨ e.clk < e.sys.bootAt + 100000 then e
  else
    let ok := coolEnough e
    { e with sys := { e.sys with gateDone := true, gateWaiting := !ok }, pwr := { e.pwr with rails := ok, railWarn := false } }

/-- The stage a BOOT shows by the typical times of R374 (log 31). -/
def stageOf (ns : Nat) : Nat :=
  if ns < 6000000 then 0 else if ns < 40000000 then 1 else if ns < 45000000 then 2 else if ns < 80000000 then 3
  else if ns < 90000000 then 4 else if ns < 1700000000 then 5 else if ns < 1770000000 then 6 else 7

/-- The clk at which a stage of this BOOT begins; 8 is its end. -/
def stageStart (e : Engine) (n : Nat) : Nat :=
  e.sys.bootAt + e.sys.gateNs + 1000000 * [0, 6, 40, 45, 80, 90, 1700, 1770, 1800].getD n 0

/-- The bound of a BOOT stage in ns (R374). -/
def stageBound (n : Nat) : Nat := 1000000 * [20, 100, 20, 150, 50, 2800, 500, 100].getD n 0

/-- BOOT goes on: it has not ended, and neither the gate nor RST_N holds it. -/
def booting (e : Engine) : Bool := e.sys.mode == .boot && decide (e.sys.stage < 8) && !e.sys.gateWaiting && !e.pins.rstLow

/-- The tiles are initialised at the end of BOOT stage 4: the frame store is zeroed and every tile given to sequencer A (R49,
R105, R374, R405). -/
def tilesInit (e : Engine) : Engine :=
  if e.sns.initAt ≠ 0 then e
  else
    let e := darkArray e
    let tiles := (List.range 256).map (fun t => (t, { tileAfterReset e t (e.tile t) with token := 1 }))
    { e with bkp := { e.bkp with tiles := tiles }, sns := { e.sns with initAt := e.clk } }

/-- The stages that time has brought: the image is picked at the end of stage 1, REMAP set once the copy completes, the tiles
initialised at the end of stage 4, and a last stage past its bound ends BOOT (R374, R375, R376; log 31). -/
def bootStages (e : Engine) : Engine :=
  let n := stageOf (e.clk - e.sys.bootAt - e.sys.gateNs)
  let late := decide (stageStart e 7 + stageBound 7 < e.clk)
  let auth := decide (e.sys.stage < 2) && decide (2 ≤ n)
  let e := whenE auth authenticate { e with sys := { e.sys with stage := n } }
  if !booting e then e
  else
    let e := whenE (decide (3 ≤ n)) (wrF Fd.SYS_REMAP_REMAP 1) (whenE (decide (5 ≤ n)) tilesInit e)
    if late then bootFail 5 e else e

/-- BOOT shows its stage as time passes. -/
def bootTick (e : Engine) : Engine :=
  if !booting e then e
  else
    let e := bootGate e
    if e.sys.gateDone && !e.sys.gateWaiting then bootStages e else e

/-- BOOT goes on until `t`. -/
def bootTo (t : Nat) (e : Engine) : Engine := bootTick (waitClk t e)

/-- Wake from SLEEP: BOOT with the survival of the SLEEP column (R326, R373). -/
def wakeNow (e : Engine) : Engine := if e.sys.mode = .sleep then beginBoot (resetEngine true .sleep (darkArray e)) else e

/-- Entry to COOLDOWN after the brake sluice of a shutdown (R355, R288). -/
def enterCooldown (e : Engine) : Engine :=
  let e := waitClk ((e.thm.coolPend).getD 0 + 10000) e
  let e := { e with thm := { e.thm with coolPend := none } }
  if e.sys.mode = .lockout then { e with pwr := { e.pwr with rails := false } }
  else
    let e := endWork e
    let e := if e.sys.mode = .hold then exitHold 4 .cooldown e else toMode .cooldown e
    let e := loseSetMode e
    { e with tim := {}, pwr := { e.pwr with rails := false },
             thm := { e.thm with coolAt := e.clk, coolOk := none },
             sys := { e.sys with severeSeen := false } }

-- rows of power and reset ----------------------------------------------------------------------------------------------------

/-- The persistent registers load at power-up; those whose stored copy fails its check load the factory value (R316). -/
def loadNv (errs : List Nat) (e : Engine) : Engine :=
  let bad := errs.filter (fun o => match regInfo o with | some r => r.kind == .nv | none => false)
  let e := { e with regs := keepKeys (fun o => !keptPor o) e.regs }
  let e := each (e.nvr.stored.filter (fun x => !decide (x.1 ∈ bad))) (fun x => wr x.1 x.2.toNat) e
  if bad = [] then e else note Fd.NVR_CAUSE_LOAD_ERR e

def powerOnNow (straps : Nat) (brakeLow : Bool) (loadErr : List Nat) (e : Engine) : Engine :=
  if e.sys.mode = .lockout ∧ millpondOn e then e
  else beginBoot (loadNv loadErr (porEngine (straps % 32) brakeLow e))

/-- POWER_ON: power-on reset; LOCKOUT ends only once both feeds and both auxiliary feeds have been removed (R333), with the straps and BRAKE_N as they stand (R326, R374, R387, R397). -/
def execPowerOn (straps : Nat) (brakeLow : Bool) (loadErr : List Nat) (s : State) : Host.Outcome State Fault Refusal :=
  .next (s.run (powerOnNow straps brakeLow loadErr))

/-- The stage in which a failure arises: 1 no valid image, 2 DDR5, 3 flash, 4 tile initialisation; any stage can run past its bound, 5
(R374, SYS_BOOT). -/
def failsIn (stage err : Nat) : Bool := decide ((stage, err) ∈ [(1, 1), (3, 2), (5, 3), (4, 4)]) || (err == 5 && decide (stage ≤ 7))

/-- A stage of BOOT fails, or (ERR 5) runs past its bound (R374). -/
def bootTimeoutNow (stage err : Nat) (e : Engine) : Engine :=
  if !booting e ∨ !failsIn stage err ∨ stage < e.sys.stage then e
  else
    let e := bootTo (stageStart e stage) (bootTo (e.sys.bootAt + 100000) e)
    if !booting e ∨ e.sys.stage ≠ stage then e
    else bootFail err (if err = 5 then waitClk (stageStart e stage + stageBound stage) e else e)

/-- BOOT_STAGE_TIMEOUT: a stage fails or runs past its bound (R374). -/
def execBootStageTimeout (stage err : Nat) (s : State) : Host.Outcome State Fault Refusal :=
  .next (s.run (bootTimeoutNow stage err))

/-- The thermal gate opens and the main regulators turn on; its time at the gate is not part of BOOT_MS (R357). -/
def gateEnd (e : Engine) : Engine :=
  { e with sys := { e.sys with gateWaiting := false, gateAt := none, gateNs := e.clk - (e.sys.bootAt + 100000) },
           pwr := { e.pwr with rails := true, railWarn := false } }

def gateReleaseNow (e : Engine) : Engine :=
  if e.sys.mode = .boot ∧ e.sys.gateWaiting then
    match e.sys.gateAt with
    | none => e
    | some t => gateEnd (waitClk (t + 60000000000) e)
  else e

/-- THERMAL_GATE_RELEASE: both thresholds have held for 60 s (R357). -/
def execThermalGateRelease (s : State) : Host.Outcome State Fault Refusal := .next (s.run gateReleaseNow)

/-- A stored record that the build reads, of a bracketing set of its region, and that fails CHECK (R61); the factory's pass. -/
def badRecord (e : Engine) (x : Nat × Nat) : Bool :=
  let lo := (e.region (idxRegion (x.1 % numRecords))).lo
  (x.1 / numRecords == lo || x.1 / numRecords == lo + 1) && !checkOk x.2

/-- BOOT has initialised the tiles and built the library: every record that fails CHECK raises AIM_CRC (R61, R70, R374). -/
def bootBuild (e : Engine) : Engine :=
  let e := tilesInit e
  let e := each (e.syn.aims.filter (badRecord e)) (fun _ => aimCrc) { e with syn := { e.syn with bootRegions := e.syn.regions, eff := [] } }
  wrF Fd.SYS_REMAP_REMAP 1 e

/-- The restore of R358 applies at this end of BOOT. -/
def restores (e : Engine) : Bool :=
  e.sys.from_ == .cooldown && on e Fd.THM_RESTORE_RESTORE_AFTER_COOL && !e.thm.restore.isEmpty && !e.sys.severeSeen

/-- The entries of the restore image: one PAIR per circuit (R358). -/
def restoreEntries (img : Tbl Nat) : List Entry :=
  img.filterMap (fun x => if x.1 < x.2 then some { drop := false, a := x.1, b := x.2 } else none)

/-- The end of stage 7: BOOT is done (R369, R374). -/
def bootDone (bistFail : Bool) (e : Engine) : Engine :=
  let e := bootBuild e
  let ms := min ((e.clk - e.sys.bootAt - e.sys.gateNs) / 1000000) 0xFFFFFF
  let e := { e with sys := { e.sys with bootDone := true, stage := 8, err := 0, bootMs := ms, bootEnd := e.clk, uptimeOn := true } }
  let e := if bistFail then note Fd.SYS_CAUSE_BIST_FAIL e else e
  let e := brakeOff 5 (note Fd.SYS_CAUSE_BOOT_END e)
  if e.sys.severeSeen then toMode .safe (trigger 2 { e with sys := { e.sys with severeSeen := false } })
  else if restores e then openRestore (restoreEntries e.thm.restore) 0 (toMode .service e)
  else toMode .bypass e

/-- Stage 7 ends, at its typical time or at a later instant within its bound (log 31). -/
def bootEndNow (bistFail : Bool) (e : Engine) : Engine :=
  if !booting e then e
  else
    let e := bootTo (e.sys.bootAt + 100000) e
    if !booting e then e
    else
      let e := bootTo (stageStart e 8) e
      if booting e then bootDone bistFail e else e

/-- BOOT_END: BOOT ends in BYPASS, SAFE or SERVICE (R358, R369, R374). -/
def execBootEnd (bistFail : Bool) (s : State) : Host.Outcome State Fault Refusal := .next (s.run (bootEndNow bistFail))

def rstNow (lowNs : Nat) (e : Engine) : Engine :=
  if lowNs < 20 ∨ inMode e [.lockout, .off] then e
  else
    let dark := unpowered e
    let e := trigger 5 e
    let e := resetEngine false .rst (if dark then darkArray e else e)
    beginBoot { e with pins := { e.pins with rstLow := true, rstAt := e.clk } }

/-- RST_N: pin reset; the brake is asserted and BOOT follows (R24, R326, R369, R393). -/
def execRstN (lowNs : Nat) (s : State) : Host.Outcome State Fault Refusal := .next (s.run (rstNow lowNs))

def rstReleaseNow (e : Engine) : Engine :=
  if e.pins.rstLow then
    let e := waitClk (e.pins.rstAt + 10000) e
    { e with pins := { e.pins with rstLow := false }, sys := { e.sys with bootAt := e.clk } }
  else e

/-- RST_N_RELEASE: the rising edge, after the extension to 10 µs (R393). -/
def execRstNRelease (s : State) : Host.Outcome State Fault Refusal := .next (s.run rstReleaseNow)

/-- The physical function leaves D3hot; SLEEP ends (R239, R373). -/
def d3hotLeave (e : Engine) : Engine :=
  wakeNow { e with hif := { e.hif with cfg := Tbl.upd (fun _ => {}) e.hif.cfg 0 (fun c => { c with power := 0 }) } }

/-- D3HOT_TO_D0 (R373). -/
def execD3hotToD0 (s : State) : Host.Outcome State Fault Refusal := .next (s.run d3hotLeave)

/-- Requesters that may write SYS_WAKE: the physical function and the SMBus (R112, R373). -/
def mayWake (rq : Rq) : Bool := rq == .pf || rq == .smbus

/-- HOLD ends by command (R112, R114). -/
def holdExitNow (e : Engine) : Engine := if e.sys.mode = .hold then exitHold 1 .service e else e

def cooldownEndNow (e : Engine) : Engine :=
  if e.sys.mode = .cooldown then
    match e.thm.coolOk with
    | none => e
    | some t =>
      let e := waitClk (t + 60000000000) e
      let secs := min ((e.clk - e.thm.coolAt) / 1000000000) 0xFFFFFFFF
      let e := wr Reg.THM_COOL_STAT secs (inc Reg.THM_SHUT_CNT (note Fd.THM_CAUSE_RESTART e))
      beginBoot (resetEngine false .cooldown (darkArray e))
  else e

/-- COOLDOWN_END: the restart thresholds have held for 60 s; BOOT begins (R356). -/
def execCooldownEnd (s : State) : Host.Outcome State Fault Refusal := .next (s.run cooldownEndNow)

-- NOP, GET_INFO, self-test ---------------------------------------------------------------------------------------------------

def cmdNop : CmdInfo := { opcode := 0x0001, operator := false }

/-- nop at execution. -/
def goNop (cx : Cx) : Engine → Engine :=
  runCmd cmdNop cx 0 noPorts (fun e =>
    let t := ((e.infl cx).map (·.at_)).getD (dNs e)
    complete cx stOk (t / 1000000000 % 4294967296 * 4294967296 + t % 1000000000) e)

/-- NOP (R233). -/
def execNop (cx : Cx) (s : State) : Host.Outcome State Fault Refusal :=
  .next (s.run (arriveT cx (goNop cx)))

/-- Seconds since the end of the last BOOT, saturating (R379, SYS_UPTIME). -/
def uptime (e : Engine) : Nat := if e.sys.uptimeOn then min ((e.clk - e.sys.bootEnd) / 1000000000) 0xFFFFFFFF else 0

/-- GET_INFO item 0. -/
def infoItem0 (e : Engine) : Nat :=
  0xB409 * 281474976710656 + ofB (bandNow e) * 1099511627776 + 0xC0 * 4294967296 + e.sys.running.toNat

/-- The items of GET_INFO (R379). -/
def infoItem (e : Engine) (n : Nat) : Nat :=
  match n with
  | 0 => infoItem0 e
  | 1 => Config.serialNumber.toNat
  | 2 => e.sys.mode.code * 72057594037927936 + e.sys.prev.code * 281474976710656 + uptime e
  | 3 => 4096 * 281474976710656 + 4100 * 4294967296 + 64 * 16777216 + 255 * 65536 + 1024
  | _ => rd e Reg.LRG_MAC_LO + rdF e Fd.LRG_MAC_HI_MAC * 4294967296

def cmdGetInfo : CmdInfo := { opcode := 0x0002, operator := false }

/-- getInfo at execution. -/
def goGetInfo (cx : Cx) (p : GetInfoP) : Engine → Engine :=
  runCmd cmdGetInfo cx p.rsv noPorts (fun e => if p.item > 4 then complete cx stBadParam 0 e else complete cx stOk (infoItem e p.item) e)

/-- GET_INFO (R379). -/
def execGetInfo (cx : Cx) (p : GetInfoP) (s : State) : Host.Outcome State Fault Refusal :=
  .next (s.run (arriveT cx (goGetInfo cx p)))

/-- The trigger of a march run's end: asserted and gone at once; the brake stays for its 2 µs (R45, R48, R56). -/
def testBrake (e : Engine) : Engine := brakeOff 7 (trigger 7 e)

-- firmware ---------------------------------------------------------------------------------------------------------------------

def cmdFwStage : CmdInfo :=
  { opcode := 0x0005, hostMem := true, modes := [.bypass, .calibrate, .service, .schedule] }

/-- The slot that is not active. -/
def otherSlot (e : Engine) : Nat := 1 - e.sys.active

/-- The inactive slot is empty and nothing is staged. -/
def unstage (e : Engine) : Engine :=
  { e with sys := { e.sys with slots := e.sys.slots.set (otherSlot e) none, staged := none, fwStage := none } }

def fwStageBody (cx : Cx) (p : FwStageP) (e : Engine) : Engine :=
  if p.length = 0 then complete cx stEmpty 0 e
  else if p.length > 16777216 ∨ !iovaOk p.addr 4096 p.length then complete cx stBadParam 0 e
  else if e.sys.fwBusy then complete cx stPortBusy 0 e
  else
    let e := unstage e
    openCmd 11 cx p.addr p.length false (.fw cx p) { e with sys := { e.sys with fwBusy := true } }

/-- fwStage at execution. -/
def goFwStage (cx : Cx) (p : FwStageP) : Engine → Engine :=
  runCmd cmdFwStage cx p.rsv noPorts (fwStageBody cx p)

/-- FW_STAGE (R377). -/
def execFwStage (cx : Cx) (p : FwStageP) (s : State) : Host.Outcome State Fault Refusal :=
  .next (s.run (arrive cx (goFwStage cx p)))

def fwStagedNow (v : FwVerdict) (e : Engine) : Engine :=
  match e.sys.fwStage with
  | none => e
  | some (cx, data) =>
    let e := { e with sys := { e.sys with fwStage := none, fwBusy := false } }
    match v with
    | .accepted w =>
      let i : Image := { version := w, format := free e, length := data.length,
                         security := e.sys.leastSecurity + free (useFree e) }
      let e := useFree (useFree e)
      let e := { e with sys := { e.sys with slots := e.sys.slots.set (otherSlot e) (some i), staged := some w } }
      complete cx stOk w.toNat (note Fd.SYS_CAUSE_FW_STAGED e)
    | .format => complete cx stBadParam 1 (unstage e)
    | .signature => complete cx stBadParam 2 (unstage e)
    | .rollback => complete cx stBadParam 3 (unstage e)

/-- FW_STAGED: the copied image has been written and checked; what an accepted one's header holds beside its version is free (R375,
R377; log 3). -/
def execFwStaged (v : FwVerdict) (s : State) : Host.Outcome State Fault Refusal := .next (s.run (fwStagedNow v))

/-- FW_ACTIVATE's modes by its WHEN (R378). -/
def cmdFwActivate (whn : Nat) : CmdInfo :=
  { opcode := 0x0006, modes := if whn = 1 then [.bypass, .service] else execModes }

/-- The staged image's slot becomes the active one. -/
def markActive (e : Engine) : Engine :=
  { e with sys := { e.sys with active := otherSlot e, staged := none } }

def fwActivateBody (cx : Cx) (p : FwActivateP) (e : Engine) : Engine :=
  if p.whn > 1 then complete cx stBadParam 0 e
  else if e.sys.staged.isNone then complete cx stBadParam 0 e
  else if p.whn = 0 then complete cx stOk 0 (note Fd.SYS_CAUSE_FW_ACTIVATED (markActive e))
  else
    let inHold := e.sys.mode == .service
    let e := { e with sys := { e.sys with fwRestart := some { cx := cx, inHold := inHold, oldSlot := e.sys.active } } }
    -- the reset of a core's island releases it where it is held (R347)
    let e := wr Reg.FLT_HANG (rd e Reg.FLT_HANG &&& 0xF0) (wrF Fd.SYS_REMAP_REMAP 0 (markActive e))
    if inHold then enterHold e else e

/-- fwActivate at execution. -/
def goFwActivate (cx : Cx) (p : FwActivateP) : Engine → Engine :=
  fun e =>
    if p.whn = 1 ∧ e.sys.setMode.isSome ∧ cx.domain = 0 then
      updInfl cx (fun x => { x with wait := some (.fwActivate cx p) }) (takeIn cx 0x0006 [] true e)
    else runCmd (cmdFwActivate p.whn) cx p.rsv noPorts (fun e => fwActivateBody cx p (updInfl cx (fun x => { x with wait := none }) e)) e

/-- FW_ACTIVATE (R378); it waits behind a pending SET_MODE (R381). -/
def execFwActivate (cx : Cx) (p : FwActivateP) (s : State) : Host.Outcome State Fault Refusal :=
  .next (s.run (arrive cx (goFwActivate cx p)))

def fwActivatedNow (ok : Bool) (e : Engine) : Engine :=
  match e.sys.fwRestart with
  | none => e
  | some r =>
    let e := wrF Fd.SYS_REMAP_REMAP 1 { e with sys := { e.sys with fwRestart := none } }
    let e := if r.inHold then holdExitNow e else e
    if ok then
      let v := ((e.sys.slots.getD e.sys.active none).map (·.version)).getD e.sys.running
      complete r.cx stOk v.toNat (note Fd.SYS_CAUSE_FW_ACTIVATED { e with sys := { e.sys with running := v } })
    else complete r.cx stDataEcc 0 (note Fd.SYS_CAUSE_FW_FALLBACK { e with sys := { e.sys with active := r.oldSlot } })

/-- FW_ACTIVATED: the cores have restarted, from the new image or, where it fails its checks, the old (R378). -/
def execFwActivated (ok : Bool) (s : State) : Host.Outcome State Fault Refusal := .next (s.run (fwActivatedNow ok))

-- FAULT_CLEAR ----------------------------------------------------------------------------------------------------------------

/-- Release SMB_ALERT_N once neither FLT_CAUSE.SEVERE nor GRAVE is set (R344). -/
def dropAlert (e : Engine) : Engine :=
  if bits (rd e Reg.FLT_CAUSE) 7 6 = 0 then { e with flt := { e.flt with smbAlert := false } } else e

/-- Write 1 to every sticky bit of every cause register (R349). -/
def clearAllCauses (e : Engine) : Engine :=
  let e := each (List.range 18) (fun b e => match causeOff b 0 with
    | some o => clearCause o (causeBits b) e
    | none => e) e
  let tiles := (e.regs.map (·.1)).filter (fun o => decide (0x8000 ≤ o) && decide ((o - 0x8000) % 0x40 = 4))
  dropAlert (each tiles (fun o => clearCause o (causeBits 18)) e)

/-- FAULT_CLEAR executes wherever commands do, but in SAFE only from the host (R264, R349; log 105). -/
def cmdFaultClear (cx : Cx) : CmdInfo :=
  { opcode := 0x0703, modes := if isRing cx.hopper then [.bypass, .calibrate, .service, .schedule, .test] else execModes }

def faultClearBody (cx : Cx) (p : FaultClearP) (e : Engine) : Engine :=
  if !p.exitSafe ∧ !p.clearCauses ∧ !p.clearHistory then complete cx stBadParam 0 e
  else
    let e := whenE p.clearCauses clearAllCauses e
    let e := whenE p.clearHistory (fun e => wr Reg.FLT_HIST_OVF_CNT 0 { e with flt := { e.flt with hist := [] } }) e
    if p.exitSafe ∧ e.sys.mode = .safe then
      if (severeLive e).isSome then complete cx stWrongMode (severeResult e) e
      else
        let e := toMode .bypass (brakeOff 2 e)
        { e with sys := { e.sys with leaving := some (cx, e.clk) } }
    else if p.exitSafe ∧ !p.clearCauses ∧ !p.clearHistory then complete cx stEmpty 0 e
    else complete cx stOk 0 e

/-- faultClear at execution. -/
def goFaultClear (cx : Cx) (p : FaultClearP) : Engine → Engine :=
  runCmd (cmdFaultClear cx) cx p.rsv noPorts (faultClearBody cx p)

/-- FAULT_CLEAR (R349). -/
def execFaultClear (cx : Cx) (p : FaultClearP) (s : State) : Host.Outcome State Fault Refusal :=
  .next (s.run (arrive cx (goFaultClear cx p)))

end Sys2Proof.Machine
end

