-- ==== Sys2Proof/Machine/SnapPulse.lean ====
section
/-! DEFINITION. The snapshot pulse: what the islands latch, and its place before a sluice of the same tick (R13, R322, R324). -/

namespace Sys2Proof.Machine

/-- The island whose reset keeps a counter from latching (R15, R348; log 8). -/
def islandOf (off : Nat) : Nat :=
  if off ≥ 0x8000 then (off - 0x8000) / 0x40
  else
    match blockNo off with
    | 4 => 266 | 5 => 267 | 6 => 256 | 7 => 257 | 8 => 258 | 9 => 259 | 10 => 260 | 15 => 261 | 13 => 262 | 11 => 274 | _ => 275

/-- The islands in reset now: they miss a pulse (R322). -/
def missing (e : Engine) : List Nat :=
  (e.bkp.tiles.filter (fun x => x.2.islandRst)).map (·.1) ++ (match e.flt.irst with | some n => if n < 256 then [] else [n] | none => [])

/-- A snapshot is BUSY: requested or latching (R322, SNAP_STAT). -/
def snapBusy (e : Engine) : Bool := e.snap.latched.isSome || !e.snap.nowWait.isEmpty

/-- The AT request whose tick has come. -/
def atDue (e : Engine) : Bool := e.snap.atPend.isSome && decide (e.snap.atTick ≤ dNs e)

/-- The pulse answers the AT: one that is due, unless a NOW asked for this tick made the snapshot BUSY before it; an AT whose
tick came while the last snapshot was BUSY goes before the NOWs that waited for it (R324). -/
def atGoes (e : Engine) : Bool := atDue e && (e.snap.nowWait.isEmpty || decide (e.snap.atTick < e.snap.nowAt))

/-- What the islands latch at the pulse (R322): each its live values, one that misses it its earlier shadows. -/
def latch (e : Engine) : Shadows :=
  let m := missing e
  let old := e.snap.cur
  let gone (n : Nat) : Bool := decide (n ∈ m)
  let live := e.regs.filter (fun x => isCounter x.1 && !gone (islandOf x.1))
  let kept := old.counters.filter (fun x => gone (islandOf x.1))
  { gen := (old.gen + 1) % 4294967296,
    counters := live.foldl (fun t x => Tbl.ins t x.1 x.2) kept,
    views := if gone 258 then old.views else e.cmd.hoppers.filterMap (fun x => if x.2.live = {} then none else some (x.1, x.2.live)),
    epoch := if gone 259 then old.epoch else e.xact.epoch,
    time := if gone 266 then old.time else if atGoes e then e.snap.atTick else e.snap.nowAt,
    missed := m.length, missedIslands := m }

/-- The sampling maxima restart (R226). -/
def restartViews (e : Engine) : Engine :=
  if 258 ∈ missing e then e
  else
    { e with cmd := { e.cmd with
        hoppers := Tbl.mapAll (fun _ => {}) (fun _ h => { h with live := { h.live with
          depthMax := 0, ageMax := 0, ageLb := false, samples := 0 } }) e.cmd.hoppers } }

/-- The pulse: it answers one request, each of the others waits for a generation of its own (R322, R324). -/
def pulse (e : Engine) : Engine :=
  let sh := latch e
  let at_ := atGoes e
  let s := e.snap
  restartViews { e with snap := { s with
    latched := some sh, nowWait := if at_ then s.nowWait else s.nowWait.tail,
    serving := if at_ then s.atPend.toList.map (fun p => some p.1) else s.nowWait.take 1,
    atPend := if at_ then none else s.atPend } }

/-- The tick of the snapshot that waits (R303, R322). -/
def snapTick (e : Engine) : Option Nat :=
  if e.snap.latched.isSome ∨ unpowered e then none
  else ((if e.snap.nowWait = [] then [] else [e.snap.nowAt]) ++ (if e.snap.atPend.isSome then [e.snap.atTick] else [])).min?

/-- A NOW request: its pulse goes at the next tick, unless a snapshot is BUSY, whose end it awaits (R322, R324). -/
def askNow (c : Option Cx) (e : Engine) : Engine :=
  { e with snap := { e.snap with nowWait := e.snap.nowWait ++ [c],
                                 nowAt := if snapBusy e then e.snap.nowAt else tickAfter (dNs e) } }

/-- An AT request: its tick is the first at which D is at or beyond its time (R303). -/
def askAt (c : Cx) (t : Nat) (e : Engine) : Engine :=
  { e with snap := { e.snap with atPend := some (c, t), atTick := if dNs e < t then gridUp t else tickAfter (dNs e - 1) } }

/-- A generation has become readable: an AT whose tick it has covered, then the NOWs that waited, go at the first ticks after
it (R324). -/
def askAgain (e : Engine) : Engine :=
  let next := tickAfter (dNs e)
  let late := e.snap.atPend.isSome && decide (e.snap.atTick < next)
  { e with snap := { e.snap with atTick := if late then next else e.snap.atTick, nowAt := if late then next + 10 else next } }

/-- A snapshot of a tick no later than `t` precedes the sluice of tick `t` (R13). -/
def snapBefore (t : Nat) (e : Engine) : Engine :=
  match snapTick e with
  | some u => if u ≤ t then pulse (waitD u e) else e
  | none => e

end Sys2Proof.Machine
end

