-- ==== Sys2Proof/Machine/Store.lean ====
section
/-! DEFINITION. Rows of the active planes and of the frame store, their ages, and frame-store errors (R39, R72, R95-R100). -/

namespace Sys2Proof.Machine

/-- Replace row `r` of a plane; shorted columns of `short` keep their codes (R53). -/
def putRow (short : Nat) (p : Plane) (r : Nat) (row : List Nat) : Plane := putRows short r 1 ((List.replicate r []) ++ [row]) p

/-- The next strobe of an aperture from `clk` on: between two operations of a march run (R40). -/
def runFree (e : Engine) (a clk : Nat) : Nat := match marching e with | some m => m.freeAt a clk | none => clk

/-- The next strobe of an aperture that writes its active plane: after the strobe granted last, and not within 40 ns of a copy
(R40, R43). -/
def nextStrobe (e : Engine) (a : Nat) : Nat := runFree e a (max e.clk (max (e.aper a).strobe ((e.aper a).lastSluice + 40)))

/-- The next strobe of an aperture for a row of its shadow plane. -/
def shadowStrobe (e : Engine) (a : Nat) : Nat := runFree e a (max e.clk (e.aper a).strobe)

/-- Write row `r` of the active plane at the next strobe; the frame store records it and its age starts over (R98). -/
def writeRow (a r : Nat) (row : List Nat) (e : Engine) : Engine :=
  let t := nextStrobe e a
  marchEv t (.strobe a) (updAper a (fun x => { x with active := putRow x.shortMap x.active r row, store := putRow 0 x.store r row,
                                                      actAt := Tbl.ins x.actAt r t, strobe := t + 10 }) e)

/-- The dither of the pass in progress, else of the last one (R97). -/
def dithNow (e : Engine) (a : Nat) : Int × Int :=
  match (e.aper a).trim, (e.aper a).passes with
  | some t, _ => t.dith
  | none, p :: _ => p.dith
  | none, [] => (0, 0)

/-- The pointing an aperture's active pattern has now: record copy, trim and dither (R74). -/
def pointing (e : Engine) (a : Nat) : Int × Int :=
  let l := e.loopOf a
  let b := (e.aper a).base
  let d := dithNow e a
  (b.1 + l.x.out + d.1, b.2 + l.y.out + d.2)

/-- Inputs of a synthesis of the active pattern as it stands. -/
def activeIn (e : Engine) (a : Nat) : SynthIn := synthIn e a (e.aper a).rec_ (pointing e a).1 (pointing e a).2

/-- Aperture in slot `s` of tile `t`. -/
def apOf (t s : Nat) : Nat := (tileAps t).getD s 0

/-- Row `r` of an aperture synthesised with `i`; the cells of the words `ks` take no hysteresis (R97). -/
def synthBut (e : Engine) (a : Nat) (i : SynthIn) (ks : List Nat) (r : Nat) : List Nat :=
  let x := e.aper a
  let h := synthRow i (hystOn e) x.shortMap (rowOf x.active r) (rowOf x.store r) r
  if ks = [] then h
  else
    let n := synthRow i false x.shortMap (rowOf x.active r) (rowOf x.store r) r
    (List.range 96).map (fun c => if c / 6 ∈ ks then n.getD c 0 else h.getD c 0)

-- rows that pass P -----------------------------------------------------------------------------------------------------------------

/-- The refresh period of a band in ns (R99). -/
def periodOf (band : Nat) : Nat := if band = 0 then 500000 else if band = 1 then 250000 else if band = 2 then 125000 else 62500

/-- A tile's sensor has failed (R351). -/
def tileSensorFailed (e : Engine) (t : Nat) : Bool := (e.sensor t).failed

/-- The effective band: the higher of the tile's and any forced one (R99, R351). -/
def effBand (e : Engine) (t : Nat) : Nat :=
  let b := (e.tile t).band
  let b := if on e Fd.RFS_OVR_BAND_EN then max b (rdF e Fd.RFS_OVR_BAND) else b
  if tileSensorFailed e t then 3 else b

/-- The refresh period of a tile in ns. -/
def periodNs (e : Engine) (t : Nat) : Nat := periodOf (effBand e t)

/-- When row `r` of the active plane was last written. -/
def actRowAt (e : Engine) (a r : Nat) : Nat := max e.sns.initAt (Tbl.get (fun _ => (e.aper a).copyAt) (e.aper a).actAt r)

/-- When row `r` of the shadow plane was last written. -/
def shRowAt (e : Engine) (a r : Nat) : Nat := Tbl.get (fun _ => (e.aper a).copyAt) (e.aper a).shAt r

/-- A row written at clk `now` after `at_` had passed P (R101). -/
def rowLate (e : Engine) (a at_ now : Nat) : Bool := decide (periodNs e (tileOf a) < now - at_)

/-- The active rows of an aperture that have passed P at clk `now`. -/
def lateRows (e : Engine) (a now : Nat) : Nat :=
  if (e.aper a).actAt = [] then (if rowLate e a (actRowAt e a 0) now then 80 else 0)
  else ((List.range 80).filter (fun r => rowLate e a (actRowAt e a r) now)).length

/-- An age at clk `now` in 1/1024 of the period of tile `t`. -/
def unitsAt (e : Engine) (t at_ now : Nat) : Nat := (now - at_) * 1024 / periodNs e t

/-- The earliest last write of an active row of an aperture. -/
def actFirst (e : Engine) (a : Nat) : Nat :=
  if (e.aper a).actAt = [] then actRowAt e a 0
  else (List.range 80).foldl (fun m r => min m (actRowAt e a r)) (actRowAt e a 0)

-- ages -------------------------------------------------------------------------------------------------------------------------

/-- An age now in 1/1024 of the period of tile `t`. -/
def ageUnits (e : Engine) (t at_ : Nat) : Nat := unitsAt e t at_ e.clk

/-- The earliest last write of a shadow row of an aperture. -/
def shFirst (e : Engine) (a : Nat) : Nat := (List.range 80).foldl (fun m r => min m (shRowAt e a r)) (shRowAt e a 0)

/-- The earliest last writes of the active rows of a tile's apertures; rows of code 0 have ages too (R100). -/
def actFirsts (e : Engine) (t : Nat) : List Nat := (tileAps t).map (actFirst e)

/-- The same for the armed shadow planes. -/
def shFirsts (e : Engine) (t : Nat) : List Nat := ((tileAps t).filter (fun a => (e.aper a).armed)).map (shFirst e)

/-- The oldest active row of a tile, in 1/1024 of P. -/
def oldestActive (e : Engine) (t : Nat) : Nat := ((actFirsts e t).map (ageUnits e t)).foldl max 0

/-- The oldest row of the armed shadow planes of a tile. -/
def oldestShadow (e : Engine) (t : Nat) : Nat := ((shFirsts e t).map (ageUnits e t)).foldl max 0

/-- The tiles satisfying `p`. -/
def tilesOf (p : Nat → Bool) : List Nat := (List.range 256).filter p

/-- The age of the oldest row of any tile satisfying `p`, in 1/1024 of P. -/
def oldestOf (e : Engine) (p : Nat → Bool) : Nat :=
  (tilesOf p).foldl (fun m t => max m (max (oldestActive e t) (oldestShadow e t))) 0

/-- The instant at which a row last written at `at_` in tile `t` reaches `u`/1024 of P. -/
def ageInstant (e : Engine) (t at_ u : Nat) : Nat := at_ + (u * periodNs e t + 1023) / 1024

/-- The first instant at which a row of a tile satisfying `p` reaches `u`/1024 of P. -/
def firstAged (e : Engine) (p : Nat → Bool) (u : Nat) : Option Nat :=
  ((tilesOf p).flatMap (fun t => (actFirsts e t ++ shFirsts e t).map (fun w => ageInstant e t w u))).min?

/-- Every row of the tiles satisfying `p`, by the clk of its last write, passes `ok`. -/
def allRows (e : Engine) (p : Nat → Bool) (ok : Nat → Nat → Bool) : Bool :=
  (tilesOf p).all (fun t => (actFirsts e t ++ shFirsts e t).all (ok t))

/-- Some row of a tile satisfying `p` is older than `u`/1024 of P. -/
def someOlder (e : Engine) (p : Nat → Bool) (u : Nat) : Bool :=
  !allRows e p (fun t w => decide ((e.clk - w) * 1024 ≤ u * periodNs e t))

/-- Every row of the tiles satisfying `p` is younger than `u`/1024 of P. -/
def allYounger (e : Engine) (p : Nat → Bool) (u : Nat) : Bool :=
  allRows e p (fun t w => decide ((e.clk - w) * 1024 < u * periodNs e t))

-- ownership and drills ------------------------------------------------------------------------------------------------------------

/-- The self-check of a sequencer as kept (R106): its checks clean and no island reset. -/
def selfA (e : Engine) : Bool := e.rfs.checkA && !e.rfs.rstA
def selfB (e : Engine) : Bool := e.rfs.checkB && !e.rfs.rstB

/-- The owner that a tile's latch names at `clk`: a claim takes effect at the end of the row strobe in progress (R105). -/
def Tile.tokenAt (x : Tile) (clk : Nat) : Nat := if clk < x.claimTo then x.claimOver else x.token

/-- The owner that a tile's latch names now. -/
def tokenNow (e : Engine) (t : Nat) : Nat := (e.tile t).tokenAt e.clk

/-- The end of the row strobes in progress in a tile (R39). -/
def strobeEnd (e : Engine) (t : Nat) : Nat :=
  ((tileAps t).map (fun a => (e.aper a).strobe)).foldl (fun m s => if s ≤ e.clk + 10 then max m s else m) e.clk

/-- Sequencer `b` signals the latch of a tile in the 10 ns of `clk`; `to_`: the end of the strobe in progress. Claims of both in the same
cycle leave the owner unchanged (R105). -/
def Tile.claimed (clk to_ b : Nat) (x : Tile) : Tile :=
  if x.claimBy ≠ 0 ∧ x.claimBy ≠ b ∧ x.claimAt / 10 = clk / 10 then { x with token := x.claimOver }
  else { x with token := b, claimAt := clk, claimBy := b, claimOver := x.tokenAt clk, claimTo := to_ }

/-- Sequencer `b` claims every tile (R105). -/
def claimAll (b : Nat) (e : Engine) : Engine :=
  let clk := e.clk
  each (List.range 256) (fun t e => let w := strobeEnd e t; updTile t (fun x => x.claimed clk w b) e) e

/-- A's self-check has held throughout the drill: A can reclaim the tiles (R110). -/
def drillA (e : Engine) (d : Drill) : Bool := selfA e && !d.aFailed

/-- A drill ends with a result and a peak age (R110). -/
def endDrill (d : Drill) (result : Nat) (e : Engine) : Engine :=
  let peak := min (max d.peak (oldestOf e (fun _ => true))) 1023
  let e := { e with rfs := { e.rfs with drill := none } }
  let e := if result = 3 then e else claimAll 1 e
  let e := wr Reg.RFS_DRILL_STAT (2147483648 + result * 65536 + peak) e
  let e := if result = 1 ∨ result = 2 then note Fd.RFS_CAUSE_DRILL_FAIL e else e
  complete d.cx stOk (result * 65536 + peak) e

/-- A row of age `u`, in 1/1024 of P, is written during a drill: the peak under B; one that had reached ABORT_AGE has ended the drill
(R110). -/
def drillSees (u : Nat) (e : Engine) : Engine :=
  match e.rfs.drill with
  | none => e
  | some d =>
    if drillA e d && decide (d.abort ≤ u) then endDrill d 1 e
    else { e with rfs := { e.rfs with drill := some { d with peak := max d.peak u } } }

/-- `n` rows that passed P are written (R101). -/
def missRows (n : Nat) (e : Engine) : Engine :=
  each (List.range n) (fun _ e => note Fd.RFS_CAUSE_DEADLINE_MISS (inc Reg.RFS_DEADLINE_CNT e)) e

/-- A row of a tile is written at an age, in 1/1024 of P: the largest age at a write (RFS_PEAK_AGE), and what a drill sees (R110). -/
def peakAge (t age : Nat) (shadow : Bool) (e : Engine) : Engine :=
  let e := drillSees age e
  let a := min age 4095
  if rdF e Fd.RFS_PEAK_AGE_AGE < a then
    wrF Fd.RFS_PEAK_AGE_PLANE (ofB shadow) (wrF Fd.RFS_PEAK_AGE_TILE t (wrF Fd.RFS_PEAK_AGE_AGE a e))
  else e

/-- Every active row of an aperture is written now by a copy or a rewrite: its age counts, and those that passed P (R98, R101). -/
def allWritten (a : Nat) (e : Engine) : Engine :=
  missRows (lateRows e a e.clk) (peakAge (tileOf a) (unitsAt e (tileOf a) (actFirst e a) e.clk) false e)

/-- The apertures of a tile of which nothing is listed: their rows count from the tiles' initialisation (R49, R98). -/
def unlisted (e : Engine) (t : Nat) : List Nat := (tileAps t).filter (fun a => !e.bkp.apers.any (fun x => x.1 == a))

/-- The brake sluice writes every active row of the tiles that are not silent: ages count, and rows that passed P (R98, R101). -/
def sluiceAges (silent : List Nat) (e : Engine) : Engine :=
  if e.sns.initAt = 0 then e
  else
    let here (t : Nat) : Bool := !(e.tile t).silent && !decide (t ∈ silent)
    let now := e.clk
    let e := each ((e.bkp.apers.map (·.1)).filter (fun a => here (tileOf a))) allWritten e
    each ((List.range 256).filter here) (fun t e =>
      let u := unitsAt e t e.sns.initAt now
      if u = 0 then e
      else
        let n := (unlisted e t).length
        if n = 0 then e
        else
          let late := decide (periodNs e t < now - e.sns.initAt)
          missRows (if late then 80 * n else 0) (peakAge t u false e)) e

/-- A pass over the active plane of `a` with codes `plane` begins, `stop` of its rows to be written (R40, R98): the rows an
earlier pass has not written are taken from this one. -/
def startPass (a : Nat) (plane : Plane) (stop : Nat) (dith : Int × Int) (idx : Nat × Nat) (e : Engine) : Engine :=
  let f := nextStrobe e a
  let n := match (e.aper a).trim with | some t => t.row | none => 0
  let rows := (List.range stop).filter (fun r => decide (n ≤ r))
  let late := (rows.filter (fun r => rowLate e a (actRowAt e a r) (f + 10 * (r - n)))).length
  let age := rows.foldl (fun m r => max m (unitsAt e (tileOf a) (actRowAt e a r) (f + 10 * (r - n)))) 0
  missRows late (peakAge (tileOf a) age false (updAper a (fun x => if stop ≤ n then { x with trim := none }
    else { x with trim := some { plane := plane, from_ := f, row := n, stop := stop, dith := dith, idx := idx } }) e))

-- the frame store ------------------------------------------------------------------------------------------------------------------

/-- The number of frame-store words of a tile (R95). -/
def fsWords (t : Nat) : Nat := 1280 * (tileAps t).length

/-- Frame-store word `w` of tile `t` with its check bits: the codes of six cells in [59:0], zero in [63:60] (R95). Every write
makes the check bits afresh, and an upset is met by the read that finds it (R96). -/
def fsWord (e : Engine) (t w : Nat) : Nat :=
  let row := rowOf (e.aper (apOf t (w / 1280))).store (w % 1280 / 16)
  let data := (List.range 6).foldl (fun v j => v + (row.getD (6 * (w % 16) + j) 0 % 1024) <<< (10 * j)) 0
  data + (Config.secded (BitVec.ofNat 64 data)).toNat <<< 64

/-- The repair of a row with an uncorrectable word, by the state of the aperture (R97). -/
def repairWord (t w : Nat) (e : Engine) : Engine :=
  let a := apOf t (w / 1280)
  let r := w % 1280 / 16
  let k := w % 16
  let x := e.aper a
  let at_ := actRowAt e a r
  let e := missRows (ofB (rowLate e a at_ (nextStrobe e a))) (peakAge t (unitsAt e t at_ (nextStrobe e a)) false e)
  if x.actKind = 0 then writeRow a r zeroRow e
  else if frozenAp e a ∨ e.sys.mode = .hold then
    writeRow a r ((List.range 96).map (fun c => if c / 6 = k then 0 else (rowOf x.store r).getD c 0)) e
  else writeRow a r (synthBut e a (activeIn e a) [k] r) e

/-- What a read of the frame store of tile `t` finds (R96, R97); a tile has no word beyond its last. -/
def fsEvent (t : Nat) (f : FsRead) (e : Engine) : Engine :=
  match f with
  | .clean => e
  | .corrected w =>
    if fsWords t ≤ w then e
    else inc Reg.RFS_FS_CORR_CNT (mark Fd.RFS_CAUSE_FS_CORR (noteTile Fd.TILE_CAUSE_FS_CORR t (w % 32768) e))
  | .uncorrectable w =>
    if fsWords t ≤ w then e
    else repairWord t w
      (inc Reg.RFS_FS_UNCORR_CNT (mark Fd.RFS_CAUSE_FS_UNCORR (noteTile Fd.TILE_CAUSE_FS_UNCORR t (w % 32768) e)))

/-- What the reads of a pass, a row or a rewrite find, in their order. -/
def fsEvents (t : Nat) (l : List FsRead) (e : Engine) : Engine := each l (fsEvent t) e

/-- The reads that concern words of row `r` of aperture `a` (R95). -/
def readsOf (a r : Nat) (l : List FsRead) : List FsRead :=
  l.filter (fun f => match f with
    | .clean => false
    | .corrected w => w / 16 == 80 * slotOf a + r
    | .uncorrectable w => w / 16 == 80 * slotOf a + r)

/-- The words of row `r` of aperture `a` that these reads find uncorrectable (R97). -/
def badWords (a r : Nat) (l : List FsRead) : List Nat :=
  l.filterMap (fun f => match f with
    | .uncorrectable w => if w / 16 = 80 * slotOf a + r then some (w % 16) else none
    | _ => none)

end Sys2Proof.Machine
end

