-- ==== Sys2Proof/Machine/Brake.lean ====
section
/-! DEFINITION. The brake, spans, march runs, self-test, column shorts and tile resets (R45-R59, R380, R393). -/

namespace Sys2Proof.Machine

-- the pin -----------------------------------------------------------------------------------------------------------------------

def brakeNNow (lowNs : Nat) (e : Engine) : Engine :=
  if lowNs < 20 ∨ e.pins.brakeLow then e
  else
    let e := { e with pins := { e.pins with brakeLow := true } }
    if on e Fd.BKP_BRAKE_EN_PIN_EN && !unpowered e then pinBrake e else e

/-- BRAKE_N: the pin is low for `lowNs`; a low without the main rails is met by the next BOOT (R45, R393, R397). -/
def execBrakeN (lowNs : Nat) (s : State) : Host.Outcome State Fault Refusal := .next (s.run (brakeNNow lowNs))

/-- BRAKE_N_RELEASE: the pin rises; its trigger goes (R48, R393). -/
def execBrakeNRelease (s : State) : Host.Outcome State Fault Refusal :=
  .next (s.run (fun e => brakeOff 0 { e with pins := { e.pins with brakeLow := false } }))

-- the brake sluice --------------------------------------------------------------------------------------------------------------

/-- What waits for the brake sluice: entry to SLEEP and to COOLDOWN (R355, R373). -/
def afterBrake (e : Engine) : Engine :=
  let e := match e.sys.setMode with
    | some j => if j.wait = .sleepBrake then enterSleep j e else e
    | none => e
  if e.thm.coolPend.isSome then enterCooldown e else e

/-- The epoch at a brake sluice: it advances, except in a span change whose re-synthesis goes ahead (R52, R172). -/
def brakeMap (lit : List Nat) (e : Engine) : Engine :=
  match e.bkp.span with
  | none => brakeEpoch lit e
  | some j =>
    if j.cancelled then brakeOff 4 (brakeEpoch (j.saved.map (·.1)) { e with bkp := { e.bkp with span := none } })
    else { e with bkp := { e.bkp with span := some { j with sluiced := true } } }

/-- The brake sluice with the tiles that stayed silent (R46, R47). -/
def brakeSluice (silent : List Nat) (e : Engine) : Engine :=
  let lit := (litApers e).map (·.1)
  updStation (mapStep (fun e => brakeMap lit (zeroArray silent (sluiceAges silent e))) (inc Reg.BKP_BRAKE_CNT e))

/-- Wait for the instant of a brake sluice; a snapshot of its tick comes first (R13). -/
def brakeInstant (ns : Nat) (e : Engine) : Engine :=
  let t := e.bkp.brakeAt + ns
  waitClk t (snapBefore (dNs (waitClk t e) / 10 * 10) e)

def brakeSluiceNow (e : Engine) : Engine :=
  if e.bkp.zeroing then afterBrake (brakeSluice [] (brakeInstant 800 e)) else e

/-- BRAKE_SLUICE: every tile reports its shadows zeroed (R46). -/
def execBrakeSluice (s : State) : Host.Outcome State Fault Refusal := .next (s.run brakeSluiceNow)

/-- BRAKE_FAIL of a silent tile: its cause, its live bit and the block's summary bit (R47, R335). -/
def brakeFailTile (t : Nat) (e : Engine) : Engine :=
  mark Fd.BKP_BRAKE_CAUSE_BRAKE_FAIL
    (setLive (tileCause Fd.TILE_CAUSE_LIVE_BRAKE_FAIL t) true (noteTile Fd.TILE_CAUSE_BRAKE_FAIL t 0 e))

def brakeFailNow (silent : List Nat) (e : Engine) : Engine :=
  let l := dedup (silent.filter (fun t => decide (t < 256)))
  if e.bkp.zeroing ∧ l ≠ [] then
    enterLockout (each l brakeFailTile (brakeSluice l (brakeInstant 2000 e)))
  else e

/-- BRAKE_FAIL: tiles that have not reported at t+2.0 µs (R47). -/
def execBrakeFail (silent : List Nat) (s : State) : Host.Outcome State Fault Refusal := .next (s.run (brakeFailNow silent))

/-- The brake releases once no trigger remains and 2.0 µs have passed (R48). -/
def settleBrake (e : Engine) : Engine :=
  if e.bkp.braking && !e.bkp.zeroing && e.bkp.live == 0 then
    let e := waitClk (e.bkp.brakeAt + 2000) e
    { e with bkp := { e.bkp with braking := false } }
  else e

/-- BRAKE_RELEASE (R48). -/
def execBrakeRelease (s : State) : Host.Outcome State Fault Refusal := .next (s.run settleBrake)

-- spans --------------------------------------------------------------------------------------------------------------------------

/-- An authorised write of BKP_SPAN (R51): where both refusals hold, SPAN_BAD is raised (log 69). -/
def spanApply (rq : Rq) (v : Nat) (e : Engine) : Engine :=
  let v := v % 4
  if v = spanNow e then e
  else if v % 2 ≠ ofB (bandNow e) then note Fd.BKP_BRAKE_CAUSE_SPAN_BAD e
  else if e.bkp.span.isSome ∨ ¬(e.sys.mode = .service ∨ e.sys.mode = .bypass) then note Fd.BKP_BRAKE_CAUSE_SPAN_BUSY e
  else
    let e := wrF Fd.BKP_SPAN_SPAN v e
    if e.sys.mode = .bypass then e
    else
      -- under a brake whose sluice has opened there is no other one to wait for (R46, R52)
      let e := releaseDue e
      let done := e.bkp.braking && !e.bkp.zeroing
      trigger 4 { e with bkp := { e.bkp with span := some { at_ := e.clk, saved := litApers e, rq := rq, sluiced := done } } }

/-- The record of one direction of a circuit for the re-synthesis; a record that fails CHECK raises AIM_CRC (R52). -/
def circuitRec (a b : Nat) (e : Engine) : Engine × Option Nat :=
  let r := effRec e (aimIndex a b)
  match recState r with
  | .good => (e, some r)
  | .crc => (aimCrc e, none)
  | .unusable => (e, none)

/-- What the re-synthesis arms for one saved aperture: its pattern, or its park where a record of its circuit fails (R52).
Answers target, record, and whether the circuit is parked. -/
def resynthOne (x : Nat × Aim) (e : Engine) : Engine × (Nat × Aim) × Nat × Bool :=
  match x.2 with
  | .to b =>
    if isStation x.1 then (let r := ownRec x.1 x.2 e; (r.1, x, r.2, false))
    else
      let p := circuitRec x.1 b e
      let back := recState (effRec p.1 (aimIndex b x.1))
      match p.2 with
      | some r => if back = .good then (p.1, x, r, false)
                  else (let q := ownRec x.1 .park p.1; (q.1, (x.1, .park), q.2, true))
      | none => let q := ownRec x.1 .park p.1; (q.1, (x.1, .park), q.2, true)
  | _ => let r := ownRec x.1 x.2 e; (r.1, x, r.2, false)

/-- The records of the re-synthesis (R52). -/
def resynthAll : List (Nat × Aim) → Engine → Engine × List (Nat × Aim) × Tbl Nat × List Nat
  | [], e => (e, [], [], [])
  | x :: l, e =>
    let r := resynthOne x e
    let t := resynthAll l r.1
    (t.1, r.2.1 :: t.2.1, (x.1, r.2.2.1) :: t.2.2.1, if r.2.2.2 then x.1 :: t.2.2.2 else t.2.2.2)

def resynthStart (e : Engine) : Engine :=
  match e.bkp.span with
  | none => e
  | some j =>
    if j.cancelled ∨ !j.sluiced ∨ e.xact.jobs.any (fun x => x.owner == .resynth) then e
    else
      let e := brakeOff 4 (waitClk (j.at_ + 2000) e)
      let e := if e.bkp.live = 0 then { e with bkp := { e.bkp with braking := false } } else e
      let r := resynthAll (j.saved.filter (fun x => !frozenAp e x.1)) e
      let t := gridUp (dNs e + (j.at_ + 4000 - e.clk))
      addJob { id := 0, owner := .resynth, grp := 13, t := some t, armAt := dNs e, targets := r.2.1, recs := r.2.2.1,
               away := r.2.2.2 } r.1

/-- RESYNTHESIS_START: the brake window of a span change ends at t+2.00 µs (R24, R52). -/
def execResynthesisStart (s : State) : Host.Outcome State Fault Refusal := .next (s.run resynthStart)

-- march runs ---------------------------------------------------------------------------------------------------------------------

/-- A march run begins with the fields `ctl` of BKP_MARCH_CTL, its results cleared; a brake under way ends first, since it keeps every other writer off (R46,
R48), and a tile in island reset takes no part until its reset ends (R59; log 83). -/
def beginMarch (bist : Bool) (ctl : Nat) (e : Engine) : Engine :=
  let at_ := if e.bkp.braking then max e.clk (e.bkp.brakeAt + 2000) else e.clk
  let rst := (e.bkp.tiles.filter (fun x => x.2.islandRst)).map (fun x => (at_, MarchEv.reset x.1 true))
  let e := wr Reg.BKP_MARCH_FAIL_CNT 0 (wrF Fd.BKP_MARCH_FF0_VALID 0 (wr Reg.BKP_MARCH_STAT 0x40000000 e))
  { e with bkp := { e.bkp with march := some { ctl := ctl, bist := bist, at_ := at_, evs := rst } } }

/-- GO of BKP_MARCH_CTL with the fields just written (R55). -/
def marchGo (e : Engine) : Engine :=
  if (marching e).isSome then e
  else
    let ok := e.sys.mode == .test && decide (rdF e Fd.BKP_MARCH_CTL_ALGO ≤ 6) && decide (rdF e Fd.BKP_MARCH_CTL_BACKGROUND ≤ 3)
      && (on e Fd.BKP_MARCH_CTL_ACTIVE || on e Fd.BKP_MARCH_CTL_SHADOW)
    if !ok then wrF Fd.BKP_MARCH_CTL_GO 0 (wrF Fd.BKP_MARCH_STAT_REFUSED 1 e)
    else beginMarch false (rd e Reg.BKP_MARCH_CTL) (wrF Fd.BKP_MARCH_CTL_GO 1 e)

/-- A read that the run makes: one of its algorithm, begun while the tile is not in island reset (R55, R59). -/
def marchMade (m : MarchRun) (f : MarchRead) : Bool :=
  (if f.shadow then marchShadow m.ctl else marchActive m.ctl) && decide (f.aperture < 4100) && decide (f.row < 80) &&
    decide (f.col < 96) && marchReads (marchAlgo m.ctl) f.element f.row &&
    (!m.resets (tileOf f.aperture) || (m.made f.aperture).any (fun x =>
      x.2.data.isNone && x.2.shadow == f.shadow && x.2.el == f.element && x.2.row == f.row))

/-- A cell on a shorted column. -/
def onShort (e : Engine) (f : MarchRead) : Bool := bit (e.aper f.aperture).shortMap f.col

/-- A read beyond the window (R55). -/
def beyondWindow (ctl : Nat) (f : MarchRead) : Bool :=
  decide (marchWindow ctl < apart f.code (marchExpected ctl f.element f.row f.col))

/-- The failing reads outside shorted columns, each once, in the order of the run (R55). -/
def marchFailing (e : Engine) (m : MarchRun) (l : List MarchRead) : List MarchRead :=
  sortBy (marchKey (marchAlgo m.ctl)) (dedup (l.filter (fun f => marchMade m f && !onShort e f && beyondWindow m.ctl f)))

/-- Shorted columns of an aperture. -/
def shortCols (x : Aper) : List Nat := (List.range 96).filter (fun c => bit x.shortMap c)

/-- Failing reads of the shorted columns of an aperture: every read of their cells (R56). -/
def shortFails (e : Engine) (m : MarchRun) (a : Nat) : Nat :=
  (shortCols (e.aper a)).length *
    (if m.resets (tileOf a) then ((m.made a).filter (fun x => x.2.data.isNone)).length
     else marchPlanes m.ctl * ((List.range 80).map (readsOfRow (marchAlgo m.ctl))).sum)

/-- The first read of a shorted column of an aperture in a run: what the sense path finds there is as listed, else open. -/
def firstShortOf (e : Engine) (m : MarchRun) (l : List MarchRead) (a : Nat) : Option MarchRead :=
  ((m.made a).find? (fun x => x.2.data.isNone)).map (fun x =>
    let f : MarchRead := { shadow := x.2.shadow, element := x.2.el, aperture := a, row := x.2.row,
                           col := (shortCols (e.aper a)).headD 0, code := 0 }
    { f with code := ((l.find? (fun x => { x with code := 0 } == f)).map (·.code)).getD (free e % 1024) })

/-- The first read of any shorted column. -/
def firstShort (e : Engine) (m : MarchRun) (l : List MarchRead) : Option MarchRead :=
  (sortBy (marchKey (marchAlgo m.ctl)) (((e.bkp.apers.map (·.1)).filter (fun a => shortCols (e.aper a) != [])).filterMap
    (firstShortOf e m l))).head?

/-- The first-fail record (BKP_MARCH_FF0, FF1). -/
def firstFail (ctl : Nat) (f : MarchRead) (e : Engine) : Engine :=
  let x := marchExpected ctl f.element f.row f.col
  wr Reg.BKP_MARCH_FF1 (x * 65536 + f.element % 256 * 256)
    (wr Reg.BKP_MARCH_FF0 (2147483648 + ofB f.shadow * 1073741824 + ofB (decide (x < f.code)) * 536870912 + f.aperture % 8192 * 65536
      + f.row % 128 * 512 + f.col % 128 * 4) e)

/-- Count failing reads of an aperture: MARCH_FAILS saturates (R56, R58). -/
def addFails (a n : Nat) (e : Engine) : Engine := updAper a (fun x => { x with marchFails := min (x.marchFails + n) 0xFFFF }) e

/-- The results of a run with the reads that found another code than expected (R55, R56). -/
def marchResults (m : MarchRun) (l : List MarchRead) (e : Engine) : Engine :=
  let ctl := m.ctl
  let bad := marchFailing e m l
  let short := (e.bkp.apers.map (·.1)).filter (fun a => shortCols (e.aper a) != [])
  let n := bad.length + (short.map (shortFails e m)).sum
  let first := sortBy (marchKey (marchAlgo ctl)) (bad.take 1 ++ (firstShort e m l).toList)
  let e1 := each short (fun a => addFails a (shortFails e m a)) (each bad (fun f => addFails f.aperture 1) e)
  let e1 := match first with | f :: _ => firstFail ctl f e1 | [] => e1
  let e1 := whenE (short != []) useFree e1
  wr Reg.BKP_MARCH_STAT (0x20000000 + ofB (n != 0) * 0x10000000) (wr Reg.BKP_MARCH_FAIL_CNT (min n 0xFFFFFFFF) e1)

/-- The march run of a BIST_RUN has failed: the tile of its first failing read is kept (R380). -/
def bistMarch (e : Engine) : Engine :=
  if on e Fd.BKP_MARCH_STAT_FAIL then
    let t := tileOf (rdF e Fd.BKP_MARCH_FF0_APERTURE)
    { e with sys := { e.sys with bist := e.sys.bist.map (fun j => { j with march := some t }) } }
  else e

def marchEndNow (l : List MarchRead) (e : Engine) : Engine :=
  match marching e with
  | none => e
  | some m =>
    let e := haltMarch m (waitClk m.endAt e)
    testBrake (whenE m.bist bistMarch (wrF Fd.BKP_MARCH_CTL_GO 0 (marchResults m l e)))

/-- MARCH_END: the run's time is over; `reads` are those that found a code other than the one expected; the array is braked
(R55, R56). -/
def execMarchEnd (reads : List MarchRead) (s : State) : Host.Outcome State Fault Refusal := .next (s.run (marchEndNow reads))

-- self-test ------------------------------------------------------------------------------------------------------------------------

def cmdBist : CmdInfo := { opcode := 0x0702, modes := [.test] }

/-- The suites that exist; bits 7 to 5, of which R380 says nothing, are ignored (R380, log 43). -/
def suitesOf (n : Nat) : Nat := n % 32

/-- The time of the suites behind MARCH: RESIDUE, FRAME_STORE, CONVERTERS, DDR5 (R380). -/
def suitesNs (su : Nat) : Nat :=
  ofB (bit su 1) * 2000000 + ofB (bit su 2) * 5000000 + ofB (bit su 3) * 1000000 + ofB (bit su 4) * 3000000000

/-- The fields of BKP_MARCH_CTL that the MARCH suite runs with: ALGO 1, BACKGROUND 0, both planes, WINDOW as the register holds it (R380;
log 111). -/
def bistCtl (e : Engine) : Nat :=
  let set (f : Fld) (x v : Nat) : Nat := setBits v f.hi f.lo x
  set Fd.BKP_MARCH_CTL_ALGO 1 (set Fd.BKP_MARCH_CTL_BACKGROUND 0 (set Fd.BKP_MARCH_CTL_ACTIVE 1
    (set Fd.BKP_MARCH_CTL_SHADOW 1 (rd e Reg.BKP_MARCH_CTL))))

/-- The suites begin: MARCH is a march run, and the others follow it in ascending order (R55, R380). -/
def bistGo (cx : Cx) (su : Nat) (e : Engine) : Engine :=
  let e := whenE (bit su 0) (beginMarch true (bistCtl e)) e
  let from_ := if bit su 0 then ((marching e).map MarchRun.endAt).getD e.clk else e.clk
  { e with sys := { e.sys with bist := some { cx := cx, suites := su, endAt := from_ + suitesNs su } } }

def bistBody (cx : Cx) (p : BistRunP) (e : Engine) : Engine :=
  if p.suites = 0 then complete cx stEmpty 0 e
  else if e.sys.bist.isSome ∨ (marching e).isSome then complete cx stPortBusy 0 e
  else bistGo cx (suitesOf p.suites) e

/-- bistRun at execution. -/
def goBistRun (cx : Cx) (p : BistRunP) : Engine → Engine :=
  runCmd cmdBist cx p.rsv noPorts (bistBody cx p)

/-- BIST_RUN (R380). -/
def execBistRun (cx : Cx) (p : BistRunP) (s : State) : Host.Outcome State Fault Refusal :=
  .next (s.run (arrive cx (goBistRun cx p)))

/-- BIST_RUN completes: the suites run, those that failed, and the tile or bank of the first failure (R380). -/
def bistDone (j : BistJob) (failed place : Nat) (e : Engine) : Engine :=
  let e := { e with sys := { e.sys with bist := none } }
  let bad := (failed % 32 &&& j.suites &&& 30) + ofB j.march.isSome
  let e := if bad ≠ 0 then note Fd.SYS_CAUSE_BIST_FAIL e else e
  complete j.cx stOk (j.suites + bad * 256 + (if bad ≠ 0 then j.march.getD (place % 65536) * 65536 else 0)) e

/-- The time of the last suite is over. A march run that no MARCH_END has ended finds no failing read; whether it failed is for its
reads to say, of the others `failed` says it (log 111). -/
def bistEndNow (failed place : Nat) (e : Engine) : Engine :=
  match e.sys.bist with
  | none => e
  | some j =>
    let e := whenE ((marching e).any (·.bist)) (marchEndNow []) e
    let e := waitClk j.endAt e
    bistDone { j with march := e.sys.bist.bind (·.march) } failed place e

/-- BIST_END: the suites end; those in `failed` failed, the first at `place` (R380). -/
def execBistEnd (failed place : Nat) (s : State) : Host.Outcome State Fault Refusal := .next (s.run (bistEndNow failed place))

-- shorts ---------------------------------------------------------------------------------------------------------------------------

def shortNow (a col : Nat) (e : Engine) : Engine :=
  if a ≥ 4100 ∨ col ≥ 96 ∨ bit (e.aper a).shortMap col ∨ unpowered e then e
  else
    let clk := e.clk
    let e := updAper a (fun x => { x with shortMap := x.shortMap ||| (1 <<< col), shortAt := Tbl.ins x.shortAt col clk }) e
    inc Reg.BKP_SHORT_CNT (noteTile Fd.TILE_CAUSE_SHORT (tileOf a) (a + col * 65536) e)

/-- SHORT: column `col` of aperture `a` is still at its limit after two strobes (R53). -/
def execShort (a col : Nat) (s : State) : Host.Outcome State Fault Refusal := .next (s.run (shortNow a col))

/-- SHORT_RETRY of a tile (R54). -/
def shortRetry (t : Nat) (e : Engine) : Engine := each (tileAps t) (fun a => updAper a (fun x => { x with shortMap := 0, shortAt := [] })) e

-- island resets ----------------------------------------------------------------------------------------------------------------

/-- An island reset of tile `t` begins (R59, R119, R152): the state of its loops is cleared, so that the first pass after it writes the
record's pointing with what its own evaluation adds (DESIGN CHOICE, log 101). -/
def tileReset (t : Nat) (e : Engine) : Engine :=
  if (e.tile t).islandRst then e
  else
    let e := marchEv e.clk (.reset t true) (setLive (tileCause Fd.TILE_CAUSE_LIVE_HS_ERR t) false e)
    let e := updTile t (fun x => { x with islandRst := true, frozen := false, hsStall := false, frameAt := none, framePrev := none,
                                          edgeAt := none, lost := false }) e
    each (tileAps t) (fun a e =>
      let lit := (e.aper a).actKind == 1 || (e.aper a).actKind == 3
      updSens a (fun _ => {}) (updLoop a (fun l => { st := if lit then .acquire else .off, sluices := l.sluices, timedOut := l.timedOut,
                                                     waitEdge := true, acqEdge := true, evalAt := e.clk })
        (updAper a (fun x => { x with passes := [] }) (dropPass a (disarm a e))))) e

/-- Some tile is owned by sequencer `b` (1 A, 2 B). -/
def ownsTiles (e : Engine) (b : Nat) : Bool := e.bkp.tiles.any (fun x => x.2.tokenAt e.clk == b)

/-- An authorised write of TILE_CTL (R54, R59). -/
def tileCtlApply (t v : Nat) (e : Engine) : Engine :=
  let e := if bit v 1 then shortRetry t e else e
  if bit v 0 then tileReset t e else e

end Sys2Proof.Machine
end

