-- ==== Sys2Proof/Machine/Arm.lean ====
section
/-! DEFINITION. Arming: the synthesis of shadow planes, ARMED bits, and the check before a sluice, for every arming agent
(R39-R41, R62, R73-R79, R165, R168). -/

namespace Sys2Proof.Machine

/-- A residue mismatch in tile `t`: the row is recomputed (R78). -/
def residueEvent (t : Nat) (e : Engine) : Engine :=
  inc Reg.SYN_RESIDUE_CNT (mark Fd.SYN_CAUSE_RESIDUE (noteTile Fd.TILE_CAUSE_RESIDUE t 0 e))

/-- The residue checks of one synthesis: a second mismatch freezes the tile (R78, R79). -/
def residues (t : Nat) (r : Residue) (e : Engine) : Engine :=
  let e := each r.once (fun _ => residueEvent t) e
  if r.twice.isSome then freezeEvent t (residueEvent t e) else e

/-- The residue checks of a pass whose strobes begin at clk `s`: the rows before a second mismatch are written first (R79). -/
def residueAt (t : Nat) (r : Residue) (s : Nat) (e : Engine) : Engine :=
  residues t r (match r.twice with | some k => waitClk (s + 10 * k) e | none => e)

/-- Arms of COARSE records count (R62). -/
def coarseArm (rec_ : Nat) (e : Engine) : Engine :=
  if recCoarse rec_ then note Fd.SYN_CAUSE_COARSE_ARMED (inc Reg.SYN_COARSE_CNT e) else e

/-- An aperture that cannot be armed: its tile is frozen, in island reset or silent (R44, R47, R59, R79). -/
def cannotArm (e : Engine) (a : Nat) : Bool := frozenAp e a || resetAp e a || (e.tile (tileOf a)).silent

/-- Arm one aperture: its pattern is synthesised into the shadow plane with its group's number; the rows take the strobes from
the next one on (R39, R40, R41, R165, R203). -/
def armAper (grp a : Nat) (aim : Aim) (rec_ : Nat) (corr : Int × Int) (res : Residue) (e : Engine) : Engine :=
  if cannotArm e a then e
  else
    let x := e.aper a
    let i := synthIn e a rec_ (16 * recKx rec_ + corr.1) (16 * recKy rec_ + corr.2)
    let plane := if aim = .zero then zeroPlane x.shortMap x.shadow else synthPlane i false x.shortMap x.shadow x.store
    let s := max e.clk x.strobe
    let e := updAper a (fun x => { x with grp := grp, armed := false, arming := true, armRow := 0, strobe := s, shKind := kindOf a aim,
                                          shTarget := targetOf aim, shRec := rec_, shCorr := corr, shadow := plane, shAt := [] }) (coarseArm rec_ e)
    residues (tileOf a) res e

/-- The residue results of an aperture. -/
def residueOf (l : List (Nat × Residue)) (a : Nat) : Residue := ((l.find? (fun p => p.1 == a)).map (·.2)).getD {}

/-- The job's sluice is the engine's own, committed NOW: its tick follows its arm (R166, R178). -/
def Owner.isNow (o : Owner) : Bool :=
  match o with
  | .park _ => true | .repair _ => true | .schRepair => true | .entry => true | .survey _ _ => true
  | _ => false

/-- A repair waits for the island reset of its tiles (R178). -/
def mustWaitReset (e : Engine) (j : Job) : Bool := j.owner.isNow && j.targets.any (fun t => resetAp e t.1)

/-- Writers other than the brake act: powered, not braking, not in HOLD or LOCKOUT. -/
def writersRun (e : Engine) : Bool := !e.bkp.braking && !unpowered e && !inMode e [.boot, .hold, .lockout, .safe]

def armNow (job : Nat) (res : List (Nat × Residue)) (e : Engine) : Engine :=
  let e := settleBrake e
  match e.job job with
  | none => e
  | some j =>
    if j.phase ≠ .waiting ∨ !writersRun e ∨ mustWaitReset e j then e
    else
      let e := waitD j.armAt e
      let t := if j.owner.isNow ∧ dNs e > j.armAt ∧ e.thm.restoring.isNone then some (gridUp (dNs e + 2000)) else j.t
      let e := updJob job (fun j => { j with phase := .arming, t := t }) e
      let e := match j.owner with | .txn id => updTxn id (fun x => { x with st := .armed }) e | _ => e
      each j.targets (fun x e =>
        armAper j.grp x.1 x.2 (Tbl.get (fun _ => 0) j.recs x.1) (Tbl.get (fun _ => (0, 0)) j.corrs x.1) (residueOf res x.1) e) e

/-- ARM: the arming agent of a job begins at the arm lead (R165, R370, R195). -/
def execArm (job : Nat) (res : List (Nat × Residue)) (s : State) : Host.Outcome State Fault Refusal := .next (s.run (armNow job res))

/-- The instant at which the arm of an aperture has written its last row, if nothing takes a strobe from it (R39, R40). -/
def armEnd (e : Engine) (a : Nat) : Nat := (e.aper a).strobe + 10 * (80 - (e.aper a).armRow)

/-- The last row of an arm has been written (R41). -/
def armDone (a : Nat) (e : Engine) : Engine :=
  if (e.aper a).arming then updAper a (fun x => x) (waitClk (armEnd e a) e) else e

/-- ARM_COMPLETE (R41). -/
def execArmComplete (a : Nat) (s : State) : Host.Outcome State Fault Refusal := .next (s.run (armDone a))

/-- A tick lies inside the 4.0 µs of a span change in progress (R52). -/
def inSpan (e : Engine) (t : Nat) : Bool :=
  match e.bkp.span with
  | some j => decide (t < dNs e + (j.at_ + 4000 - e.clk))
  | none => false

/-- The check of a job at T − 200 ns (R165): a transaction with an aperture not ARMED fails, and a sluice of a tick inside a
span change does not open (R52, R177). -/
def checkNow (job : Nat) (e : Engine) : Engine :=
  match e.job job with
  | none => e
  | some j =>
    match j.t with
    | none => e
    | some t =>
      if j.phase ≠ .arming then e
      else
        let e := waitD (t - 200) e
        let latch := updJob job (fun j => { j with phase := .latched }) e
        match j.owner with
        | .resynth => latch
        | .txn id =>
          if inSpan e t then failTxn id 0x0A 0xFFFF e
          else if j.targets.any (fun x => !(e.aper x.1).armed) then failTxn id 0x07 0xFFFF e
          else updTxn id (fun x => { x with checked := true }) latch
        | _ => if inSpan e t then loseJob j e else latch

end Sys2Proof.Machine
end

