-- ==== Sys2Proof/Machine/Xact.lean ====
section
/-! DEFINITION. Pairing transactions: the commands that name ports, the order tags they wait for, groups and commit ticks, and
the events of a transaction up to its check (R160-R186, R229, R334). -/

namespace Sys2Proof.Machine

-- order tags --------------------------------------------------------------------------------------------------------------------

/-- The frame of a command that names ports: like `runCmd`, but it is accepted only after its domain's earlier ones, and the
command itself is kept while it waits (R180, R181). -/
def runPort (i : CmdInfo) (self : Instr) (cx : Cx) (rsv : Nat) (ports : Engine → List Nat) (body : Engine → Engine) (e : Engine) :
    Engine :=
  let go := fun e => runCmd i cx rsv ports (fun e => body (updInfl cx (fun x => { x with wait := none }) e)) e
  if !executing e cx then e
  else if (e.infl cx).isNone ∧ (headerRefusal i cx).isSome then go e
  else
    let e := updInfl cx (fun x => { x with wait := some self }) (takeIn cx i.opcode [] false e)
    if mustWait e ((e.infl cx).getD { cx := cx, opcode := i.opcode }) then e else go (takeIn cx i.opcode (ports e) true e)

/-- The ports a PAIR_COMMIT or PAIR_ABORT names: those of its XID's transaction, open or waiting to be opened (R180). -/
def xidPorts (dom xid : Nat) (e : Engine) : List Nat :=
  match byXid e dom xid with
  | some t => t.ports
  | none =>
    (e.cmd.inflight.findSome? (fun i => match i.wait with
      | some (.pairTxn c p) => if c.domain = dom ∧ p.xid = xid then some i.ports else none
      | _ => none)).getD []

/-- The ports a list names, implicit drops included (R160, R180). -/
def listPorts (l : List Word) (e : Engine) : List Nat :=
  let names := (listNames l).filter (fun p => decide (p < 4096))
  names ++ l.filterMap (fun w => if bit w.toNat 31 then implicitOf e names (bits w.toNat 12 0) else none)

-- PAIR_TXN ------------------------------------------------------------------------------------------------------------------------

def cmdPairTxn : CmdInfo := { opcode := 0x0201, operator := false, modes := [.service] }

/-- The words of a list. -/
def listOf (p : PairTxnP) : List Word := (List.range p.count).map (fun k => p.entries.getD k 0#32)

/-- The parameters of a PAIR_TXN are in range (R161). -/
def pairTxnOk (p : PairTxnP) : Bool :=
  p.xid != 0 && decide (p.xid < 65536) && decide (p.count ≤ 2048) &&
    (if p.byAddr then iovaOk p.addr 4 (4 * p.count) else p.addr == 0 && decide (p.count ≤ 52))

def pairTxnBody (cx : Cx) (p : PairTxnP) (e : Engine) : Engine :=
  if p.count = 0 then complete cx stEmpty 0 e
  else if !pairTxnOk p then complete cx stBadParam 0 e
  else
    let l := listOf p
    match validate e cx.domain p.xid l with
    | some r => complete cx r.status (r.cause + r.idx * 65536) e
    | none =>
      let es := l.map (parseEntry e (listNames l))
      let armed := (es.flatMap (·.targets e)).length
      complete cx stOk (p.count + armed * 65536) (openTxn cx.domain p.xid es e)

/-- A PAIR_TXN whose list is on chip. -/
def pairTxnGo (cx : Cx) (p : PairTxnP) (e : Engine) : Engine :=
  runPort cmdPairTxn (.pairTxn cx p) cx p.rsv (listPorts (listOf p)) (pairTxnBody cx p) e

/-- The stream that fetches a list. -/
def listStream (e : Engine) (cx : Cx) : Bool := e.dma.streams.any (fun s => s.kind == 3 && s.hopper == cx.hopper && s.tag == cx.tag)

/-- PAIR_TXN with BY_ADDR fetches its list first; it is accepted when the list is on chip (R161, R180). -/
def pairTxnNow (cx : Cx) (p : PairTxnP) (e : Engine) : Engine :=
  if !p.byAddr then pairTxnGo cx p e
  else if !executing e cx ∨ listStream e cx then e
  else
    let q := { p with entries := [] }
    let refused := (e.infl cx).isNone && (isRing cx.hopper || (headerRefusal cmdPairTxn cx).isSome)
    if refused then runCmd { cmdPairTxn with hostMem := true } cx p.rsv noPorts (pairTxnBody cx q) e
    else if p.count = 0 ∨ !pairTxnOk p then pairTxnGo cx q e
    else
      let e := updInfl cx (fun i => { i with accepted := false }) (takeIn cx 0x0201 [] false e)
      openCmd 3 cx p.addr (4 * p.count) false (.list cx q) e

-- PAIR_COMMIT ---------------------------------------------------------------------------------------------------------------------

def cmdPairCommit : CmdInfo := { opcode := 0x0202, operator := false, modes := [.service] }

/-- WHEN and the time are in range; for NOW the seconds are zero (R170). -/
def whenOk (whn : Nat) (a : At) : Bool := decide (whn ≤ 2) && decide (a.ns < 1000000000) && (whn != 0 || a.sec == 0)

/-- Commit a transaction: it is PREPARED once its records are on chip and it holds a group; its place among those of its tick is
that of its command's acceptance (R165, R169). -/
def commitTxn (id whn req : Nat) (early : Bool) (cx : Cx) (e : Engine) : Engine :=
  let o := ((e.infl cx).map (·.order)).getD e.cmd.accepts
  updTxn id (fun t => { t with st := .prepared, whn := whn, req := req, early := early, commit := some cx, order := o }) e

def pairCommitBody (cx : Cx) (p : PairCommitP) (e : Engine) : Engine :=
  match byXid e cx.domain p.xid with
  | none => complete cx stBadParam 0 e
  | some t =>
    if t.st ≠ .opened then complete cx stPortBusy 0 e
    else if !whenOk p.whn p.at_ then complete cx stBadParam 0 e
    else if zeroService e then complete cx stWrongMode 0 e
    else commitTxn t.id p.whn (At.toNs p.at_) p.early cx e

def pairCommitGo (cx : Cx) (p : PairCommitP) (e : Engine) : Engine :=
  runPort cmdPairCommit (.pairCommit cx p) cx p.rsv (xidPorts cx.domain p.xid) (pairCommitBody cx p) e

-- PAIR_ABORT ----------------------------------------------------------------------------------------------------------------------

def cmdPairAbort : CmdInfo := { opcode := 0x0203, operator := false }

def pairAbortBody (cx : Cx) (p : PairAbortP) (e : Engine) : Engine :=
  match byXid e cx.domain p.xid with
  | none => complete cx stBadParam 0 e
  | some t => if t.checked then complete cx stTimeout 0 e else complete cx stOk 0 (failTxn t.id 0x0C 0xFFFF e)

def pairAbortGo (cx : Cx) (p : PairAbortP) (e : Engine) : Engine :=
  runPort cmdPairAbort (.pairAbort cx p) cx p.rsv (xidPorts cx.domain p.xid) (pairAbortBody cx p) e

-- PORT_PARK -----------------------------------------------------------------------------------------------------------------------

def cmdPortPark : CmdInfo := { opcode := 0x0205, operator := false, modes := [.service] }

/-- The one-entry list DROP(PORT) (R182). -/
def parkList (port : Nat) : List Word := [wd (2147483648 + min port 0x1FFF)]

def portParkBody (cx : Cx) (p : PortParkP) (e : Engine) : Engine :=
  if zeroService e then complete cx stWrongMode 0 e
  else
    let l := parkList p.port
    match validate e cx.domain 0 l with
    | some r => complete cx r.status (r.cause + r.idx * 65536) e
    | none =>
      let es := l.map (parseEntry e (listNames l))
      if es.flatMap (·.targets e) = [] then
        completeAt cx stOk e.xact.epoch e.xact.epoch (updPort p.port (fun x => { x with lastOutcome := 2 }) e)
      else
        let e := openTxn cx.domain 0 es e
        commitTxn (e.xact.nextId - 1) 0 0 false cx e

def portParkGo (cx : Cx) (p : PortParkP) (e : Engine) : Engine :=
  runPort cmdPortPark (.portPark cx p) cx p.rsv (listPorts (parkList p.port)) (portParkBody cx p) e

-- OWNER_SET -----------------------------------------------------------------------------------------------------------------------

def cmdOwnerSet : CmdInfo :=
  { opcode := 0x0602, modes := [.bypass, .calibrate, .service, .schedule] }

/-- The port is paired in a LOADED slot while the player runs (R189). -/
def slotBusy (e : Engine) (p : Nat) : Bool :=
  playerRuns e && e.sch.slots.any (fun s => s.2.loaded && decide (s.2.partner p < 4096))

def ownerSetBody (cx : Cx) (p : OwnerSetP) (e : Engine) : Engine :=
  let ps := span p.first p.count
  if p.count = 0 then complete cx stEmpty 0 e
  else if p.first + p.count > 4096 ∨ p.domain > 63 then complete cx stBadParam 0 e
  else if on e Fd.CMD_OWN_LOCK_LOCK then complete cx stWrongMode 0 (note Fd.CMD_CAUSE_OWN_LOCKED e)
  else if ps.any reservedPort then complete cx stReserved 0 e
  else if ps.any (fun q => (e.port q).txn.isSome || slotBusy e q) then complete cx stPortBusy 0 e
  else if ps.any (fun q => paired e q && decide (partner e q ∉ ps) && (e.port (partner e q)).owner != p.domain) then
    complete cx stPortBusy 0 e
  else
    let n := (ps.filter (fun q => (e.port q).owner != p.domain)).length
    complete cx stOk n (each ps (fun q => updPort q (fun x => { x with owner := p.domain })) e)

def ownerSetGo (cx : Cx) (p : OwnerSetP) (e : Engine) : Engine :=
  runPort cmdOwnerSet (.ownerSet cx p) cx p.rsv (fun _ => (span p.first p.count).filter (fun q => decide (q < 4096)))
    (ownerSetBody cx p) e

-- records ---------------------------------------------------------------------------------------------------------------------------

/-- A record a transaction fetches, or the cause of its failure (R61-R63, R177, R402). -/
def txnRec (x : Nat × Aim) (e : Engine) : Engine × (Nat ⊕ Nat) :=
  let r := effRec e (targetIndex x.1 x.2)
  if !checkOk r then (aimCrc e, .inr 0x01)
  else
    match x.2 with
    | .park => if !recValid r then (e, .inl (parkDefault (bandNow e) x.1)) else if recBlocked r then (e, .inr 0x02) else (e, .inl r)
    | _ => if !recValid r ∨ recBlocked r then (e, .inr 0x02) else (e, .inl r)

/-- The records of an entry's targets. -/
def txnRecs : List (Nat × Aim) → Engine → Engine × (Tbl Nat ⊕ Nat)
  | [], e => (e, .inl [])
  | x :: l, e =>
    match txnRec x e with
    | (e, .inr c) => (e, .inr c)
    | (e, .inl r) =>
      match txnRecs l e with
      | (e, .inr c) => (e, .inr c)
      | (e, .inl t) => (e, .inl ((x.1, r) :: t))

/-- The records of a list, entry by entry; a failure names the entry's index. -/
def fetchAll : List Entry → Nat → Engine → Engine × (Tbl Nat ⊕ Nat × Nat)
  | [], _, e => (e, .inl [])
  | n :: l, i, e =>
    match txnRecs (n.targets e) e with
    | (e, .inr c) => (e, .inr (c, i))
    | (e, .inl t) =>
      match fetchAll l (i + 1) e with
      | (e, .inr c) => (e, .inr c)
      | (e, .inl u) => (e, .inl (t ++ u))

-- groups and ticks ------------------------------------------------------------------------------------------------------------------

/-- A transaction holds the group. -/
def grpHeld (e : Engine) (g : Nat) : Bool := e.xact.txns.any (fun t => t.group == some g)

/-- The lowest free group of GRP_MASK (R167). -/
def freeGroup (e : Engine) : Option Nat :=
  (List.range 12).find? (fun g => bit (rdF e Fd.XACT_CTL_GRP_MASK) g && !grpHeld e g)

/-- The commit tick a transaction would get now, as far as it is known, and the instant its arm begins (R166). -/
def tickOf (e : Engine) (t : Txn) : Option Nat × Nat :=
  if t.whn = 0 then (some (gridUp (dNs e + 2000)), gridUp (dNs e + 2000) - 2000)
  else if t.whn = 1 then (some (gridUp t.req), gridUp t.req - 2000)
  else (none, t.req - 2000)

/-- The arm instant of AT or ON_SYNC has passed. -/
def tooLate (e : Engine) (t : Txn) : Bool := t.whn != 0 && decide ((tickOf e t).2 < dNs e)

/-- The group held by another transaction with the same tick, else the lowest free one (R167). -/
def groupFor (e : Engine) (t : Txn) : Option Nat :=
  match (tickOf e t).1 with
  | some x =>
    (match e.xact.txns.find? (fun u => u.id != t.id && u.t == some x && u.group.isSome) with
     | some u => u.group
     | none => freeGroup e)
  | none => freeGroup e

/-- The result of an EARLY completion: T, or for ON_SYNC the requested time (R170). -/
def earlyResult (ns : Nat) : Nat := ns / 1000000000 % 4294967296 * 4294967296 + ns % 1000000000

/-- The restore transaction carries the entry sluice in its own: what it does not arm itself (R371). -/
def entryWith (t : Option Nat) (armAt : Nat) (mine : List Nat) (e : Engine) : Engine :=
  let ts := entryTargets.filter (fun x => decide (x.1 ∉ mine) && !frozenAp e x.1)
  let r := ownRecs ts e
  addJob { id := 0, owner := .entry, grp := 14, t := t, armAt := armAt, targets := ts, recs := r.2 } r.1

/-- A transaction whose records are on chip takes its group, T and its arming job, if a group is free (R166, R167). -/
def tryGroup (id : Nat) (e : Engine) : Engine :=
  match e.txn id with
  | none => e
  | some t =>
    if !t.ready ∨ t.group.isSome ∨ tooLate e t then e
    else
      match groupFor e t with
      | none => e
      | some g =>
        let k := tickOf e t
        let job := e.xact.nextJob
        let e := addJob { id := 0, owner := .txn id, grp := g, t := k.1, armAt := k.2, targets := t.targets e, recs := t.recs } e
        let e := updTxn id (fun t => { t with group := some g, t := k.1, job := some job }) e
        let e := if t.restore then entryWith k.1 k.2 ((t.targets e).map (·.1)) e else e
        match t.commit with
        | some cx =>
          if t.early then
            complete cx stOk (earlyResult (k.1.getD t.req)) (updTxn id (fun t => { t with earlyDone := true }) e)
          else e
        | none => e

/-- Groups that have become free are taken by the transactions that wait for one, in the order of their commits. -/
def retryGroups (e : Engine) : Engine :=
  each (sortBy (·.order) (e.xact.txns.filter (fun t => t.ready && t.group.isNone))) (fun t => tryGroup t.id) e

-- waiting commands ------------------------------------------------------------------------------------------------------------------

/-- Run a command that waited for its order tags. -/
def runWaiting (i : Instr) (e : Engine) : Engine :=
  match i with
  | .pairTxn cx p => pairTxnGo cx p e
  | .pairCommit cx p => pairCommitGo cx p e
  | .pairAbort cx p => pairAbortGo cx p e
  | .portPark cx p => portParkGo cx p e
  | .ownerSet cx p => ownerSetGo cx p e
  | .fwActivate cx p => goFwActivate cx p e
  | _ => e

/-- The first command whose wait is over. -/
def nextWaiting (e : Engine) : Option Instr :=
  (e.cmd.inflight.find? (fun i =>
    (match i.wait with | none => false | some (.fwActivate _ _) => e.sys.setMode.isNone | some _ => true) &&
      executing e i.cx && !i.done && !mustWait e i)).bind (·.wait)

/-- Run waiting commands as long as one may run. -/
def settleN : Nat → Engine → Engine
  | 0, e => e
  | n + 1, e => match nextWaiting e with | some i => settleN n (runWaiting i e) | none => e

/-- What follows at once from released groups and order tags (R167, R181), a servo step that nothing holds back any more (R304), and
the entry to SLEEP whose completion has been posted (R373). -/
def settle (e : Engine) : Engine :=
  let e := sleepDone (stepCheck (retryGroups e))
  settleN (2 * e.cmd.inflight.length) e

/-- An effect after which groups and order tags may be free. -/
def settled (f : Engine → Engine) (e : Engine) : Engine := settle (f e)

-- the rows ----------------------------------------------------------------------------------------------------------------------------

/-- pairTxn at execution. -/
def goPairTxn (cx : Cx) (p : PairTxnP) : Engine → Engine :=
  settled (pairTxnNow cx p)

/-- PAIR_TXN (R161). -/
def execPairTxn (cx : Cx) (p : PairTxnP) (s : State) : Host.Outcome State Fault Refusal :=
  .next (s.run (arriveT cx (goPairTxn cx p)))

/-- pairCommit at execution. -/
def goPairCommit (cx : Cx) (p : PairCommitP) : Engine → Engine :=
  settled (pairCommitGo cx p)

/-- PAIR_COMMIT (R170). -/
def execPairCommit (cx : Cx) (p : PairCommitP) (s : State) : Host.Outcome State Fault Refusal :=
  .next (s.run (arriveT cx (goPairCommit cx p)))

/-- pairAbort at execution. -/
def goPairAbort (cx : Cx) (p : PairAbortP) : Engine → Engine :=
  settled (pairAbortGo cx p)

/-- PAIR_ABORT (R171). -/
def execPairAbort (cx : Cx) (p : PairAbortP) (s : State) : Host.Outcome State Fault Refusal :=
  .next (s.run (arriveT cx (goPairAbort cx p)))

/-- portPark at execution. -/
def goPortPark (cx : Cx) (p : PortParkP) : Engine → Engine :=
  settled (portParkGo cx p)

/-- PORT_PARK (R182). -/
def execPortPark (cx : Cx) (p : PortParkP) (s : State) : Host.Outcome State Fault Refusal :=
  .next (s.run (arriveT cx (goPortPark cx p)))

/-- ownerSet at execution. -/
def goOwnerSet (cx : Cx) (p : OwnerSetP) : Engine → Engine :=
  settled (ownerSetGo cx p)

/-- OWNER_SET (R229). -/
def execOwnerSet (cx : Cx) (p : OwnerSetP) (s : State) : Host.Outcome State Fault Refusal :=
  .next (s.run (arrive cx (goOwnerSet cx p)))

-- PAIR_QUERY ------------------------------------------------------------------------------------------------------------------------

def cmdPairQuery (kind : Nat) : CmdInfo := { opcode := 0x0204, operator := false, hostMem := kind == 1 }

/-- STATE of a transaction (R183). -/
def TxSt.code (s : TxSt) : Nat :=
  match s with
  | .opened => 0 | .prepared => 1 | .armed => 2 | .committed => 3 | .failed => 4 | .aborted => 5

/-- The record of an XID: open, or among the kept closed ones (R183). -/
def recordOf (e : Engine) (dom xid : Nat) : Option Txn :=
  match byXid e dom xid with
  | some t => some t
  | none => e.xact.closed.find? (fun t => t.dom == dom && t.xid == xid && xid != 0)

/-- The header of PAIR_QUERY (R183). -/
def queryHeader (t : Txn) : List Byte :=
  let ns := t.t.getD 0
  leBytes 2 t.xid ++ leBytes 1 t.st.code ++ leBytes 1 t.cause ++ leBytes 2 t.entries.length ++ leBytes 2 t.failIdx ++
    leBytes 8 t.epoch ++ leBytes 6 (ns / 1000000000) ++ leBytes 2 0 ++ leBytes 4 (ns % 1000000000) ++ leBytes 4 0

/-- The word of an entry: its outcome once the transaction is closed (R179, R183). -/
def queryWord (open_ : Bool) (n : Entry) : List Byte := leBytes 4 (n.a + (if open_ then 0 else n.outcome) * 65536)

def isOpen (t : Txn) : Bool := t.st == .opened || t.st == .prepared || t.st == .armed

def pairQueryBody (cx : Cx) (p : PairQueryP) (e : Engine) : Engine :=
  if p.kind = 0 then completeAt cx stOk e.xact.epoch e.xact.epoch e
  else if p.kind > 1 ∨ !iovaOk p.addr 32 (32 + 4 * p.count) ∨ (cx.domain ≠ 0 ∧ p.domain ≠ 0) ∨ p.domain > 63 then
    complete cx stBadParam 0 e
  else
    match recordOf e (if cx.domain = 0 then p.domain else cx.domain) p.xid with
    | none => complete cx stBadParam 0 e
    | some t =>
      if p.first + p.count > t.entries.length then complete cx stBadParam 0 e
      else
        let data := queryHeader t ++ ((t.entries.drop p.first).take p.count).flatMap (queryWord (isOpen t))
        let id := e.dma.nextId
        updStream id (fun s => { s with buf := data })
          (openCmd 10 cx p.addr (32 + 4 * p.count) true (.query cx p) e)

/-- pairQuery at execution. -/
def goPairQuery (cx : Cx) (p : PairQueryP) : Engine → Engine :=
  runCmd (cmdPairQuery p.kind) cx p.rsv noPorts (pairQueryBody cx p)

/-- PAIR_QUERY (R183). -/
def execPairQuery (cx : Cx) (p : PairQueryP) (s : State) : Host.Outcome State Fault Refusal :=
  .next (s.run (arriveT cx (goPairQuery cx p)))

-- events of a transaction ---------------------------------------------------------------------------------------------------------

def preparedNow (id : Nat) (ddrEcc : Bool) (e : Engine) : Engine :=
  match e.txn id with
  | none => e
  | some t =>
    if t.st ≠ .prepared ∨ t.ready then e
    else if ddrEcc then failTxn id 0x03 0xFFFF e
    else
      match fetchAll t.entries 0 e with
      | (e, .inr (c, i)) => failTxn id c i e
      | (e, .inl recs) =>
        let clk := e.clk
        if tooLate e t then failTxn id 0x04 0xFFFF e
        else tryGroup id (updTxn id (fun t => { t with ready := true, recs := recs, waitFrom := clk }) e)

/-- PREPARED: the records are on chip and checked; the group is reserved and T fixed (R165-R167). -/
def execPrepared (id : Nat) (ddrEcc : Bool) (s : State) : Host.Outcome State Fault Refusal :=
  .next (s.run (settled (preparedNow id ddrEcc)))

def noGroupNow (id : Nat) (e : Engine) : Engine :=
  match e.txn id with
  | none => e
  | some t =>
    if !t.ready ∨ t.group.isSome then e
    else failTxn id 0x05 0xFFFF (if t.whn = 0 then waitClk (t.waitFrom + 100000) e else waitD ((tickOf e t).2) e)

/-- NO_GROUP: no group has become free in time (R167). -/
def execNoGroup (id : Nat) (s : State) : Host.Outcome State Fault Refusal := .next (s.run (settled (noGroupNow id)))

def syncMissingNow (id : Nat) (e : Engine) : Engine :=
  match e.txn id with
  | none => e
  | some t =>
    if t.whn ≠ 2 ∨ t.group.isNone ∨ t.t.isSome then e
    else failTxn id 0x06 0xFFFF (waitD (t.req + 10000) e)


def openTmoNow (id : Nat) (e : Engine) : Engine :=
  match e.txn id with
  | none => e
  | some t =>
    if t.st ≠ .opened ∨ t.tmoMs = 0 then e
    else failTxn id 0x0D 0xFFFF (waitClk (t.openAt + t.tmoMs * 1000000) e)

/-- OPEN_TMO (R165). -/
def execOpenTmo (id : Nat) (s : State) : Host.Outcome State Fault Refusal := .next (s.run (settled (openTmoNow id)))

/-- CHECK (R165, R177, R195). -/
def execCheck (job : Nat) (s : State) : Host.Outcome State Fault Refusal := .next (s.run (settled (checkNow job)))

/-- An accepted SYNC_IN edge at disciplined time `d` ns fixes T of the ON_SYNC transactions that wait for it: the first tick
after its recognition, 20 ns after the edge (R166). -/
def fixSync (d : Nat) (e : Engine) : Engine :=
  let t := (d + 20) / 10 * 10 + 10
  each (e.xact.txns.filter (fun x => x.whn == 2 && x.group.isSome && x.t.isNone && decide (x.req ≤ d))) (fun x e =>
    let e := updTxn x.id (fun x => { x with t := some t }) e
    match x.job with | some j => updJob j (fun j => { j with t := some t }) e | none => e) e

-- the map -----------------------------------------------------------------------------------------------------------------------------

def publishNow (e : Engine) : Engine :=
  if !e.xact.unpub then e
  else
    let e := match e.xact.pinned with | some (_, t) => waitClk (t + 8000) e | none => e
    publish { e with xact := { e.xact with pinned := none } }

/-- MAP_PUBLISH: the map at the latest epoch is published, after the pin of a read (R174, R175). -/
def execMapPublish (s : State) : Host.Outcome State Fault Refusal := .next (s.run (settled publishNow))

-- MAJOR parks -------------------------------------------------------------------------------------------------------------------------

/-- A port of the scope, or the other end of its circuit, is held by a transaction, a command accepted before the event or
another engine sluice (R181, R334, R336). -/
def parkHeld (e : Engine) (k : MajorPark) : Bool :=
  let ts := (parkScope k.ports e).1.map (·.1)
  (k.ports ++ ts).any (fun p => (e.port p).txn.isSome ||
      e.cmd.inflight.any (fun i => i.accepted && decide (i.order < k.order) && decide (p ∈ i.ports)))
    || e.xact.jobs.any (fun j => j.targets.any (fun t => decide (t.1 ∈ ts)))

/-- The park of a MAJOR event in SCHEDULE: a repair sluice of the player, which treats the circuits as parked for the rest of the
visit (R197, R334). -/
def scheduleRepair (ports : List Nat) (e : Engine) : Option Engine :=
  let s := parkScope ports e
  if s.1 = [] then none
  else
    let r := ownRecs s.1 e
    let e := addNow .schRepair 12 s.1 r.2 s.2 none r.1
    let visits := (lastPlay e).any (fun p => some (segSlot (segOf e p.pos)) == e.sch.visitSlot)
    some (if visits then { e with sch := { e.sch with failPorts := s.1.map (·.1) ++ s.2 ++ e.sch.failPorts } } else e)

/-- The parks that still hold their tags, or are to act. -/
def livePark (e : Engine) (k : MajorPark) : Bool := k.job.isNone || k.live e

/-- The oldest park that has no sluice yet: nothing to park in a mode without circuits and at zero phase; else its sluice is
requested once nothing accepted before it holds its ports (R334). -/
def majorParkNow (e : Engine) : Engine :=
  let e := { e with flt := { e.flt with parks := e.flt.parks.filter (livePark e) } }
  match e.flt.parks.find? (fun k => k.job.isNone) with
  | none => e
  | some k =>
    let drop := { e with flt := { e.flt with parks := e.flt.parks.erase k } }
    if !k.live e then drop
    else if parkHeld e k ∨ e.sys.mode = .hold then e
    else
      match (if e.sys.mode = .schedule then scheduleRepair k.ports e else parkNow k.ports none e) with
      | none => drop
      | some n =>
        let job := e.xact.nextJob
        { n with flt := { n.flt with parks := n.flt.parks.map (fun x => if x = k then { x with job := some job } else x) } }

/-- MAJOR_PARK: the park of a MAJOR event's scope, after the transactions that hold its ports (R334). -/
def execMajorPark (s : State) : Host.Outcome State Fault Refusal := .next (s.run (settled majorParkNow))

end Sys2Proof.Machine
end

