-- ==== Sys2Proof/Machine/Sched.lean ====
section
/-! DEFINITION. The schedule player: slots, segments, the slot clock, boundaries, jumps, under-runs, slot learning and the
flume (R187-R209). -/

namespace Sys2Proof.Machine

-- positions ------------------------------------------------------------------------------------------------------------------

/-- What stands at a position. -/
inductive Found where
  | seg (w : SegWords)
  | absent                                 -- not yet fetched
  | gone                                   -- evicted
  | bad                                    -- not loaded, or it fails R190 or R193
deriving DecidableEq, Repr

/-- A segment that plays: its form holds and its slot is LOADED. -/
def checkSeg (e : Engine) (w : SegWords) : Found := if segOk e w && (e.slot (segSlot w)).loaded then .seg w else .bad

/-- The segment at a table index or stream position (R191, R200-R202). -/
def findSeg (e : Engine) (pos : Nat) : Found :=
  if e.sch.stream then
    match Tbl.get (fun _ => []) e.sch.window pos with
    | [] => if posBefore pos (rd e Reg.SCH_FLUME_CI) then .gone else .absent
    | w => checkSeg e w
  else
    match Tbl.get (fun _ => []) e.sch.segs pos with
    | [] => .bad
    | w => checkSeg e w

-- boundaries -----------------------------------------------------------------------------------------------------------------------

/-- The aim an aperture will have once the resolved boundaries have opened. -/
def aimAfter (e : Engine) (a : Nat) : Aim :=
  (e.sch.nextB.reverse.findSome? (fun b =>
    (b.job.bind (fun j => e.job j)).bind (fun j => (j.targets.find? (fun t => t.1 == a)).map (·.2)))).getD (aimNow e a)

/-- The aim of a port in a slot. -/
def slotAim (s : Slot) (p : Nat) : Aim := if s.partner p < 4096 then .to (s.partner p) else .park

/-- The record of one direction for the player: none where it cannot be armed (R62, R197). -/
def slotRec (a b : Nat) (e : Engine) : Engine × Option Nat :=
  let r := effRec e (aimIndex a b)
  match recState r with
  | .good => (e, some r)
  | .crc => (aimCrc e, none)
  | .unusable => (e, none)

/-- What a boundary arms: targets with their records, and ports whose pairing ends in frozen tiles. -/
structure SlotArm where
  targets : List (Nat × Aim) := []
  recs : Tbl Nat := []
  away : List Nat := []

/-- Park `p` at a boundary unless it is or will be parked; in a frozen tile it keeps its pattern. -/
def slotPark (p : Nat) (x : Engine × SlotArm) : Engine × SlotArm :=
  if frozenAp x.1 p then (x.1, { x.2 with away := p :: x.2.away })
  else if aimAfter x.1 p = .park then x
  else
    let r := ownRec p .park x.1
    (r.1, { x.2 with targets := (p, .park) :: x.2.targets, recs := (p, r.2) :: x.2.recs })

/-- Arm `p` toward `q` unless its target is unchanged (R195). `none`: its record fails. -/
def slotEnd (p q : Nat) (x : Engine × SlotArm) : Engine × Option SlotArm :=
  if aimAfter x.1 p = .to q then (x.1, some x.2)
  else
    match slotRec p q x.1 with
    | (e, none) => (e, none)
    | (e, some r) => (e, some { x.2 with targets := (p, .to q) :: x.2.targets, recs := (p, r) :: x.2.recs })

/-- A pair is parked for the rest of the visit (R197). -/
def failPair (p q : Nat) (e : Engine) : Engine := { e with sch := { e.sch with failPorts := p :: q :: e.sch.failPorts } }

/-- One pair of a slot at a boundary (R195, R197); a pair that AIM_FAIL or a MAJOR event has parked stays so through the visit's
further plays (R197, R334). -/
def slotPair (p q : Nat) (x : Engine × SlotArm) : Engine × SlotArm :=
  if aimAfter x.1 p = .to q ∧ aimAfter x.1 q = .to p then x
  else if p ∈ x.1.sch.failPorts ∨ q ∈ x.1.sch.failPorts then slotPark q (slotPark p x)
  else if frozenAp x.1 p ∨ frozenAp x.1 q then
    slotPark q (slotPark p (note Fd.SCH_CAUSE_FROZEN_PAIR x.1, x.2))
  else
    match slotEnd p q x with
    | (e, none) => slotPark q (slotPark p (failPair p q (note Fd.SCH_CAUSE_AIM_FAIL e), x.2))
    | (e, some y) =>
      match slotEnd q p (e, y) with
      | (e, none) => slotPark q (slotPark p (failPair p q (note Fd.SCH_CAUSE_AIM_FAIL e), x.2))
      | (e, some z) => (e, z)

/-- One ordinary port of a slot at a boundary; a pair is taken at its lower port. -/
def slotPort (s : Slot) (x : Engine × SlotArm) (p : Nat) : Engine × SlotArm :=
  let q := s.partner p
  if q < 4096 then (if p < q then slotPair p q x else x)
  else if aimAfter x.1 p = .park then x else slotPark p x

/-- What the boundary into a slot arms (R195, R197). -/
def slotArm (s : Slot) (e : Engine) : Engine × SlotArm := ordinaryPorts.foldl (slotPort s) (e, {})

/-- The tick before which a boundary's arm may not begin: the one before it, plus 40 ns (R195). -/
def armAfter (e : Engine) : Nat := match lastPlay e with | some p => p.at_ + 40 | none => 0

/-- Enter a resolved play with what its visit arms: a boundary that changes no pairing opens no sluice, any other gets its
arming job (R195). -/
def enqueueArm (p : Play) (s : Slot) (arm : SlotArm) (e : Engine) : Engine :=
  if arm.targets = [] ∧ arm.away.all (fun x => !paired e x) then
    { e with sch := { e.sch with nextB := e.sch.nextB ++ [{ play := p }] } }
  else
    let job := e.xact.nextJob
    let sync := match e.sch.start with | some (_, 2, _) => true | _ => false
    let corrs := arm.targets.filterMap (fun t => match t.2 with
      | .to _ => some (t.1, Tbl.get (fun _ => (0, 0)) s.corr t.1)
      | _ => none)
    let at_ := max (p.at_ - 2000) (armAfter e)
    let e := addJob { id := 0, owner := .slot, grp := 15, t := if sync then none else some p.at_, armAt := at_,
                      targets := arm.targets, recs := arm.recs, corrs := corrs, away := arm.away } e
    { e with sch := { e.sch with nextB := e.sch.nextB ++ [{ play := p, job := some job }] } }

/-- Enter a resolved play in slot `slot` (R195); a play of another slot begins another visit. -/
def enqueue (p : Play) (slot : Nat) (e : Engine) : Engine :=
  let same := (lastPlay e).any (fun l => segSlot (segOf e l.pos) == slot)
  let e := if same then e else { e with sch := { e.sch with failPorts := [] } }
  let r := slotArm (e.slot slot) e
  enqueueArm p (e.slot slot) r.2 r.1

/-- The schedule stops because a target has gone (R199, R200). -/
def targetGone (jump : Option Cx) (e : Engine) : Engine :=
  let e := match jump with | some cx => complete cx 0x0061 0 e | none => e
  stopPlayer 3 (note Fd.SCH_CAUSE_JUMP_GONE e)

/-- An under-run: the play wanted is not in the window (R202). -/
def underrun (p : Play) (e : Engine) : Engine :=
  let e := setLive Fd.SCH_CAUSE_LIVE_UNDERRUN true (note Fd.SCH_CAUSE_UNDERRUN (inc Reg.SCH_UNDERRUN_CNT e))
  { e with sch := { e.sch with st := .held, missing := some p } }

/-- The play of position `pos` is to start at a boundary; `startE` is its nominal offset (R194, R201, R202). -/
def wantPlay (pos left : Option Nat) (startE at_ : Nat) (jump : Option Cx) (e : Engine) : Engine :=
  let q := pos.getD 0
  let want : Play := { pos := q, left := left.getD 0, endE := startE, at_ := at_, jump := jump }
  match findSeg e q with
  | .gone => targetGone jump e
  | .absent => underrun want e
  | .bad =>
    let e := match jump with | some cx => complete cx stWrongMode 0 e | none => e
    stopPlayer 4 e
  | .seg w =>
    let n := match left with | some n => n | none => segRepeat w - 1
    enqueue { want with left := n, endE := startE + playLen e w } (segSlot w) e

/-- Where the timeline goes after a play (R194): a position with the plays left there, or the stop. -/
inductive After where
  | go (pos : Nat) (left : Option Nat)
  | stop
deriving DecidableEq, Repr

/-- The flag condition of a segment holds (R190, R198). -/
def condHolds (e : Engine) (w : SegWords) : Bool :=
  (segCond w == 1 && bit (rd e Reg.SCH_HFLAG) (segFlag w)) || (segCond w == 2 && !bit (rd e Reg.SCH_HFLAG) (segFlag w))

/-- A write of SCH_HFLAG_SET (R198). -/
def hflagSet (v : Nat) (e : Engine) : Engine :=
  let c := dNs e / 10
  let old := if e.sch.flagSet.1 = c then e.sch.flagSet.2 else 0
  wr Reg.SCH_HFLAG (rd e Reg.SCH_HFLAG ||| v) { e with sch := { e.sch with flagSet := (c, old ||| v) } }

/-- The host has set the flag in this cycle (R198). -/
def justSet (e : Engine) (flag : Nat) : Bool := e.sch.flagSet.1 == dNs e / 10 && bit e.sch.flagSet.2 flag

/-- Conditional jump, repeats, STOP and NEXT of the segment of a play (R194). A taken jump with CLR clears its flag, unless the
host sets it in the same cycle (R198). -/
def afterPlay (p : Play) (w : SegWords) (e : Engine) : Engine × After :=
  if condHolds e w then
    (if segClr w && !justSet e (segFlag w) then wr Reg.SCH_HFLAG (rd e Reg.SCH_HFLAG &&& (0xFFFFFFFF ^^^ (1 <<< segFlag w))) e else e,
     .go (resolveField e p.pos (segJump w)) none)
  else if segRepeat w = 0 then (e, .go p.pos (some 0))
  else if p.left > 0 then (e, .go p.pos (some (p.left - 1)))
  else if segStop w then (e, .stop)
  else (e, .go (resolveField e p.pos (segNext w)) none)

/-- Resolve what plays at the end of play `p`; the target of a SCH_JUMP is seen from the position playing (R191, R194). -/
def resolveAfter (p : Play) (e : Engine) : Engine :=
  let t := boundaryTick e.sch.base p.endE
  match e.sch.jump with
  | some (cx, field) =>
    wantPlay (some (resolveField e (playingPos e) field)) none p.endE t (some cx) { e with sch := { e.sch with jump := none } }
  | none =>
    match afterPlay p (segOf e p.pos) e with
    | (e, .go q left) => wantPlay (some q) left p.endE t none e
    | (e, .stop) => { e with sch := { e.sch with nextB := e.sch.nextB ++ [{ play := { p with at_ := t }, stop := true }] } }

/-- The arm point of the boundary at the end of a play (R194). -/
def armPointAt (e : Engine) (p : Play) : Nat :=
  min (boundaryTick e.sch.base p.endE - 4000) ((e.sch.base * 16777216 + p.endE - tickPeriod e) / 167772160 * 10)

-- ARM_POINT --------------------------------------------------------------------------------------------------------------------------

/-- The first boundary is resolved 4.00 µs before T_0, or before the requested time for ON_SYNC (R166, R205). -/
def firstArmPoint (e : Engine) : Engine :=
  match e.sch.start, e.sch.missing with
  | some (_, whn, t), some p =>
    let e := waitD (t - 4000) e
    let e := { e with sch := { e.sch with base := if whn = 2 then 0 else t, missing := none } }
    wantPlay (some p.pos) none 0 t none e
  | _, _ => e

def armPointNow (e : Engine) : Engine :=
  if e.sch.st = .waitStart ∧ e.sch.nextB = [] then firstArmPoint e
  else if e.sch.st = .held ∨ !playerRuns e ∨ e.sch.stopAfter.isSome then e
  else
    match lastPlay e with
    | none => e
    | some p =>
      if awaitsEdge e then e
      else
        let a := armPointAt e p
        let e := passQuiet a (e.sch.nextB.length) e
        resolveAfter p (waitD a e)

/-- ARM_POINT: the player resolves what plays at the next boundary (R194). -/
def execArmPoint (s : State) : Host.Outcome State Fault Refusal := .next (s.run armPointNow)

-- under-runs --------------------------------------------------------------------------------------------------------------------------

/-- The player leaves an under-run. -/
def resumePlay (e : Engine) : Engine :=
  let st := if e.sch.cur.isSome then PlState.playing else PlState.waitStart
  setLive Fd.SCH_CAUSE_LIVE_UNDERRUN false { e with sch := { e.sch with st := st, missing := none } }

/-- STRETCH: the timeline is shifted (R202). -/
def stretchFrom (p : Play) (w : SegWords) (e : Engine) : Engine :=
  let t := gridUp (dNs e + 4000)
  let e := satC Reg.SCH_SLIP ((t - p.at_) / 10) (resumePlay e)
  let e := { e with sch := { e.sch with base := t } }
  enqueue { p with left := segRepeat w - 1, endE := playLen e w, at_ := t } (segSlot w) e

/-- SKIP: walk forward from the play wanted on the original timeline; `none` for `left` means a segment's first play (R202). -/
def skipFrom (ta : Nat) : Nat → Play → Option Nat → Engine → Engine
  | 0, _, _, e => e
  | n + 1, p, left, e =>
    match findSeg e p.pos with
    | .gone => targetGone p.jump (resumePlay e)
    | .absent => { e with sch := { e.sch with missing := some { p with left := left.getD 0 } } }
    | .bad => stopPlayer 4 (match p.jump with | some cx => complete cx stWrongMode 0 (resumePlay e) | none => resumePlay e)
    | .seg w =>
      let endE := p.endE + playLen e w
      let m := match left with | some k => k | none => segRepeat w - 1
      if boundaryTick e.sch.base endE < ta + 6000 then
        let e := inc Reg.SCH_SKIP_CNT e
        match afterPlay { p with left := m } w e with
        | (e, .stop) => stopNow 2 e
        | (e, .go q l) => skipFrom ta n { p with pos := q, endE := endE, at_ := boundaryTick e.sch.base endE } l e
      else
        enqueue { p with left := m, endE := endE, at_ := max (boundaryTick e.sch.base p.endE) (gridUp (ta + 4000)) } (segSlot w)
          (resumePlay e)

/-- The segment wanted has arrived: the player continues by its policy (R202). -/
def arrivalNow (e : Engine) : Engine :=
  match e.sch.missing with
  | none => e
  | some p =>
    if e.sch.st ≠ .held then e
    else
      match findSeg e p.pos with
      | .absent => e
      | .gone => targetGone p.jump (resumePlay e)
      | .bad => stopPlayer 4 (match p.jump with | some cx => complete cx stWrongMode 0 (resumePlay e) | none => resumePlay e)
      | .seg w =>
        if rdF e Fd.SCH_CTL_POLICY = 1 then stretchFrom p w e
        else skipFrom (dNs e) ((dNs e + 6000 - p.at_) / 1990 + 2) p (if p.left = 0 then none else some p.left) e

/-- SEGMENT_ARRIVAL (R202). -/
def execSegmentArrival (s : State) : Host.Outcome State Fault Refusal := .next (s.run arrivalNow)

-- a block of the flume ---------------------------------------------------------------------------------------------------------------------------

/-- A block has come: its segments enter the window (R200). -/
def flumeBlock (first count : Nat) (data : List Byte) (e : Engine) : Engine :=
  let e := makeRoom count 256 e
  let w := (List.range count).foldl (fun w k =>
    Tbl.ins w ((first + k) % 4294967296) (wordsOf (data.drop (16 * k)) 4)) e.sch.window
  let e := wr Reg.SCH_FLUME_CI ((first + count) % 4294967296) { e with sch := { e.sch with window := w, fetched := e.sch.fetched + count } }
  flumeFetch e

/-- A write of SCH_FLUME_PI (R200). -/
def flumePi (v : Nat) (e : Engine) : Engine :=
  let size := match e.sch.flume with | some (_, _, n) => 2 ^ n | none => 0
  let ci := rd e Reg.SCH_FLUME_CI
  let pi := rd e Reg.SCH_FLUME_PI
  if (v + 4294967296 - ci) % 4294967296 > size ∨ posBefore v pi then note Fd.SCH_CAUSE_FLUME_BAD e
  else flumeFetch (wr Reg.SCH_FLUME_PI v e)

-- SCH_LOAD ----------------------------------------------------------------------------------------------------------------------------

def schModes : List Mode := [.schedule]

def cmdSchLoad : CmdInfo := { opcode := 0x0301, hostMem := true, modes := [.bypass, .service, .schedule] }

/-- Bytes of one item. -/
def loadSize (kind : Nat) : Nat := if kind = 0 then 8192 else 16

/-- The load names the slot or segment playing, or one already resolved (R204). -/
def loadBusy (e : Engine) (p : SchLoadP) : Bool :=
  let plays := (match e.sch.cur with | some x => [x.pos] | none => []) ++ e.sch.nextB.map (fun b => b.play.pos)
  let names := if p.kind = 0 then plays.map (fun q => segSlot (segOf e q)) ++ (match e.sch.visitSlot with | some s => [s] | none => [])
    else if e.sch.stream then [] else plays
  playerRuns e && names.any (fun x => decide (p.first ≤ x) && decide (x < p.first + p.count))

def schLoadBody (cx : Cx) (p : SchLoadP) (e : Engine) : Engine :=
  if p.count = 0 then complete cx stEmpty 0 e
  else if p.kind > 1 ∨ p.first + p.count > (if p.kind = 0 then 256 else 1024) ∨ (p.kind = 1 ∧ p.cross)
      ∨ !iovaOk p.addr 32 (loadSize p.kind * p.count) then complete cx stBadParam 0 e
  else if loadBusy e p then complete cx stPortBusy 0 e
  else openCmd 7 cx p.addr (loadSize p.kind * p.count) false (.sload cx p) e

/-- schLoad at execution. -/
def goSchLoad (cx : Cx) (p : SchLoadP) : Engine → Engine :=
  runCmd cmdSchLoad cx p.rsv noPorts (schLoadBody cx p)

/-- SCH_LOAD (R204). -/
def execSchLoad (cx : Cx) (p : SchLoadP) (s : State) : Host.Outcome State Fault Refusal :=
  .next (s.run (arrive cx (goSchLoad cx p)))

/-- One port of a slot image passes R188. -/
def slotPortOk (e : Engine) (cross : Bool) (img : List Nat) (p : Nat) : Bool :=
  let x := img.getD p 0
  let q := x % 8192
  decide (x < 8192) &&
    (if ordinary p then
      q == 0x1FFF || (ordinary q && q != p && img.getD q 0 == p && recValid (effRec e (aimIndex p q)) && !recBlocked (effRec e (aimIndex p q))
        && checkOk (effRec e (aimIndex p q)) && (cross || (e.port p).owner == (e.port q).owner))
     else q == 0x1FFF)

/-- The halfwords of a slot image. -/
def slotImage (l : List Byte) : List Nat := (List.range 4096).map (fun p => fieldOf l (2 * p) 2)

/-- The first port of an image that fails. -/
def slotBad (e : Engine) (cross : Bool) (img : List Nat) : Option Nat := (List.range 4096).find? (fun p => !slotPortOk e cross img p)

/-- A loaded slot (R188). -/
def loadedSlot (cross : Bool) (img : List Nat) : Slot :=
  { loaded := true, cross := cross, partners := ordinaryPorts.filterMap (fun p =>
      if img.getD p 0x1FFF < 4096 then some (p, img.getD p 0x1FFF) else none) }

/-- The list of SCH_LOAD is on chip (R188, R193, R204). -/
def schLoaded (cx : Cx) (p : SchLoadP) (data : List Byte) (e : Engine) : Engine :=
  let item (k : Nat) : List Byte := (data.drop (k * loadSize p.kind)).take (loadSize p.kind)
  if loadBusy e p then complete cx stPortBusy 0 e
  else if p.kind = 0 then
    match (List.range p.count).findSome? (fun k => (slotBad e p.cross (slotImage (item k))).map (fun q => (k, q))) with
    | some (k, q) => complete cx stBadParam ((p.first + k) * 65536 + q) e
    | none =>
      let n := p.count
      complete cx stOk 0 (each (List.range n) (fun k => updSlot (p.first + k) (fun _ => loadedSlot p.cross (slotImage (item k)))) e)
  else
    match (List.range p.count).find? (fun k => !segOk e (wordsOf (item k) 4)) with
    | some k => complete cx stBadParam ((p.first + k) * 65536) e
    | none =>
      let segs := (List.range p.count).foldl (fun t k => Tbl.ins t (p.first + k) (wordsOf (item k) 4)) e.sch.segs
      complete cx stOk 0 { e with sch := { e.sch with segs := segs } }

-- SCH_START, SCH_STOP, SCH_JUMP, SCH_STREAM -----------------------------------------------------------------------------------------

def cmdSchStart : CmdInfo := { opcode := 0x0302, modes := schModes }

/-- Ownership of a LOADED slot without CROSS (R188, R189). -/
def ownersMatch (e : Engine) (s : Slot) : Bool :=
  !s.loaded || s.cross || s.partners.all (fun x => (e.port x.1).owner == (e.port x.2).owner)

/-- The table's segments that fail R193 or whose slot is not LOADED. -/
def tableBad (e : Engine) : Option Nat :=
  (e.sch.segs.find? (fun x => !segOk e x.2 || !(e.slot (segSlot x.2)).loaded)).map (·.1)

def schStartBody (cx : Cx) (p : SchStartP) (e : Engine) : Engine :=
  if p.source > 1 ∨ !whenOk p.whn p.at_ ∨ (p.source = 0 ∧ p.first ≥ 1024) ∨ (p.source = 1 ∧ (p.first ≠ 0 ∨ e.sch.flume.isNone))
      ∨ rdF e Fd.SCH_CLK_INT_INT < 10 then complete cx stBadParam 0 e
  else if playerRuns e then complete cx stPortBusy 0 e
  else if p.source = 0 ∧ Tbl.get (fun _ => []) e.sch.segs p.first = [] then complete cx stBadParam (p.first * 65536) e
  else if e.sch.slots.any (fun s => !ownersMatch e s.2) then complete cx stBadParam 0 e
  else
    match (if p.source = 0 then tableBad e else none) with
    | some i => complete cx stBadParam (i * 65536) e
    | none =>
      let req := At.toNs p.at_
      let t := if p.whn = 0 then gridUp (dNs e + 4000) else if p.whn = 1 then gridUp req else req
      if p.whn ≠ 0 ∧ t < dNs e + 4000 then complete cx stTimeout 0 e
      else
        let first := if p.source = 1 then e.sch.startPos else p.first
        { e with sch := { e.sch with st := .waitStart, stream := p.source == 1, reason := 0, start := some (cx, p.whn, t), cur := none,
                                     nextB := [], jump := none, missing := some { pos := first, left := 0, endE := 0, at_ := t },
                                     visit := [], visitSlot := none, stopAfter := none, stopCx := none } }

/-- schStart at execution. -/
def goSchStart (cx : Cx) (p : SchStartP) : Engine → Engine :=
  runCmd cmdSchStart cx p.rsv noPorts (schStartBody cx p)

/-- SCH_START (R205). -/
def execSchStart (cx : Cx) (p : SchStartP) (s : State) : Host.Outcome State Fault Refusal :=
  .next (s.run (arrive cx (goSchStart cx p)))

/-- The accepted edge at `d` ns fixes T_0 of a start ON_SYNC (R166, R205). -/
def fixStart (d : Nat) (e : Engine) : Engine :=
  match e.sch.start, e.sch.nextB with
  | some (cx, 2, req), b :: _ =>
    if d < req then e
    else
      let t := (d + 20) / 10 * 10 + 10
      let e := { e with sch := { e.sch with base := t, start := some (cx, 1, t),
                                            nextB := [{ b with play := { b.play with at_ := t } }] } }
      match b.job with | some j => updJob j (fun j => { j with t := some t }) e | none => e
  | _, _ => e

/-- A start ON_SYNC meets no edge within 10 µs of its time: it completes TIMEOUT and the player stops where it was; a pending jump
completes WRONG_MODE (R199, R205). -/
def startMissing (e : Engine) : Engine :=
  match e.sch.start with
  | some (cx, 2, req) =>
    let e := waitD (req + 10000) e
    let e := each (e.xact.jobs.filter (fun j => j.owner == .slot)) (fun j => dropJob j.id) e
    let jump := e.sch.jump
    let e := complete cx stTimeout 0 { e with sch := { e.sch with st := .idle, start := none, missing := none, nextB := [], jump := none } }
    match jump with | some (c, _) => complete c stWrongMode 0 e | none => e
  | _ => e

/-- SYNC_MISSING of a transaction, or with number 0 of a start of the schedule (R166, R205). -/
def execSyncMissing (id : Nat) (s : State) : Host.Outcome State Fault Refusal :=
  .next (s.run (settled (fun e => if id = 0 then startMissing e else syncMissingNow id e)))

def cmdSchStop : CmdInfo := { opcode := 0x0303, modes := schModes }

def schStopBody (cx : Cx) (p : SchStopP) (e : Engine) : Engine :=
  let e := if p.how > 1 then e else passDue e
  if p.how > 1 then complete cx stBadParam 0 e
  else if !playerRuns e then complete cx stEmpty 0 e
  else if e.sch.stopCx.isSome then complete cx stPortBusy 0 e
  else if (latchedSlot e).isSome then { e with sch := { e.sch with stopAfter := some 1, stopCx := some (cx, p.how) } }
  else finishStop cx p.how (stopNow 1 e)

/-- schStop at execution. -/
def goSchStop (cx : Cx) (p : SchStopP) : Engine → Engine :=
  runCmd cmdSchStop cx p.rsv noPorts (schStopBody cx p)

/-- SCH_STOP (R206). -/
def execSchStop (cx : Cx) (p : SchStopP) (s : State) : Host.Outcome State Fault Refusal :=
  .next (s.run (arrive cx (goSchStop cx p)))

def cmdSchJump : CmdInfo := { opcode := 0x0304, modes := schModes }

def schJumpBody (cx : Cx) (p : SchJumpP) (e : Engine) : Engine :=
  let w := Tbl.get (fun _ => []) e.sch.segs p.target
  if p.target ≥ 1024 then complete cx stBadParam 0 e
  else if !playerRuns e then complete cx stWrongMode 0 e
  else if !e.sch.stream ∧ (w = [] ∨ !(e.slot (segSlot w)).loaded) then complete cx stBadParam 0 e
  else
    let old := e.sch.jump
    let e := { e with sch := { e.sch with jump := some (cx, p.target) } }
    match old with | some (c, _) => complete c stTimeout 0 e | none => e

/-- schJump at execution. -/
def goSchJump (cx : Cx) (p : SchJumpP) : Engine → Engine :=
  runCmd cmdSchJump cx p.rsv noPorts (schJumpBody cx p)

/-- SCH_JUMP (R199). -/
def execSchJump (cx : Cx) (p : SchJumpP) (s : State) : Host.Outcome State Fault Refusal :=
  .next (s.run (arrive cx (goSchJump cx p)))

def cmdSchStream : CmdInfo := { opcode := 0x0305, hostMem := true, modes := schModes }

def schStreamBody (cx : Cx) (p : SchStreamP) (e : Engine) : Engine :=
  if p.log2 < 8 ∨ p.log2 > 16 ∨ !iovaOk p.addr 256 (16 * 2 ^ p.log2) then complete cx stBadParam 0 e
  else if e.sch.flume.isSome then complete cx stPortBusy 0 e
  else
    let e := { e with sch := { e.sch with flume := some (cx, p.addr, p.log2), fetched := 0, spent := false } }
    if p.resume then flumeFetch e
    else
      wr Reg.SCH_FLUME_CI p.start (wr Reg.SCH_FLUME_PI p.start
        { e with sch := { e.sch with window := [], startPos := p.start } })

/-- schStream at execution. -/
def goSchStream (cx : Cx) (p : SchStreamP) : Engine → Engine :=
  runCmd cmdSchStream cx p.rsv noPorts (schStreamBody cx p)

/-- SCH_STREAM (R207). -/
def execSchStream (cx : Cx) (p : SchStreamP) (s : State) : Host.Outcome State Fault Refusal :=
  .next (s.run (arrive cx (goSchStream cx p)))

end Sys2Proof.Machine
end

