-- ==== Sys2Proof/Machine/Calib.lean ====
section
/-! DEFINITION. Calibration: surveys, aim uploads, sensor calibration, commits, the sweeper and the tiles' caches
(R67-R72, R83-R92, R103, R130-R134, R142). -/

namespace Sys2Proof.Machine

-- surveys ---------------------------------------------------------------------------------------------------------------------------

/-- The circuits of a survey round (R83). -/
def roundPairs (k : Nat) : List (Nat × Nat) :=
  (4093, k + 2) :: (span 1 2045).map (fun j => ((k + j) % 4091 + 2, (k + 4091 - j) % 4091 + 2))

/-- Park a port in a survey sluice. -/
def surveyPark (p : Nat) (x : Engine × List (Nat × Aim) × Tbl Nat) : Engine × List (Nat × Aim) × Tbl Nat :=
  if frozenAp x.1 p ∨ isParked x.1 p then x
  else
    let r := ownRec p .park x.1
    (r.1, (p, .park) :: x.2.1, (p, r.2) :: x.2.2)

/-- A pair of a round: armed both ways, or parked where an end is frozen or a record cannot be armed (log 33). -/
def surveyPair (x : Engine × List (Nat × Aim) × Tbl Nat) (ab : Nat × Nat) : Engine × List (Nat × Aim) × Tbl Nat :=
  let a := ab.1
  let b := ab.2
  let ra := effRec x.1 (aimIndex a b)
  let rb := effRec x.1 (aimIndex b a)
  if recState ra = .good ∧ recState rb = .good ∧ !frozenAp x.1 a ∧ !frozenAp x.1 b then
    (x.1, (a, .to b) :: (b, .to a) :: x.2.1, (a, ra) :: (b, rb) :: x.2.2)
  else
    let e := whenE (!checkOk ra) aimCrc (whenE (!checkOk rb) aimCrc x.1)
    surveyPark b (surveyPark a (e, x.2))

/-- Request the sluice of a round, or the final park, at tick `t` in group 13 (R84, R168). -/
def surveyJob (round : Nat) (last : Bool) (t : Nat) (e : Engine) : Engine :=
  let r := if last then ordinaryPorts.foldl (fun x p => if frozenAp x.1 p then x else
      let q := ownRec p .park x.1
      (q.1, (p, Aim.park) :: x.2.1, (p, q.2) :: x.2.2)) (e, [], [])
    else (roundPairs round).foldl surveyPair (e, [], [])
  addJob { id := 0, owner := .survey round last, grp := 13, t := some t, armAt := t - 2000, targets := r.2.1, recs := r.2.2 } r.1

/-- The instant 1 µs before the next SYNC_IN edge, at least 2 µs ahead: edges follow the last frame start every 5 µs (R84). -/
def beforeEdge (e : Engine) : Nat :=
  let f := e.sns.frameD
  let n := dNs e + 2000
  gridUp (if n + 1000 ≤ f then f - 1000 else f + ((n + 1000 - f + 4999) / 5000) * 5000 - 1000)

/-- The POWER of the last published tap word of an aperture, if it is valid (R124, R126). -/
def tapNow (e : Engine) (a : Nat) : Option Nat :=
  match (e.sens a).words.getD 4 0x80000000 with
  | w => if bit w 31 || bit w 30 || bit w 28 then none else some (bits w 25 0)

/-- Tap powers of the station circuits at the start of a survey, by the aperture whose beam arrives (R86). -/
def stationP0 (e : Engine) : Tbl Int :=
  sortBy (·.1) (stationPairs.flatMap (fun p =>
    (match tapNow e p.2 with | some x => [(p.1, (x : Int))] | none => []) ++
    (match tapNow e p.1 with | some x => [(p.2, (x : Int))] | none => [])))

def cmdCalSurvey : CmdInfo := { opcode := 0x0502, modes := [.calibrate] }

/-- CAL_SURVEY after its frame: rounds past 4,090 are BAD_PARAM (R89, log 34). -/
def calSurveyBody (cx : Cx) (p : CalSurveyP) (e : Engine) : Engine :=
  let last := if p.rounds = 0 then 4090 else p.firstRound + p.rounds - 1
  if p.firstRound > 4090 ∨ last > 4090 ∨ p.measFrames > 16 then complete cx stBadParam 0 e
  else if e.syn.survey.isSome then complete cx stPortBusy 0 e
  else
    let stage := if p.keep then e.syn.survStage.getD [] else []
    let e := { e with syn := { e.syn with
        survStage := some stage, gen := (e.syn.gen + 1) % 32768,
        survey := some { cx := cx, first := p.firstRound, last := last, meas := if p.measFrames = 0 then 4 else p.measFrames,
                         round := p.firstRound, p0st := stationP0 e } } }
    let e := wr Reg.SYN_SURVEY_STAT 0 (wr Reg.SYN_SURVEY_ACC 0 (wr Reg.SYN_SURVEY_REJ 0 e))
    surveyJob p.firstRound false (beforeEdge e) e

/-- calSurvey at execution. -/
def goCalSurvey (cx : Cx) (p : CalSurveyP) : Engine → Engine :=
  runCmd cmdCalSurvey cx p.rsv noPorts (calSurveyBody cx p)

/-- CAL_SURVEY (R89). -/
def execCalSurvey (cx : Cx) (p : CalSurveyP) (s : State) : Host.Outcome State Fault Refusal :=
  .next (s.run (arrive cx (goCalSurvey cx p)))

/-- L of R85. -/
def surveyLimit (e : Engine) : Int := if bandNow e then 10718 else 12682

/-- KX_interp and KY_interp of R85: the stored records interpolated at the region's temperature. A record that fails CHECK raises
AIM_CRC and is not used: the two then have no value (R61, log 73). -/
def storedInterp (idx : Nat) (e : Engine) : Engine × Int × Int :=
  let r := e.region (idxRegion idx)
  let lo := aimRec e.syn.aims r.lo idx
  let hi := aimRec e.syn.aims (r.lo + 1) idx
  if checkOk lo && checkOk hi then (e, interp r.w (recKx lo) (recKx hi), interp r.w (recKy lo) (recKy hi))
  else
    let e := whenE (!checkOk lo) aimCrc (whenE (!checkOk hi) aimCrc e)
    (useFree (useFree e), sext 20 (free e), sext 20 (free (useFree e)))

/-- A change limit or field range is passed (R85). -/
def deltaFar (e : Engine) (v o : Int) : Bool := decide ((v - o).natAbs > (surveyLimit e).toNat)
def deltaOut (v : Int) : Bool := decide (v < -32768 ∨ v > 32767)

/-- The reason of a measured direction, in the order of R85. `enough`: half the measurement samples at least are valid. -/
def dirReason (e : Engine) (src dst idx : Nat) (locked enough : Bool) (dkx dky : Int) (degraded : Bool) : Nat :=
  let old := deltaAt e.syn.deltas idx
  let ox := if deltaValid old then deltaKx old else 0
  let oy := if deltaValid old then deltaKy old else 0
  if frozenAp e src || frozenAp e dst then 6
  else if !(e.aper src).beacon || !enough then 3
  else if !locked then 4
  else if deltaFar e dkx ox || deltaFar e dky oy then 1
  else if deltaOut dkx || deltaOut dky then 5
  else if degraded then 2 else 0

/-- One measured direction: its test and the staging of its result (R85). `kx`, `ky`: sums of `n` values of kx24 and ky24; with no valid
sample DKX and DKY are staged as 0 (DESIGN CHOICE, log 91). -/
def stageDir (src dst : Nat) (locked enough : Bool) (n : Nat) (kx ky : Int) (degraded : Bool) (e : Engine) : Engine :=
  let idx := aimIndex src dst
  let k := storedInterp idx e
  let e := k.1
  let dkx := if n = 0 then 0 else rhu (kx - 16 * n * k.2.1) (16 * n)
  let dky := if n = 0 then 0 else rhu (ky - 16 * n * k.2.2) (16 * n)
  let reason := dirReason e src dst idx locked enough dkx dky degraded
  let delta := if reason = 0 then mkDelta dkx dky (e.region (idxRegion idx)).temp e.syn.gen else deltaAt e.syn.deltas idx
  let s : Staged := { delta := delta, reason := reason, dkx := dkx, dky := dky }
  let stage := Tbl.ins (e.syn.survStage.getD []) idx s
  let ok := reason == 0
  let v := e.syn.survey.map (fun v => { v with acc := v.acc + ofB ok, rej := v.rej + ofB !ok })
  inc (if ok then Reg.SYN_SURVEY_ACC else Reg.SYN_SURVEY_REJ) { e with syn := { e.syn with survStage := some stage, survey := v } }

/-- A measured direction is tested and staged: `p0` its tap power of frame 0, of a station circuit the one at survey start; where
there is none, the test of QUALITY_DEGRADED is not met (R84-R86, log 74). -/
def stageOne (src dst : Nat) (m : Meas) (p0 : Option Int) (locked : Bool) (meas : Nat) (e : Engine) : Engine :=
  let deg := match p0 with | some p => below005 m.tap.toNat m.n p.toNat | none => false
  stageDir src dst locked (decide (meas ≤ 2 * m.n)) m.n m.kx m.ky deg e

/-- What a round has measured of one direction is tested and staged (R84, R85). -/
def stageMeas (src dst : Nat) (e : Engine) : Engine :=
  match e.syn.survey with
  | none => e
  | some v =>
    let m : Meas := Tbl.get (fun _ => {}) v.dirs src
    stageOne src dst m m.p0 m.locked v.meas e

/-- The results of the round that ends are staged (R84). -/
def stageRound (round : Nat) (e : Engine) : Engine :=
  let e := each (roundPairs round) (fun p e => stageMeas p.2 p.1 (stageMeas p.1 p.2 e)) e
  wrF Fd.SYN_SURVEY_STAT_ROUNDS_DONE (rdF e Fd.SYN_SURVEY_STAT_ROUNDS_DONE + 1) e

/-- A survey sluice has opened at tick `t`: the round before it ends and the next one begins (R84). -/
def surveySluiced (round : Nat) (last : Bool) (t : Nat) (e : Engine) : Engine :=
  match e.syn.survey with
  | none => e
  | some v =>
    let e := if v.lit then stageRound v.round e else e
    match e.syn.survey with
    | none => e
    | some v =>
      if last then { e with syn := { e.syn with survey := some { v with lit := false, ending := true, frame := 0, dirs := [] } } }
      else
        let e := { e with syn := { e.syn with survey := some { v with round := round, lit := true, frame := 0, dirs := [] } } }
        let t' := t + (10 + v.meas) * 5000
        if round < v.last then surveyJob (round + 1) false t' e else surveyJob round true t' e

/-- A measurement sample: its tap power and pointing less dither are added. -/
def Meas.add (m : Meas) (tap : Nat) (kx ky : Int) : Meas := { m with n := m.n + 1, kx := m.kx + kx, ky := m.ky + ky, tap := m.tap + tap }

/-- A direction's record after the sample of frame `f` of a round (R84). -/
def Meas.inRound (m : Meas) (f meas : Nat) (tap : Option Nat) (locked : Bool) (kx ky : Int) : Meas :=
  let m := { m with frames := m.frames + 1 }
  let m := if f = 0 then { m with p0 := tap.map (fun x => (x : Int)) } else m
  let m := if f = 9 then { m with locked := locked } else m
  match tap with
  | some x => if 10 ≤ f ∧ f < 10 + meas then m.add x kx ky else m
  | none => m

/-- A station circuit's record after the sample of frame `f` since the last round; it is locked if it was at each of them (R86). -/
def Meas.atEnd (m : Meas) (f meas : Nat) (tap : Option Nat) (locked : Bool) (kx ky : Int) : Meas :=
  if meas ≤ f then m
  else
    let m := { m with frames := m.frames + 1, locked := locked && (m.locked || m.frames == 0) }
    match tap with
    | some x => m.add x kx ky
    | none => m

/-- One evaluation of the loop of `a` in a lit round, or of a station circuit's once the rounds are done: its tap power, pointing
less dither and lock (R84, R86). `tap`: none where the sample is missing. -/
def surveySample (a : Nat) (tap : Option Nat) (locked : Bool) (kx ky : Int) (e : Engine) : Engine :=
  match e.syn.survey with
  | none => e
  | some v =>
    if v.frame = 0 ∨ !(v.lit && ordinary a || v.ending && isStation a) then e
    else
      let m : Meas := Tbl.get (fun _ => {}) v.dirs a
      let m := if v.lit then m.inRound (v.frame - 1) v.meas tap locked kx ky else m.atEnd (v.frame - 1) v.meas tap locked kx ky
      { e with syn := { e.syn with survey := some { v with dirs := Tbl.ins v.dirs a m } } }

/-- The eight directions of the station circuits. -/
def stationDirs : List (Nat × Nat) := stationPairs.flatMap (fun p => [(p.1, p.2), (p.2, p.1)])

/-- What the last frames have measured of a station direction is tested and staged (R86). -/
def stageStation (p : Nat × Nat) (e : Engine) : Engine :=
  match e.syn.survey with
  | none => e
  | some v =>
    let m : Meas := Tbl.get (fun _ => {}) v.dirs p.1
    let p0 := (v.p0st.find? (fun x => x.1 == p.1)).map (·.2)
    stageOne p.1 p.2 m p0 m.locked v.meas e

/-- The survey of generation `gen` ends once MEAS_FRAMES frames have begun since the last round and the last is over (R86). -/
def surveyEndNow (gen : Nat) (e : Engine) : Engine :=
  match e.syn.survey with
  | none => e
  | some v =>
    if !v.ending ∨ v.frame < v.meas ∨ gen ≠ e.syn.gen then e
    else endSurvey false (each stationDirs stageStation (waitD (e.sns.frameD + 5000) e))

/-- SURVEY_END: the station circuits have been measured (R86). -/
def execSurveyEnd (gen : Nat) (s : State) : Host.Outcome State Fault Refusal := .next (s.run (surveyEndNow gen))

-- AIM_UPLOAD ------------------------------------------------------------------------------------------------------------------------

def cmdAimUpload : CmdInfo := { opcode := 0x0504, hostMem := true, modes := [.bypass, .calibrate, .service, .schedule] }

/-- The overlay of one set in a store. -/
def setOverlay (t : Tbl Nat) (set : Nat) : Tbl Nat :=
  t.filterMap (fun x => if x.1 / numRecords = set then some (x.1 % numRecords, x.2) else none)

/-- The staging area an upload overlays: the one in use, or, empty, a copy of the live set named (R88). -/
def aimArea (p : AimUploadP) (e : Engine) : Nat × Tbl Nat := e.syn.aimStage.getD (p.set, setOverlay e.syn.aims p.set)

/-- An AIM_UPLOAD completes (SYN_CAUSE.UPLOAD_DONE). -/
def aimDone (cx : Cx) (status n : Nat) (e : Engine) : Engine := complete cx status n (note Fd.SYN_CAUSE_UPLOAD_DONE e)

def aimUploadBody (cx : Cx) (p : AimUploadP) (e : Engine) : Engine :=
  if p.count = 0 then aimDone cx stEmpty 0 e
  else if p.set > 3 ∨ p.first + p.count > numRecords ∨ !iovaOk p.addr 32 (32 * p.count) ∨ e.syn.aimStage.any (fun s => s.1 != p.set) then
    aimDone cx stBadParam 0 e
  else
    openCmd 6 cx p.addr (32 * p.count) false (.aim cx p) { e with syn := { e.syn with aimStage := some (aimArea p e) } }

/-- aimUpload at execution. -/
def goAimUpload (cx : Cx) (p : AimUploadP) : Engine → Engine :=
  runCmd cmdAimUpload cx p.rsv noPorts (aimUploadBody cx p)

/-- AIM_UPLOAD (R88). -/
def execAimUpload (cx : Cx) (p : AimUploadP) (s : State) : Host.Outcome State Fault Refusal :=
  .next (s.run (arrive cx (goAimUpload cx p)))

/-- A record an upload accepts (R88). -/
def uploadOk (r : Nat) : Bool :=
  checkOk r && (recCoarse r == decide (recQuality r > 8)) && !recFieldAdj r && recReserved r == 0

/-- Stage record `k` of an upload; an area that a commit has emptied meanwhile is begun again (R88). -/
def stageAim (p : AimUploadP) (k : Nat) (r : Nat) (e : Engine) : Engine :=
  let st := aimArea p e
  { e with syn := { e.syn with aimStage := some (st.1, Tbl.ins st.2 (p.first + k) r) } }

/-- The records of one chunk, from number `k` on: `false` where a record fails, or the staged set is another by now, and the
upload stops (R88). -/
def aimChunk (cx : Cx) (p : AimUploadP) : Nat → List Byte → Nat → Engine → Engine × Bool
  | 0, _, _, e => (e, true)
  | n + 1, l, k, e =>
    let r := fieldOf l 0 32
    if uploadOk r ∧ (aimArea p e).1 = p.set then aimChunk cx p n (l.drop 32) (k + 1) (stageAim p k r e)
    else (aimDone cx stBadParam k e, false)

-- CAL_COMMIT ------------------------------------------------------------------------------------------------------------------------

def cmdCalCommit : CmdInfo := { opcode := 0x0503, modes := [.bypass, .calibrate, .service] }

/-- The staging area of a target is empty; a survey that has begun has one (R90, log 34). -/
def stageEmpty (e : Engine) (target : Nat) : Bool :=
  if target = 1 then e.syn.aimStage.isNone else if target = 2 then e.syn.survStage.isNone else e.sns.stage.isEmpty

def discardStage (target : Nat) (e : Engine) : Engine :=
  if target = 1 then { e with syn := { e.syn with aimStage := none } }
  else if target = 2 then { e with syn := { e.syn with survStage := none } }
  else { e with sns := { e.sns with stage := [] } }

/-- The live view of a SENSORCAL entry (R134). -/
def calOf (e : Engine) (a : Nat) : List Word :=
  Tbl.get (fun a => (List.range 8).map (fun w => if w < 5 then Config.factorySensorCal a w else if w = 5 then 0xFF000000 else 0)) e.sns.cal a

/-- Make a staged sensor entry live: the sticky OVR and UNDER bits and the reasons of the live entry stay. -/
def commitCal (a : Nat) (w : List Word) (e : Engine) : Engine :=
  let old := wordAt (calOf e a) 5
  let w5 := wd (setBits (setBits (wordAt w 5) 9 0 (bits old 9 0)) 31 24 (bits old 31 24))
  { e with sns := { e.sns with cal := Tbl.ins e.sns.cal a ((w.take 8).set 5 w5) } }

/-- Commit a staging area (R90): the live set or layer is replaced and the sweeper is to rebuild the entries behind it. The live delta
of a pair that the survey did not reach stays (log 34). -/
def commitStage (target : Nat) (e : Engine) : Engine :=
  if target = 1 then
    match e.syn.aimStage with
    | none => e
    | some (set, t) =>
      let old := setOverlay e.syn.aims set
      let keep := e.syn.aims.filter (fun x => x.1 / numRecords != set)
      let aims := t.foldl (fun m x => Tbl.ins m (set * numRecords + x.1) x.2) keep
      let ch := dedup (t.map (·.1) ++ old.map (·.1))
      { e with syn := { e.syn with aims := aims, sweep := dedup (e.syn.sweep ++ ch) } }
  else if target = 2 then
    let t := e.syn.survStage.getD []
    let deltas := t.foldl (fun m x => Tbl.ins m x.1 x.2.delta) e.syn.deltas
    { e with syn := { e.syn with deltas := deltas, sweep := dedup (e.syn.sweep ++ t.map (·.1)) } }
  else each e.sns.stage (fun x => commitCal x.1 x.2) e

def calCommitBody (cx : Cx) (p : CalCommitP) (e : Engine) : Engine :=
  if p.target = 0 ∨ p.target > 3 ∨ p.action > 1 then complete cx stBadParam 0 e
  else if p.target = 2 ∧ e.syn.survey.isSome then complete cx stPortBusy 0 e
  else if stageEmpty e p.target then complete cx stEmpty 0 e
  else if p.action = 1 then complete cx stOk 0 (discardStage p.target e)
  else
    let e := discardStage p.target (commitStage p.target e)
    complete cx stOk 0 { e with syn := { e.syn with persist := some p.target } }

/-- calCommit at execution. -/
def goCalCommit (cx : Cx) (p : CalCommitP) : Engine → Engine :=
  runCmd cmdCalCommit cx p.rsv noPorts (calCommitBody cx p)

/-- CAL_COMMIT (R90). -/
def execCalCommit (cx : Cx) (p : CalCommitP) (s : State) : Host.Outcome State Fault Refusal :=
  .next (s.run (arrive cx (goCalCommit cx p)))

/-- A live sensor entry as flash keeps it: coefficients, TAP_SYS, BAL_SYS and times; OVR and UNDER clear and the reasons NONE, as
power-on reset leaves them (R131, R134). -/
def calKept (w : List Word) : List Word := w.set 5 (wd (0xFF000000 + bits (wordAt w 5) 23 22 <<< 22))

def persistDone (ok : Bool) (e : Engine) : Engine :=
  match e.syn.persist with
  | none => e
  | some _ =>
    let y := { e.syn with persist := none }
    if ok then { e with syn := { y with flashAims := y.aims, flashDeltas := y.deltas, flashSensor := e.sns.cal.map (fun x => (x.1, calKept x.2)) } }
    else note Fd.SYN_CAUSE_PERSIST_FAIL { e with syn := y }

/-- CAL_PERSIST_DONE: the background persist ends; flash then holds every committed store (R90). -/
def execCalPersistDone (ok : Bool) (s : State) : Host.Outcome State Fault Refusal := .next (s.run (persistDone ok))

-- CAL_SENSOR ------------------------------------------------------------------------------------------------------------------------

def cmdCalSensor : CmdInfo := { opcode := 0x0501, modes := [.calibrate, .service] }

def calSensorBody (cx : Cx) (p : CalSensorP) (e : Engine) : Engine :=
  let bad := p.first + p.count > 4100 || decide (p.step > 2) ||
    (if p.step = 1 then decide (p.known < -300 ∨ p.known > 300) else p.known != 0) ||
    (p.frames != 0 && (decide (p.frames < 16) || decide (p.frames > 4096)))
  if p.count = 0 then complete cx stEmpty 0 e
  else if bad then complete cx stBadParam 0 e
  else if p.step ≤ 1 ∧ (span p.first p.count).any (fun a => !ordinary a) then complete cx stReserved 0 e
  else if e.sns.job.isSome then complete cx stPortBusy 0 e
  else { e with sns := { e.sns with job := some { cx := cx, p := p, at_ := e.clk } } }

/-- calSensor at execution. -/
def goCalSensor (cx : Cx) (p : CalSensorP) : Engine → Engine :=
  runCmd cmdCalSensor cx p.rsv noPorts (calSensorBody cx p)

/-- CAL_SENSOR (R133). -/
def execCalSensor (cx : Cx) (p : CalSensorP) (s : State) : Host.Outcome State Fault Refusal :=
  .next (s.run (arrive cx (goCalSensor cx p)))

/-- The staged entry of an aperture, begun from the live one. -/
def stagedCal (e : Engine) (a : Nat) : List Word := Tbl.get (fun _ => calOf e a ++ [0]) e.sns.stage a

/-- TAP_GAIN of a KNOWN step: round_half_up(16384·G/G_nom), `m` the mean code less OFS_H in 1/16 code (R130). -/
def tapGain (m : Nat) (known : Int) : Nat :=
  (greatest (fun n => decide (n ≤ 0) || tenLe (6400 * m) (1619 * (2 * n - 1).toNat) known) 16 0).toNat

/-- G lies in 0.7..1.4 of G_nom (R131). -/
def gainOk (m : Nat) (known : Int) : Bool :=
  tenLe (250 * m) (7 * 207232) known && leTen (250 * m) (14 * 207232) known

/-- A Q2.14 balance gain √(num/den) (R132). -/
def balance (num den : Nat) : Nat := if den = 0 then 0xFFFF else min ((Nat.sqrt (4 * 16384 * 16384 * num / den) + 1) / 2) 0xFFFF

/-- The balance gain lies in 0.80..1.25. -/
def balanceOk (g : Nat) : Bool := decide (80 * 16384 ≤ 100 * g) && decide (100 * g ≤ 125 * 16384)

/-- A mean in 1/16 code as whole codes, s8. -/
def guardOfs (v : Int) : Nat := trunc 8 (satS 8 (rhu v 16))

/-- FRAMES of a step: 0 means 256 (R133). -/
def calFrames (p : CalSensorP) : Nat := if p.frames = 0 then 256 else p.frames

/-- Samples a frame of a step takes of one aperture (R130-R132, log 75): DARK the tap and, in range L, the guards; KNOWN the tap;
BALANCE the guards. `n` is the number of the frame. -/
def calSamples (p : CalSensorP) (n : Nat) : List Nat :=
  if p.step = 0 then (if 2 * n < calFrames p then [4] else [0, 1, 2, 3, 4]) else if p.step = 1 then [4] else [0, 1, 2, 3]

/-- All the samples of a step. -/
def calTotal (p : CalSensorP) : Nat := ((List.range (calFrames p)).map (fun n => (calSamples p n).length)).sum

/-- Samples that the frames not converted would have given: they are MISSING. -/
def calAbsent (p : CalSensorP) (m : CalAcc) : Nat :=
  ((List.range (calFrames p)).map (fun n => if n < m.frames then 0 else (calSamples p n).length)).sum

/-- A mean of codes, in 1/16 code. -/
def calMean (s : Nat × Nat) : Int := if s.2 = 0 then 0 else rhu s.1 s.2

/-- OVERRANGE: more than half the samples carry OVR, SUSPECT or MISSING (R131). -/
def calOver (p : CalSensorP) (m : CalAcc) : Bool := decide (calTotal p < 2 * (m.bad + calAbsent p m))

/-- An offset lies outside ±2 % of full scale (R131). -/
def ofsBad (v : Int) : Bool := decide (v.natAbs * 100 > 524256)

/-- DARK: the reason and the staged words (R130, R131). -/
def calDark (w : List Word) (p : CalSensorP) (m : CalAcc) : Nat × List Word :=
  let h := calMean m.tapH
  let l := calMean m.tapL
  let g (i : Nat) : Nat := guardOfs (calMean (m.guards.getD i (0, 0)))
  (if !m.parked then 1 else if calOver p m then 2 else if ofsBad h || ofsBad l then 4 else 0,
   ((w.set 0 (wd (trunc 16 h * 65536 + trunc 16 l))).set 4 (wd (g 0 * 16777216 + g 1 * 65536 + g 2 * 256 + g 3))).set 8 1)

/-- KNOWN: the reason and the staged words (R130, R131). -/
def calKnown (w : List Word) (p : CalSensorP) (m : CalAcc) : Nat × List Word :=
  let d := calMean m.tapH - sext 16 (bits (wordAt w 0) 31 16)
  (if !m.parked then 1 else if calOver p m then 2 else if wordAt w 8 = 0 then 3 else if d ≤ 0 ∨ !gainOk d.toNat p.known then 5 else 0,
   w.set 1 (wd (setBits (wordAt w 1) 31 16 (tapGain d.toNat p.known))))

/-- BALANCE: the reason and the staged words. LOW_SIGNAL sums the means before the guard offsets are taken off, and in range H
there is no offset to take off (R131, R132, log 76). -/
def calBalance (w : List Word) (p : CalSensorP) (m : CalAcc) : Nat × List Word :=
  let g (i : Nat) : Int := calMean (m.guards.getD i (0, 0))
  let o (i : Nat) : Int := if m.low then sext 8 (bits (wordAt w 4) (31 - 8 * i) (24 - 8 * i)) else 0
  let v (i : Nat) : Nat := (g i - 16 * o i).toNat
  let n := balance (v 2) (v 0)
  let s := balance (v 0) (v 2)
  let ea := balance (v 3) (v 1)
  let we := balance (v 1) (v 3)
  (if calOver p m then 2 else if !m.locked then 6 else if g 0 + g 1 + g 2 + g 3 < 2048 then 7
   else if [n, s, ea, we].all balanceOk then 0 else 8,
   (w.set 2 (wd (n * 65536 + ea))).set 3 (wd (s * 65536 + we)))

/-- The reason of one aperture's step and its staged words (R130-R132). -/
def calResult (e : Engine) (p : CalSensorP) (a : Nat) (m : CalAcc) : Nat × List Word :=
  if p.step = 0 then calDark (stagedCal e a) p m else if p.step = 1 then calKnown (stagedCal e a) p m else calBalance (stagedCal e a) p m

/-- Record one aperture's result: its reason in the live entry, and where it is accepted the staged entry (R131). -/
def recordCal (p : CalSensorP) (a : Nat) (m : CalAcc) (e : Engine) : Engine :=
  let x := calResult e p a m
  let tap := decide (p.step ≤ 1)
  let live := calOf e a
  let mark (w : List Word) : List Word := w.set 5 (wd (setBits (wordAt w 5) (if tap then 31 else 27) (if tap then 28 else 24) x.1))
  let e1 := { e with sns := { e.sns with cal := Tbl.ins e.sns.cal a (mark live) } }
  if x.1 ≠ 0 then note Fd.SNS_CAUSE_CAL_REJECT e1
  else
    let w := mark x.2
    let w := w.set 5 (wd (setBits (wordAt w 5) (if tap then 23 else 22) (if tap then 23 else 22) 1))
    let w := w.set (if tap then 6 else 7) (wd (dSec e))
    { e1 with sns := { e1.sns with stage := Tbl.ins e1.sns.stage a w } }

/-- What a step has measured of an aperture. -/
def CalJob.accOf (j : CalJob) (a : Nat) : CalAcc := Tbl.get (fun _ => {}) j.acc a

/-- The apertures of a step that are accepted. -/
def calAccepted (e : Engine) (j : CalJob) : Nat :=
  ((span j.p.first j.p.count).filter (fun a => (calResult e j.p a (j.accOf a)).1 == 0)).length

/-- The step whose range begins at `first` ends when its frames are over (R131, R133). -/
def calSensorEndNow (first : Nat) (e : Engine) : Engine :=
  match e.sns.job with
  | none => e
  | some j =>
    if first ≠ j.p.first then e
    else
      let e := waitClk (j.at_ + 5000 * calFrames j.p) e
      let acc := calAccepted e j
      let e := each (span j.p.first j.p.count) (fun a => recordCal j.p a (j.accOf a)) { e with sns := { e.sns with job := none } }
      note Fd.SNS_CAUSE_CAL_DONE
        (complete j.cx (if acc = j.p.count then stOk else stImplausible) (acc + (j.p.count - acc) * 4294967296) e)

/-- CAL_SENSOR_END: the step's frames are over (R130-R133). -/
def execCalSensorEnd (first : Nat) (s : State) : Host.Outcome State Fault Refusal := .next (s.run (calSensorEndNow first))

-- the sweeper -----------------------------------------------------------------------------------------------------------------------

/-- The pass that follows HOLD runs: it takes only entries whose weight or pair has moved (R114); it is over 70 ms after the exit,
the time of a whole pass (R71, log 77). -/
def exitPass (e : Engine) : Bool := match e.rfs.exitAt with | some t => decide (e.clk < t + 70000000) | none => false

/-- The rebuild of an entry is wanted (R71, R114). -/
def rebuildWanted (e : Engine) (idx : Nat) : Bool :=
  let x := effEntry e idx
  let r := e.region (idxRegion idx)
  let d := ((r.w : Int) - x.w).natAbs
  (decide (idx ∈ e.syn.sweep) && !exitPass e) || x.lo != r.lo || (d != 0 && decide (rdF e Fd.SYN_CTL_LIB_THR ≤ d))

/-- A pass over the active plane of `a` with pointing (kx, ky): the hysteresis reads find `reads`, and a second residue mismatch ends
it before its row (R40, R76, R79, R97, R137). -/
def runPass (a : Nat) (kx ky : Int) (reads : List FsRead) (res : Residue) (dith : Int × Int) (idx : Nat × Nat) (e : Engine) : Engine :=
  let t := tileOf a
  let e := fsEvents t reads e
  let i := synthIn e a (e.aper a).rec_ kx ky
  let plane := (List.range 80).map (fun r => synthBut e a i (badWords a r reads) r)
  residueAt t res (nextStrobe e a) (startPass a plane (res.twice.getD 80) dith idx e)

/-- The park pattern of `a` is synthesised anew into the active plane at the rank of a loop trim (R40, R72): not while the brake is
asserted, and in an island reset once it has ended, since no row is written meanwhile (R46, R59). -/
def repark (a rec_ : Nat) (p : SweepP) (e : Engine) : Engine :=
  if e.bkp.braking then updAper a (fun x => { x with rec_ := rec_ }) e
  else if resetAp e a then updAper a (fun x => { x with rec_ := rec_, repark := true }) e
  else
  runPass a (16 * recKx rec_) (16 * recKy rec_) p.reads p.residue (0, 0) (0, 0) (updAper a (fun x => { x with rec_ := rec_ }) e)

/-- The tile of a lit aperture takes the rebuilt record: a circuit keeps its pointing, a park is synthesised anew (R72, R142). A
record that cannot be armed is not taken (log 78). -/
def takeRecord (a : Nat) (p : SweepP) (rec_ : Nat) (e : Engine) : Engine :=
  let x := e.aper a
  if x.actKind = 0 ∨ frozenAp e a ∨ (e.tile (tileOf a)).silent ∨ targetIndex a (aimNow e a) ≠ p.index ∨ recState rec_ ≠ .good then e
  else if x.actKind = 2 then repark a rec_ p e
  else
    let dx := 16 * (recKx x.rec_ - recKx rec_)
    let dy := 16 * (recKy x.rec_ - recKy rec_)
    updLoop a (fun l => { l with x := { l.x with i := satS 48 (l.x.i + dx), out := l.x.out + dx },
                                 y := { l.y with i := satS 48 (l.y.i + dy), out := l.y.out + dy } })
      (updAper a (fun x => { x with rec_ := rec_ }) e)

/-- The sweeper runs: powered, past BOOT and not in HOLD (R71, R111); neither the brake nor an island reset stops it, since they stop
the writers of cells only (R46, R59). -/
def sweeps (e : Engine) (idx : Nat) : Bool := decide (idx < numRecords) && !unpowered e && !inMode e [.boot, .hold]

def rebuildNow (p : SweepP) (e : Engine) : Engine :=
  if !sweeps e p.index ∨ !rebuildWanted e p.index then e
  else
    let r := e.region (idxRegion p.index)
    let lo := aimRec e.syn.aims r.lo p.index
    let hi := aimRec e.syn.aims (r.lo + 1) p.index
    let e := whenE (!checkOk lo) aimCrc (whenE (!checkOk hi) aimCrc e)
    let x := buildEff e.syn.aims e.syn.deltas r p.index
    let e := putEff p.index x { e with syn := { e.syn with sweep := e.syn.sweep.filter (· ≠ p.index) } }
    takeRecord (indexSource p.index) p x.rec_ e

/-- SWEEPER_REBUILD (R71, R72). -/
def execSweeperRebuild (p : SweepP) (s : State) : Host.Outcome State Fault Refusal := .next (s.run (rebuildNow p))

-- caches ----------------------------------------------------------------------------------------------------------------------------

/-- A tile holds an armed shadow. -/
def tileArmed (e : Engine) (t : Nat) : Bool := (tileAps t).any (fun a => (e.aper a).armed)

/-- Deferred reloads whose tile holds no armed shadow any more start (R103). -/
def startReloads (e : Engine) : Engine :=
  each ((e.bkp.tiles.filter (fun x => x.2.deferred.isSome)).map (·.1)) (fun t e =>
    if tileArmed e t then e else updTile t (fun x => { x with reload := x.deferred, deferred := none }) e) e

/-- The region of a tile has moved to another pair: its reload starts, or is deferred while a shadow is armed (R68, R103). -/
def wantReload (t lo : Nat) (e : Engine) : Engine :=
  if tileArmed e t then note Fd.RFS_CAUSE_CACHE_DEFER (updTile t (fun x => { x with deferred := some lo, reload := none }) e)
  else updTile t (fun x => { x with reload := some lo, deferred := none }) e

def reloadDone (t : Nat) (e : Engine) : Engine :=
  match (e.tile t).reload with
  | none => e
  | some lo => updTile t (fun x => { x with pairLo := lo, reload := none }) e

/-- CACHE_RELOAD_DONE of a tile (R68). -/
def execCacheReloadDone (t : Nat) (s : State) : Host.Outcome State Fault Refusal := .next (s.run (fun e => reloadDone t (startReloads e)))

end Sys2Proof.Machine
end

