-- ==== Sys2Proof/Machine/Sluice.lean ====
section
/-! DEFINITION. The sluice: what opens at a tick, what each owner's sluice does to the map, the epoch and its command, the
repairs of what missed it, and the end of a tile's island reset (R42-R44, R52, R59, R164-R179, R195, R197, R358, R370-R372). -/

namespace Sys2Proof.Machine

-- misses ------------------------------------------------------------------------------------------------------------------------------

/-- An aperture of a selected group with ARMED = 0 at the tick (R44). -/
def sluiceMiss (a : Nat) (e : Engine) : Engine :=
  inc Reg.BKP_SLUICE_MISS_CNT (noteTile Fd.TILE_CAUSE_SLUICE_MISS (tileOf a) a e)

/-- The targets of a job that are not ARMED at its tick. -/
def Job.missed (e : Engine) (j : Job) : List Nat := (j.targets.filter (fun t => !(e.aper t.1).armed)).map (·.1)

/-- Park a set of apertures after a miss: those in island reset in a sluice of their own, once the reset has ended; the
command of the owner is completed by the last (R178, R197). -/
def repairJobs (o : Owner) (aps : List Nat) (cx : Option Cx) (e : Engine) : Engine :=
  let now := (aps.filter (fun a => !resetAp e a)).map (fun a => (a, Aim.park))
  let later := (aps.filter (fun a => resetAp e a)).map (fun a => (a, Aim.park))
  let e := if now = [] then e else
    let r := ownRecs now e
    addNow o 12 now r.2 [] (if later = [] then cx else none) r.1
  if later = [] then e else
    let r := ownRecs later e
    addNow o 12 later r.2 [] cx r.1

-- transactions ------------------------------------------------------------------------------------------------------------------------

/-- The outcome of an entry at its sluice (R179); `targets`: what it armed. -/
def entryOutcome (e : Engine) (missed targets : List Nat) : Nat :=
  let m := targets.filter (fun a => decide (a ∈ missed))
  if targets = [] then 2 else if m = [] then 1 else if m.any (frozenAp e) then 4 else 3

/-- The apertures the repair of an entry parks: those of a PAIR, the missed ones of a DROP, but not in frozen tiles (R178). -/
def entryRepair (e : Engine) (missed targets : List Nat) (n : Entry) : List Nat :=
  let m := targets.filter (fun a => decide (a ∈ missed))
  if m = [] then [] else (if n.drop then m else targets).filter (fun a => !frozenAp e a)

/-- The pairings of an entry at the commit epoch (R178). -/
def entryPairs (ep : Nat) (missed targets : List Nat) (n : Entry) (e : Engine) : Engine :=
  if n.drop then
    each n.ports (fun p => setPair p Config.noTarget ep (decide (p ∈ targets))) e
  else if targets.any (fun a => decide (a ∈ missed)) then each n.ports (fun p => setPair p Config.noTarget ep true) e
  else setPair n.a n.b ep false (setPair n.b n.a ep false e)

/-- A transaction commits (R165, R169, R171, R178). `js`: what its job armed, by aperture. -/
def commitSluice (id : Nat) (armed missed : List Nat) (e : Engine) : Engine :=
  match e.txn id with
  | none => e
  | some t =>
    let tg (n : Entry) : List Nat := n.ports.filter (fun p => decide (p ∈ armed))
    let ep := nextEpoch e
    let e := each t.entries (fun n => entryPairs ep missed (tg n) n) e
    let rep := t.entries.flatMap (fun n => entryRepair e missed (tg n) n)
    let part := decide (missed ≠ [])
    let es := t.entries.map (fun n => { n with outcome := entryOutcome e missed (tg n) })
    let e := addC Reg.XACT_ENTRY_CNT t.entries.length (inc Reg.XACT_COMMIT_CNT (advanceEpoch false e))
    let e := closeTxn { t with st := .committed, entries := es, epoch := ep, partial_ := part, job := none } e
    let e := if t.restore then { e with thm := { e.thm with restoring := none } } else e
    let e := if part then note Fd.XACT_CAUSE_PARTIAL e else e
    let cx := if t.earlyDone then none else t.commit
    if rep ≠ [] then
      repairJobs (.repair ep) rep cx (each rep (fun p => updPort p (fun x => { x with awaiting := true })) e)
    else match cx with
      | some c => completeAt c stOk (ep + (if part then 9223372036854775808 else 0)) ep e
      | none => e

-- the engine's own sluices ------------------------------------------------------------------------------------------------------------

/-- An epoch at which a set of ports has no partner, those parked by this sluice with a new park state. -/
def parkEpoch (parked away : List Nat) (e : Engine) : Engine :=
  let ep := nextEpoch e
  let e := each parked (fun p => setPair p Config.noTarget ep true) (notAwaiting parked e)
  advanceEpoch false (each away (fun p => setPair p Config.noTarget ep false) e)

/-- An engine park opens (R182 as R334 has it, R206, R371); what missed it is parked in a sluice of its own. -/
def parkSluice (ports aps missed away : List Nat) (cx : Option Cx) (e : Engine) : Engine :=
  let e := parkEpoch aps away e
  let left := missed.filter (fun a => !frozenAp e a)
  if left ≠ [] then repairJobs (.park ports) left cx e
  else match cx with
    | some c => completeAt c stOk e.xact.epoch e.xact.epoch e
    | none => e

/-- A repair sluice opens (R178, R197): what missed it in turn is parked by a further repair, unless its tile is frozen. -/
def repairSluice (o : Owner) (aps missed away : List Nat) (cx : Option Cx) (e : Engine) : Engine :=
  let left := missed.filter (fun a => !frozenAp e a)
  let e := parkEpoch aps away (notAwaiting (missed.filter (frozenAp e)) e)
  if left ≠ [] then repairJobs o left cx e
  else match cx with
    | some c => completeAt c stOk (e.xact.epoch + 9223372036854775808) e.xact.epoch e
    | none => e

/-- The entry sluice opens: the mode is entered and SET_MODE completes (R370-R372). -/
def entrySluiced (e : Engine) : Engine :=
  match e.sys.setMode with
  | some j =>
    if j.wait ≠ .entrySluice then e
    else if e.sys.zeroService then setModeDone j { e with sys := { e.sys with zeroService := false } }
    else setModeDone j (toMode j.target e)
  | none => e

/-- The re-synthesis sluice ends a span change (R51, R52). -/
def resynthSluice (away : List Nat) (e : Engine) : Engine :=
  let e := { e with bkp := { e.bkp with span := none } }
  let e := if away = [] then e else note Fd.XACT_CAUSE_PARTIAL (parkEpoch away [] e)
  resumeSetMode e

-- boundaries --------------------------------------------------------------------------------------------------------------------------

/-- The other ends of the pairs of apertures that missed a boundary (R178, R197). -/
def slotRepair (e : Engine) (j : Job) (missed : List Nat) : List Nat :=
  (dedup (j.targets.flatMap (fun t => if decide (t.1 ∈ missed) then
      (match t.2 with | .to q => [t.1, q] | _ => [t.1]) else []))).filter (fun a => !frozenAp e a && ordinary a)

/-- The pairing of the ports a boundary changes (R172, R195): partners aim at each other, both ends copied. -/
def slotPairs (j : Job) (missed : List Nat) (e : Engine) : Engine :=
  let ep := nextEpoch e
  let ports := dedup (j.targets.map (·.1) ++ j.away)
  let ports := dedup (ports ++ (ports.filter (paired e)).map (partner e))
  let next (p : Nat) : Nat :=
    match aimNow e p with
    | .to q => if aimNow e q = .to p ∧ p ∉ missed ∧ q ∉ missed ∧ p ∉ j.away ∧ q ∉ j.away then q else Config.noTarget
    | _ => Config.noTarget
  let res := ports.map (fun p => (p, next p, j.targets.any (fun t => t.1 == p && t.2 == .park)))
  advanceEpoch false (each res (fun x => setPair x.1 x.2.1 ep x.2.2) e)

/-- A boundary's sluice opens (R195, R197, R203). -/
def slotSluice (j : Job) (missed : List Nat) (e : Engine) : Engine :=
  let e := slotPairs j missed e
  let aps := (j.targets.map (·.1)).filter (fun a => decide (a ∉ missed))
  let rep := slotRepair e j missed
  let e := if missed = [] then e else note Fd.SCH_CAUSE_REPAIR e
  let e := if rep = [] then e else repairJobs .schRepair rep none (each rep (fun p => updPort p (fun x => { x with awaiting := true })) e)
  match e.sch.nextB with
  | b :: _ => if b.job = some j.id then enterBoundary b aps e else e
  | [] => e

-- SLUICE --------------------------------------------------------------------------------------------------------------------------------

/-- What the opening of one job means to its owner; `missed`: its apertures that were not copied. -/
def ownerSluice (j : Job) (missed : List Nat) (e : Engine) : Engine :=
  let aps := (j.targets.map (·.1)).filter (fun a => decide (a ∉ missed))
  match j.owner with
  | .txn id => commitSluice id (j.targets.map (·.1)) missed e
  | .entry => entrySluiced e
  | .park ports => parkSluice ports aps missed j.away j.cx e
  | .repair _ => repairSluice j.owner aps missed j.away j.cx (inc Reg.XACT_PARTIAL_CNT e)
  | .schRepair => repairSluice j.owner aps missed j.away j.cx (inc Reg.SCH_REPAIR_CNT e)
  | .survey k last => surveySluiced k last (j.t.getD 0) e
  | .resynth => resynthSluice j.away e
  | .slot => slotSluice j missed e

/-- The place of a job among those of one tick: transactions in the order of their commits (R169), then the others. -/
def jobKey (e : Engine) (j : Job) : Nat :=
  match j.owner with
  | .txn id => ((e.txn id).map (·.order)).getD 0
  | _ => e.cmd.accepts + j.id

/-- The earliest tick of a job whose arm has begun. -/
def nextTick (e : Engine) : Option Nat :=
  (e.xact.jobs.filterMap (fun j => if j.phase = .waiting then none else j.t)).min?

/-- Apertures that no job of the tick names but whose group is in its mask, ARMED for a later one: they copy too (R42). -/
def alsoCopied (jobs : List Job) (e : Engine) : List Nat :=
  (e.bkp.apers.map (·.1)).filter (fun a => (e.aper a).armed && jobs.any (fun j => j.grp == (e.aper a).grp) &&
    !jobs.any (fun j => j.targets.any (fun t => t.1 == a)))

/-- The apertures of a selected group whose arm by a job of a later tick is unfinished: they miss this sluice (R44). -/
def unfinished (jobs : List Job) (e : Engine) : List Nat :=
  (e.bkp.apers.map (·.1)).filter (fun a => (e.aper a).arming && jobs.any (fun j => j.grp == (e.aper a).grp) &&
    !jobs.any (fun j => j.targets.any (fun t => t.1 == a)))

/-- Apertures copy; the array is at zero phase no more once one of them holds a pairing, park or station pattern (R42, R43). -/
def copyAll (aps : List Nat) (e : Engine) : Engine :=
  let lit := aps.any (fun a => (e.aper a).shKind != 0)
  let e := each aps (fun a e => copyAper a (allWritten a e)) e
  if lit then { e with bkp := { e.bkp with zero := false } } else e

/-- Every latched job of tick `t` opens at once (R42), after the boundaries before it that open no sluice (R195) and a snapshot of
that tick (R13): copies first, then what each means to its owner. The tick ends before the next event: a brake of the same tick has come first (R12). -/
def openTick (t : Nat) (e : Engine) : Engine :=
  let e := each (e.xact.jobs.filter (fun j => j.t == some t && j.phase == .arming)) (fun j => checkNow j.id) e
  let e := waitD t (snapBefore t (passQuiet t e.sch.nextB.length e))
  let jobs := sortBy (jobKey e) (e.xact.jobs.filter (fun j => j.t == some t && j.phase == .latched))
  if jobs = [] then e
  else
    let work := jobs.map (fun j => (j, j.missed e))
    let e := { e with xact := { e.xact with jobs := e.xact.jobs.filter (fun j => !(jobs.any (fun k => k.id == j.id))) } }
    let e := if jobs.any (fun j => j.owner == .slot) then learn e else e
    let e := each (unfinished jobs e) sluiceMiss (each work (fun w => each w.2 sluiceMiss) e)
    let aps := work.flatMap (fun w => (w.1.targets.map (·.1)).filter (fun a => decide (a ∉ w.2)))
    let e := inc Reg.BKP_SLUICE_CNT (copyAll (aps ++ alsoCopied jobs e) e)
    let e := each work (fun w => ownerSluice w.1 w.2) e
    waitD (t + 10) (updStation (startReloads e))

def sluiceNow (e : Engine) : Engine :=
  match nextTick e with
  | some t => mapStep (openTick t) e
  | none => e

/-- SLUICE: the next tick for which a sluice is requested (R42, R165, R195). -/
def execSluice (s : State) : Host.Outcome State Fault Refusal := .next (s.run (settled sluiceNow))

-- island resets of tiles ------------------------------------------------------------------------------------------------------------

/-- The tile rewrites every active plane from the frame store (R59); shorted columns keep their codes (R53). -/
def rewriteTile (t : Nat) (e : Engine) : Engine :=
  let clk := e.clk
  each (tileAps t) (fun a e => updAper a (fun x =>
    { x with active := if x.store = [] then zeroPlane x.shortMap x.active else putRows x.shortMap 0 80 x.store x.active,
             actAt := [], copyAt := clk }) (allWritten a e)) e

/-- The parks whose record was rebuilt during the reset of their tile are synthesised anew after it (R72). -/
def lateReparks (t : Nat) (e : Engine) : Engine :=
  each ((tileAps t).filter (fun a => (e.aper a).repark)) (fun a e =>
    runPass a (e.aper a).base.1 (e.aper a).base.2 [] {} (0, 0) (0, 0) (updAper a (fun x => { x with repark := false }) e)) e

/-- The reset ends; while the brake is asserted no other writer acts, and the brake sluice writes the planes (R46, R59). -/
def islandResetEndNow (t : Nat) (reads : List FsRead) (e : Engine) : Engine :=
  if !(e.tile t).islandRst then e
  else
    let clk := e.clk
    let e := marchEv clk (.reset t false) (updTile t (fun x => { x with islandRst := false, initAt := clk }) e)
    let e := if e.flt.irst = some t then { e with flt := { e.flt with irst := none } } else e
    startReloads (if unpowered e ∨ e.bkp.braking then e else lateReparks t (fsEvents t reads (rewriteTile t e)))

/-- ISLAND_RESET_END of a tile (R59). -/
def execIslandResetEnd (t : Nat) (reads : List FsRead) (s : State) : Host.Outcome State Fault Refusal :=
  .next (s.run (settled (islandResetEndNow t reads)))

end Sys2Proof.Machine
end

