-- ==== Sys2Proof/Machine/Sensing.lean ====
section
/-! DEFINITION. Frames, conversions, one-shots, references, overpower and the condition fields of the pairing map
(R117-R129, R174, R176, R186, R403, R405). -/

namespace Sys2Proof.Machine

-- frames ------------------------------------------------------------------------------------------------------------------------------

/-- The tiles have been initialised and are powered (R405). -/
def tilesUp (e : Engine) : Bool := decide (e.sns.initAt ≠ 0) && !unpowered e

/-- The instant from which R123 counts for a tile: its last accepted edge, else the end of its initialisation (R405). -/
def edgeFrom (e : Engine) (t : Nat) : Nat := ((e.tile t).edgeAt).getD (max e.sns.initAt (e.tile t).initAt)

/-- The modes in which the loops run (R135). -/
def loopsRun (e : Engine) : Bool := inMode e [.calibrate, .service, .schedule]

/-- A loop in ACQUIRE at a frame start of its tile: ten frames, counted from the first edge after it entered ACQUIRE, have passed
without lock (R150). -/
def acqFrame (a : Nat) (e : Engine) : Engine :=
  let l := e.loopOf a
  if l.st ≠ .acquire ∨ l.acqEdge then e
  else if l.acqFrames = 10 ∧ !l.acqTold then
    note Fd.LOOP_CAUSE_ACQ_TIMEOUT (inc Reg.LOOP_ACQ_TO_CNT
      (updLoop a (fun l => { l with acqTold := true, timedOut := true, acqFrames := 11 }) e))
  else updLoop a (fun l => { l with acqFrames := min (l.acqFrames + 1) 11 }) e

/-- The loop of `a` at a frame start of its tile; `edge`: an accepted one, not of a free-running frame (R114, R148, R150, R152). -/
def loopFrame (edge : Bool) (a : Nat) (e : Engine) : Engine :=
  acqFrame a (if edge then updLoop a (fun l => { l with waitEdge := false, acqEdge := false }) e else e)

/-- The suspect flags of a tile's converters (R125). -/
def suspects (e : Engine) (t : Nat) : List Bool := Tbl.get (fun _ => List.replicate 8 false) e.sns.suspect t

def setSuspect (t c : Nat) (v : Bool) (e : Engine) : Engine :=
  { e with sns := { e.sns with suspect := Tbl.put (fun _ => List.replicate 8 false) e.sns.suspect t ((suspects e t).set c v) } }

/-- The window of the frame that ends has taken up the suspect flags of the converters of its fixed conversions (R122, R125). -/
def windowPassed (t : Nat) (e : Engine) : Engine :=
  if (e.tile t).frameAt = some (e.bank t).hkFrame then e else each (List.range 4) (fun c => setSuspect t c false) e

/-- The first frame start of a tile after the t+0 of HOLD entry (R113). -/
def Tile.holdStart (entry : Option Nat) (clk : Nat) (x : Tile) : Option Nat :=
  match entry with
  | none => x.holdFrame
  | some t => if x.holdFrame.any (fun h => decide (t ≤ h)) then x.holdFrame else some clk

/-- A frame starts in a tile; AUTO_RANGE and LOOP_DAMSEL are taken for it (R119, R123, R143). -/
def frameStart (t : Nat) (edge : Bool) (e : Engine) : Engine :=
  let clk := e.clk
  let ar := on e Fd.SNS_CTL_AUTO_RANGE
  let dm := rd e Reg.LOOP_DAMSEL
  let h := e.rfs.holdEntry
  let e := updTile t (fun x => { x with frameAt := some clk, framePrev := x.frameAt, autoRange := ar, damsel := dm,
                                        holdFrame := x.holdStart h clk }) (windowPassed t e)
  if loopsRun e then each (tileAps t) (loopFrame edge) e else e

/-- A tile meets an edge: accepted 4.0 µs or more after its last frame start, else early (R123); until its first frame the end of its
initialisation stands for that start (R405). -/
def edgeOk (e : Engine) (t : Nat) : Bool :=
  !(e.tile t).islandRst && decide (((e.tile t).frameAt).getD (edgeFrom e t) + 4000 ≤ e.clk)

def edgeEarly (e : Engine) (t : Nat) : Bool :=
  !(e.tile t).islandRst && decide (e.clk < ((e.tile t).frameAt).getD (edgeFrom e t) + 4000)

/-- A tile accepts an edge; it takes the edge's timestamp for its frame (R123, R305). -/
def acceptEdge (t : Nat) (e : Engine) : Engine :=
  let clk := e.clk
  let d := dNs e
  updTile t (fun x => { x with edgeAt := some clk, lost := false, frameTs := d % 1000000000, frameD := d }) (frameStart t true e)

/-- The frames of the ports in circuits, of a lit survey round and of the station circuits after the last round are counted
(R84, R86, R186). -/
def countFrames (e : Engine) : Engine :=
  let e := each (e.xact.cur.filterMap (fun x => if x.2.partner < 4096 then some x.1 else none))
    (fun p => updPort p (fun x => { x with frames := min (x.frames + 1) 0xFFFF })) e
  match e.syn.survey with
  | some v => if v.lit || v.ending then { e with syn := { e.syn with survey := some { v with frame := v.frame + 1 } } } else e
  | none => e

/-- A rising edge of the frame source reaches every tile but `absent` (R123, R166, R305); in BOOT it starts no frame (R397). -/
def frameEdge (absent : List Nat) (e : Engine) : Engine :=
  if !tilesUp e ∨ e.sys.mode = .boot then e
  else
    let here := (List.range 256).filter (fun t => !decide (t ∈ absent))
    let ok := here.filter (edgeOk e)
    let e := if here.any (edgeEarly e) then note Fd.SNS_CAUSE_SYNC_EARLY (inc Reg.SNS_SYNC_EARLY_CNT e) else e
    if ok = [] then e
    else
      let e := each ok acceptEdge e
      let e := if 0 ∈ ok then inc Reg.SNS_FRAME_CNT e else e
      let e := { e with sns := { e.sns with frameNo := e.sns.frameNo + 1, frameD := dNs e } }
      fixStart (dNs e) (fixSync (dNs e) (countFrames e))

/-- SYNC_IN: a rising edge of the pin; ignored while the frame source is LOCAL (R123). -/
def execSyncIn (absent : List Nat) (s : State) : Host.Outcome State Fault Refusal :=
  .next (s.run (fun e => if on e Fd.SNS_CTL_FRAME_SRC then e else frameEdge absent e))

def syncLossNow (t : Nat) (e : Engine) : Engine :=
  if !tilesUp e ∨ (e.tile t).lost ∨ (e.tile t).islandRst then e
  else
    let e := waitClk (edgeFrom e t + 10000) e
    let e := mark Fd.SNS_CAUSE_SYNC_LOSS (noteTile Fd.TILE_CAUSE_SYNC_LOSS t 0 e)
    frameStart t false (updTile t (fun x => { x with lost := true }) e)

/-- SYNC_LOSS of a tile: no edge for 10 µs; it free-runs at once (R123, R405). -/
def execSyncLoss (t : Nat) (s : State) : Host.Outcome State Fault Refusal := .next (s.run (syncLossNow t))

def freeRunNow (t : Nat) (e : Engine) : Engine :=
  if !tilesUp e ∨ !(e.tile t).lost ∨ (e.tile t).islandRst then e
  else frameStart t false (waitClk (((e.tile t).frameAt).getD e.clk + 5000) e)

/-- FREE_RUN_FRAME of a tile (R123). -/
def execFreeRunFrame (t : Nat) (s : State) : Host.Outcome State Fault Refusal := .next (s.run (freeRunNow t))

-- converters --------------------------------------------------------------------------------------------------------------------------

/-- The lane-H aperture slots in their order (R120). -/
def laneH : List Nat := [0, 1, 4, 7, 10, 13]

/-- The aperture slots lane G converts in a frame, in their order (R120). -/
def laneG : List Nat := [3, 6, 9, 12, 15, 2, 5, 8, 11, 14, 16]

/-- The aperture slots that the lane of `slot` converts after it. -/
def laneAfter (slot : Nat) : List Nat :=
  let after (l : List Nat) : List Nat := (l.dropWhile (· != slot)).drop 1
  if slot ∈ laneH then after laneH else after laneG

/-- The converter of sensor `d` of an aperture slot (R120). -/
def converterOf (slot d : Nat) : Nat :=
  match laneH.findIdx? (· == slot) with
  | some h => 5 + (5 * h + d) % 3
  | none => d

/-- The sample instant of an aperture slot after the frame start, in ns (R121). -/
def sampleAfter (slot : Nat) : Nat := [0, 250, 1250, 0, 750, 1500, 250, 1250, 1750, 500, 1500, 2000, 750, 2000, 2250, 1000, 2500].getD slot 0

/-- The completion instant of an aperture slot after the frame start, in ns (R121). -/
def completeAfter (slot : Nat) : Nat :=
  [500, 1000, 1500, 250, 1250, 1750, 500, 1750, 2000, 750, 2250, 2250, 1000, 2500, 2500, 1250, 2750].getD slot 0

/-- Set sticky OVR or UNDER bits of a live SENSORCAL entry (R125, R134). -/
def setSticky (a b : Nat) (e : Engine) : Engine :=
  let w := calOf e a
  { e with sns := { e.sns with cal := Tbl.ins e.sns.cal a (w.set 5 (wd (wordAt w 5 ||| (1 <<< b)))) } }

/-- The range in use for a sensor (R119). -/
def rangeOf (e : Engine) (a d : Nat) : Bool := (e.tile (tileOf a)).autoRange && (e.sens a).range.getD d false

/-- The range after a sample (R119). -/
def nextRange (low : Bool) (ovr : Bool) (code : Nat) : Bool := if low then !(ovr || decide (code ≥ 14746)) else decide (code ≤ 8)

-- references --------------------------------------------------------------------------------------------------------------------------

/-- The reference a selection stands for: 0b11 acts as 0b00. -/
def refOf (v j : Nat) : Nat := if bits v (2 * j + 1) (2 * j) = 3 then 0 else bits v (2 * j + 1) (2 * j)

/-- The reference selected for the bank of a tile (R127). -/
def bankRef (e : Engine) (t : Nat) : Nat := refOf (rd e (Reg.SNS_REFSEL + 4 * (t / 16))) (t % 16)

/-- A bank's reference has settled: reported so, or 200 µs after the last change of selection or the tiles' initialisation
(R127, log 22). -/
def bankSettled (e : Engine) (t : Nat) : Bool :=
  let b := e.bank t
  b.settled || (e.sns.initAt != 0 && decide (b.settling.getD e.sns.initAt + 200000 ≤ e.clk))

/-- A write of SNS_REFSELk (R127). -/
def refselApply (k v : Nat) (e : Engine) : Engine :=
  let off := Reg.SNS_REFSEL + 4 * k
  let old := rd e off
  let ch := (List.range 16).filter (fun j => refOf old j != refOf v j)
  let clk := e.clk
  let e := each ch (fun j => updBank (16 * k + j) (fun b => { b with settling := some clk, settled := false })) (wr off v e)
  if ch = [] then e else note Fd.SNS_CAUSE_REF_UNSETTLED e

/-- REF_SETTLED of a tile (R127). -/
def execRefSettled (t : Nat) (s : State) : Host.Outcome State Fault Refusal :=
  .next (s.run (fun e => if unpowered e then e else updBank t (fun b => { b with settling := none, settled := true }) e))

/-- What a code is multiplied with and divided by to refer it to the bandgap: with another reference a code of full scale stands
for the bandgap over the measured ratio (R128, log 79). -/
def bankScale (e : Engine) (t : Nat) : Nat × Nat := if bankRef e t = 0 then (1, 1) else (16383, (e.bank t).ratio)

/-- The measured ratio, as a code against 16,383, lies more than 3 % from its nominal value: 0.667 for the supply, else 1.0 (R128). -/
def ratioBad (ref code : Nat) : Bool :=
  let nom : Int := if ref = 2 then 667 * 16383 else 1000 * 16383
  decide (100 * ((1000 * code : Int) - nom).natAbs > 3 * nom)

-- powers ------------------------------------------------------------------------------------------------------------------------------

/-- A POWER from num/den units, rounded half up; a value the field cannot hold is free, and one below zero, of a code below the dark
offset, is 0 (DESIGN CHOICE, log 94). -/
def powerOf (num : Int) (den : Nat) (e : Engine) : Engine × Nat :=
  if den = 0 then (useFree e, free e % 67108864)
  else if num ≤ 0 then (e, 0)
  else
    let v := (rhu num den).toNat
    if v < 67108864 then (e, v) else (useFree e, free e % 67108864)

/-- POWER of a tap code, `s` the scale of its bank (R128, R130). -/
def tapPower (s : Nat × Nat) (cal : List Word) (low : Bool) (code : Nat) (e : Engine) : Engine × Nat :=
  let gain := bits (wordAt cal 1) 31 16
  if low then
    let d : Int := 16 * code * s.1 - sext 16 (bits (wordAt cal 0) 15 0) * s.2
    powerOf (d * 16384 * 1024000 * 100 * 16) (16 * s.2 * gain * 51808 * bits (wordAt cal 1) 15 0) e
  else
    let d : Int := 16 * code * s.1 - sext 16 (bits (wordAt cal 0) 31 16) * s.2
    powerOf (d * 16384 * 1024000 * 100) (16 * s.2 * gain * 51808) e

/-- Field of the balance gain of guard `d` (R134). -/
def balOf (cal : List Word) (d : Nat) : Nat :=
  if d = 0 then bits (wordAt cal 2) 31 16 else if d = 1 then bits (wordAt cal 2) 15 0
  else if d = 2 then bits (wordAt cal 3) 31 16 else bits (wordAt cal 3) 15 0

/-- POWER of a guard code: full scale 10^−0.5 mW in range H and 10^−3.5 mW in range L, less the dark offset in range L (in range H
there is none to take off, log 76) and times the balance gain (R118, R130, R132). The square root of 1/10 is rounded exactly. -/
def guardValue (s : Nat × Nat) (cal : List Word) (d : Nat) (low : Bool) (code : Nat) : Nat :=
  let ofs : Int := if low then sext 8 (bits (wordAt cal 4) (31 - 8 * d) (24 - 8 * d)) else 0
  let n : Int := (code : Int) * s.1 - ofs * s.2
  let num := n.toNat * balOf cal d * 1024000
  let den := 16383 * 16384 * s.2 * (if low then 1000 else 1)
  if n ≤ 0 then 0 else (Nat.sqrt (4 * num * num / (10 * den * den)) + 1) / 2

/-- The power of a guard sensor; beyond the word's range, or with a ratio of 0, the spec states no value (log 3). -/
def guardPower (s : Nat × Nat) (cal : List Word) (d : Nat) (low : Bool) (code : Nat) (e : Engine) : Engine × Nat :=
  let v := guardValue s cal d low code
  let ok := decide (v < 67108864) && s.2 != 0
  (whenE (!ok) useFree e, if ok then v else free e % 67108864)

-- conversions -------------------------------------------------------------------------------------------------------------------------

/-- What a conversion gives: the code, with its tags (R125). -/
structure Tags where
  code : Nat
  ovr : Bool
  under : Bool
  sus : Bool
  low : Bool
deriving Repr

/-- One conversion of sensor `d` of aperture `a` on converter `k` in range `low`: the flags, counters and range it leaves, and the
converter's suspect flag, which it takes up (R119, R125). The range that follows is taken from the range of this conversion, a forced
one too (DESIGN CHOICE, log 93). -/
def convertOn (k a d : Nat) (low : Bool) (c : Conv) (e : Engine) : Engine × Tags :=
  let t := tileOf a
  let ovr := decide (c.raw > 0x3FFF)
  let under := decide (c.raw < 0)
  let code := if ovr then 0x3FFF else c.raw.toNat
  let sus := (suspects e t).getD k false || !bankSettled e t
  let e := setSuspect t k ovr e
  let e := if ovr then note Fd.SNS_CAUSE_OVR (inc Reg.SNS_OVR_CNT (setSticky a d e)) else e
  let e := if under then setSticky a (5 + d) e else e
  (updSens a (fun s => { s with range := s.range.set d (nextRange low ovr code) }) e,
   { code := code, ovr := ovr, under := under, sus := sus, low := low })

/-- The range that a CAL_SENSOR step in progress forces on a sensor of `a` (R130, R132): DARK takes the first half of its frames in
range H and the second in range L, KNOWN all in range H, BALANCE the guards in one range. With an odd FRAMES the frame left over is
of range H (DESIGN CHOICE, log 96). -/
def forcedRange (e : Engine) (a d : Nat) : Option Bool :=
  match e.sns.job with
  | none => none
  | some j =>
    let m := j.accOf a
    if a < j.p.first ∨ j.p.first + j.p.count ≤ a ∨ calFrames j.p ≤ m.frames then none
    else if j.p.step = 0 then some (!decide (2 * m.frames < calFrames j.p))
    else if j.p.step = 1 then some false
    else if d = 4 then none
    else some (if m.frames = 0 then (List.range 4).all (rangeOf e a) else m.low)

/-- One scheduled conversion in range `low`: the sample word of R124 and the code behind it. -/
def convert (a d : Nat) (low : Bool) (c : Conv) (missing : Bool) (e : Engine) : Engine × Nat × Nat :=
  let t := tileOf a
  let cal := calOf e a
  let s := bankScale e t
  let r := convertOn (converterOf (slotOf a) d) a d low c e
  let g := r.2
  let e := if g.sus then inc Reg.SNS_SUSPECT_CNT r.1 else r.1
  let p := if missing || g.ovr || g.under then (e, 0) else if d = 4 then tapPower s cal g.low g.code e else guardPower s cal d g.low g.code e
  (p.1, ofB missing <<< 31 + ofB g.ovr <<< 30 + ofB g.under <<< 29 + ofB g.sus <<< 28 + ofB g.low <<< 27 + p.2, g.code)

/-- The five conversions of an aperture, in the order of its sensors: their words and codes. -/
def convertAll (a : Nat) (cs : List Conv) (missing : Bool) (e : Engine) : Engine × List (Nat × Nat) :=
  (List.range 5).foldl (fun x d =>
    let r := convert a d ((forcedRange e a d).getD (rangeOf e a d)) (cs.getD d { raw := 0 }) missing x.1
    (r.1, x.2 ++ [r.2])) (e, [])

/-- A word is a valid sample for the loops (R126). -/
def sampleOk (w : Nat) : Bool := !bit w 31 && !bit w 30 && !bit w 28

-- overpower ---------------------------------------------------------------------------------------------------------------------------

/-- The run count of a port's tap (R403). -/
def overpower (p w : Nat) (e : Engine) : Engine :=
  let n := Tbl.get (fun _ => 0) e.flt.runs p
  if !bit w 31 ∧ bit w 30 ∧ !bit w 27 then
    let e := { e with flt := { e.flt with runs := Tbl.put (fun _ => 0) e.flt.runs p (n + 1) } }
    if n + 1 = 200 then
      let e := raiseD Fd.FLT_CAUSE_OVERPOWER 0 p e
      if ordinary p then wantPark [p] e else e
    else e
  else if !bit w 31 ∧ !bit w 30 ∧ !bit w 28 then { e with flt := { e.flt with runs := Tbl.put (fun _ => 0) e.flt.runs p 0 } }
  else e

/-- A port's tap sample: its run count and, where it is valid, the powers behind RX_PWR (R186, R403). -/
def portTap (p w : Nat) (e : Engine) : Engine :=
  if p ≥ 4096 then e
  else
    let e := overpower p w e
    if sampleOk w then updPort p (fun x => { x with taps := (((bits w 25 0 : Nat) : Int) :: x.taps).take 4 }) e else e

-- a calibration step's samples ----------------------------------------------------------------------------------------------------------

/-- A sum with its count after one more code, in 1/16 code referred to the bandgap (R128, R130). -/
def addCode (s : Nat × Nat) (code : Nat) (x : Nat × Nat) : Nat × Nat := (x.1 + 16 * code * s.1 / max 1 s.2, x.2 + 1)

/-- A valid sample of the step is added to its sum. -/
def CalAcc.addSample (s : Nat × Nat) (words : List (Nat × Nat)) (m : CalAcc) (d : Nat) : CalAcc :=
  let x := words.getD d (0, 0)
  if !sampleOk x.1 then { m with bad := m.bad + 1 }
  else if d < 4 then { m with guards := m.guards.set d (addCode s x.2 (m.guards.getD d (0, 0))) }
  else if bit x.1 27 then { m with tapL := addCode s x.2 m.tapL }
  else { m with tapH := addCode s x.2 m.tapH }

/-- The loop of the beam that arrives at `a` is locked (R132). -/
def arrivingLocked (e : Engine) (a : Nat) : Bool :=
  let q := (e.aper a).actTarget
  decide (aimNow e q = .to a) && (e.loopOf q).locked

/-- One more frame of a step in progress is converted for `a` (R130-R132). -/
def calFrame (a : Nat) (low : Bool) (words : List (Nat × Nat)) (e : Engine) : Engine :=
  match e.sns.job with
  | none => e
  | some j =>
    let m := j.accOf a
    if a < j.p.first ∨ j.p.first + j.p.count ≤ a ∨ calFrames j.p ≤ m.frames ∨ (e.sens a).frame < j.at_ then e
    else
      let s := bankScale e (tileOf a)
      let n := (calSamples j.p m.frames).foldl (CalAcc.addSample s words) m
      let n := { n with frames := m.frames + 1, low := if m.frames = 0 then low else m.low,
                        parked := m.parked && portState e (e.pubPair a) a == 2, locked := m.locked && arrivingLocked e a }
      { e with sns := { e.sns with job := some { j with acc := Tbl.ins j.acc a n } } }

-- the housekeeping window -----------------------------------------------------------------------------------------------------------------

/-- The opening of a converter's housekeeping window after the frame start: it ends its last scheduled conversion then (R120, R122). -/
def windowAfter (t c : Nat) : Nat := if c ≤ 4 ∧ (tileAps t).length = 17 then 2750 else 2500

/-- The first window slot of a converter that serves a request: converters 0..3 make a fixed conversion in the first (R122). -/
def requestAfter (t c : Nat) : Nat := windowAfter t c + (if c ≤ 3 then 250 else 0)

/-- A clean fixed conversion of converter `c`: none where the converter is suspect, since it is discarded (R125). -/
def fixedCode (e : Engine) (t c : Nat) (cs : List Conv) : Option Int :=
  if (suspects e t).getD c false then none else (cs[c]?).map (·.raw)

/-- A raw value as a code. -/
def rawCode (raw : Int) : Nat := min raw.toNat 0x3FFF

/-- The bank's housekeeping check (R128). -/
def hkCheck (t : Nat) (fail : Bool) (e : Engine) : Engine :=
  if fail ∧ !(e.bank t).hkFail then note Fd.SNS_CAUSE_HK_FAIL (updBank t (fun b => { b with hkFail := true }) e)
  else if !fail then updBank t (fun b => { b with hkFail := false }) e else e

/-- An input of a fixed conversion above full scale: counted, and the converter's next conversion is suspect (R125). -/
def fixedOver (t c : Nat) (cs : List Conv) (e : Engine) : Engine :=
  let ovr := decide ((cs.getD c { raw := 0 }).raw > 0x3FFF)
  setSuspect t c ovr (whenE ovr (fun e => note Fd.SNS_CAUSE_OVR (inc Reg.SNS_OVR_CNT e)) e)

/-- The four fixed conversions of a window: tile temperature, bandgap, supply and ground; the check needs the last ratio and this
window's ground, or those it has (R122, R125, R128). -/
def fixedConversions (t f : Nat) (cs : List Conv) (e : Engine) : Engine :=
  let e := waitClk (f + windowAfter t 0 + 250) e
  let x (c : Nat) : Option Int := fixedCode e t c cs
  let ref := bankRef e t
  let e1 := updBank t (fun b => { b with
    hkFrame := f, temp := (x 0).orElse (fun _ => b.temp), ratio := ((x 1).map rawCode).getD b.ratio,
    supply := ((x 2).map rawCode).getD b.supply, ground := ((x 3).map rawCode).getD b.ground }) e
  let e2 := each (List.range 4) (fun c => fixedOver t c cs) e1
  let b := e2.bank t
  hkCheck t (ratioBad ref b.ratio || decide (16 < b.ground)) e2

/-- The clk at which a request made at `at_` starts on converter `c` in the window of the frame begun at `f`: at the opening, or at the
end of the conversion in progress (R129). -/
def shotAt (e : Engine) (t c f at_ : Nat) : Nat :=
  let s := max (f + requestAfter t c) (max at_ ((e.bank t).free.getD c 0))
  f + (s - f + 249) / 250 * 250

/-- The start of a request on converter `c`: in the frame before, if it had begun there when this one's edge came, since a conversion
in progress completes first (R123, R129). -/
def shotStart (e : Engine) (t c f at_ : Nat) : Nat :=
  match (e.tile t).framePrev with
  | some g => if shotAt e t c g at_ < f then shotAt e t c g at_ else shotAt e t c f at_
  | none => shotAt e t c f at_

/-- The host's request is served: SNS_OS_STAT but REFUSED, which tells of the last GO, and GO clears (R129). -/
def hostResult (g : Tags) (ns : Nat) (e : Engine) : Engine :=
  let refused := rdF e Fd.SNS_OS_STAT_REFUSED
  wrF Fd.SNS_OS_CTL_GO 0 (wr Reg.SNS_OS_NS ns
    (wr Reg.SNS_OS_STAT (refused <<< 29 + ofB true <<< 31 + ofB g.ovr <<< 28 + ofB g.under <<< 27 + ofB g.sus <<< 26 + ofB g.low <<< 25 + g.code) e))

/-- Converter `k` serves the oldest request of the tile's queue (R125, R129); one from firmware shows in no register (log 80). A result
with SUSPECT is no sample and does not count in SNS_SUSPECT_CNT (DESIGN CHOICE, log 95). -/
def serveShot (t k : Nat) (c : Conv) (e : Engine) : Engine :=
  match (e.bank t).shots, (e.tile t).frameAt with
  | q :: l, some f =>
    if 8 ≤ k then e
    else
      let at_ := shotStart e t k f q.at_
      let e := waitClk at_ e
      let ns := dNsF e
      let low := if q.force then q.range else rangeOf e (q.sensor / 5) (q.sensor % 5)
      let r := convertOn k (q.sensor / 5) (q.sensor % 5) low c (waitClk (at_ + 250) e)
      let e := updBank t (fun b => { b with shots := l, free := b.free.set k (at_ + 250) }) (inc Reg.SNS_OS_CNT r.1)
      if q.host then hostResult r.2 ns e else e
  | _, _ => e

/-- A write of SNS_OS_CTL; firmware's requests join the same queue of eight (R129, log 80). A GO that follows a completion in its own
cycle finds BUSY clear, and starts. -/
def oneShotGo (host : Bool) (v : Nat) (e : Engine) : Engine :=
  let busy := host && on e Fd.SNS_OS_STAT_BUSY
  let t := tileOf (bits v 14 0 / 5)
  let shot : Shot := { sensor := bits v 14 0, range := bit v 29, force := bit v 30, host := host, at_ := e.clk }
  let keep := rdF e Fd.SNS_OS_CTL_GO
  let e := if host then wr Reg.SNS_OS_CTL (setBits (v % 4294967296) 31 31 keep) e else e
  if !bit v 31 then e
  else if busy ∨ bits v 14 0 > 20499 ∨ 8 ≤ (e.bank t).shots.length then
    note Fd.SNS_CAUSE_OS_REFUSED (whenE host (wrF Fd.SNS_OS_STAT_REFUSED 1) e)
  else
    let e := updBank t (fun b => { b with shots := b.shots ++ [shot] }) e
    whenE host (fun e => wrF Fd.SNS_OS_STAT_BUSY 1 (wrF Fd.SNS_OS_STAT_DONE 0 (wrF Fd.SNS_OS_STAT_REFUSED 0 (wrF Fd.SNS_OS_CTL_GO 1 e)))) e

-- CONVERSION_DONE ---------------------------------------------------------------------------------------------------------------------

/-- The converters of a tile work: initialised, powered and in no island reset; with the start of its frame. -/
def framing (e : Engine) (t : Nat) : Option Nat := if !tilesUp e ∨ (e.tile t).islandRst then none else (e.tile t).frameAt

/-- The five conversions of an aperture come once in a frame and in the order of their lane (R120). -/
def inTurn (e : Engine) (a f : Nat) : Bool :=
  let t := tileOf a
  (e.sens a).frame != f && (laneAfter (slotOf a)).all (fun s => decide ((tileAps t).length ≤ s) || (e.sens (apOf t s)).frame != f)

/-- The samples of an aperture are published at their completion instant (R119-R125, R403). -/
def publishSamples (a f : Nat) (cs : List Conv) (e : Engine) : Engine :=
  let t := tileOf a
  let done := f + completeAfter (slotOf a)
  let e := waitClk done e
  let low := (forcedRange e a 0).getD false
  let r := convertAll a cs ((e.tile t).lost || (e.bank t).hkFail) e
  let e := updSens a (fun s => { s with words := r.2.map (·.1), frame := f, pubAt := done }) r.1
  portTap a ((r.2.getD 4 (0, 0)).1) (calFrame a low r.2 e)

/-- A window's turn of tile `t`: its fixed conversions, once in a frame and before any request, and a request served on `converter`. -/
def windowNow (t f : Nat) (cs : List Conv) (converter : Nat) (os : Option Conv) (e : Engine) : Engine :=
  let e := if (cs = [] ∧ os.isNone) ∨ (e.bank t).hkFrame = f then e else fixedConversions t f cs e
  match os with
  | some c => serveShot t converter c e
  | none => e

def conversionNow (a : Nat) (cs : List Conv) (converter : Nat) (os : Option Conv) (e : Engine) : Engine :=
  if a < 4100 then
    match framing e (tileOf a) with
    | some f => if inTurn e a f then publishSamples a f cs e else e
    | none => e
  else if a < 4356 then
    match framing e (a - 4100) with
    | some f => windowNow (a - 4100) f cs converter os e
    | none => e
  else e

/-- CONVERSION_DONE: an aperture's five samples are published; or, for index 4100 + t, the housekeeping window of tile t makes its
fixed conversions and serves a one-shot (R119-R129, R403, log 80). -/
def execConversionDone (a : Nat) (cs : List Conv) (converter : Nat) (os : Option Conv) (s : State) :
    Host.Outcome State Fault Refusal := .next (s.run (conversionNow a cs converter os))

-- the condition fields ----------------------------------------------------------------------------------------------------------------

/-- The mean tap power at a port is below DARK_THR; a port with no valid frame does not meet the test (R176). -/
def tapDark (e : Engine) (p : Nat) : Bool :=
  let l := (e.port p).taps
  l != [] && belowDbm (l.foldl (· + ·) 0).toNat l.length (sext 16 (rdF e Fd.XACT_THR_DARK_THR))

/-- Rows 4 to 7 of R176 for a port in a circuit with `q`. -/
def circuitState (e : Engine) (p q : Nat) : Nat :=
  let a := e.loopOf p
  let b := e.loopOf q
  let ever := (e.port p).litSeen && (e.port q).litSeen
  if !ever && !frozenAp e p && !frozenAp e q && !a.timedOut && !b.timedOut then 4
  else if a.st == .holding || b.st == .holding || tapDark e p || tapDark e q then 7
  else if !a.locked || !b.locked || decide (a.st ∈ [.disabled, .frozen]) || decide (b.st ∈ [.disabled, .frozen]) then 6
  else 5

/-- STATE of a port once its condition row is `s`. -/
def stateWith (e : Engine) (p s : Nat) : Nat :=
  let n := portState e (e.pubPair p) p
  if 4 ≤ n ∧ n ≤ 7 then s else n

/-- Refresh the condition fields of one port; an entry into DIM or DARK is one of its STATE (R174, R176, R186). -/
def refreshPort (p : Nat) (e : Engine) : Engine :=
  let q := (e.pubPair p).partner
  let o := e.port p
  let taps := o.taps
  let rx := if taps = [] then 0x8000 else trunc 16 (dbm100 (taps.foldl (· + ·) 0).toNat taps.length)
  if q ≥ 4096 then updPort p (fun x => { x with rx := rx, state := 0, shown := stateWith e p 0 }) e
  else
    let s := circuitState e p q
    let first := decide (p < q) || (e.pubPair q).partner != p
    let n := stateWith e p s
    let dim := n == 6 && o.shown != 6
    let dark := n == 7 && o.shown != 7
    let e := updPort p (fun x => { x with
      rx := rx, state := s, shown := n, lockFrames := if s = 5 ∧ x.lockFrames = 0 then min x.frames 0xFFFF else x.lockFrames,
      dimCnt := min (x.dimCnt + ofB dim) 0xFFFF, darkCnt := min (x.darkCnt + ofB dark) 0xFFFF }) e
    let e := if dim ∧ first then note Fd.XACT_CAUSE_DIM e else e
    if dark ∧ first then note Fd.XACT_CAUSE_DARK e else e

/-- The port census (XACT_PORTS0, XACT_PORTS1) and the live bits. -/
def census (e : Engine) : Engine :=
  let st := e.xact.ports.map (fun x => portState e (e.pubPair x.1) x.1)
  let n (k : Nat) : Nat := (st.filter (· == k)).length
  let e := wr Reg.XACT_PORTS0 (n 5 * 65536 + n 4) (wr Reg.XACT_PORTS1 (n 6 * 65536 + n 7) e)
  setLive Fd.XACT_CAUSE_LIVE_DARK (n 7 != 0) (setLive Fd.XACT_CAUSE_LIVE_DIM (n 6 != 0) e)

def conditionNow (e : Engine) : Engine :=
  if !tilesUp e ∨ e.sns.frameNo = 0 ∨ e.xact.lastRefresh = e.sns.frameNo then e
  else
    let e := waitD (e.sns.frameD + 4500) e
    let e := { e with xact := { e.xact with lastRefresh := e.sns.frameNo } }
    if pinnedNow e then mapDefer e
    else
      let e := if e.xact.unpub then publish e else e
      let ports := dedup ((e.xact.pub.map (·.1)).filter (fun p => (e.pubPair p).partner < 4096) ++ e.xact.ports.map (·.1))
      census (each ports refreshPort e)

/-- CONDITION_REFRESH: once per frame, at f+4.50 µs (R174, R176). -/
def execConditionRefresh (s : State) : Host.Outcome State Fault Refusal := .next (s.run conditionNow)

end Sys2Proof.Machine
end

