-- ==== Sys2Proof/Machine/Sine.lean ====
section
/-! DEFINITION. Sines by exact integer arithmetic, in units of 2⁻⁹⁶, for the damsel's table S and the CHIRP (R143, R154). -/

namespace Sys2Proof.Machine

/-- π in units of 2⁻⁹⁶. -/
def piFix : Int := 248902613312231085230521944622

/-- The terms of the series from number `k` on; `x2` is the square of the angle. -/
def sineTerms (x2 : Int) : Nat → Nat → Int → Int → Int
  | 0, _, _, acc => acc
  | n + 1, k, term, acc =>
    let t := -(term * x2 / (2 ^ 96 : Nat)) / ((2 * k * (2 * k + 1) : Nat) : Int)
    sineTerms x2 n (k + 1) t (acc + t)

/-- The sine of an angle of 0..π/2. -/
def sineOf (x : Int) : Int := sineTerms (x * x / (2 ^ 96 : Nat)) 16 1 x x

/-- sin(2π·num/den). -/
def sineTurn (num den : Nat) : Int :=
  let a := 4 * (num % den)
  let r := a % den
  let at_ (n : Nat) : Int := sineOf (piFix * n / (2 * den : Nat))
  if a / den = 0 then at_ r else if a / den = 1 then at_ (den - r) else if a / den = 2 then -at_ r else -at_ (den - r)

/-- S[i] of R143: 32,767·sin(2π·i/4,096), rounded. -/
def damselS (i : Nat) : Int := rnd (32767 * sineTurn i 4096) 96

end Sys2Proof.Machine
end

