-- ==== Sys2Proof/Machine/Loops.lean ====
section
/-! DEFINITION. The pointing loops: evaluation, damsel, fantail, lock, injection, capture and configuration (R135-R159). -/

namespace Sys2Proof.Machine

-- what an evaluation sees ---------------------------------------------------------------------------------------------------------

/-- A loop's view of one frame: the centroids, the tap power where it is valid, and the tap word that a capture records. -/
structure Sight where
  c : Option (Int × Int)
  tap : Option Nat
  word : Nat
deriving Repr

/-- POWER of a sample word. -/
def powerBits (w : Nat) : Nat := bits w 25 0

/-- The centroids of R138; with a guard sum of zero and MIN_SUM 0 the quotients have no value. -/
def centroids (e : Engine) (a : Nat) (l : List Nat) : Engine × Option (Int × Int) :=
  let g (k : Nat) : Int := (powerBits (l.getD k 0) : Int)
  let sum := g 0 + g 1 + g 2 + g 3
  if !(l.take 4).all sampleOk ∨ sum < cfgBits e a 10 31 16 then (e, none)
  else if sum = 0 then (useFree (useFree e), some (sext 32 (free e), sext 32 (free (useFree e))))
  else (e, some (rhu (65536 * (g 1 - g 3)) sum, rhu (65536 * (g 0 - g 2)) sum))

/-- The instant of the partner's sample: what the loop of `a` senses (R121, R135). -/
def sampleAt (e : Engine) (a : Nat) : Nat := let b := (e.aper a).actTarget
  (e.sens b).frame + sampleAfter (slotOf b)

/-- Within a visit of a schedule the sample was taken before the visit's sluice plus 200 ns (R196). -/
def beforeVisit (e : Engine) (a : Nat) : Bool :=
  e.sys.mode == .schedule && e.sch.visit.any (fun x => x.1 == a) && decide (sampleAt e a < (e.aper a).lastSluice + 200)

/-- The tile distance over which the loop of `a` gets its samples (R137). -/
def hops (e : Engine) (a : Nat) : Nat :=
  let s := tileOf (e.aper a).actTarget
  let t := tileOf a
  max (apart (s / 16) (t / 16)) (apart (s % 16) (t % 16))

/-- The arrival of the partner's last published words at the loop of `a` (R137). -/
def arrivalAt (e : Engine) (a : Nat) : Nat := (e.sens (e.aper a).actTarget).pubAt + 500 + 50 * hops e a

/-- The start of the frame of the loop's own tile (R136). -/
def ownFrame (e : Engine) (a : Nat) : Nat := ((e.tile (tileOf a)).frameAt).getD 0

/-- The partner's sample words of this frame have come by f+4.50 µs and the loop's own tile is not free-running; the exchange hub delivers
none while it is in reset (R136, R196, R348). -/
def samplesHere (e : Engine) (a : Nat) (arrived : Bool) : Bool :=
  let s := e.sens (e.aper a).actTarget
  arrived && !islandDown e 261 && !beforeVisit e a && !(e.tile (tileOf a)).lost && s.frame == ownFrame e a && s.words.length == 5 &&
    decide (arrivalAt e a ≤ ownFrame e a + 4500)

/-- The pass whose dither was in place when the sample was taken: the last one finished before it since the sluice (R145). -/
def inPlace (e : Engine) (a : Nat) : Option Pass := (e.aper a).passes.find? (fun p => decide (p.done < sampleAt e a))

/-- What the loop of `a` sees (R126, R136, R138). -/
def sight (e : Engine) (a : Nat) (arrived : Bool) : Engine × Sight :=
  if !samplesHere e a arrived then (e, { c := none, tap := none, word := 2147483648 })
  else
    let l := (e.sens (e.aper a).actTarget).words
    let w := l.getD 4 0
    let r := centroids e a l
    (r.1, { c := r.2, tap := if sampleOk w then some (powerBits w) else none, word := w })

-- the damsel ------------------------------------------------------------------------------------------------------------------------

/-- The leading end of a circuit (R143). -/
def leading (e : Engine) (a : Nat) : Bool := decide (a < (e.aper a).actTarget)

/-- T of R143 modulo 80,000; a free-running frame has no SYNC_IN edge, and its phase is open. -/
def dithPhase (e : Engine) (a : Nat) : Engine × Nat :=
  if (e.tile (tileOf a)).lost then (useFree e, free e % 80000) else (e, (e.tile (tileOf a)).frameTs % 80000)

/-- The index of S for frequency index `k` (R143). -/
def dithIdxOf (lead : Bool) (ph k : Nat) : Nat := (4096 * (k * ph) / 80000 + (if lead then 0 else 1024)) % 4096

/-- The dither of an index (R143). -/
def dithOf (e : Engine) (a idx : Nat) : Int := rhu (cfgBits e a 7 31 16 * damselS idx) 32768

/-- The first frame start of tile `t` after t+0 of the HOLD entry that runs (R113). -/
def holdFrameOf (e : Engine) (t : Nat) : Option Nat :=
  match e.rfs.holdEntry with
  | some s => ((e.tile t).holdFrame).filter (fun h => decide (s ≤ h))
  | none => none

/-- The frame is the last one before HOLD stops the loops of its tile (R113). -/
def lastFrame (e : Engine) (a : Nat) : Bool :=
  e.sys.mode == .hold && (match holdFrameOf e (tileOf a) with | some h => decide (h ≤ ownFrame e a) | none => false)

/-- DITHER_EN in both places, and not in the last frame before HOLD (R113, R143). -/
def dithEn (e : Engine) (a : Nat) : Bool :=
  on e Fd.LOOP_CTL_DITHER_EN && cfgBits e a 3 1 1 == 1 && !lastFrame e a

/-- The indices of both axes in a frame of phase `ph`: LOOP_DAMSEL as of the frame's start (R143). -/
def dithIdxs (e : Engine) (a ph : Nat) : Nat × Nat :=
  let d := (e.tile (tileOf a)).damsel
  (dithIdxOf (leading e a) ph (bits d 2 0), dithIdxOf (leading e a) ph (bits d 6 4))

-- the fantail -----------------------------------------------------------------------------------------------------------------------

/-- The divisor of the fantail. -/
def divOf (e : Engine) (a : Nat) : Nat := 2 ^ cfgBits e a 6 2 0

/-- The window W (R146). -/
def windowOf (e : Engine) (a : Nat) : Nat := max 16 (divOf e a)

/-- A set-point moved by the modulation depth of its axis (R146). -/
def moveSp (e : Engine) (a : Nat) (sp dx sum : Int) : Int :=
  let g := rhu (4 * dx) sum
  clampAbs (cfgBits e a 9 31 16)
    (sp + clampAbs (cfgBits e a 9 15 0) (rnd (cfgBits e a 6 31 16 * g) (cfgBits e a 6 12 8)))

/-- The fantail update is skipped (R147). -/
def fantailSkips (e : Engine) (a n : Nat) (sum : Int) : Bool :=
  decide (4 * n < 3 * windowOf e a) || sum == 0 || !dithEn e a || cfgBits e a 7 31 16 == 0 ||
    !on e Fd.LOOP_CTL_FANTAIL_EN || cfgBits e a 3 2 2 == 0

/-- One update of the set-points (R146, R147). -/
def fantail (a : Nat) (e : Engine) : Engine :=
  let v := (e.loopOf a).window.filterMap id
  let sum := (v.map (·.1)).sum
  if fantailSkips e a v.length sum then note Fd.LOOP_CAUSE_FANTAIL_SKIP (inc Reg.LOOP_FT_SKIP_CNT e)
  else
    let dx := (v.map (fun p => p.1 * p.2.1)).sum
    let dy := (v.map (fun p => p.1 * p.2.2)).sum
    updLoop a (fun l => { l with x := { l.x with sp := moveSp e a l.x.sp dx sum }, y := { l.y with sp := moveSp e a l.y.sp dy sum } }) e

/-- The references of the dither in place (R145); where no pass has finished since the sluice it is zero and has no index, and the
reference is 0 (DESIGN CHOICE, log 98). -/
def references (e : Engine) (a : Nat) : Int × Int :=
  match inPlace e a with
  | some p => (damselS p.idx.1, damselS p.idx.2)
  | none => (0, 0)

/-- The dither in place (R145). -/
def dithInPlace (e : Engine) (a : Nat) : Int × Int := match inPlace e a with | some p => p.dith | none => (0, 0)

/-- An evaluation in TRACK enters the window; every DIV-th runs the fantail (R146). -/
def trackTurn (a : Nat) (v : Sight) (e : Engine) : Engine :=
  let l := e.loopOf a
  if l.st ≠ .track then e
  else
    let p : Option (Int × Int × Int) := match v.c, v.tap with
      | some _, some w => some ((w : Int), references e a)
      | _, _ => none
    let n := windowOf e a
    let e := updLoop a (fun l => { l with window := (p :: l.window).take n, evals := l.evals + 1 }) e
    if (l.evals + 1) % divOf e a = 0 then fantail a e else e

-- injection -------------------------------------------------------------------------------------------------------------------------

/-- The evaluations a waveform lasts; 0: until cancelled (R153, R154). -/
def waveLen (p : LoopInjectP) : Nat := if p.wave = 2 then 1 else p.duration

/-- The state of a PRBS generator after one step: PRBS7 and PRBS15 (R154). -/
def lfsrNext (wave s : Nat) : Nat :=
  if wave = 5 then (s * 2 + (ofB (bit s 6) + ofB (bit s 5)) % 2) % 128
  else (s * 2 + (ofB (bit s 14) + ofB (bit s 13)) % 2) % 32768

/-- The seed: all ones. -/
def lfsrSeed (wave : Nat) : Nat := if wave = 5 then 127 else 32767

/-- AMP·sin θ of a CHIRP at evaluation `n`: θ is the sum of 2π·f/200,000 over the evaluations before, with f swept from F0 to
F1 in units of 10 Hz (R154). A value between two integers may be either. -/
def chirpAt (p : LoopInjectP) (n : Nat) (e : Engine) : Engine × Int :=
  let den := 40000 * p.duration
  let num : Int := 2 * p.duration * n * p.f0 + ((p.f1 : Int) - p.f0) * (n * (n - 1) : Nat)
  let v := p.amp * sineTurn (num % den).toNat den
  let lo := v / (2 ^ 96 : Nat)
  if v % (2 ^ 96 : Nat) = 0 then (e, lo) else (useFree e, lo + ofB (bit (free e) 0))

/-- The waveform's value at the evaluation about to run (R154). -/
def waveAt (i : Inject) (e : Engine) : Engine × Int :=
  let p := i.p
  if p.wave = 1 ∨ p.wave = 2 then (e, p.amp)
  else if p.wave = 3 then (e, if i.step / p.half % 2 = 0 then p.amp else -p.amp)
  else if p.wave = 4 then chirpAt p i.step e
  else (e, if bit i.lfsr (if p.wave = 5 then 6 else 14) then p.amp else -p.amp)

/-- The waveform of `a` begins with this evaluation (R153). -/
def injectStarts (e : Engine) (i : Inject) : Bool :=
  i.running || i.p.start == 0 || (i.p.start == 1 && decide (At.toNs i.p.at_ ≤ (e.tile (tileOf i.ap)).frameD)) ||
    (i.p.start == 2 && decide (i.sluices < (e.loopOf i.ap).sluices))

/-- What an evaluation adds: at the set-points and at the outputs, X and Y (R139, R153). -/
structure Added where
  spX : Int := 0
  spY : Int := 0
  outX : Int := 0
  outY : Int := 0
  on_ : Bool := false
deriving Repr

/-- The injection of `a` at this evaluation; it advances one step (R153, R154). -/
def injectStep (a : Nat) (e : Engine) : Engine × Added :=
  match e.loop.inj.find? (fun i => i.ap == a) with
  | none => (e, {})
  | some i =>
    if !injectStarts e i then (e, {})
    else
      let r := waveAt i e
      let e := r.1
      let ended := decide (i.step + 1 = waveLen i.p)
      let i' := { i with running := true, step := i.step + 1, lfsr := lfsrNext i.p.wave i.lfsr }
      let inj := if ended then e.loop.inj.filter (fun x => x.ap != a) else e.loop.inj.map (fun x => if x.ap = a then i' else x)
      let e := { e with loop := { e.loop with inj := inj } }
      let e := if ended then note Fd.LOOP_CAUSE_INJ_DONE e else e
      let vx := if i.p.axis = 1 then 0 else r.2
      let vy := if i.p.axis = 0 then 0 else r.2
      (e, if i.p.point = 0 then { spX := vx, spY := vy, on_ := true } else { outX := vx, outY := vy, on_ := true })

-- one axis --------------------------------------------------------------------------------------------------------------------------

/-- A 64-bit product (R139); outside the format the value is open. -/
def prod64 (x y : Int) (e : Engine) : Engine × Int :=
  let v := x * y
  if -(2 ^ 63 : Nat) ≤ v ∧ v < (2 ^ 63 : Nat) then (e, v) else (useFree e, sext 64 (free e))

/-- The error of an axis (R139). -/
def axisErr (e : Engine) (a : Nat) (sp inj dIn c : Int) : Int := sp + inj + rnd (cfgBits e a 7 15 0 * dIn) 16 - c

/-- A right shift of the inner loop; ACQ_BOOST reduces those of Kp and Ki in ACQUIRE (R149). -/
def shiftOf (e : Engine) (a hi lo : Nat) (acq : Bool) : Nat :=
  cfgBits e a 3 hi lo - (if acq then cfgBits e a 10 3 0 else 0)

/-- One axis of R139 with error `er`: `k16` is 16·k_record, `dith` the dither of this frame's pass. -/
def axisStep (a : Nat) (acq first : Bool) (x : Axis) (er k16 inj dith : Int) (e : Engine) : Engine × Axis :=
  let ePrev := if first then er else x.ePrev
  let d := if first then 0 else x.d
  let r1 := prod64 (sext 32 (cfgBits e a 0 31 0)) er e
  let r2 := prod64 (sext 32 (cfgBits e a 1 31 0)) er r1.1
  let r3 := prod64 (cfgBits e a 4 31 0) (er - ePrev - d) r2.1
  let dd := d + rnd r3.2 31
  let r4 := prod64 (sext 32 (cfgBits e a 2 31 0)) dd r3.1
  let p := rnd r1.2 (shiftOf e a 28 24 acq)
  let ii := satS 48 (x.i + rnd r2.2 (shiftOf e a 20 16 acq))
  let dt := rnd r4.2 (shiftOf e a 12 8 false)
  let u := p + ii + dt + inj
  let lim := trimLim e a
  if u > lim ∨ u < -lim ∨ clamp24 (k16 + u + dith) ≠ k16 + u + dith then
    (inc Reg.LOOP_SAT_CNT r4.1, { x with out := clampAbs lim (p + x.i + dt + inj), sat := true, ePrev := er, d := dd })
  else (r4.1, { x with i := ii, out := u, sat := false, ePrev := er, d := dd })

-- trim passes -----------------------------------------------------------------------------------------------------------------------

/-- A trim pass with a dither: it begins at the aperture's next row strobe and writes all 80 rows (R137, R139). -/
def trimPass (a : Nat) (dith : Int × Int) (idx : Nat × Nat) (res : Residue) (reads : List FsRead) (e : Engine) : Engine :=
  let l := e.loopOf a
  let b := (e.aper a).base
  runPass a (b.1 + l.x.out + dith.1) (b.2 + l.y.out + dith.2) reads res dith idx e

-- lock ------------------------------------------------------------------------------------------------------------------------------

/-- Lock and loss of lock after a valid sample whose errors are `ex`, `ey` (R149, R150). The fantail's window starts empty at the entry
to TRACK (DESIGN CHOICE, log 97). -/
def lockTurn (a : Nat) (ex ey : Int) (e : Engine) : Engine :=
  let l := e.loopOf a
  let tol := cfgBits e a 8 31 16
  let far := max ex.natAbs ey.natAbs
  if l.st = .acquire then
    let n := if far ≤ tol then l.lockRun + 1 else 0
    if max 1 (cfgBits e a 8 15 8) ≤ n then
      let e := updLoop a (fun l => { l with st := .track, locked := true, evals := 0, window := [], lockRun := 0, overRun := 0 }) e
      let e := if a < 4096 then updPort a (fun p => { p with litSeen := true }) e else e
      inc Reg.LOOP_LOCK_CNT e
    else updLoop a (fun l => { l with lockRun := n }) e
  else if l.st = .track then
    let n := if far > 4 * tol then l.overRun + 1 else 0
    if n ≥ 4 then
      note Fd.LOOP_CAUSE_LOCK_LOST (inc Reg.LOOP_LOCKLOST_CNT (updLoop a Loop.reacquire e))
    else updLoop a (fun l => { l with overRun := n }) e
  else e

-- captures --------------------------------------------------------------------------------------------------------------------------

/-- The trigger of an armed unit (R155). -/
def captureFires (e : Engine) (u : Capture) (added : Added) (er : Option Int) : Bool :=
  match u.p.trigger with
  | 0 => true
  | 1 => decide (At.toNs u.p.at_ ≤ (e.tile (tileOf u.p.aperture)).frameD)
  | 2 => decide (u.sluices < (e.loopOf u.p.aperture).sluices)
  | 3 => added.on_
  | _ => (match er with | some x => decide (x.natAbs > u.p.level) | none => false)

/-- Records a unit takes in all: LENGTH, 0 standing for 4,096. -/
def captureLen (p : CaptureArmP) : Nat := if p.length = 0 then 4096 else p.length

/-- One evaluation recorded by a unit (R155). -/
def captureOne (added : Added) (er : Option Int) (r : CapRec) (n : Nat) (e : Engine) : Engine :=
  let u : Capture := Tbl.get (fun _ => {}) e.loop.caps n
  let put (u : Capture) (e : Engine) : Engine := { e with loop := { e.loop with caps := Tbl.put (fun _ => {}) e.loop.caps n u } }
  let fires := decide (u.st = 1) && captureFires e u added er
  let d := (e.tile (tileOf u.p.aperture)).frameD
  let u := if fires then { u with st := 2, pre := u.recs.length, sec := d / 1000000000, ns := d % 1000000000 } else u
  if u.st = 1 then put { u with recs := (r :: u.recs).take u.p.pre } e
  else if u.st = 2 then
    let u := { u with recs := r :: u.recs }
    if captureLen u.p ≤ u.recs.length then note Fd.LOOP_CAUSE_CAP_DONE (put { u with st := 3 } e) else put u e
  else e

/-- An error as a record holds it; where no error is computed, or it does not fit, the word is open. -/
def recErr (er : Option Int) (e : Engine) : Engine × Int :=
  match er with
  | some x => if satS 32 x = x then (e, x) else (useFree e, sext 32 (free e))
  | none => (useFree e, sext 32 (free e))

/-- Every unit that records this axis of the loop (R155). -/
def captureAxis (a axis word : Nat) (added : Added) (er : Option Int) (e : Engine) : Engine :=
  let units := (List.range 4).filter (fun n =>
    let u : Capture := Tbl.get (fun _ => {}) e.loop.caps n
    (u.st == 1 || u.st == 2) && u.p.aperture == a && u.p.axis == axis)
  if units = [] then e
  else
    let x := if axis = 0 then (e.loopOf a).x else (e.loopOf a).y
    let v := recErr er e
    each units (captureOne added er { e := v.2, out := x.out, i := satS 32 x.i, tap := word }) v.1

-- an evaluation ---------------------------------------------------------------------------------------------------------------------

/-- EN and LOOP_EN (R152). -/
def loopEn (e : Engine) (a : Nat) : Bool := on e Fd.LOOP_CTL_EN && cfgBits e a 3 0 0 == 1

/-- A missing sample (R141). -/
def missingTurn (a : Nat) (dith : Int × Int) (idx : Nat × Nat) (res : Residue) (reads : List FsRead) (e : Engine) : Engine :=
  let l := e.loopOf a
  let e := inc Reg.LOOP_MISS_CNT (updLoop a (fun l => { l with missRun := l.missRun + 1 }) e)
  if l.st = .holding then e
  else if cfgBits e a 8 7 0 ≤ l.missRun + 1 then
    trimPass a (0, 0) idx res reads (note Fd.LOOP_CAUSE_HOLDING (updLoop a (fun l => { l with st := .holding, locked := false }) e))
  else trimPass a dith idx res reads e

/-- A valid sample: both axes, lock, and the trim pass (R139, R140, R149, R150). -/
def validTurn (a : Nat) (c : Int × Int) (added : Added) (dith : Int × Int) (idx : Nat × Nat) (res : Residue) (reads : List FsRead)
    (e : Engine) : Engine × Int × Int :=
  let e := updLoop a (fun l => let l := if l.st = .holding then l.reacquire else l
                               { l with missRun := 0 }) e
  let l := e.loopOf a
  let dp := dithInPlace e a
  let acq := l.st == .acquire
  let base := (e.aper a).base
  let ex := axisErr e a l.x.sp added.spX dp.1 c.1
  let ey := axisErr e a l.y.sp added.spY dp.2 c.2
  let rx := axisStep a acq l.first l.x ex base.1 added.outX dith.1 e
  let ry := axisStep a acq l.first l.y ey base.2 added.outY dith.2 rx.1
  let e := updLoop a (fun l => { l with x := rx.2, y := ry.2, first := false }) ry.1
  let e := if rx.2.sat ∨ ry.2.sat then note Fd.LOOP_CAUSE_SAT e else e
  let e := lockTurn a ex ey e
  let lit := (e.loopOf a).st == .track && !acq
  (trimPass a (if lit then dith else (0, 0)) idx res reads e, ex, ey)

/-- The evaluation of a running loop (R136-R150, R153-R155). -/
def evaluate (a : Nat) (arrived : Bool) (res : Residue) (reads : List FsRead) (e : Engine) : Engine :=
  let sv := sight e a arrived
  let v := sv.2
  let e := trackTurn a v sv.1
  let ph := dithPhase e a
  let e := ph.1
  let idx := dithIdxs e a ph.2
  let dith := if dithEn e a ∧ (e.loopOf a).st = .track then (dithOf e a idx.1, dithOf e a idx.2) else (0, 0)
  let ad := injectStep a e
  let e := ad.1
  let r : Engine × Option (Int × Int) := match v.c with
    | none => (missingTurn a dith idx res reads e, none)
    | some c =>
      let r := validTurn a c ad.2 dith idx res reads e
      (r.1, some r.2)
  let e := captureAxis a 0 v.word ad.2 (r.2.map (·.1)) r.1
  let e := captureAxis a 1 v.word ad.2 (r.2.map (·.2)) e
  let e := if r.2.isSome ∧ e.sch.visit.any (fun x => x.1 == a)
    then { e with sch := { e.sch with visit := Tbl.upd (fun _ => 0) e.sch.visit a (· + 1) } } else e
  let l := e.loopOf a
  let rc := (e.aper a).rec_
  surveySample a (if r.2.isSome then v.tap else none) l.locked (16 * recKx rc + l.x.out) (16 * recKy rc + l.y.out) e

/-- The loops of tile `t` have stopped in HOLD: 6.0 µs after its first frame start, at the latest 16 µs after t+0 (R113). -/
def holdOver (e : Engine) (t : Nat) : Bool :=
  match e.rfs.holdEntry with
  | none => true
  | some s => e.rfs.holdStop || decide (s + 16000 ≤ e.clk) || (holdFrameOf e t).any (fun f => decide (f + 6000 ≤ e.clk))

/-- The entry to HOLD is complete: the loops of every tile have stopped (R113). -/
def holdDone (e : Engine) : Bool :=
  match e.rfs.holdEntry with
  | none => true
  | some s => e.rfs.holdStop || decide (s + 16000 ≤ e.clk) || (List.range 256).all (holdOver e)

/-- The loops run in the lit modes; in HOLD until its entry is complete, each with one last evaluation in the first frame that starts
after it (R113, R135). -/
def loopTurn (e : Engine) (a : Nat) : Bool :=
  loopsRun e || (e.sys.mode == .hold && !holdOver e (tileOf a) &&
    (match holdFrameOf e (tileOf a) with | some h => decide ((e.loopOf a).evalAt < h) | none => true))

/-- The loop of `a` has a frame to evaluate: once per frame of its own tile, from the first edge it waits for on, in a tile that is
neither frozen nor in island reset (R79, R114, R135, R136, R148, R152). -/
def loopDue (e : Engine) (a : Nat) : Bool :=
  let t := e.tile (tileOf a)
  let k := (e.aper a).actKind
  let l := e.loopOf a
  tilesUp e && loopTurn e a && !t.frozen && !t.islandRst && (k == 1 || k == 3) && l.st != .off && l.st != .frozen && !l.waitEdge &&
    (match t.frameAt with | some f => decide (l.evalAt < f) | none => false)

/-- The loop engine starts an evaluation every 20 ns in the order of arrival, each taking 50 ns; a sample that has not come is
missing at f+4.50 µs (R136, R137). -/
def takeTurn (a : Nat) (arrived : Bool) (e : Engine) : Engine :=
  let t := tileOf a
  let f := ownFrame e a
  let start := max (if samplesHere e a arrived then arrivalAt e a else f + 4500) (e.tile t).loopFree
  waitClk (start + 50) (updLoop a (fun l => { l with evalAt := f }) (updTile t (fun x => { x with loopFree := start + 20 }) e))

def loopEvaluationNow (a : Nat) (arrived : Bool) (res : Residue) (reads : List FsRead) (e : Engine) : Engine :=
  if !loopDue e a then e
  else
    let here := samplesHere e a arrived
    let e := takeTurn a arrived e
    if !loopEn e a then
      if (e.loopOf a).st = .disabled then e
      else trimPass a (0, 0) (0, 0) res reads (updLoop a (fun l => { l with st := .disabled }) e)
    else
      evaluate a here res reads (if (e.loopOf a).st = .disabled then updLoop a Loop.reacquire e else e)

/-- LOOP_EVALUATION of an aperture: its loop's turn in the frame (R135-R152). -/
def execLoopEvaluation (a : Nat) (arrived : Bool) (res : Residue) (reads : List FsRead) (s : State) :
    Host.Outcome State Fault Refusal := .next (s.run (loopEvaluationNow a arrived res reads))

-- LOOP_CTL, LOOP_DAMSEL -------------------------------------------------------------------------------------------------------------

/-- A write of LOOP_CTL.EN to 1: DISABLED loops enter ACQUIRE with their state kept. -/
def loopsEnabled (e : Engine) : Engine :=
  allLoops (fun a l => if l.st = .disabled ∧ cfgBits e a 3 0 0 = 1 then l.reacquire else l) e

/-- A write of LOOP_CTL: EN acts on the loops when it becomes 1; a 0 acts at each loop's next evaluation. -/
def loopCtlApply (v : Nat) (e : Engine) : Engine :=
  let was := on e Fd.LOOP_CTL_EN
  let e := wr Reg.LOOP_CTL v e
  if bit v 0 && !was then loopsEnabled e else e

/-- fold of R144. -/
def fold (h : Nat) : Nat := if h % 16 > 8 then 16 - h % 16 else h % 16

/-- LOOP_DAMSEL takes a value (R144). -/
def damselOk (kx ky : Nat) : Bool := kx != 0 && ky != 0 && kx != ky && fold (2 * kx) != ky && fold (2 * ky) != kx

/-- An authorised write of LOOP_DAMSEL (R144). -/
def damselApply (v : Nat) (e : Engine) : Engine :=
  if damselOk (bits v 2 0) (bits v 6 4) then wr Reg.LOOP_DAMSEL v e
  else note Fd.LOOP_CAUSE_DAMSEL_BAD e

-- LOOP_CFG --------------------------------------------------------------------------------------------------------------------------

/-- The modes of the loop commands (R158). -/
def loopModes : List Mode := [.bypass, .calibrate, .service, .schedule]

/-- Word `w` of a LOOPCFG entry is valid: reserved bits zero and every field in range (R8, R159). -/
def cfgWordOk (w v : Nat) : Bool :=
  match w with
  | 3 => v &&& 0xE0E0E0F8 == 0
  | 4 => decide (v ≤ 0x80000000)
  | 5 => decide (v ≤ 8388607)
  | 6 => v &&& 0xE0F8 == 0 && decide (2 ≤ v % 8) && decide (v % 8 ≤ 6)
  | 10 => v &&& 0xFFF0 == 0
  | _ => true

/-- The words a mask selects are valid. -/
def cfgOk (words : Nat) (cfg : List Word) : Bool := (List.range 11).all (fun w => !bit words w || cfgWordOk w (wordAt cfg w))

/-- Write the selected words of one entry. -/
def cfgPut (words : Nat) (cfg : List Word) (a : Nat) (e : Engine) : Engine :=
  let new := (List.range 11).map (fun w => if bit words w then cfg.getD w 0#32 else (cfgOf e a).getD w 0#32)
  { e with loop := { e.loop with cfg := Tbl.put (fun _ => cfgDefault e.sys.bandCB) e.loop.cfg a new } }

/-- RESTART of a running loop (R157). -/
def loopRestart (a : Nat) (e : Engine) : Engine :=
  updLoop a (fun l =>
    if l.st = .acquire ∨ l.st = .track ∨ l.st = .holding then
      let l := l.reacquire
      { l with x := { l.x with out := 0, i := 0, d := 0, sp := 0 }, y := { l.y with out := 0, i := 0, d := 0, sp := 0 } }
    else l) e

/-- LOOP_CFG's effect (R157): WORDS with reserved bits set is BAD_PARAM before COUNT is looked at, the selected words after it (DESIGN
CHOICE, log 99). -/
def loopCfgBody (cx : Cx) (p : LoopCfgP) (e : Engine) : Engine :=
  if p.words ≥ 2048 then complete cx stBadParam 0 e
  else if p.count = 0 then complete cx stEmpty 0 e
  else if p.first + p.count > 4100 ∨ !cfgOk p.words p.cfg then complete cx stBadParam 0 e
  else
    let e := each (span p.first p.count) (cfgPut p.words p.cfg) e
    complete cx stOk 0 (if p.restart then each (span p.first p.count) loopRestart e else e)

/-- loopCfg at execution. -/
def goLoopCfg (cx : Cx) (p : LoopCfgP) : Engine → Engine :=
  runCmd { opcode := 0x0401, modes := loopModes } cx p.rsv noPorts (loopCfgBody cx p)

/-- LOOP_CFG (R157, R158). -/
def execLoopCfg (cx : Cx) (p : LoopCfgP) (s : State) : Host.Outcome State Fault Refusal :=
  .next (s.run (arrive cx (goLoopCfg cx p)))

-- LOOP_INJECT -----------------------------------------------------------------------------------------------------------------------

/-- The parameters of R153. -/
def injectOk (p : LoopInjectP) : Bool :=
  decide (p.aperture < 4100) && decide (p.axis ≤ 2) && decide (p.point ≤ 1) && decide (p.wave ≤ 6) && decide (p.start ≤ 2) &&
    (p.wave != 3 || (decide (1 ≤ p.half) && decide (p.half ≤ 32767))) &&
    (p.wave != 4 || (p.duration != 0 && decide (1 ≤ p.f0) && decide (p.f0 ≤ 9999) && decide (1 ≤ p.f1) && decide (p.f1 ≤ 9999))) &&
    (p.start != 1 || decide (p.at_.ns < 1000000000))

def loopInjectBody (cx : Cx) (p : LoopInjectP) (e : Engine) : Engine :=
  let others := e.loop.inj.filter (fun x => x.ap != p.aperture)
  if !injectOk p then complete cx stBadParam 0 e
  else if p.wave = 0 then complete cx stOk 0 { e with loop := { e.loop with inj := others } }
  else if 16 ≤ others.length then complete cx stPortBusy 0 e
  else
    let i : Inject := { ap := p.aperture, p := p, lfsr := lfsrSeed p.wave, sluices := (e.loopOf p.aperture).sluices }
    complete cx stOk 0 { e with loop := { e.loop with inj := others ++ [i] } }

/-- loopInject at execution. -/
def goLoopInject (cx : Cx) (p : LoopInjectP) : Engine → Engine :=
  runCmd { opcode := 0x0402, modes := loopModes } cx p.rsv noPorts (loopInjectBody cx p)

/-- LOOP_INJECT (R153, R154). -/
def execLoopInject (cx : Cx) (p : LoopInjectP) (s : State) : Host.Outcome State Fault Refusal :=
  .next (s.run (arrive cx (goLoopInject cx p)))

-- captures --------------------------------------------------------------------------------------------------------------------------

/-- The parameters of R155. -/
def captureArmOk (p : CaptureArmP) : Bool :=
  decide (p.unit < 4) && decide (p.axis ≤ 1) && decide (p.aperture < 4100) && decide (p.trigger ≤ 4) && decide (p.length ≤ 4096) &&
    decide (p.pre < captureLen p) && (p.trigger != 1 || decide (p.at_.ns < 1000000000))

def captureArmBody (cx : Cx) (p : CaptureArmP) (e : Engine) : Engine :=
  if !captureArmOk p then complete cx stBadParam 0 e
  else
    let u : Capture := { st := 1, p := p, sluices := (e.loopOf p.aperture).sluices }
    complete cx stOk 0 { e with loop := { e.loop with caps := Tbl.put (fun _ => {}) e.loop.caps p.unit u } }

/-- captureArm at execution. -/
def goCaptureArm (cx : Cx) (p : CaptureArmP) : Engine → Engine :=
  runCmd { opcode := 0x0403, modes := loopModes } cx p.rsv noPorts (captureArmBody cx p)

/-- CAPTURE_ARM (R155). -/
def execCaptureArm (cx : Cx) (p : CaptureArmP) (s : State) : Host.Outcome State Fault Refusal :=
  .next (s.run (arrive cx (goCaptureArm cx p)))

/-- The header CAPTURE_READ writes (R156). -/
def captureHeader (u : Capture) : List Byte :=
  leBytes 8 (u.sec % 281474976710656) ++ leBytes 4 u.ns ++ leBytes 2 u.p.aperture ++ leBytes 2 u.p.axis ++
    leBytes 2 u.recs.length ++ leBytes 14 u.pre

/-- A record (R155). -/
def CapRec.bytes (r : CapRec) : List Byte :=
  leBytes 4 (trunc 32 r.e) ++ leBytes 4 (trunc 32 r.out) ++ leBytes 4 (trunc 32 r.i) ++ leBytes 4 r.tap

def captureReadBody (cx : Cx) (p : CaptureReadP) (e : Engine) : Engine :=
  if p.count = 0 then complete cx stEmpty 0 e
  else
    let u : Capture := Tbl.get (fun _ => {}) e.loop.caps p.unit
    if p.unit > 3 ∨ !iovaOk p.addr 32 (32 + 16 * p.count) then complete cx stBadParam 0 e
    else if u.recs.length < p.first + p.count then complete cx stBadParam 0 e
    else if u.st = 1 ∨ u.st = 2 then complete cx stPortBusy 0 e
    else
      let data := captureHeader u ++ ((u.recs.reverse.drop p.first).take p.count).flatMap CapRec.bytes
      let e := openCmd 9 cx p.addr data.length true (.capture cx p) e
      updStream (e.dma.nextId - 1) (fun s => { s with buf := data }) e

/-- captureRead at execution. -/
def goCaptureRead (cx : Cx) (p : CaptureReadP) : Engine → Engine :=
  runCmd { opcode := 0x0404, hostMem := true, modes := loopModes } cx p.rsv noPorts (captureReadBody cx p)

/-- CAPTURE_READ (R156). -/
def execCaptureRead (cx : Cx) (p : CaptureReadP) (s : State) : Host.Outcome State Fault Refusal :=
  .next (s.run (arrive cx (goCaptureRead cx p)))

end Sys2Proof.Machine
end

