-- ==== Sys2Proof/Machine/Refresh.lean ====
section
/-! DEFINITION. Refresh, the two sequencers, drills and the scrubber of triplicated copies (R94-R110, R313). -/

namespace Sys2Proof.Machine

-- ownership -------------------------------------------------------------------------------------------------------------------------

/-- The refresh sequencers act: the tiles are initialised and powered, and BOOT has given them to A (R105). -/
def refreshOn (e : Engine) : Bool := tilesUp e

/-- Every latch names `b`. -/
def allOwn (e : Engine) (b : Nat) : Bool := (List.range 256).all (fun t => tokenNow e t == b)

/-- The owner of the tiles: B where any latch names it, else A. -/
def ownerIsB (e : Engine) : Bool := ownsTiles e 2

/-- The tiles a sequencer owns. -/
def ownedBy (e : Engine) (b t : Nat) : Bool := tokenNow e t == b

-- refresh ---------------------------------------------------------------------------------------------------------------------------

/-- The row's age at which the owner refreshes it at rank 5, in 1/1024 of P (R100). -/
def earlyAge (e : Engine) : Nat := min (rdF e Fd.RFS_CTL_EARLY) 767

/-- When a row of the active or of the shadow plane was last written. -/
def rowAt (e : Engine) (a r : Nat) (shadow : Bool) : Nat := if shadow then shRowAt e a r else actRowAt e a r

/-- The clk from which no arm and no pass holds the strobes of an aperture (R40). -/
def strobesFree (e : Engine) (a : Nat) : Nat :=
  let x := e.aper a
  let s := if x.arming then x.strobe + 10 * (80 - x.armRow) else x.strobe
  match x.trim with
  | some t => max s t.from_ + 10 * (t.stop - t.row)
  | none => s

/-- The clk at which the owner refreshes a row last written at `at_`: at rank 5 once it reaches EARLY and the strobes are free, at
rank 2 once it reaches the guard (R40, R100, R104). -/
def refreshAt (e : Engine) (a at_ : Nat) : Nat :=
  max e.clk (min (max (ageInstant e (tileOf a) at_ (earlyAge e)) (strobesFree e a)) (ageInstant e (tileOf a) at_ 768))

/-- The pass in progress writes the row before its guard: the refresh is dropped (R104). -/
def trimTakes (e : Engine) (a r : Nat) (shadow : Bool) : Bool :=
  match (e.aper a).trim with
  | some t => !shadow && decide (t.row ≤ r) && decide (r < t.stop) && decide (strobesFree e a ≤ ageInstant e (tileOf a) (rowAt e a r false) 768)
  | none => false

/-- The tile takes refresh of a plane of this aperture: no island reset, gates not closed, an armed plane for a shadow row, and only
zero codes while the brake is asserted (R47, R48, R104). -/
def refreshable (e : Engine) (a : Nat) (shadow : Bool) : Bool :=
  !(e.tile (tileOf a)).islandRst && !(e.tile (tileOf a)).silent &&
    (if shadow then (e.aper a).armed else !e.bkp.braking || (e.aper a).actKind == 0)

/-- No row of the aperture that could be refreshed is older than this one: oldest first (R100). -/
def oldestRow (e : Engine) (a r : Nat) (shadow : Bool) : Bool :=
  let w := rowAt e a r shadow
  (!refreshable e a false || decide (w ≤ actFirst e a)) && (!refreshable e a true || decide (w ≤ shFirst e a))

/-- The counters of a row that the owner writes `ns` after its last write (R100, R101). -/
def rowAged (a ns : Nat) (shadow : Bool) (e : Engine) : Engine :=
  let p := periodNs e (tileOf a)
  let e := peakAge (tileOf a) (ns * 1024 / p) shadow (inc Reg.RFS_ROW_CNT e)
  let e := if 768 * p ≤ ns * 1024 then inc Reg.RFS_GUARD_CNT e else e
  missRows (ofB (decide (p < ns))) e

/-- The row is written at the next strobe: an active row from the frame store, an armed shadow row synthesised again with the same
codes, which leaves the plane as it is (R100, R102). -/
def refreshRow (a r : Nat) (shadow : Bool) (reads : List FsRead) (e : Engine) : Engine :=
  let at_ := rowAt e a r shadow
  let e := waitClk (if shadow then shadowStrobe e a else nextStrobe e a) e
  let e := rowAged a (e.clk - at_) shadow e
  let clk := e.clk
  if shadow then marchEv clk (.strobe a) (updAper a (fun x => { x with shAt := Tbl.ins x.shAt r clk, strobe := clk + 10 }) e)
  else fsEvents (tileOf a) (readsOf a r reads) (writeRow a r (rowOf (e.aper a).store r) e)

/-- A row about to be refreshed during a drill: at ABORT_AGE the drill has ended first, and A has the tiles (R110). -/
def drillRow (a at_ : Nat) (f : Engine → Engine) (e : Engine) : Engine :=
  match e.rfs.drill with
  | none => f e
  | some d =>
    let w := ageInstant e (tileOf a) at_ d.abort
    if drillA e d && decide (w ≤ refreshAt e a at_) then endDrill d 1 (waitClk w e) else f e

def refreshNow (byB : Bool) (a r : Nat) (shadow : Bool) (reads : List FsRead) (e : Engine) : Engine :=
  if !refreshOn e ∨ a ≥ 4100 ∨ r ≥ 80 then e
  else if !ownedBy e (if byB then 2 else 1) (tileOf a) then inc Reg.RFS_NONOWNER_CNT e
  else if !refreshable e a shadow ∨ !oldestRow e a r shadow ∨ trimTakes e a r shadow then e
  else
    let at_ := rowAt e a r shadow
    drillRow a at_ (fun e => refreshRow a r shadow reads (waitClk (refreshAt e a at_) e)) e

/-- REFRESH of a row by a sequencer (R100-R104). -/
def execRefresh (byB : Bool) (a r : Nat) (shadow : Bool) (reads : List FsRead) (s : State) : Host.Outcome State Fault Refusal :=
  .next (s.run (refreshNow byB a r shadow reads))

-- heartbeats ------------------------------------------------------------------------------------------------------------------------

/-- The clk from which a missing heartbeat counts. -/
def hbFrom (e : Engine) (ofB : Bool) : Nat := ((if ofB then e.rfs.hbB else e.rfs.hbA)).getD e.sns.initAt

/-- Heartbeats arrive (R106). -/
def hbArrives (e : Engine) (ofB : Bool) : Bool :=
  match (if ofB then e.rfs.hbB else e.rfs.hbA) with
  | some t => decide (e.clk < t + 8000)
  | none => false

/-- A sequencer's self-check (R106): `clean` is what its parity and sequence checks show now. One that has failed stays failed until
an island reset of its island (R108). -/
def selfCheck (e : Engine) (isB clean : Bool) : Bool :=
  clean && (if isB then selfB e else selfA e) && !(ownerIsB e == isB && someOlder e (ownedBy e (if isB then 2 else 1)) 1280)

/-- A heartbeat arrives: the conditions its absence made end; fail-back counts A's while B owns, from the first after a gap of 8 µs
(R106, R108). -/
def beat (isB : Bool) (e : Engine) : Engine :=
  let clk := e.clk
  let e := if isB then { e with rfs := { e.rfs with hbB := some clk } }
    else
      let g := if ownerIsB e && on e Fd.RFS_CTL_FAILBACK_EN then some (if hbArrives e false then (e.rfs.gapless).getD clk else clk) else none
      { e with rfs := { e.rfs with hbA := some clk, gapless := g } }
  setLive (if isB == ownerIsB e then Fd.RFS_CAUSE_LIVE_HB_LINK else Fd.RFS_CAUSE_LIVE_SILENT) false e

def heartbeatNow (isB clean : Bool) (e : Engine) : Engine :=
  if !refreshOn e then e
  else
    let ok := selfCheck e isB clean
    let was := if isB then selfB e else selfA e
    let e := if ok then e
      else if isB then { e with rfs := { e.rfs with checkB := e.rfs.checkB && e.rfs.rstB } }
      else { e with rfs := { e.rfs with checkA := e.rfs.checkA && e.rfs.rstA, drill := e.rfs.drill.map (fun d => { d with aFailed := true }) } }
    let e := if was && !ok then note Fd.RFS_CAUSE_UNHEALTHY e else e
    if ok then beat isB e else e

/-- HEARTBEAT of a sequencer whose self-check passes (R106). -/
def execHeartbeat (fromB clean : Bool) (s : State) : Host.Outcome State Fault Refusal := .next (s.run (heartbeatNow fromB clean))

def heartbeatMissingNow (ofB : Bool) (e : Engine) : Engine :=
  if !refreshOn e then e
  else
    let owner := ofB == ownerIsB e
    if on e (if owner then Fd.RFS_CAUSE_LIVE_HB_LINK else Fd.RFS_CAUSE_LIVE_SILENT) then e
    else
      let e := waitClk (hbFrom e ofB + 8000) e
      let e := if ofB then e else { e with rfs := { e.rfs with gapless := none } }
      if !owner then setLive Fd.RFS_CAUSE_LIVE_SILENT true (note Fd.RFS_CAUSE_SILENT e)
      else if allYounger e (fun _ => true) 1536 then setLive Fd.RFS_CAUSE_LIVE_HB_LINK true (note Fd.RFS_CAUSE_HB_LINK e)
      else e

/-- HEARTBEAT_MISSING: none of a sequencer's for 8 µs (R106). -/
def execHeartbeatMissing (ofB : Bool) (s : State) : Host.Outcome State Fault Refusal := .next (s.run (heartbeatMissingNow ofB))

-- takeover, fail-back, force -----------------------------------------------------------------------------------------------------------

/-- The forced owner is voided by a takeover (R109). -/
def voidForce (e : Engine) : Engine :=
  if rdF e Fd.RFS_OVR_OWNER = 1 ∨ rdF e Fd.RFS_OVR_OWNER = 2 then note Fd.RFS_CAUSE_FORCE_VOID (wrF Fd.RFS_OVR_OWNER 0 e) else e

def takeoverNow (e : Engine) : Engine :=
  let isB := ownerIsB e
  if !refreshOn e ∨ hbArrives e isB ∨ (if isB then e.rfs.rstA else e.rfs.rstB) then e
  else
    match firstAged e (ownedBy e (if isB then 2 else 1)) 1536 with
    | none => e
    | some w =>
      let e := claimAll (if isB then 1 else 2) (waitClk (w + 1) e)
      let e := setLive Fd.RFS_CAUSE_LIVE_SILENT false (setLive Fd.RFS_CAUSE_LIVE_HB_LINK false e)
      -- rows of the owner past 1.25 P have failed its self-check (R106): only an island reset brings it back (R108)
      let e := if isB then { e with rfs := { e.rfs with gapless := none, checkB := false } }
        else { e with rfs := { e.rfs with gapless := none, checkA := false } }
      voidForce (note Fd.RFS_CAUSE_TAKEOVER (inc Reg.RFS_TAKEOVER_CNT e))

/-- TAKEOVER: the standby claims every tile (R107, R109). -/
def execTakeover (s : State) : Host.Outcome State Fault Refusal := .next (s.run takeoverNow)

/-- The owner is chosen automatically: OWNER is 0b00, or 0b11 acting as it (RFS_OVR). -/
def autoOwner (e : Engine) : Bool := rdF e Fd.RFS_OVR_OWNER == 0 || rdF e Fd.RFS_OVR_OWNER == 3

def failbackNow (e : Engine) : Engine :=
  match e.rfs.gapless with
  | none => e
  | some g =>
    if !refreshOn e ∨ !ownerIsB e ∨ !on e Fd.RFS_CTL_FAILBACK_EN ∨ !autoOwner e ∨ e.rfs.drill.isSome ∨ !selfA e then e
    else
      let e := waitClk (g + 10000000000) e
      let clk := e.clk
      let e := { e with rfs := { e.rfs with gapless := none, hbA := some clk, hbB := e.rfs.hbB.map (fun _ => clk) } }
      note Fd.RFS_CAUSE_FAILBACK (claimAll 1 e)

/-- FAILBACK after 10 s of A's heartbeats without a gap (R108). -/
def execFailback (s : State) : Host.Outcome State Fault Refusal := .next (s.run failbackNow)

/-- An authorised write of RFS_OVR (R99, R109). -/
def ovrApply (v : Nat) (e : Engine) : Engine :=
  let e := wr Reg.RFS_OVR v e
  if v % 4 = 1 then claimAll 1 e else if v % 4 = 2 then claimAll 2 e else e

/-- A write of RFS_CTL (R100, R108). -/
def rfsCtlApply (v : Nat) (e : Engine) : Engine :=
  let e := wr Reg.RFS_CTL (setBits v 17 17 0) e
  let e := if bit v 17 then wr Reg.RFS_PEAK_AGE 0 e else e
  if bit v 16 then e else { e with rfs := { e.rfs with gapless := none } }

-- drills ----------------------------------------------------------------------------------------------------------------------------

/-- A drill may begin (R110). -/
def drillOk (e : Engine) : Bool :=
  allOwn e 1 && hbArrives e false && hbArrives e true && autoOwner e && e.rfs.drill.isNone

def drillBody (cx : Cx) (p : DrillSwapP) (e : Engine) : Engine :=
  if !drillOk e then complete cx stWrongMode 0 e
  else if p.dwellMs = 0 ∨ p.dwellMs > 60000 ∨ ¬(p.abortAge = 0 ∨ (768 ≤ p.abortAge ∧ p.abortAge ≤ 1023)) then complete cx stBadParam 0 e
  else
    let d : Drill := { cx := cx, at_ := e.clk, dwell := p.dwellMs, abort := if p.abortAge = 0 then 896 else p.abortAge }
    claimAll 2 { e with rfs := { e.rfs with drill := some d } }

/-- drillSwap at execution. -/
def goDrillSwap (cx : Cx) (p : DrillSwapP) : Engine → Engine :=
  runCmd { opcode := 0x0701, modes := [.bypass, .calibrate, .service, .schedule] } cx p.rsv noPorts (drillBody cx p)

/-- DRILL_SWAP (R110). -/
def execDrillSwap (cx : Cx) (p : DrillSwapP) (s : State) : Host.Outcome State Fault Refusal :=
  .next (s.run (arrive cx (goDrillSwap cx p)))

def drillEndNow (e : Engine) : Engine :=
  match e.rfs.drill with
  | none => e
  | some d =>
    let due := d.at_ + d.dwell * 1000000
    if !drillA e d then endDrill d 3 (waitClk due e)
    else
      match firstAged e (fun _ => true) d.abort with
      | some w => if w ≤ due then endDrill d 1 (waitClk w e) else endDrill d 0 (waitClk due e)
      | none => endDrill d 0 (waitClk due e)

/-- DRILL_END: DWELL_MS has passed, or a row reaches ABORT_AGE before (R110). -/
def execDrillEnd (s : State) : Host.Outcome State Fault Refusal := .next (s.run drillEndNow)

def drillClaimNow (e : Engine) : Engine :=
  match e.rfs.drill with
  | some d => if e.clk ≤ d.at_ + 10000 ∧ drillA e d then endDrill d 2 (waitClk (d.at_ + 10000) e) else e
  | none => e

/-- DRILL_CLAIM_TIMEOUT: B has not claimed every latch within 10 µs (R110). -/
def execDrillClaimTimeout (s : State) : Host.Outcome State Fault Refusal := .next (s.run drillClaimNow)

-- the scrubber ----------------------------------------------------------------------------------------------------------------------

/-- The triplicated registers with their fields (R313). -/
def tripFields : List (Nat × List (Nat × Nat)) :=
  [(Reg.SYS_ID, [(0, 0)]), (Reg.BKP_SPAN, [(1, 0)]), (Reg.BKP_BRAKE_EN, [(0, 0)]), (Reg.THM_BRAKE_EN, [(0, 0)]),
   (Reg.PWR_BRAKE_EN, [(0, 0)]), (Reg.CMD_DOM_EN0, [(31, 0)]), (Reg.CMD_DOM_EN1, [(31, 0)]), (Reg.CMD_OWN_LOCK, [(0, 0)]),
   (Reg.RFS_OVR, [(4, 4), (3, 2), (1, 0)]), (Reg.NVR_LOCK, [(0, 0)])]

/-- The three copies of a register take these values. -/
def setCopies (off a b c : Nat) (e : Engine) : Engine :=
  { e with regs := Tbl.put resetVal e.regs off (wd a), trip1 := Tbl.put (fun _ => wd a) e.trip1 off (wd b),
           trip2 := Tbl.put (fun _ => wd a) e.trip2 off (wd c) }

/-- How three copies of a field compare: all equal, one differing, or all different. -/
def copiesOf (a b c : Nat) : Nat := if a = b ∧ b = c then 0 else if a ≠ b ∧ b ≠ c ∧ a ≠ c then 2 else 1

/-- A copy of a register after an upset: only its triplicated fields can differ. -/
def upsetCopy (fields : List (Nat × Nat)) (old : Nat) (new : Option Nat) : Nat :=
  match new with
  | none => old
  | some v => fields.foldl (fun w f => setBits w f.1 f.2 (bits v f.1 f.2)) old

/-- An upset of a register and the scrub that follows (R313). -/
def scrubReg (u : Upset) (fields : List (Nat × Nat)) (e : Engine) : Engine :=
  let a := upsetCopy fields (raw e u.offset) u.copy0
  let b := upsetCopy fields (copy1 e u.offset) u.copy1
  let c := upsetCopy fields (copy2 e u.offset) u.copy2
  let e := setCopies u.offset a b c e
  let kinds := fields.map (fun f => copiesOf (bits a f.1 f.2) (bits b f.1 f.2) (bits c f.1 f.2))
  let keep := fields.foldl (fun v f => setBits v f.1 f.2 (majority (bits a f.1 f.2) (bits b f.1 f.2) (bits c f.1 f.2))) (rd e u.offset)
  let e := wr u.offset keep e
  let e := each (kinds.filter (· == 1)) (fun _ e =>
    note Fd.REG_CAUSE_SCRUB (wrF Fd.REG_SCRUB_LAST_OFFSET u.offset (inc Reg.REG_SCRUB_CNT e))) e
  if 2 ∈ kinds then raise Fd.REG_CAUSE_TRIPLE_FAIL e else e

/-- An upset of a token latch (R105): one disagreeing copy is corrected; three different ones are a fault. -/
def scrubToken (t : Nat) (u : Upset) (e : Engine) : Engine :=
  let old := tokenNow e t
  let a := (u.copy0).getD old
  let b := (u.copy1).getD old
  let c := (u.copy2).getD old
  match copiesOf a b c with
  | 0 => updTile t (fun x => { x with token := a % 4, claimTo := 0 }) e
  | 1 => note Fd.RFS_CAUSE_TOKEN_SCRUB (inc Reg.RFS_TOKEN_SCRUB_CNT (updTile t (fun x => { x with token := majority a b c % 4, claimTo := 0 }) e))
  | _ => raise Fd.RFS_CAUSE_TOKEN_FAULT (updTile t (fun x => { x with token := 3, claimTo := 0 }) e)

def scrubOne (u : Upset) (e : Engine) : Engine :=
  if u.offset ≥ 65536 then (if u.offset < 65792 then scrubToken (u.offset - 65536) u e else e)
  else match tripFields.find? (fun x => x.1 == u.offset) with
    | some x => scrubReg u x.2 e
    | none => e

/-- SCRUB: the scrubber's round meets these upsets (R105, R313). -/
def execScrub (l : List Upset) (s : State) : Host.Outcome State Fault Refusal :=
  .next (s.run (fun e => if e.sys.mode = .off then e else each l scrubOne e))

end Sys2Proof.Machine
end

