-- ==== Sys2Proof/Machine/Thermal.lean ====
section
/-! DEFINITION. The thermal governor's measurements: limits, rates, bands, weights and shutdown (R99, R350-R357). -/

namespace Sys2Proof.Machine

/-- The sensor indices of a group: TILE, CTRL, PHOT, CAP, DDR5 (R350). -/
def groupSensors (g : Nat) : List Nat :=
  match g with
  | 0 => span 0 256 | 1 => span 328 12 | 2 => span 256 64 | 3 => span 320 8 | 4 => span 340 4 | _ => []

def inGroup (g i : Nat) : Bool := decide (i ∈ groupSensors g)

/-- The group's working sensors that have been measured, with their readings. -/
def working (e : Engine) (g : Nat) : List (Nat × Int) :=
  e.thm.sensors.filterMap (fun x => if inGroup g x.1 ∧ !x.2.failed ∧ x.2.hist ≠ [] then some (x.1, x.2.reading) else none)

/-- The maximum of a group and its sensor, the lowest index of equal ones (R350). -/
def groupMax (e : Engine) (g : Nat) : Option (Nat × Int) :=
  (working e g).foldl (fun m x => match m with | some y => if x.2 > y.2 then some x else m | none => some x) none

/-- The largest rate of a group (R350). -/
def groupRate (e : Engine) (g : Nat) : Int :=
  (e.thm.sensors.foldl (fun (m : Option Int) x =>
    if inGroup g x.1 ∧ !x.2.failed ∧ x.2.hist ≠ [] then (match m with | some y => some (max y x.2.rate) | none => some x.2.rate)
    else m) none).getD 0

/-- The warning limit of a group in 1/16 °C (R353, THM_WARN0, THM_WARN1). -/
def warnLimit (e : Engine) (g : Nat) : Int :=
  16 * (match g with
    | 0 => min (rdF e Fd.THM_WARN0_TILE) 109
    | 1 => min (rdF e Fd.THM_WARN0_CTRL) 114
    | 2 => rdF e Fd.THM_WARN0_PHOT
    | 3 => rdF e Fd.THM_WARN0_CAP
    | _ => rdF e Fd.THM_WARN1_DDR5 : Nat)

/-- The shutdown limit of a group (R353, R355). -/
def shutLimit (g : Nat) : Option Int := if g = 0 then some 1760 else if g = 1 then some 1840 else none

/-- The interval of a group as the code of THM_STAT (R352). -/
def intervalOf (e : Engine) (g : Nat) (m : Int) : Nat :=
  let d := (m - warnLimit e g).natAbs
  let d := match shutLimit g with | some l => min d (m - l).natAbs | none => d
  if d > 160 then 0 else if d > 48 then 1 else 2

/-- The main rails are off: only TILE and CTRL are measured, every 100 ms (R352). -/
def auxReadout (e : Engine) : Bool := !e.pwr.rails

/-- The nanoseconds between measurements of a group (R352). -/
def intervalNs (e : Engine) (g : Nat) : Nat :=
  if auxReadout e then 100000000
  else match (e.thm.interval).getD g 0 with | 0 => 10000000 | 1 => 1000000 | _ => 100000

-- one sensor ------------------------------------------------------------------------------------------------------------------------

/-- The reading 100 ms before `now`, the earliest one where none is that old. -/
def readingBefore (now : Nat) : List (Nat × Int) → Int → Int
  | [], v => v
  | (t, x) :: rest, _ => if t + 100000000 ≤ now then x else readingBefore now rest x

/-- Keep the readings of the last 100 ms and the one before them. -/
def trimHist (now : Nat) : List (Nat × Int) → List (Nat × Int)
  | [] => []
  | (t, x) :: rest => if t + 100000000 ≤ now then [(t, x)] else (t, x) :: trimHist now rest

/-- A reading in −40..+150 °C is plausible (R351). -/
def plausible (v : Int) : Bool := decide (-640 ≤ v) && decide (v ≤ 2400)

/-- The reading enters a working sensor with its rate of rise (R354). -/
def Sensor.enter (s : Sensor) (now : Nat) (v : Int) : Sensor :=
  let h := trimHist now ((now, v) :: s.hist)
  { s with reading := v, hist := h, rate := 10 * (v - readingBefore now h v) }

/-- A reading counts: it is plausible, and a tile's converter bank passes its check (R128, R351). -/
def readingOk (e : Engine) (i : Nat) (v : Int) : Bool := plausible v && !(decide (i < 256) && !auxReadout e && (e.bank i).hkFail)

/-- A sensor fails, or recovers after 100 plausible readings, which are its history from then on (R351, R354). -/
def sensorRead (i : Nat) (v : Int) (e : Engine) : Engine :=
  let s := e.sensor i
  let clk := e.clk
  if !readingOk e i v then
    let e := updSensor i (fun s => { s with failed := true, good := 0 }) e
    if s.failed then e else noteD Fd.THM_CAUSE_SENSOR_FAIL 0 i (inc Reg.THM_SENS_FAIL_CNT e)
  else if s.failed ∧ s.good + 1 < 100 then updSensor i (fun s => { s.enter clk v with good := s.good + 1 }) e
  else updSensor i (fun s => { s with failed := false, good := 0 }.enter clk v) e

-- rates -----------------------------------------------------------------------------------------------------------------------------

/-- The ports with an aperture in a photonic-die region (R67). -/
def regionPorts (r : Nat) : List Nat :=
  let t := 32 * (r / 8) + 2 * (r % 8)
  ([t, t + 1, t + 16, t + 17].flatMap tileAps).filter ordinary

/-- The region of a TILE or PHOT sensor (R67). -/
def sensorRegion (i : Nat) : Nat := if i < 256 then regionOf i else i - 256

/-- The rise of a TILE or PHOT sensor; a rate at its limit is neither above nor below it (R354). -/
def riseCheck (i : Nat) (e : Engine) : Engine :=
  let s := e.sensor i
  let clk := e.clk
  if s.rate > 32 then
    let since := s.over2.getD clk
    let fires := !s.riseLive && decide (since + 1000000000 ≤ clk)
    let e := updSensor i (fun s => { s with over2 := some since, below2 := none, riseLive := s.riseLive || fires }) e
    if fires then wantPark (regionPorts (sensorRegion i)) (raiseD Fd.THM_CAUSE_RISE 0 0 e) else e
  else if s.rate = 32 then updSensor i (fun s => { s with over2 := none, below2 := none }) e
  else
    let since := s.below2.getD clk
    let ends := s.riseLive && decide (since + 1000000000 ≤ clk)
    updSensor i (fun s => { s with over2 := none, below2 := if s.riseLive && !ends then some since else none,
                                   riseLive := s.riseLive && !ends }) e

/-- A rise over 10 °C/s at two consecutive measurements (R354). -/
def fastCheck (i : Nat) (e : Engine) : Engine :=
  let s := e.sensor i
  let clk := e.clk
  if s.rate > 160 then
    let fires := !s.fastLive && decide (1 ≤ s.over10)
    let e := updSensor i (fun s => { s with over10 := min (s.over10 + 1) 2, below10 := none, fastLive := s.fastLive || fires }) e
    if fires then raise Fd.THM_CAUSE_RISE_FAST e else e
  else if s.rate = 160 then updSensor i (fun s => { s with over10 := 0, below10 := none }) e
  else
    let since := s.below10.getD clk
    let ends := s.fastLive && decide (since + 1000000000 ≤ clk)
    updSensor i (fun s => { s with over10 := 0, below10 := if s.fastLive && !ends then some since else none,
                                   fastLive := s.fastLive && !ends }) e

-- tiles and regions -----------------------------------------------------------------------------------------------------------------

/-- The lower bound of a band in 1/16 °C (R99). -/
def bandBound (b : Nat) : Int := if b = 0 then -32768 else if b = 1 then 640 else if b = 2 then 960 else 1280

/-- The band after a reading (R99): it rises at the next bound and falls 3 °C below its own. -/
def nextBand (b : Nat) (v : Int) : Nat :=
  let up := (List.range 4).foldl (fun m k => if bandBound k ≤ v then max m k else m) b
  if up > b then up
  else (List.range 4).foldl (fun m k => if k < b ∧ v < bandBound (k + 1) - 48 then min m k else m) b

/-- HOLD ends with a cause (R114). -/
def holdEnds (cause : Nat) (e : Engine) : Engine := if e.sys.mode = .hold then exitHold cause .service e else e

/-- A tile's temperature: TILE_TEMP and its band (R99). -/
def tileTemp (t : Nat) (e : Engine) : Engine :=
  let s := e.sensor t
  if s.failed then e
  else
    let b := nextBand (e.tile t).band s.reading
    let changed := b != (e.tile t).band
    let e := updTile t (fun x => { x with temp := s.reading, band := b }) e
    if changed then holdEnds 2 (noteTile Fd.TILE_CAUSE_BAND_CHG t 0 e) else e

/-- The reading a region goes by: its own sensor's, else the nearest working one of the same row of regions (R351). -/
def regionReading (e : Engine) (r : Nat) : Option Int :=
  let ok (k : Nat) : Bool := let s := e.sensor (256 + k); !s.failed && s.hist != []
  let near := sortBy (fun k => 16 * (if k < r then r - k else k - r) + k % 8) ((span (r / 8 * 8) 8).filter ok)
  near.head?.map (fun k => (e.sensor (256 + k)).reading)

/-- A temperature outside the sets' 20 °C to 95 °C (R69). -/
def outOfSets (v : Int) : Bool := decide (v < 320) || decide (1520 < v)

/-- A region's temperature, weight and bracketing pair; leaving the sets' range raises TEMP_RANGE (R68, R69, R114). -/
def regionTemp (r : Nat) (e : Engine) : Engine :=
  match regionReading e r with
  | none => e
  | some v =>
    let old := e.region r
    let lo := nextPair old.lo v
    let e := { e with syn := { e.syn with
        regions := Tbl.put (fun _ => {}) e.syn.regions r { lo := lo, w := weightOf lo v, temp := v, seen := true } } }
    let e := if outOfSets v && !(old.seen && outOfSets old.temp) then note Fd.SYN_CAUSE_TEMP_RANGE e else e
    if lo = old.lo then e
    else
      let t := 32 * (r / 8) + 2 * (r % 8)
      holdEnds 3 (each [t, t + 1, t + 16, t + 17] (fun t => wantReload t lo) e)

-- the group -------------------------------------------------------------------------------------------------------------------------

/-- WARN of a group (R353). -/
def warnCheck (g : Nat) (m : Int) (e : Engine) : Engine :=
  let live := (e.thm.warnLive).getD g false
  if !live ∧ m ≥ warnLimit e g then
    note Fd.THM_CAUSE_WARN { e with thm := { e.thm with warnLive := e.thm.warnLive.set g true } }
  else if live ∧ m ≤ warnLimit e g - 48 then { e with thm := { e.thm with warnLive := e.thm.warnLive.set g false } }
  else e

/-- What a hardware shutdown does (R355, R366): the GOV trigger, or the collector's FAULT trigger with GOV_EN 0, then COOLDOWN. -/
def shutdownGo (e : Engine) : Engine :=
  let e := trigger (if on e Fd.THM_BRAKE_EN_GOV_EN then 1 else 2) e
  if e.bkp.zeroing then e else enterCooldown e

/-- A shutdown may begin: not in COOLDOWN, where the rails are off already, nor in OFF or once the rails of LOCKOUT are off. -/
def mayShut (e : Engine) : Bool :=
  e.thm.coolPend.isNone && !inMode e [.cooldown, .off] && !(e.sys.mode == .lockout && !e.pwr.rails)

/-- Hardware shutdown by a sensor (R355). -/
def shutdown (sensor : Nat) (e : Engine) : Engine :=
  let clk := e.clk
  shutdownGo (noteD Fd.THM_CAUSE_SHUTDOWN 0 sensor { e with thm := { e.thm with coolPend := some clk } })

/-- The shutdown comparison (R355). It goes on in COOLDOWN (R352): a maximum that has been below the limit and is not now is a SEVERE
event again (R336; log 61). -/
def shutCheck (g : Nat) (m : Nat × Int) (e : Engine) : Engine :=
  match shutLimit g with
  | none => e
  | some l =>
    let was := (e.thm.shutOver).getD g false
    let e := { e with thm := { e.thm with shutOver := e.thm.shutOver.set g (decide (l ≤ m.2)) } }
    if m.2 < l then e
    else if mayShut e then shutdown m.1 e
    else if e.sys.mode = .cooldown ∧ !was then raiseD Fd.THM_CAUSE_SHUTDOWN 0 m.1 e
    else e

/-- The 60 s of R356 and R357 run while both thresholds hold. -/
def coolTimers (e : Engine) : Engine :=
  let clk := e.clk
  let ok := coolEnough e
  if e.sys.mode = .cooldown then { e with thm := { e.thm with coolOk := if ok then some (e.thm.coolOk.getD clk) else none } }
  else if e.sys.gateWaiting then { e with sys := { e.sys with gateAt := if ok then some (e.sys.gateAt.getD clk) else none } }
  else e

/-- What a group's maximum does: warning, interval and shutdown. -/
def limits (g : Nat) (e : Engine) : Engine :=
  match groupMax e g with
  | none => e
  | some m =>
    let e := warnCheck g m.2 e
    let e := { e with thm := { e.thm with interval := e.thm.interval.set g (intervalOf e g m.2) } }
    coolTimers (shutCheck g m e)

/-- The group is measured now: not in OFF, and without the main rails only TILE and CTRL (R352). -/
def measured (e : Engine) (g : Nat) : Bool := decide (g < 5) && e.sys.mode != .off && (!auxReadout e || decide (g < 2))

/-- The reading of a tile's sensor that its converter 0 has made last; none without the main rails (R122). -/
def bankTemp (e : Engine) (i : Nat) : Option Int := if auxReadout e then none else (e.bank i).temp

/-- The readings a measurement takes: those the tiles' converters have made, those given, and the last ones of the group's other
working sensors (R122, R352). -/
def groupReadings (e : Engine) (g : Nat) (l : List (Nat × Int)) : List (Nat × Int) :=
  let banks := if g = 0 then e.sns.banks.filterMap (fun x => (bankTemp e x.1).map (fun v => (x.1, v))) else []
  let own := banks ++ (l.filter (fun x => inGroup g x.1)).filter (fun x => !banks.any (fun y => y.1 == x.1))
  sortBy (·.1) (own ++ (working e g).filter (fun x => !own.any (fun y => y.1 == x.1)))

def thermalNow (g : Nat) (l : List (Nat × Int)) (e : Engine) : Engine :=
  if !measured e g then e
  else
    let e := match (e.thm.lastAt).getD g none with | some t => waitClk (t + intervalNs e g) e | none => e
    let clk := e.clk
    let e := { e with thm := { e.thm with lastAt := e.thm.lastAt.set g (some clk) } }
    let rs := groupReadings e g l
    let e := each rs (fun x => sensorRead x.1 x.2) e
    let ok := (rs.map (·.1)).filter (fun i => !(e.sensor i).failed)
    let e := each ok (fun i e => fastCheck i (if g = 0 ∨ g = 2 then riseCheck i e else e)) e
    let e := if g = 0 then each ok tileTemp e else if g = 2 then each (List.range 64) regionTemp e else e
    limits g e

/-- THERMAL_MEASUREMENT of a group with the readings it takes, in 1/16 °C (R350-R356). -/
def execThermalMeasurement (g : Nat) (l : List (Nat × Int)) (s : State) : Host.Outcome State Fault Refusal :=
  .next (s.run (thermalNow g l))

end Sys2Proof.Machine
end

