-- ==== Sys2Proof/Machine/Power.lean ====
section
/-! DEFINITION. Feeds, auxiliary supplies, rails and the duplicated timebase (R359-R366). -/

namespace Sys2Proof.Machine

/-- Nothing of the engine has power (R361). -/
def unfed (e : Engine) : Bool := e.sys.mode == .off && !e.pwr.collapsed

/-- A supply is lost or returns: its flag. -/
def setFeed (b v : Bool) (e : Engine) : Engine :=
  if b then { e with pwr := { e.pwr with feedB := v } } else { e with pwr := { e.pwr with feedA := v } }
def setAux (b v : Bool) (e : Engine) : Engine :=
  if b then { e with pwr := { e.pwr with auxB := v } } else { e with pwr := { e.pwr with auxA := v } }
def feedOf (e : Engine) (b : Bool) : Bool := if b then e.pwr.feedB else e.pwr.feedA
def auxOf (e : Engine) (b : Bool) : Bool := if b then e.pwr.auxB else e.pwr.auxA

/-- The engine stops: the planes decay to zero phase, the station and the time unit are without power (R49, R264, R288). -/
def goDark (collapsed : Bool) (e : Engine) : Engine :=
  let e := detach (darkArray e)
  { e with sys := { e.sys with prev := e.sys.mode, mode := .off, setMode := none }, tim := {},
           pwr := { e.pwr with rails := false, collapsed := collapsed } }

/-- POWER_LOSS: loss of every feed is OFF; what the loss of power leaves is what the next POR keeps (R361). -/
def powerLossNow (e : Engine) : Engine :=
  if unfed e then e
  else
    let e := goDark false e
    { e with pwr := { e.pwr with feedA := false, feedB := false, auxA := false, auxB := false } }

def execPowerLoss (s : State) : Host.Outcome State Fault Refusal := .next (s.run powerLossNow)

-- 12 V feeds --------------------------------------------------------------------------------------------------------------------------

/-- The millpond island stays powered: by an auxiliary supply, or by the standby converter of a feed (R361). -/
def standbyOn (e : Engine) : Bool :=
  e.pwr.auxA || e.pwr.auxB || ((e.pwr.feedA || e.pwr.feedB) && !on e Fd.PWR_CAUSE_LIVE_BROWNOUT)

def feedLossNow (b : Bool) (e : Engine) : Engine :=
  if !feedOf e b then e
  else
    let e := setFeed b false e
    if standbyOn e then
      setLive (if b then Fd.PWR_CAUSE_LIVE_FEED_B_LOSS else Fd.PWR_CAUSE_LIVE_FEED_A_LOSS) true
        (note (if b then Fd.PWR_CAUSE_FEED_B_LOSS else Fd.PWR_CAUSE_FEED_A_LOSS) (inc Reg.PWR_FEED_LOSS_CNT e))
    else powerLossNow e

/-- FEED_LOSS of feed A or B; of the last supply it is the loss of power (R359, R361). -/
def execFeedLoss (b : Bool) (s : State) : Host.Outcome State Fault Refusal := .next (s.run (feedLossNow b))

/-- The engine starts again with the survival of the RST_N column after a collapse of the rails (R360). -/
def restart (e : Engine) : Engine :=
  if e.sys.mode = .off then beginBoot (resetEngine false .rst (darkArray { e with pwr := { e.pwr with collapsed := false } })) else e

def feedReturnNow (b : Bool) (e : Engine) : Engine :=
  let e := setFeed b true e
  if unfed e then e
  else
    let e := setLive (if b then Fd.PWR_CAUSE_LIVE_FEED_B_LOSS else Fd.PWR_CAUSE_LIVE_FEED_A_LOSS) false e
    let e := brakeOff 3 (setLive Fd.PWR_CAUSE_LIVE_BROWNOUT false e)
    if e.pwr.collapsed then restart e else e

/-- FEED_RETURN of feed A or B: the FEED trigger goes, and an engine whose rails collapsed boots (R359, R360). -/
def execFeedReturn (b : Bool) (s : State) : Host.Outcome State Fault Refusal := .next (s.run (feedReturnNow b))

def brownoutNow (e : Engine) : Engine :=
  if e.sys.mode = .off ∨ on e Fd.PWR_CAUSE_LIVE_BROWNOUT then e
  else
    let e := setLive Fd.PWR_CAUSE_LIVE_BROWNOUT true e
    if e.sys.mode = .cooldown then raise Fd.PWR_CAUSE_BROWNOUT e
    else
      let e := if on e Fd.PWR_BRAKE_EN_FEED_EN then trigger 3 e else e
      raise Fd.PWR_CAUSE_BROWNOUT (inc Reg.PWR_BROWNOUT_CNT e)

/-- BROWNOUT: both feeds below 10.8 V for 2 µs; in COOLDOWN it is only logged (R360, R366). -/
def execBrownout (s : State) : Host.Outcome State Fault Refusal := .next (s.run brownoutNow)

def railCollapseNow (e : Engine) : Engine :=
  if !on e Fd.PWR_CAUSE_LIVE_BROWNOUT ∨ unpowered e then e
  else if !standbyOn e then powerLossNow e
  else if e.sys.mode = .lockout then { e with pwr := { e.pwr with rails := false } }
  else goDark true e

/-- RAIL_COLLAPSE: both feeds stay low and the hold-up ends; with no auxiliary supply nothing is left (R360, R361). -/
def execRailCollapse (s : State) : Host.Outcome State Fault Refusal := .next (s.run railCollapseNow)

/-- A feed carries more than 25 A, or no longer does. -/
def setOver (b v : Bool) (e : Engine) : Engine :=
  if b then { e with pwr := { e.pwr with overB := v } } else { e with pwr := { e.pwr with overA := v } }

/-- A feed has carried more than 25 A for 1 ms, or no longer does (R359). -/
def overcurrentNow (l : FeedLoad) (e : Engine) : Engine :=
  if unfed e ∨ !feedOf e l.b then e else setOver l.b l.high (whenE l.high (note Fd.PWR_CAUSE_OVERCURRENT) e)

/-- OVERCURRENT (R359). -/
def execOvercurrent (l : FeedLoad) (s : State) : Host.Outcome State Fault Refusal := .next (s.run (overcurrentNow l))

/-- RAIL_WARN: an internal rail outside ±5 % for 10 µs (PWR_CAUSE). Nothing tells when it is in range again: the live bit is free from
then on (log 1). -/
def execRailWarn (s : State) : Host.Outcome State Fault Refusal :=
  .next (s.run (fun e => if unpowered e then e
    else let e := note Fd.PWR_CAUSE_RAIL_WARN e; { e with pwr := { e.pwr with railWarn := true } }))

-- auxiliary supplies --------------------------------------------------------------------------------------------------------------------

def auxLossNow (b : Bool) (e : Engine) : Engine :=
  if !auxOf e b then e
  else
    let e := setAux b false e
    if standbyOn e then setLive Fd.PWR_CAUSE_LIVE_AUX_LOSS true (note Fd.PWR_CAUSE_AUX_LOSS e) else powerLossNow e

/-- AUX_LOSS of one auxiliary supply; with no feed left it is the loss of power (R361). -/
def execAuxLoss (b : Bool) (s : State) : Host.Outcome State Fault Refusal := .next (s.run (auxLossNow b))

def auxReturnNow (b : Bool) (e : Engine) : Engine :=
  let e := setAux b true e
  if unfed e then e else setLive Fd.PWR_CAUSE_LIVE_AUX_LOSS (!(e.pwr.auxA && e.pwr.auxB)) e

/-- AUX_RETURN of one auxiliary supply (R361). -/
def execAuxReturn (b : Bool) (s : State) : Host.Outcome State Fault Refusal := .next (s.run (auxReturnNow b))

-- the timebase --------------------------------------------------------------------------------------------------------------------------

def refOk (e : Engine) (b : Bool) : Bool := if b then e.pwr.refB else e.pwr.refA
def refLost (e : Engine) (b : Bool) : Bool := if b then e.pwr.lostB else e.pwr.lostA
def refSince (e : Engine) (b : Bool) : Nat := ((if b then e.pwr.refBAt else e.pwr.refAAt)).getD 0

/-- A reference becomes good or is lost; the instant is kept. -/
def setRef (b good : Bool) (e : Engine) : Engine :=
  let clk := e.clk
  if b then { e with pwr := { e.pwr with refB := good, lostB := !good, refBAt := some clk } }
  else { e with pwr := { e.pwr with refA := good, lostA := !good, refAAt := some clk } }

/-- The engine switches to the other timebase (R302, R364). -/
def switchTb (e : Engine) : Engine :=
  let e := note Fd.PWR_CAUSE_TB_SWITCH (inc Reg.PWR_TB_SWITCH_CNT { e with pwr := { e.pwr with tbB := !e.pwr.tbB } })
  if unpowered e then e else dStep ((free e % 131073 : Nat) - 65536) (useFree e)

/-- The other timebase can take over: its reference is good and its island is not in reset (R348, R364). -/
def otherTb (e : Engine) : Bool := refOk e (!e.pwr.tbB) && !islandDown e (if e.pwr.tbB then 264 else 265)

/-- The active reference is lost and the other good: the engine switches (R364). -/
def tbCheck (e : Engine) : Engine := if refLost e e.pwr.tbB && otherTb e then switchTb e else e

/-- A reference is lost; a loss while it is lost already starts its 100 ms again (R363). -/
def refclkLostNow (b : Bool) (e : Engine) : Engine :=
  if e.sys.mode = .off then e
  else if refLost e b then setRef b false e
  else
    let e := setRef b false e
    let e := setLive (if b then Fd.PWR_CAUSE_LIVE_REFCLK_B_LOSS else Fd.PWR_CAUSE_LIVE_REFCLK_A_LOSS) true
      (note (if b then Fd.PWR_CAUSE_REFCLK_B_LOSS else Fd.PWR_CAUSE_REFCLK_A_LOSS) e)
    let e := tbCheck e
    if e.pwr.lostA && e.pwr.lostB then raise Fd.PWR_CAUSE_REFCLK_LOSS (setLive Fd.PWR_CAUSE_LIVE_REFCLK_LOSS true e) else e

/-- REFCLK_LOST of reference A or B (R363-R365). -/
def execRefclkLost (b : Bool) (s : State) : Host.Outcome State Fault Refusal := .next (s.run (refclkLostNow b))

def refGoodNow (b : Bool) (e : Engine) : Engine :=
  if e.sys.mode = .off ∨ refOk e b then e
  else
    let e := setRef b true (waitClk (refSince e b + 100000000) e)
    let e := setLive (if b then Fd.PWR_CAUSE_LIVE_REFCLK_B_LOSS else Fd.PWR_CAUSE_LIVE_REFCLK_A_LOSS) false e
    tbCheck (setLive Fd.PWR_CAUSE_LIVE_REFCLK_LOSS false e)

/-- REF_GOOD: 100 ms without a loss (R363, R364). -/
def execRefGood (b : Bool) (s : State) : Host.Outcome State Fault Refusal := .next (s.run (refGoodNow b))

def tbRevertNow (e : Engine) : Engine :=
  let p := on e Fd.PWR_TB_CTL_PREF
  if e.sys.mode = .off ∨ !on e Fd.PWR_TB_CTL_REVERT ∨ p = e.pwr.tbB ∨ !otherTb e then e
  else switchTb (waitClk (refSince e p + 10000000000) e)

/-- TB_REVERT: PREF's reference has been good for 10 s (R364). -/
def execTbRevert (s : State) : Host.Outcome State Fault Refusal := .next (s.run tbRevertNow)

/-- A write of PWR_TB_CTL (R364). -/
def tbCtlApply (v : Nat) (e : Engine) : Engine :=
  let e := wr Reg.PWR_TB_CTL v e
  let p := on e Fd.PWR_TB_CTL_PREF
  if on e Fd.PWR_TB_CTL_REVERT ∧ p ≠ e.pwr.tbB ∧ otherTb e then switchTb e else e

end Sys2Proof.Machine
end

