-- ==== Sys2Proof/Machine/Faults.lean ====
section
/-! DEFINITION. Wire faults, hung masters, stalled handshakes, island resets, the persisted GRAVE record and the hold-off
of vector 0 (R329-R348). -/

namespace Sys2Proof.Machine

/-- Bit `code` of a block's cause register has a reporter; that of BUS_HANG reports the masters 0 to 7 (R329, R347). -/
def hasReporter (block inst code : Nat) : Bool :=
  (causeOff block inst).isSome && decide (code < 32) && bit (causeBits block) code &&
    (decide (inst = 0) || block == 18 || (block == 0 && code == 2 && decide (inst < 8)))

/-- A reporter's name: each cause bit has one, the instance of a tile's is its tile (R329). -/
def reporter (block inst code : Nat) : Nat × Nat × Nat := (block, if block = 18 then inst else 0, code)

/-- The summary bit of a tile cause (R335). -/
def summaryBit (code : Nat) : Option Fld :=
  match code with
  | 2 => some Fd.SYN_CAUSE_RESIDUE
  | 3 => some Fd.SYN_CAUSE_FREEZE
  | 5 => some Fd.RFS_CAUSE_FS_CORR
  | 6 => some Fd.SNS_CAUSE_SYNC_LOSS
  | 7 => some Fd.RFS_CAUSE_FS_UNCORR
  | 9 => some Fd.BKP_BRAKE_CAUSE_BRAKE_FAIL
  | _ => none

/-- A master is held until the reset of its island (R347). -/
def holdMaster (m : Nat) (e : Engine) : Engine := wr Reg.FLT_HANG (rd e Reg.FLT_HANG ||| (1 <<< m)) e

/-- The reaction to a wire fault: that of the reporter's cause (R330, R335); in LOCKOUT there is none but the removal of the rails
(R336, R366). A fault that names no port or region parks nothing, and that of BUS_HANG holds the master it names (log 63). -/
def wireReact (block inst code : Nat) (e : Engine) : Engine :=
  if e.sys.mode = .lockout ∧ ¬(block = 3 ∧ code = 3) then e
  else if block = 18 ∧ (code = 3 ∨ code = 8) then freezeTile inst e
  else if block = 0 ∧ code = 2 then (if inst < 8 then holdMaster inst e else e)
  else if block = 3 ∧ code = 3 then
    (if mayShut e then (let clk := e.clk; shutdownGo { e with thm := { e.thm with coolPend := some clk } }) else e)
  else react (classOf block code) e

def wireFaultNow (block inst code : Nat) (e : Engine) : Engine :=
  if e.sys.mode = .off ∨ !hasReporter block inst code ∨ reporter block inst code ∈ e.flt.wires then e
  else
    match causeOff block inst with
    | none => e
    | some off =>
      let e := { e with flt := { e.flt with wires := e.flt.wires ++ [reporter block inst code] } }
      let e := noteRec (mkRec e true block inst code (classOf block code) 0) off e
      let e := mark Fd.FLT_CAUSE_WIRE (inc Reg.FLT_WIRE_CNT e)
      let e := if block = 18 then (match summaryBit code with | some f => mark f e | none => e) else e
      wireReact block inst code e

/-- A pair in wire fault reads 0b01 again: after 1 µs its live bits read 0 (R330). -/
def wireOkNow (block inst code : Nat) (e : Engine) : Engine :=
  if e.sys.mode = .off ∨ reporter block inst code ∉ e.flt.wires then e
  else
    let e := pass 1000 e
    { e with flt := { e.flt with wires := e.flt.wires.filter (· ≠ reporter block inst code) } }

/-- WIRE_FAULT of a reporter, or its end (R329, R330). -/
def execWireFault (block inst : Nat) (p : WirePair) (s : State) : Host.Outcome State Fault Refusal :=
  .next (s.run (fun e => if p.ok then wireOkNow block inst p.code e else wireFaultNow block inst p.code e))

/-- BUS_HANG of a master: it is held; in LOCKOUT the event is logged only (R336, R347). -/
def busHangNow (m addr : Nat) (e : Engine) : Engine :=
  if unpowered e ∨ m ≥ 8 ∨ masterHeld e m then e
  else
    let e := raiseD Fd.FLT_CAUSE_BUS_HANG m (addr % 4294967296) e
    if e.sys.mode = .lockout then e else holdMaster m e

/-- BUS_HANG of a master: an access outstanding for 65.536 µs (R347). -/
def execBusHang (m addr : Nat) (s : State) : Host.Outcome State Fault Refusal := .next (s.run (busHangNow m addr))

def hsErrNow (t : Nat) (e : Engine) : Engine :=
  if unpowered e ∨ t ≥ 256 ∨ (e.tile t).hsStall then e
  else
    let e := setLive (tileCause Fd.TILE_CAUSE_LIVE_HS_ERR t) true (noteTile Fd.TILE_CAUSE_HS_ERR t 0 e)
    let e := updTile t (fun x => { x with hsStall := true }) e
    if e.sys.mode = .lockout then e else freezeTile t e

/-- HS_ERR: an island handshake of a tile stalls for 10 µs; the tile freezes as under R79, in LOCKOUT it does not (R335, R336). -/
def execHsErr (t : Nat) (s : State) : Host.Outcome State Fault Refusal := .next (s.run (settled (hsErrNow t)))

/-- GRAVE_PERSIST: the write of the first GRAVE record ends (R342). -/
def execGravePersist (ok : Bool) (s : State) : Host.Outcome State Fault Refusal :=
  .next (s.run (fun e => if !e.flt.graveBusy then e
    else
      let e := { e with flt := { e.flt with graveBusy := false } }
      if ok then e else note Fd.FLT_CAUSE_GRAVE_NV_FAIL e))

/-- An authorised write of FLT_GRAVE_CLR (R342). -/
def graveClrApply (v : Nat) (e : Engine) : Engine :=
  if bit v 0 then { e with flt := { e.flt with graveValid := false, graveBusy := false, graveCount := 0, graveRec := {} } } else e

/-- ATN_HOLDOFF_END: one signal covers every rise within the hold-off (R345). -/
def execAtnHoldoffEnd (s : State) : Host.Outcome State Fault Refusal :=
  .next (s.run (fun e =>
    if !e.flt.risePend then e
    else
      let e := waitClk e.flt.holdUntil e
      let e := { e with flt := { e.flt with risePend := false, holdUntil := e.clk + 1000 * rdF e Fd.ATN_CTL_HOLDOFF } }
      if on e Fd.ATN_CTL_MSI_EN then signalMsix 0 0 e else e))

-- island resets -----------------------------------------------------------------------------------------------------------------

/-- A command that some unit other than the command processor carries. -/
def carried (e : Engine) (cx : Cx) : Bool :=
  let is (c : Cx) : Bool := c == cx
  e.xact.txns.any (fun t => t.commit.any is) || e.xact.jobs.any (fun j => j.cx.any is) || e.xact.pubWait.any (fun w => is w.cx)
    || e.xact.pinned.any (fun p => is p.1)
    || e.sch.jump.any (fun p => is p.1) || e.sch.start.any (fun p => is p.1) || e.sch.flume.any (fun p => is p.1)
    || e.sch.stopCx.any (fun p => is p.1) || e.sch.missing.any (fun p => p.jump.any is)
    || e.sch.nextB.any (fun b => b.play.jump.any is)
    || e.syn.survey.any (fun v => is v.cx) || e.sns.job.any (fun j => is j.cx) || e.rfs.drill.any (fun d => is d.cx)
    || e.sys.setMode.any (fun j => is j.cx) || e.sys.fwStage.any (fun p => is p.1) || e.sys.fwRestart.any (fun r => is r.cx)
    || e.sys.bist.any (fun j => is j.cx) || e.sys.leaving.any (fun p => is p.1)
    || e.snap.nowWait.any (fun c => c.any is) || e.snap.serving.any (fun c => c.any is) || e.snap.atPend.any (fun p => is p.1)
    || e.dma.streams.any (fun s => s.hopper == cx.hopper && s.tag == cx.tag)

/-- A SET_MODE in progress is lost with the cores that carry it. -/
def dropSetMode (e : Engine) : Engine :=
  match e.sys.setMode with
  | none => e
  | some j =>
    let e := { e with sys := { e.sys with setMode := none } }
    let e := if j.target = .sleep then brakeOff 6 e else e
    let e := each (e.xact.jobs.filter (fun x => x.owner == .entry && x.phase != .latched)) (fun x => dropJob x.id) e
    if j.wait = .sleepPost then e else complete j.cx stTimeout 0 e

/-- A BIST_RUN in progress is lost. -/
def dropBist (e : Engine) : Engine :=
  match e.sys.bist with
  | none => e
  | some j => complete j.cx stTimeout 0 { e with sys := { e.sys with bist := none } }

/-- The check of a copied image is lost: its slot stays empty. -/
def dropStage (e : Engine) : Engine :=
  match e.sys.fwStage with
  | none => e
  | some (cx, _) => complete cx stTimeout 0 (unstage { e with sys := { e.sys with fwBusy := false } })

/-- The work the firmware cores carry is lost: survey, sensor calibration, mode change, self-test, and the check of a staged image (R348;
which core carries which is not said: log 112). -/
def coreWork (e : Engine) : Engine := dropStage (dropBist (dropSetMode (loseCalSensor stTimeout (loseSurvey stTimeout e))))

/-- The work a controller island loses at its reset: its commands complete TIMEOUT (R348). DMA streams go on afterwards
(R347); sequencers are out of service until the reset ends (R106, R108). While their reset lasts the loop exchange hub delivers no
sample, the beacons are dark and a timebase takes nothing over; they, the DDR5 controller and PCI Express carry no command of their
own (log 112). -/
def islandWork (n : Nat) (e : Engine) : Engine :=
  match n with
  | 256 => { e with dma := { e.dma with last := none } }
  | 258 => each (e.cmd.inflight.filter (fun i => !carried e i.cx)) (fun i => complete i.cx stTimeout 0) e
  | 259 =>
    let e := each (e.xact.jobs.filter (fun j => match j.owner with | .txn _ => false | .slot => false | .resynth => false | _ => true))
      (fun j e => let e := endJob j e; match j.cx with | some cx => complete cx stTimeout 0 e | none => e) e
    failAll (fun _ => true) 0x07 e
  | 260 =>
    let s := e.sch
    let e := { e with sch := { s with jump := none, start := none } }
    let e := match s.jump with | some (cx, _) => complete cx stTimeout 0 e | none => e
    let e := match s.start with | some (cx, _, _) => complete cx stTimeout 0 e | none => e
    stopNow 5 e
  | 262 =>
    let e := whenE (selfA e) (note Fd.RFS_CAUSE_UNHEALTHY) e
    { e with rfs := { e.rfs with rstA := true, gapless := none, drill := e.rfs.drill.map (fun d => { d with aFailed := true }) } }
  | 263 => { (whenE (selfB e) (note Fd.RFS_CAUSE_UNHEALTHY) e) with rfs := { e.rfs with rstB := true } }
  | 266 => { e with tim := { e.tim with tsq := [], ho := none, s0 := { e.tim.s0 with sync := none }, s1 := { e.tim.s1 with sync := none } } }
  | 267 => { e with lrg := { e.lrg with queues := [], rxq := [], used := 0, above := false,
                                        a := { e.lrg.a with token := none }, b := { e.lrg.b with token := none } } }
  | 268 => { e with lrg := { e.lrg with a := { e.lrg.a with lock := false, lostAt := e.clk } } }
  | 269 => { e with lrg := { e.lrg with b := { e.lrg.b with lock := false, lostAt := e.clk } } }
  | 270 => coreWork e
  | 271 => coreWork e
  | 272 => coreWork e
  | 273 => coreWork e
  | _ => e

/-- The master whose hang the reset of an island ends (R347). -/
def masterOf (island : Nat) : Option Nat :=
  if 270 ≤ island ∧ island ≤ 273 then some (island - 270)
  else if island = 257 then some 4 else if island = 256 then some 5 else if island = 267 then some 6 else none

/-- FLT_IRST refuses an island (R348). -/
def irstRefused (e : Engine) (n : Nat) : Bool :=
  decide (n > 280) || n == 275 || n == 276 || n == 277 || n == 278 || n == 280
    || n == (if e.pwr.tbB then 265 else 264)
    || (n == 262 && ownsTiles e 1 && !selfB e) || (n == 263 && ownsTiles e 2 && !selfA e)
    || e.flt.irst.isSome || (decide (n < 256) && (e.tile n).islandRst)

/-- An authorised write of FLT_IRST: a refused one leaves the register as it is (R348). -/
def irstApply (v : Nat) (e : Engine) : Engine :=
  let n := bits v 8 0
  if n > 280 ∨ bit v 31 ∧ irstRefused e n then note Fd.FLT_CAUSE_IRST_REFUSED e
  else if !bit v 31 then wrF Fd.FLT_IRST_ISLAND n e
  else
    let e := wrF Fd.FLT_IRST_ISLAND n e
    let e := { e with flt := { e.flt with irst := some n } }
    if n < 256 then tileReset n e else islandWork n e

/-- A hung master is released (R347). -/
def releaseMaster (m : Nat) (e : Engine) : Engine := wr Reg.FLT_HANG (rd e Reg.FLT_HANG &&& (255 ^^^ (1 <<< m))) e

/-- A controller island's reset ends: its master is released, what waited for it goes on. -/
def irstEndNow (e : Engine) : Engine :=
  match e.flt.irst with
  | none => e
  | some n =>
    if n < 256 then e
    else
      let e := { e with flt := { e.flt with irst := none } }
      let e := match masterOf n with | some m => releaseMaster m e | none => e
      if n = 262 then { e with rfs := { e.rfs with rstA := false, checkA := true, gapless := none } }
      else if n = 263 then { e with rfs := { e.rfs with rstB := false, checkB := true } }
      else if n = 257 then each (e.cmd.hoppers.map (·.1)) flushHeld e
      else if n = 264 ∨ n = 265 then tbCheck e
      else e

/-- IRST_END: the reset of a controller island ends (R348). -/
def execIrstEnd (s : State) : Host.Outcome State Fault Refusal := .next (s.run irstEndNow)

end Sys2Proof.Machine
end

