-- ==== Sys2Proof/Machine/Hopper.lean ====
section
/-! DEFINITION. Doorbells, the policer and the shaper, completion signals, hopper samples, and the commands that set domains and
policers (R210-R213, R220, R223-R230, R243). -/

namespace Sys2Proof.Machine

-- doorbells -------------------------------------------------------------------------------------------------------------------------

/-- The function takes host accesses: the link is up, the function exists and is in no reset, and neither its island is nor is its
master held (R240, R261, R347, R348). -/
def fnOpen (e : Engine) (fn : Nat) : Bool :=
  e.hif.up && !unpowered e && e.sys.mode != .lockout && (fn == 0 || decide (fn ≤ e.hif.numVfs)) && !decide (fn ∈ e.hif.flrBusy)
    && !masterHeld e 5 && !islandDown e 256

/-- The hopper a doorbell reaches: through the physical function domain 0's, through function d its domain's first 1,536 (R227,
R243). -/
def dbTarget (e : Engine) (fn n : Nat) : Option Nat :=
  if fn = 0 then (if n < 4080 ∧ hopDom e n = some 0 then some n else none)
  else if (e.dom fn).vfEn && decide (n < min (e.dom fn).hopCount 1536) then some ((e.dom fn).hopFirst + n) else none

/-- A doorbell value is discarded (R213). -/
def dbBad (e : Engine) : Engine := note Fd.CMD_CAUSE_DB_BAD (inc Reg.CMD_DB_BAD_CNT e)

/-- A doorbell recorded for a hopper whose domain is disabled (R213). -/
def domainOffCheck (q : Nat) (e : Engine) : Engine :=
  match hopDom e q with
  | some d => if domEn e d then e else note Fd.CMD_CAUSE_DOMAIN_OFF e
  | none => e

/-- A new SQ_TAIL for hopper `q`; the doorbell takes its place in the order of submission (R180, R213). -/
def sqTailPut (q v : Nat) (e : Engine) : Engine :=
  let h := e.hop q
  if !h.enabled ∨ v ≥ h.sqSize ∨ ringDist h.sqSize h.sqHead v < h.depth then dbBad e
  else
    let us := dUs e
    let sub := e.cmd.subs
    let bells := if v = h.sqTail then h.bells else h.bells ++ [(v, sub)]
    let e := { e with cmd := { e.cmd with subs := sub + 1 } }
    domainOffCheck q (updHop q (fun h => { h with sqTail := v, bells := bells, dbTimes := ((v, us) :: h.dbTimes).take 9 }) e)

/-- A new CQ_HEAD for hopper `q` (R213). -/
def cqHeadPut (q v : Nat) (e : Engine) : Engine :=
  let h := e.hop q
  if !h.enabled ∨ v ≥ h.cqSize ∨ ringDist h.cqSize h.cqHead v > ringDist h.cqSize h.cqHead h.cqTail then dbBad e
  else domainOffCheck q (updHop q (fun h => { h with cqHead := v }) e)

/-- A doorbell write through a function (R213, R243, R244). -/
def doorbell (fn n : Nat) (v : Word) (aligned : Bool) (put : Nat → Nat → Engine → Engine) (e : Engine) : Engine :=
  if !fnOpen e fn then e
  else
    let e := inc Reg.CMD_DB_CNT e
    match dbTarget e fn n with
    | none => dbBad e
    | some q => if aligned then put q v.toNat e else dbBad e

/-- SQ_DOORBELL (R213). -/
def execSqDoorbell (fn n : Nat) (v : Word) (aligned : Bool) (s : State) : Host.Outcome State Fault Refusal :=
  .next (s.run (doorbell fn n v aligned sqTailPut))

/-- CQ_DOORBELL (R213). -/
def execCqDoorbell (fn n : Nat) (v : Word) (aligned : Bool) (s : State) : Host.Outcome State Fault Refusal :=
  .next (s.run (doorbell fn n v aligned cqHeadPut))

-- policer and shaper ------------------------------------------------------------------------------------------------------------------

/-- The timing wheel has passed a slot between two microseconds (R225). -/
def wheelPassed (u now slot : Nat) : Bool := decide (now - u ≥ 1024) || decide ((slot + 1024 - (u + 1) % 1024) % 1024 < now - u)

/-- A hopper after the microseconds from `u` to `now`: RATE is added for each, clamped at 256·BURST, and its wheel slot may
have come round (R223, R225). -/
def Hopper.passUs (u now : Nat) (h : Hopper) : Hopper :=
  { h with tokens := min (256 * h.burst) (h.tokens + (now - u) * h.rate),
           wheel := match h.wheel with | some w => if wheelPassed u now w then none else some w | none => none }

/-- What the microseconds of disciplined time that have begun since the last refill bring every hopper. -/
def catchUp (e : Engine) : Engine :=
  let now := dUs e
  let u := e.cmd.us
  if now ≤ u then { e with cmd := { e.cmd with us := now } }
  else
    let t := Tbl.mapAll (fun _ => {}) (fun _ h => h.passUs u now) e.cmd.hoppers
    { e with cmd := { e.cmd with hoppers := t, us := now } }

/-- The next microsecond of disciplined time, if its refill is not due already. -/
def nextUs (e : Engine) : Engine := if dUs e ≤ e.cmd.us then waitD ((e.cmd.us + 1) * 1000) e else e

/-- The command processor's clocks run. -/
def ticking (e : Engine) : Bool := !unpowered e && e.sys.mode != .lockout

/-- POLICER_REFILL: a microsecond of disciplined time begins (R223). -/
def execPolicerRefill (s : State) : Host.Outcome State Fault Refusal :=
  .next (s.run (fun e => whenE (ticking e) (fun e => catchUp (nextUs e)) e))

/-- The hoppers waiting on the wheel. -/
def shaped (e : Engine) : Bool := e.cmd.hoppers.any (fun x => x.2.wheel.isSome)

/-- SHAPER_SLOT: the next slot of the wheel comes round (R225). -/
def execShaperSlot (s : State) : Host.Outcome State Fault Refusal :=
  .next (s.run (fun e => whenE (ticking e && shaped e) (fun e => catchUp (nextUs e)) e))

-- completion signals ------------------------------------------------------------------------------------------------------------------

/-- One hopper's pending signal in a later microsecond (R220). -/
def signalLater (q : Nat) (e : Engine) : Engine :=
  let h := e.hop q
  if !h.sigPend ∨ h.sigUs = some (dUs e) then e
  else
    let us := dUs e
    let e := updHop q (fun h => { h with sigPend := false, sigUs := some us }) e
    if h.vector ≥ vectors ((hopDom e q).getD 0) then e else signalMsix ((hopDom e q).getD 0) h.vector e

def signalNow (e : Engine) : Engine :=
  match e.cmd.hoppers.filter (fun x => x.2.sigPend) with
  | [] => e
  | p :: l =>
    let e := waitD (((p.2.sigUs.getD 0) + 1) * 1000) e
    each (p :: l) (fun x => signalLater x.1) e

/-- COMPLETION_SIGNAL: one signal covers the completions posted later in the microsecond before (R220). -/
def execCompletionSignal (s : State) : Host.Outcome State Fault Refusal :=
  .next (s.run (fun e => whenE (ticking e) signalNow e))

-- samples -----------------------------------------------------------------------------------------------------------------------------

/-- The first `left` entries of a hopper's ring from entry `i` on that complete commands take: a tail that ends part-way through a
command makes visible only those before it (R213). Entries behind a header that cannot be read count (log 84). -/
def entriesIn (e : Engine) (q d : Nat) : Nat → Nat → Nat → Nat
  | 0, _, _ => 0
  | f + 1, i, left =>
    if left = 0 then 0
    else
      match peekAt e q d i with
      | none => left
      | some h =>
        let n := 1 + contEntries h
        if left < n then 0 else n + entriesIn e q d f (i + n) (left - n)

/-- The entries of a hopper visible and not fetched (R213, R226). -/
def Engine.visible (e : Engine) (q : Nat) : Nat :=
  let h := e.hop q
  entriesIn e q ((hopDom e q).getD 0) h.depth h.sqHead h.depth

/-- The entries that the command at the head of a hopper takes. -/
def headLen (e : Engine) (q : Nat) : Nat :=
  match peekAt e q ((hopDom e q).getD 0) (e.hop q).sqHead with
  | some h => 1 + contEntries h
  | none => 1

/-- The doorbell time of the head command of `n` entries, of `depth` up to SQ_TAIL: the oldest of the last eight doorbells that
covers it, with whether it may be older still (R226). `acc`: entries between a doorbell's tail and the newest. -/
def headTime (size depth n : Nat) : List (Nat × Nat) → Nat → Nat → Nat × Bool
  | [], _, _ => (0, false)
  | (t, u) :: rest, acc, k =>
    match rest with
    | [] => (u, false)
    | (t', _) :: _ =>
      let acc' := acc + ringDist size t' t
      if acc' + n > depth then (u, false) else if k = 0 then (u, true) else headTime size depth n rest acc' (k - 1)

/-- One sample of a hopper at microsecond `us`: `d` visible entries, the head command of `n` (R226). -/
def Hopper.sample (us d n : Nat) (h : Hopper) : Hopper :=
  let t := headTime h.sqSize h.depth n h.dbTimes 0 7
  let age := if d = 0 then 0 else min (us - t.1) 0xFFFFFFFF
  { h with live := { h.live with depthLast := d, depthMax := max h.live.depthMax d, ageLast := age,
                                 ageMax := max h.live.ageMax age, ageLb := h.live.ageLb || (d != 0 && t.2),
                                 samples := (h.live.samples + 1) % 65536 } }

def sampleNow (e : Engine) : Engine :=
  let e := if dUs e / 1000 ≤ e.cmd.ms then waitD ((e.cmd.ms + 1) * 1000000) e else e
  let us := dUs e
  let e := { e with cmd := { e.cmd with ms := us / 1000 } }
  if on e Fd.CMD_CTL_SAMPLE_EN then
    each (e.cmd.hoppers.filter (fun x => x.2.enabled))
      (fun x e => updHop x.1 (Hopper.sample us (e.visible x.1) (headLen e x.1)) e) e
  else e

/-- HOPPER_SAMPLE: a millisecond boundary (R226). -/
def execHopperSample (s : State) : Host.Outcome State Fault Refusal :=
  .next (s.run (fun e => whenE (ticking e) sampleNow e))

-- domains -----------------------------------------------------------------------------------------------------------------------------

/-- A transaction of a disabled domain closes with cause FLR; its completion is posted (R227). -/
def closePosted (t : Txn) (e : Engine) : Engine :=
  let cx := if t.earlyDone then none else t.commit
  let e := failTxn t.id 0x0E 0xFFFF (updTxn t.id (fun t => { t with commit := none }) e)
  match cx with | some c => complete c (causeStatus 0x0E) 0x0E e | none => e

/-- A domain has been disabled (R227). -/
def domainOff (d : Nat) (e : Engine) : Engine :=
  each (e.xact.txns.filter (fun t => t.dom == d && !t.restore && !t.checked)) closePosted e

/-- Set EN of a domain; domain 0 is always enabled (R227). -/
def setDomEn (d : Nat) (b : Bool) (e : Engine) : Engine :=
  if d = 0 then e
  else
    let was := domEn e d
    let off := if d < 32 then Reg.CMD_DOM_EN0 else Reg.CMD_DOM_EN1
    let e := wr off (setBits (rd e off) (d % 32) (d % 32) (ofB b)) e
    if was && !b then domainOff d e else e

/-- An authorised write of CMD_DOM_EN0 or 1 (R227). -/
def domEnApply (hi : Bool) (v : Nat) (e : Engine) : Engine :=
  each (List.range 32) (fun j => setDomEn (j + 32 * ofB hi) (bit v j)) e

/-- Two hopper ranges overlap. -/
def overlap (f n g m : Nat) : Bool := decide (f < g + m) && decide (g < f + n) && n != 0 && m != 0

/-- An enabled hopper of the domain would leave it (R228). -/
def leaves (e : Engine) (p : DomainCfgP) : Bool :=
  let o := e.dom p.domain
  e.cmd.hoppers.any (fun x => x.2.enabled && decide (o.hopFirst ≤ x.1) && decide (x.1 < o.hopFirst + o.hopCount)
    && !(decide (p.hopFirst ≤ x.1) && decide (x.1 < p.hopFirst + p.hopCount)))

def domainCfgBody (cx : Cx) (p : DomainCfgP) (e : Engine) : Engine :=
  if p.domain > 63 ∨ p.hopCount > 4080 ∨ p.tagQuota > 4096 then complete cx stBadParam 0 e
  else if p.domain = 0 ∧ (!p.en ∨ p.vfEn) then complete cx stBadParam 0 e
  else if p.hopFirst + p.hopCount > 4080 then complete cx stBadParam 0 e
  else if (List.range 64).any (fun d => d != p.domain && overlap p.hopFirst p.hopCount (e.dom d).hopFirst (e.dom d).hopCount) then
    complete cx stBadParam 0 e
  else if leaves e p then complete cx stPortBusy 0 e
  else
    let e := updDom p.domain (fun _ => { vfEn := p.vfEn, ringEn := p.ringEn, tagQuota := p.tagQuota, hopFirst := p.hopFirst,
                                         hopCount := p.hopCount }) e
    complete cx stOk 0 (setDomEn p.domain p.en e)

/-- DOMAIN_CFG at execution. -/
def goDomainCfg (cx : Cx) (p : DomainCfgP) : Engine → Engine :=
  settled (runCmd { opcode := 0x0601 } cx p.rsv noPorts (domainCfgBody cx p))

/-- DOMAIN_CFG (R228). -/
def execDomainCfg (cx : Cx) (p : DomainCfgP) (s : State) : Host.Outcome State Fault Refusal :=
  .next (s.run (arrive cx (goDomainCfg cx p)))

/-- One hopper's policer and shaper (R230). -/
def Hopper.police (p : PolicerSetP) (h : Hopper) : Hopper :=
  { h with rate := p.rate, burst := p.burst, overhead := p.overhead, pairCost := p.pairCost, interval := p.interval,
           tokens := if p.fill then 256 * p.burst else min h.tokens (256 * p.burst) }

def policerSetBody (cx : Cx) (p : PolicerSetP) (e : Engine) : Engine :=
  if p.count = 0 then complete cx stEmpty 0 e
  else if p.first + p.count > 4096 ∨ p.interval > 1023 then complete cx stBadParam 0 e
  else complete cx stOk 0 (each (span p.first p.count) (fun q => updHop q (Hopper.police p)) (catchUp e))

/-- POLICER_SET at execution. -/
def goPolicerSet (cx : Cx) (p : PolicerSetP) : Engine → Engine :=
  runCmd { opcode := 0x0603 } cx p.rsv noPorts (policerSetBody cx p)

/-- POLICER_SET (R230). -/
def execPolicerSet (cx : Cx) (p : PolicerSetP) (s : State) : Host.Outcome State Fault Refusal :=
  .next (s.run (arrive cx (goPolicerSet cx p)))

end Sys2Proof.Machine
end

