-- ==== Sys2Proof/Machine/Snapshot.lean ====
section
/-! DEFINITION. Snapshots of the counters (R13, R303, R322-R325). -/

namespace Sys2Proof.Machine

def pulseNow (e : Engine) : Engine :=
  match snapTick e with
  | some u => pulse (waitD u e)
  | none => e

/-- SNAPSHOT_PULSE: the tick of a request comes (R303, R322, R324). -/
def execSnapshotPulse (s : State) : Host.Outcome State Fault Refusal := .next (s.run pulseNow)

def readableNow (e : Engine) : Engine :=
  match e.snap.latched with
  | none => e
  | some sh =>
    -- a COUNTERS copy holds the generation until it ends (R325)
    let e := waitClk e.snap.copyTo e
    let w := e.snap.serving
    let e := askAgain { e with snap := { e.snap with cur := sh, latched := none, serving := [] } }
    each w (fun c e => match c with | some cx => complete cx stOk sh.gen e | none => e) e

/-- GENERATION_READABLE: every island has latched (R322, R324). -/
def execGenerationReadable (s : State) : Host.Outcome State Fault Refusal := .next (s.run readableNow)

def snapshotBody (cx : Cx) (p : SnapshotP) (e : Engine) : Engine :=
  if p.whn > 1 ∨ p.at_.ns ≥ 1000000000 ∨ (p.whn = 0 ∧ p.at_.sec ≠ 0) then complete cx stBadParam 0 e
  else if p.whn = 0 then askNow (some cx) e
  else if e.snap.atPend.isSome then complete cx stPortBusy 0 e
  else askAt cx (At.toNs p.at_) e

/-- SNAPSHOT at execution. -/
def goSnapshot (cx : Cx) (p : SnapshotP) : Engine → Engine := runCmd { opcode := 0x0004 } cx p.rsv noPorts (snapshotBody cx p)

/-- SNAPSHOT (R324). -/
def execSnapshot (cx : Cx) (p : SnapshotP) (s : State) : Host.Outcome State Fault Refusal :=
  .next (s.run (arrive cx (goSnapshot cx p)))

/-- A write of SNAP_CTL.GO (R322): ignored while BUSY. -/
def snapGoApply (v : Nat) (e : Engine) : Engine :=
  if bit v 0 ∧ !snapBusy e then askNow none e else e

/-- One entry of the COUNTERS table (R325). -/
def counterEntry (e : Engine) (idx : Nat) : List Word :=
  let c := isCounter (4 * idx)
  [if c then Tbl.get (fun _ => 0) e.snap.cur.counters (4 * idx) else 0, 0, wd e.snap.cur.gen,
   wd (ofB c + 2 * ofB (c && decide (islandOf (4 * idx) ∈ e.snap.cur.missedIslands)))]

end Sys2Proof.Machine
end

