-- ==== Sys2Proof/Machine/Tables.lean ====
section
/-! DEFINITION. The tables and the commands that move them (R58, R92, R93, R134, R159, R186, R209, R211, R231, R232, R237, R238,
R251, R253, R286, R325, R328, R340). -/

namespace Sys2Proof.Machine

/-- Bytes of one entry (R328). -/
def entrySize (table : Nat) : Nat :=
  match table with
  | 1 => 32 | 2 => 32 | 3 => 64 | 4 => 32 | 5 => 48 | 6 => 192 | 7 => 264 | 8 => 32 | 9 => 16 | 10 => 128 | 11 => 8
  | 12 => 32 | 13 => 64 | 14 => 16 | _ => 16

/-- A tenant sees the entry of an aperture its domain's port serves; station apertures are the operator's (R58). -/
def ownsAp (e : Engine) (dom a : Nat) : Bool := dom == 0 || (decide (a < 4096) && (e.port a).owner == dom)

/-- `n` words, the missing ones zero. -/
def padWords (n : Nat) (l : List Word) : List Byte := bytesOf ((List.range n).map (fun k => l.getD k 0#32))

-- reading -----------------------------------------------------------------------------------------------------------------------------

/-- PORT (R174, R186). -/
def portEntry (e : Engine) (p : Nat) : List Byte := padWords 8 (portSeen e p)

/-- APERTURE (R58). -/
def aperEntry (e : Engine) (a : Nat) : List Byte :=
  let x := e.aper a
  let dead := deadCells e a
  let cols := ((List.range 96).filter (fun c => bit x.shortMap c)).length
  padWords 8 [wd (x.grp * 65536 + ofB x.armed * 32768 + ofB x.beacon * 16384 + ofB (decide (dead > 64)) * 8192
      + ofB (frozenAp e a) * 4096 + x.actKind * 1024 + x.shKind * 256 + tileOf a),
    wd (x.actTarget * 65536 + x.shTarget), wd (dead * 65536 + cols * 256), wd (min x.marchFails 0xFFFF * 65536),
    wd x.shortMap, wd (x.shortMap / 4294967296), wd (x.shortMap / 18446744073709551616)]

/-- Commands of a hopper holding their tags. -/
def hopInflight (e : Engine) (q : Nat) : Nat :=
  (e.cmd.inflight.filter (fun i => i.cx.hopper == q)).length + (looseTags e (·.hopper == q)).length

/-- QUEUE view 0 (R237). -/
def queueEntry0 (e : Engine) (q : Nat) : List Byte :=
  let h := (e.hop q).passUs e.cmd.us (max e.cmd.us (dUs e))
  padWords 16 [wd h.sqBase, wd (h.sqBase / 4294967296), wd h.cqBase, wd (h.cqBase / 4294967296), wd (h.sqSize * 65536 + h.cqSize),
    wd (h.vector * 65536 + (hopDom e q).getD 0), wd (h.sqHead * 65536 + h.sqTail), wd (h.cqTail * 65536 + h.cqHead), wd h.rate,
    wd h.burst, wd (h.tokens / 256), wd (h.overhead * 65536 + h.pairCost),
    wd (ofB h.phase * 2147483648 + ofB h.enabled * 1073741824 + h.interval * 65536 + hopInflight e q % 8192)]

/-- QUEUE view 1 (R226, R237). -/
def queueEntry1 (e : Engine) (q : Nat) : List Byte :=
  let v := Tbl.get (fun _ => {}) e.snap.cur.views q
  padWords 16 [wd e.snap.cur.gen, wd (v.depthLast * 65536 + v.depthMax), wd v.ageLast, wd v.ageMax, wd v.accepted, wd v.policed,
    wd v.completed, wd (ofB v.ageLb * 2147483648 + v.samples)]

/-- Ordinary ports a domain owns. -/
def ownedPorts (e : Engine) (d : Nat) : Nat :=
  if d = 0 then 4092 - (e.xact.ports.filter (fun x => x.2.owner != 0)).length
  else (e.xact.ports.filter (fun x => x.2.owner == d)).length

/-- DOMAIN (R238). -/
def domainEntry (e : Engine) (d : Nat) : List Byte :=
  let x := e.dom d
  padWords 8 [wd (ofB (domEn e d) * 2147483648 + ofB x.vfEn * 1073741824 + ofB x.ringEn * 536870912 + x.tagQuota),
    wd (x.hopFirst * 65536 + x.hopCount), wd (ownedPorts e d), wd (domTags e d)]

/-- A staged survey entry; a pair not measured has the reason CAL_SURVEY clears the area to (R85, R89). -/
def stagedAt (e : Engine) (idx : Nat) : Staged :=
  let a := indexSource idx
  let b := idx - a * 4099
  let b := if b < a then b else b + 1
  let inScope := decide (idx < 16805900) && ((ordinary a && ordinary b) || decide ((a, b) ∈ stationPairs) || decide ((b, a) ∈ stationPairs))
  Tbl.get (fun _ => { delta := 0, reason := if inScope then 7 else 8 }) (e.syn.survStage.getD []) idx

/-- AIM (R92): a WEIGHT of 1,024, which its field cannot hold, shows as 1,023 (log 39). -/
def aimEntry (e : Engine) (view idx : Nat) : List Byte :=
  if view ≤ 3 then leBytes 32 (aimRec e.syn.aims view idx) ++ leBytes 16 0
  else if view = 4 then
    let x := effEntry e idx
    leBytes 32 x.rec_ ++ padWords 4 [wd (expPenalty e (indexSource idx) x * 65536 + min x.w 1023), wd (trunc 16 x.temp * 65536 + x.lo),
      wd (ofB x.applied * 2147483648 + (if x.applied then (e.syn.gen + 32768 - x.gen % 32768) % 32768 * 65536 else 0))]
  else if view = 5 then padWords 12 [wd (deltaAt e.syn.deltas idx), wd (deltaAt e.syn.deltas idx / 4294967296)]
  else
    let s := stagedAt e idx
    padWords 12 [wd s.delta, wd (s.delta / 4294967296), wd s.reason, wd (trunc 16 (satS 16 s.dkx) * 65536 + trunc 16 (satS 16 s.dky))]

/-- The domain may read an aim entry: it owns both ports of the pair, or the aperture of the park (R92). -/
def aimOwner (e : Engine) (dom idx : Nat) : Bool :=
  let a := indexSource idx
  let b := idx - a * 4099
  let b := if b < a then b else b + 1
  dom == 0 || (ownsAp e dom a && (decide (idx ≥ 16805900) || ownsAp e dom b))

/-- BEDSTONE (R93). -/
def bedEntry (idx : Nat) : List Byte :=
  (List.range 96).flatMap (fun c => leBytes 2 (Config.bedstone (idx / 328000) (idx % 328000 / 80) (idx % 80) c).toNat)

/-- LUT (R93): entries for the spans of the other band read zero. -/
def lutEntry (e : Engine) (idx : Nat) : List Byte :=
  let tile := idx / 16
  let sp := idx / 4 % 4
  let set := idx % 4
  (List.range 132).flatMap (fun k => leBytes 2 (
    if sp % 2 ≠ ofB (bandNow e) ∨ k > 128 ∨ (sp < 2 ∧ k > 64) then 0 else lutPoint tile sp set k))

/-- SLOT (R209). -/
def slotEntry (e : Engine) (idx : Nat) : Option (List Byte) :=
  let view := bits idx 20 19
  let s := e.slot (bits idx 18 11)
  let ch := bits idx 10 0
  if idx ≥ 2097152 then none
  else if view = 0 then
    (if ch > 255 then none else some ((List.range 16).flatMap (fun j => leBytes 2 (s.partner (16 * ch + j)))))
  else if view = 1 then
    (if ch ≠ 0 then none
     else some (padWords 8 [wd (ofB s.loaded * 2147483648 + ofB s.cross * 1073741824 + s.partners.length / 2 * 4096), wd s.visits, wd s.updates]))
  else if view = 2 then
    (if ch > 1024 then none
     else some ((List.range 4).flatMap (fun j =>
       let c := Tbl.get (fun _ => (0, 0)) s.corr (4 * ch + j)
       leBytes 4 (trunc 32 c.1) ++ leBytes 4 (trunc 32 c.2))))
  else none

/-- SEGMENT (R209). -/
def segEntry (e : Engine) (idx : Nat) : List Byte :=
  let w := if idx < 1024 then Tbl.get (fun _ => []) e.sch.segs idx
    else ((e.sch.window.find? (fun x => x.1 % 1024 == idx % 1024)).map (·.2)).getD []
  padWords 4 w

/-- ROSTER (R286): the keys read zero. -/
def rosterEntry (e : Engine) (i : Nat) : List Byte := padWords 32 ((e.rosterOf i).take 8)

/-- SENSORCAL (R134): the staged view shows no OVR and UNDER; where nothing is staged it shows the live coefficients (log 81). -/
def calEntry (e : Engine) (view a : Nat) : List Byte :=
  let s := (stagedCal e a).take 8
  padWords 8 (if view = 0 then calOf e a else s.set 5 (wd (setBits (wordAt s 5) 9 0 0)))

/-- LState codes (R159). -/
def LState.code (s : LState) : Nat :=
  match s with | .off => 0 | .acquire => 1 | .track => 2 | .holding => 3 | .frozen => 4 | .disabled => 5

/-- LOOPCFG (R159). -/
def loopEntry (e : Engine) (a : Nat) : List Byte :=
  let l := e.loopOf a
  padWords 16 (((List.range 11).map (fun w => (cfgOf e a).getD w 0#32)) ++
    [wd (trunc 32 l.x.sp), wd (trunc 32 l.y.sp), wd (trunc 32 l.x.out), wd (trunc 32 l.y.out),
     wd (l.st.code * 536870912 + ofB l.locked * 268435456 + ofB l.x.sat * 134217728 + ofB l.y.sat * 67108864
       + ofB (leading e a && decide ((e.aper a).actTarget < 4100)) * 33554432 + min l.missRun 255)])

/-- One entry of a table for a domain, or the status of its failure (R232). -/
def tblRead (e : Engine) (dom table idx : Nat) : List Byte ⊕ Nat :=
  let op (ok : Bool) (l : List Byte) : List Byte ⊕ Nat := if dom ≠ 0 then .inr stNotOwner else if ok then .inl l else .inr stBadParam
  let own (ok mine : Bool) (l : List Byte) : List Byte ⊕ Nat := if !ok then .inr stBadParam else if mine then .inl l else .inr stNotOwner
  match table with
  | 1 => own (decide (idx < 4096)) (dom == 0 || (e.port idx).owner == dom) (portEntry e idx)
  | 2 => own (decide (idx < 4100)) (ownsAp e dom idx) (aperEntry e idx)
  | 3 => own (decide (idx < 8192)) (dom == 0 || hopDom e (idx % 4096) == some dom)
      (if idx < 4096 then queueEntry0 e idx else queueEntry1 e (idx % 4096))
  | 4 => own (decide (idx < 64)) (dom == 0 || idx == dom) (domainEntry e idx)
  | 5 => own (decide (idx < 234881024) && decide (idx % 33554432 < numRecords)) (aimOwner e dom (idx % 33554432))
      (aimEntry e (idx / 33554432) (idx % 33554432))
  | 6 => own (decide (idx < 1312000)) (ownsAp e dom (idx % 328000 / 80)) (bedEntry idx)
  | 7 => op (decide (idx < 4096)) (lutEntry e idx)
  | 8 => match slotEntry e idx with | some l => op true l | none => op false []
  | 9 => op (decide (idx < 2048)) (segEntry e idx)
  | 10 => op (decide (idx < 256)) (rosterEntry e idx)
  | 11 => op (decide (idx < 33554432)) (leBytes 8 (pmEntry e (idx / 512) (idx % 512)))
  | 12 => own (decide (idx < 65536) && decide (idx % 32768 < 4100)) (ownsAp e dom (idx % 32768)) (calEntry e (idx / 32768) (idx % 32768))
  | 13 => own (decide (idx < 4100)) (ownsAp e dom idx) (loopEntry e idx)
  | 14 => op (decide (idx < 32)) (padWords 4 (match e.flt.hist[idx]? with | some r => r.words | none => []))
  | 15 => op (decide (idx < 12288)) (bytesOf (counterEntry e idx))
  | _ => .inr stBadParam

/-- Tables of which a read takes one copy at execution (R174, R325, R340). -/
def copied (table : Nat) : Bool := table == 1 || table == 14 || table == 15

/-- Entries from number `k` on until `n` bytes are on chip: the bytes, and the status of an entry that fails. -/
def fillRead (e : Engine) (dom : Nat) (p : TableP) (n : Nat) : Nat → Nat → List Byte → List Byte × Option Nat
  | 0, _, l => (l, none)
  | f + 1, k, l =>
    if l.length ≥ n then (l, none)
    else
      match tblRead e dom p.table (p.first + k) with
      | .inr st => (l, some st)
      | .inl b => fillRead e dom p n f (k + 1) (l ++ b)

/-- A read of PORT waits for the pin of another (R174). -/
def unpin (e : Engine) : Engine :=
  match e.xact.pinned with
  | none => e
  | some (_, t) =>
    let e := { (waitClk (t + 8000) e) with xact := { e.xact with pinned := none } }
    if e.xact.unpub then publish e else e

/-- Open the stream of a table read with the bytes already copied. -/
def openRead (cx : Cx) (p : TableP) (copy buf : List Byte) (e : Engine) : Engine :=
  let id := e.dma.nextId
  updStream id (fun s => { s with buf := buf })
    (openCmd 8 cx p.addr (entrySize p.table * p.count) true (.tableRead cx p copy) e)

/-- The parameters of R231. -/
def tableOk (p : TableP) : Bool := decide (1 ≤ p.table) && decide (p.table ≤ 15) && iovaOk p.addr 16 (entrySize p.table * p.count)

def tableReadBody (cx : Cx) (p : TableP) (e : Engine) : Engine :=
  if p.count = 0 then complete cx stEmpty 0 e
  else if !tableOk p then complete cx stBadParam 0 e
  else
    let size := entrySize p.table * p.count
    if p.table = 1 then
      let e := unpin e
      match fillRead e cx.domain p size p.count 0 [] with
      | (_, some st) => complete cx st 0 e
      | (l, none) =>
        let clk := e.clk
        openRead cx p l (leBytes 8 e.xact.pubEpoch) { e with xact := { e.xact with pinned := some (cx, clk) } }
    else if copied p.table then
      match fillRead e cx.domain p size p.count 0 [] with
      | ([], some st) => complete cx st 0 e
      | (l, _) =>
        let ends := if p.table = 15 then e.clk + 10000 else e.snap.copyTo
        openRead cx p l [] { e with snap := { e.snap with copyTo := ends } }
    else openRead cx p [] [] e

/-- TABLE_READ at execution. -/
def goTableRead (cx : Cx) (p : TableP) : Engine → Engine :=
  runCmd { opcode := 0x0101, operator := false, hostMem := true } cx p.rsv noPorts (tableReadBody cx p)

/-- TABLE_READ (R231, R232). -/
def execTableRead (cx : Cx) (p : TableP) (s : State) : Host.Outcome State Fault Refusal :=
  .next (s.run (arriveT cx (goTableRead cx p)))

/-- One chunk of a table read moves into the translated run. -/
def tableReadChunk (st : Stream) (cx : Cx) (p : TableP) (copy : List Byte) (parts : List (Nat × Nat)) (e : Engine) : Engine :=
  let n := min 256 (st.len - st.done)
  let r := fillRead e cx.domain p n n ((st.done + copy.length) / entrySize p.table) copy
  let w := r.1.take n
  let done := st.done + w.length
  let e := writeRun parts w e
  match r.2 with
  | some bad => complete cx bad (done / entrySize p.table) (dropStream st.id e)
  | none =>
    if done ≥ st.len then
      complete cx stOk (if p.table = 1 then ofBytes st.buf else p.count) (releasePin cx (dropStream st.id e))
    else updStream st.id (fun s => { s with done := done, job := .tableRead cx p (r.1.drop n) }) e

-- writing -----------------------------------------------------------------------------------------------------------------------------

/-- Apply a QUEUE view 0 write (R211, R234, R237): `none` where it completes OK. -/
def queueWrite (q : Nat) (w : List Word) (e : Engine) : Engine × Option Nat :=
  let h := e.hop q
  let sb := wordAt w 0 + wordAt w 1 * 4294967296
  let cb := wordAt w 2 + wordAt w 3 * 4294967296
  let ss := bits (wordAt w 4) 31 16
  let cs := bits (wordAt w 4) 15 0
  let vec := bits (wordAt w 5) 31 16
  let reserved := bits (wordAt w 1) 31 16 != 0 || bits (wordAt w 3) 31 16 != 0 || bits (wordAt w 5) 15 6 != 0
    || wordAt w 12 &&& 0x3C00E000 != 0 || (span 13 3).any (fun k => wordAt w k != 0)
  if reserved ∨ ss = 1 ∨ cs = 1 ∨ sb % 32 ≠ 0 ∨ cb % 16 ≠ 0 ∨ (vec = 0 ∧ hopDom e q = some 0) then (e, some stBadParam)
  else if h.enabled ∧ ss ≠ 0 ∧ cs ≠ 0 then
    (e, if sb = h.sqBase ∧ cb = h.cqBase ∧ ss = h.sqSize ∧ cs = h.cqSize ∧ vec = h.vector then none else some stPortBusy)
  else
    let e := if h.enabled then orphanHopper q e else e
    let e := updHop q (fun h => { h with sqBase := sb, cqBase := cb, sqSize := ss, cqSize := cs, vector := vec }) e
    let e := if ss ≠ 0 ∧ cs ≠ 0 then
        updHop q (fun h => { h with sqHead := 0, sqTail := 0, cqHead := 0, cqTail := 0, phase := true, dbTimes := [], bells := [] }) e
      else e
    (e, none)

/-- A ROSTER write is refused, written VALID or not (R286): its MAC is another VALID entry's, or its hopper another domain's
(log 40). -/
def rosterBad (e : Engine) (i : Nat) (w : List Word) : Bool :=
  let w0 := wordAt w 0
  let mac := wordAt w 1 + bits (wordAt w 2) 15 0 * 4294967296
  let reserved := bits w0 20 6 != 0 || bits (wordAt w 3) 22 16 != 0 || wordAt w 7 != 0
  reserved || (List.range 256).any (fun j => j != i && rosValid e j &&
    (rosMac e j == mac || (rosHopper e j == 4080 + bits w0 27 24 && rosDomain e j != bits w0 5 0)))

/-- Apply a ROSTER write; a key is applied where its valid bit is written 1 (R286). -/
def rosterPut (i : Nat) (w : List Word) (e : Engine) : Engine :=
  let old := e.rosterOf i
  let w3 := wordAt w 3
  let keep (k : Nat) : Bool := if k < 8 then false else if k < 16 then !bit w3 31 else if k < 24 then !bit w3 28 else !bit w3 25
  let new := (List.range 32).map (fun k => if keep k then old.getD k 0#32 else w.getD k 0#32)
  { e with lrg := { e.lrg with
      roster := Tbl.put (fun _ => []) e.lrg.roster i (if new.all (· == 0#32) then [] else new),
      exhausted := if bit w3 25 ∧ wordAt w 6 < 0xFFFFFFFF then e.lrg.exhausted.filter (· ≠ i) else e.lrg.exhausted,
      rxSpent := e.lrg.rxSpent.filter (fun k => k / 2 ≠ i) } }

/-- Apply a PAGEMAP write; a change of a valid entry flushes the translation cache (R251, R253). -/
def pagePut (idx v : Nat) (e : Engine) : Engine :=
  let old := pmEntry e (idx / 512) (idx % 512)
  let e := { e with dma := { e.dma with map := Tbl.put (fun _ => 0) e.dma.map idx v, bad := e.dma.bad.filter (· ≠ idx) } }
  if bit old 0 ∧ old ≠ v then tcFlush e else e

/-- A write of the live SENSORCAL view clears the sticky bits written as 1 (R134). -/
def calClear (a v : Nat) (e : Engine) : Engine :=
  let w := calOf e a
  let x := wordAt w 5
  let y := setBits x 9 0 (bits x 9 0 &&& (1023 ^^^ bits v 9 0))
  { e with sns := { e.sns with cal := Tbl.ins e.sns.cal a (w.set 5 (wd y)) } }

/-- Apply one entry of a TABLE_WRITE: `none` where it stands (R232). -/
def tblWrite (dom table idx : Nat) (l : List Byte) (e : Engine) : Engine × Option Nat :=
  let w := wordsOf l (entrySize table / 4)
  let ro (op : Bool) : Engine × Option Nat := (e, some (if op && dom != 0 then stNotOwner else stBadParam))
  match table with
  | 2 =>
    if idx ≥ 4100 then (e, some stBadParam)
    else if !ownsAp e dom idx then (e, some stNotOwner)
    else if wordAt w 0 / 1048576 ≠ 0 ∨ wordAt w 1 &&& 0xE000E000 ≠ 0 ∨ wordAt w 2 % 256 ≠ 0 ∨ wordAt w 3 % 65536 ≠ 0 ∨ wordAt w 7 ≠ 0 then
      (e, some stBadParam)
    else (updAper idx (fun x => { x with beacon := bit (wordAt w 0) 14 }) e, none)
  | 3 =>
    if idx ≥ 8192 then (e, some stBadParam)
    else if dom ≠ 0 ∧ hopDom e (idx % 4096) ≠ some dom then (e, some stNotOwner)
    else if idx ≥ 4080 then (e, some stBadParam)
    else queueWrite idx w e
  | 10 =>
    if dom ≠ 0 then (e, some stNotOwner)
    else if idx ≥ 256 ∨ rosterBad e idx w then (e, some stBadParam)
    else (rosterPut idx w e, none)
  | 11 =>
    if dom ≠ 0 then (e, some stNotOwner)
    else if idx ≥ 33554432 ∨ !pmWritable (fieldOf l 0 8) then (e, some stBadParam)
    else (pagePut idx (fieldOf l 0 8) e, none)
  | 12 =>
    if idx ≥ 65536 ∨ idx % 32768 ≥ 4100 then (e, some stBadParam)
    else if !ownsAp e dom (idx % 32768) then (e, some stNotOwner)
    else if idx ≥ 32768 then (e, some stBadParam)
    else if bits (wordAt w 5) 21 10 ≠ 0 then (e, some stBadParam)
    else (calClear idx (wordAt w 5) e, none)
  | 13 =>
    if dom ≠ 0 then (e, some stNotOwner)
    else if idx ≥ 4100 ∨ !cfgOk 2047 (w.take 11) then (e, some stBadParam)
    else (cfgPut 2047 (w.take 11) idx e, none)
  | 8 => ro true
  | 9 => ro true
  | 14 => ro true
  | 15 => ro true
  | _ => ro false

/-- Apply the whole entries that have arrived, from number `k` on: the engine, the entries applied, the bytes left and the
status of an entry that fails. -/
def applyWrites (dom : Nat) (p : TableP) : Nat → Nat → List Byte → Engine → Engine × Nat × List Byte × Option Nat
  | 0, k, l, e => (e, k, l, none)
  | f + 1, k, l, e =>
    let n := entrySize p.table
    if l.length < n then (e, k, l, none)
    else
      match tblWrite dom p.table (p.first + k) (l.take n) e with
      | (e, some st) => (e, k, l, some st)
      | (e, none) => applyWrites dom p f (k + 1) (l.drop n) e

def tableWriteBody (cx : Cx) (p : TableP) (e : Engine) : Engine :=
  if p.count = 0 then complete cx stEmpty 0 e
  else if !tableOk p then complete cx stBadParam 0 e
  else openCmd 8 cx p.addr (entrySize p.table * p.count) false (.tableWrite cx p 0) e

/-- TABLE_WRITE at execution. -/
def goTableWrite (cx : Cx) (p : TableP) : Engine → Engine :=
  runCmd { opcode := 0x0102, operator := false, hostMem := true } cx p.rsv noPorts (tableWriteBody cx p)

/-- TABLE_WRITE (R231, R232). -/
def execTableWrite (cx : Cx) (p : TableP) (s : State) : Host.Outcome State Fault Refusal :=
  .next (s.run (arriveT cx (goTableWrite cx p)))

/-- One chunk of a table write has arrived. -/
def tableWriteChunk (st : Stream) (cx : Cx) (p : TableP) (applied : Nat) (data : List Byte) (e : Engine) : Engine :=
  let r := applyWrites cx.domain p 257 applied (st.buf ++ data) e
  match r.2.2.2 with
  | some bad => complete cx bad r.2.1 (dropStream st.id r.1)
  | none =>
    if st.done + data.length ≥ st.len then complete cx stOk p.count (dropStream st.id r.1)
    else updStream st.id (fun s => { s with done := st.done + data.length, buf := r.2.2.1, job := .tableWrite cx p r.2.1 }) r.1

end Sys2Proof.Machine
end

