-- ==== Sys2Proof/Machine/Ring.lean ====
section
/-! DEFINITION. The Leat station: its ring, its point-to-point links, the token, claims, hellos, pause, shaping and the host
receive rings (R263-R286). -/

namespace Sys2Proof.Machine

-- the station -------------------------------------------------------------------------------------------------------------------

/-- The station's MAC address. -/
def ownMac (e : Engine) : Nat := rdF e Fd.LRG_MAC_LO_MAC + rdF e Fd.LRG_MAC_HI_MAC * 4294967296

/-- The broadcast address and the reserved group address of PAUSE (R281). -/
def broadcastMac : Nat := 0xFFFFFFFFFFFF
def pauseMac : Nat := 0x0180C2000001

def p2p (e : Engine) : Bool := on e Fd.LRG_CTL_MODE

/-- A repeater forwards and originates nothing but hellos (R273). -/
def isRepeater (e : Engine) : Bool := !p2p e && (!on e Fd.LRG_CTL_EN || e.lrg.dupMac)

def ringOf (e : Engine) (onB : Bool) : RingSt := if onB then e.lrg.b else e.lrg.a

def updRing (onB : Bool) (f : RingSt → RingSt) (e : Engine) : Engine :=
  if onB then { e with lrg := { e.lrg with b := f e.lrg.b } } else { e with lrg := { e.lrg with a := f e.lrg.a } }

def wrapped (e : Engine) : Bool := e.lrg.a.wrap || e.lrg.b.wrap

/-- The transmitter that what comes in on ring `onB` goes out of: wrapping a ring routes the other receiver into it (R274). -/
def txOf (e : Engine) (onB : Bool) : Bool := if (ringOf e (!onB)).wrap then !onB else onB

/-- The station receives on this ring or link (R264, R267, R280). -/
def hears (e : Engine) (onB : Bool) : Bool := e.lrg.inserted && (ringOf e onB).lock && (!p2p e || on e Fd.LRG_CTL_EN)

-- the transmitters ------------------------------------------------------------------------------------------------------------

/-- Time of a frame on the line, ns: 25 Gb/s of payload bits (R265, R271). -/
def lineNs (wire : Nat) : Nat := (wire * 8 + 24) / 25

/-- The residence time is added to the correctionField of this frame: a Sync or Delay_Req sent in clear by a VALID entry (R292). -/
def tcWanted (known : Bool) (f : Frame) (e : Engine) : Bool :=
  let ty := fieldOf f.payload 0 1 % 16
  known && on e Fd.TIM_CTL_TC_EN && f.eth == 0x88F7 && f.sec.isNone && decide (16 ≤ f.payload.length) && (ty == 0 || ty == 1)

/-- The residence time of a frame that arrived at clk `a` and leaves at clk `t`, in 2⁻¹⁶ ns of D: its wait, and the station's transit
latency, at most 600 ns and measured to within 2 ns (R266, R292), which is a free value (log 3). -/
def residence (a t : Nat) (e : Engine) : Nat := (clockAfter (t - a : Nat) e.tim.freq 0 0).1.toNat + free e % 39452673

/-- The frame `x` leaves by a transmitter at clk `t`, its residence time added as it does (R271, R292). -/
def startTx (tx : Bool) (t : Nat) (x : Transit) (e : Engine) : Engine :=
  let f := x.f
  let e := updRing tx (fun r => { r with txEnd := some (t + lineNs f.wire) }) e
  match x.tc with
  | none => emit (.frame tx f) e
  | some a =>
    let c := (ofBytes ((f.payload.drop 8).take 8).reverse + residence a t e) % 18446744073709551616
    emit (.frame tx { f with payload := f.payload.take 8 ++ (leBytes 8 c).reverse ++ f.payload.drop 16 })
      (inc Reg.TIM_TC_CNT (useFree e))

/-- A frame goes to the end of what waits for a transmitter (R271). -/
def putOut (tx : Bool) (x : Transit) (e : Engine) : Engine := updRing tx (fun r => { r with transit := r.transit ++ [x] }) e

/-- An own control frame of a ring (R268). -/
def ctlFrame (e : Engine) (kind : Nat) (onB : Bool) (payload : List Byte) : Frame :=
  { da := broadcastMac, sa := ownMac e, kind := kind, ringB := onB, wrap := wrapped e, payload := payload }

/-- STATE of LRG_STAT; before its first token an inserted station only forwards, as a repeater does (log 50). -/
def lrgState (e : Engine) : Nat :=
  if !e.lrg.inserted then 0
  else if p2p e then 5
  else if isRepeater e then 1
  else if e.lrg.a.claiming || e.lrg.b.claiming then 2
  else if wrapped e then 4
  else if e.lrg.operational then 3 else 1

-- shaping -----------------------------------------------------------------------------------------------------------------------

/-- Rate of queue `q` in eighths of a byte per microsecond; 0 unshaped (R285). -/
def shapeRate (e : Engine) (q : Nat) : Nat := min (rdF e (Fd.LRG_SHAPE_RATE.at q 4)) 25000

/-- The buckets after `n` microseconds: eighths of a byte, capped at BURST times 64 bytes (R285). -/
def refilled (e : Engine) (n : Nat) (q : Nat) (b : Int) : Int :=
  min ((rdF e (Fd.LRG_SHAPE_BURST.at q 4) * 512 : Nat) : Int) (b + (n * shapeRate e q : Nat))

/-- The microseconds that have begun since the last refill reach the buckets. -/
def shapeCatch (e : Engine) : Engine :=
  let now := e.clk / 1000
  let n := now - e.lrg.shapeUs
  if n = 0 then e
  else { e with lrg := { e.lrg with bucket := e.lrg.bucket.mapIdx (fun q b => refilled e n q b), shapeUs := now } }

/-- A queue may send (R285). -/
def queueOpen (e : Engine) (q : Nat) : Bool := shapeRate e q == 0 || decide (0 ≤ e.lrg.bucket.getD q 0)

/-- Charge a sent frame to its queue. -/
def charge (q wire : Nat) (e : Engine) : Engine :=
  if shapeRate e q = 0 then e
  else
    let b := e.lrg.bucket.getD q 0 - ((wire + rdF e Fd.LRG_SHAPE_OVH_OVERHEAD) * 8 : Nat)
    { e with lrg := { e.lrg with bucket := setAt e.lrg.bucket q b } }

-- sending own DATA frames ---------------------------------------------------------------------------------------------------------

def queueAt (e : Engine) (q : Nat) : List TxFrame := Tbl.get (fun _ => []) e.lrg.queues q

/-- The own frames are paused (R281). -/
def pausedNow (e : Engine) : Bool := match e.lrg.pauseTo with | some t => decide (e.clk < t) | none => false

/-- The queue served next: strict priority among the eligible ones that `ok` lets send (R271, R285). -/
def pickQueue (ok : TxFrame → Bool) (e : Engine) : Option Nat :=
  if pausedNow e then none
  else [7, 6, 5, 4, 3, 2, 1, 0].find? (fun q => queueOpen e q && (match queueAt e q with | f :: _ => ok f | [] => false))

/-- The transmit packet number of a roster entry moves on (R277). -/
def pnAdvance (i : Nat) (e : Engine) : Engine :=
  let pn := rosBits e i 6 31 0 + 1
  let e := setRos i 6 31 0 pn e
  if pn = 0xC0000000 then note Fd.LRG_CAUSE_PN_WARN e
  else if pn = 0xFFFFFFFF then
    note Fd.LRG_CAUSE_PN_EXHAUST { e with lrg := { e.lrg with exhausted := dedup (i :: e.lrg.exhausted) } }
  else e

/-- The entries that have been in the timestamp queue for 2 s leave it (R299). -/
def tsqPrune (e : Engine) : Engine :=
  let clk := e.clk
  { e with tim := { e.tim with tsq := e.tim.tsq.filter (fun t => decide (clk < t.at_ + 2000000000)) } }

/-- A transmit timestamp enters the queue; when it is full the newest is dropped (R299). -/
def tsqPut (t : TsEntry) (e : Engine) : Engine :=
  let e := tsqPrune e
  let clk := e.clk
  if e.tim.tsq.length < 64 then { e with tim := { e.tim with tsq := e.tim.tsq ++ [{ t with at_ := clk }] } }
  else
    let e := { e with tim := { e.tim with drops := (t.seq :: e.tim.drops).take 8 } }
    note Fd.TIM_CAUSE_TS_OVF (inc Reg.TIM_TSQ_OVF_CNT e)

/-- A frame may leave with the token of ring `onB`: a Delay_Req only on its own ring (R293). -/
def TxFrame.onRing (f : TxFrame) (onB : Bool) : Bool := f.req.isNone || f.onB == onB

/-- The SCI the engine sends: its MAC address with port identifier 1 (R277). -/
def ownSci (e : Engine) : Nat := ownMac e * 65536 + 1

/-- The SCI of a roster entry's station (R277, R286). -/
def rosSci (e : Engine) (i : Nat) : Nat := rosMac e i * 65536 + rosBits e i 2 31 16

/-- Send the head of queue `q` on a transmitter at clk `t`; a frame whose entry can no longer send is discarded (R277, R279). -/
def sendHead (q : Nat) (tx origin : Bool) (t : Nat) (e : Engine) : Engine :=
  match queueAt e q with
  | [] => e
  | f :: rest =>
    let e := { e with lrg := { e.lrg with queues := Tbl.put (fun _ => []) e.lrg.queues q rest } }
    let fr : Frame := { da := f.da, sa := ownMac e, pri := q, ringB := origin, wrap := !p2p e && wrapped e, eth := f.eth,
                        payload := f.payload, wire := f.wire }
    match f.roster with
    | none =>
      let e := charge q f.wire (inc Reg.LRG_TX_CNT (startTx tx t { f := fr } e))
      match f.req with | some r => tsqPut r e | none => e
    | some i =>
      if !txUsable e i then whenE f.cpl (inc Reg.LRG_CPL_DROP_CNT) e
      else
        let sec : SecTag := { an := rosBits e i 3 24 23, pn := rosBits e i 6 31 0, icvOk := true, sci := some (ownSci e) }
        charge q f.wire (inc Reg.LRG_TX_CNT (pnAdvance i (startTx tx t { f := { fr with sec := some sec } } e)))

/-- Frames in the transmit queues. -/
def queued (e : Engine) : Nat := (e.lrg.queues.map (fun p => p.2.length)).sum

-- point-to-point ---------------------------------------------------------------------------------------------------------------------

/-- The link an own frame leaves on (R280). -/
def p2pLink (e : Engine) (f : TxFrame) : Bool := if f.cpl && (ringOf e f.onB).rxUp then f.onB else e.lrg.secondary

/-- The queue that a point-to-point link sends next from at clk `t`; a frame waits while its link is down (R280). -/
def linkQueue (tx : Bool) (t : Nat) (e : Engine) : Option Nat :=
  if !e.lrg.inserted || !on e Fd.LRG_CTL_EN then none
  else pickQueue (fun f => decide (f.at_ ≤ t) && p2pLink e f == tx && (ringOf e tx).rxUp) e

-- the token -----------------------------------------------------------------------------------------------------------------------------

/-- The token held on a ring goes on: forwarded with its TTL decremented, or issued anew by the station whose claim made it,
which has stripped it (R268, R269, R271; log 51). -/
def passToken (onB : Bool) (e : Engine) : Engine :=
  match (ringOf e onB).token with
  | none => e
  | some t =>
    let e := updRing onB (fun r => { r with token := none }) e
    if t.f.sa = ownMac e then putOut (txOf e onB) { f := ctlFrame e 1 onB t.f.payload } e
    else inc Reg.LRG_FWD_CNT (putOut (txOf e onB) { f := { t.f with ttl := t.f.ttl - 1 } } e)

/-- Frames may still be started at clk `t`: one with THT 0, else while the token has been held for less than THT µs (R271). -/
def mayStart (e : Engine) (k : HeldToken) (t : Nat) : Bool :=
  let tht := rdF e Fd.LRG_THT_THT
  if tht = 0 then k.sent == 0 else decide (t - k.at_ < tht * 1000)

/-- The station that holds ring `onB`'s token at clk `t` starts its next own frame, or forwards the token at once: where nothing
eligible is left, its holding time is over, or it has sent its one frame with THT 0 (R271). -/
def serve (onB tx : Bool) (t : Nat) (k : HeldToken) (e : Engine) : Engine :=
  match (if mayStart e k t then pickQueue (fun f => f.onRing onB && decide (f.at_ ≤ t)) e else none) with
  | none => passToken onB e
  | some q => sendHead q tx onB t (updRing onB (fun r => { r with token := some { k with sent := k.sent + 1 } }) e)

/-- The token held that an own frame leaves transmitter `tx` with. -/
def tokenFor (e : Engine) (tx : Bool) : Option (Bool × HeldToken) :=
  [tx, !tx].findSome? (fun b => if txOf e b = tx then (ringOf e b).token.map (fun k => (b, k)) else none)

/-- What a transmitter free at clk `t` does next: it sends the frames that wait for it, then an own frame, on a ring with the token
only (R271, R280). -/
def txNext (tx : Bool) (t : Nat) (e : Engine) : Option Engine :=
  match (ringOf e tx).transit with
  | x :: rest => some (startTx tx t x (updRing tx (fun r => { r with transit := rest }) e))
  | [] =>
    let e := shapeCatch e
    if p2p e then match linkQueue tx t e with | some q => some (sendHead q tx tx t e) | none => none
    else match tokenFor e tx with | some k => some (serve k.1 tx t k.2 e) | none => none

/-- A transmitter up to now: frame after frame, each from the instant at which the one before it ended (R271). -/
def txRun (tx : Bool) : Nat → Engine → Engine
  | 0, e => e
  | n + 1, e =>
    match (ringOf e tx).txEnd with
    | none => match txNext tx e.clk e with | some x => txRun tx n x | none => e
    | some t =>
      if e.clk < t then e
      else
        let y := updRing tx (fun r => { r with txEnd := none }) e
        txRun tx n ((txNext tx t y).getD y)

/-- Both transmitters up to now. -/
def ringRun (e : Engine) : Engine :=
  let n := 2 * (queued e + e.lrg.a.transit.length + e.lrg.b.transit.length) + 6
  txRun true n (txRun false n e)

/-- Bytes that wait for a transmitter. -/
def transitUsed (e : Engine) (tx : Bool) : Nat := ((ringOf e tx).transit.map (fun x => x.f.wire)).sum

/-- The line is no faster than the transmitter, so 16 KiB always hold what arrives: where more frames than that come at one instant of
the model, time moves on (R271; log 51). -/
def transitRoom (tx : Bool) (wire : Nat) : Nat → Engine → Engine
  | 0, e => e
  | n + 1, e =>
    if transitUsed e tx + wire ≤ 16384 then e
    else transitRoom tx wire n (ringRun (waitClk ((ringOf e tx).txEnd.getD e.clk) e))

/-- A frame that needs no token leaves by a transmitter, after those that wait there (R271). -/
def relay (tx : Bool) (x : Transit) (e : Engine) : Engine :=
  let e := transitRoom tx x.f.wire 300 (ringRun e)
  ringRun (putOut tx x e)

def sendOut (tx : Bool) (f : Frame) (e : Engine) : Engine := relay tx { f := f } e

/-- Forward a frame with TTL decremented (R269). -/
def forwardFrame (onB : Bool) (f : Frame) (e : Engine) : Engine :=
  inc Reg.LRG_FWD_CNT (sendOut (txOf e onB) { f with ttl := f.ttl - 1 } e)

/-- Forward a DATA frame (R269, R292). -/
def forwardData (known onB : Bool) (f : Frame) (e : Engine) : Engine :=
  let tc := if tcWanted known f e then some e.clk else none
  inc Reg.LRG_FWD_CNT (relay (txOf e onB) { f := { f with ttl := f.ttl - 1 }, tc := tc } e)

/-- A TOKEN frame arrives (R271-R273). -/
def tokenIn (onB : Bool) (f : Frame) (e : Engine) : Engine :=
  if isRepeater e then forwardFrame onB f e
  else if (ringOf e onB).claiming then e
  else
    let gen := fieldOf f.payload 0 2
    let e := { e with lrg := { e.lrg with gen := gen, operational := true } }
    let e := updRing onB (fun r => { r with tokenAt := e.clk, gen := gen, token := some { at_ := e.clk, f := f } }) e
    ringRun e

/-- Frame after frame until the token of ring `onB` has gone on. -/
def holdOut (onB : Bool) : Nat → Engine → Engine
  | 0, e => e
  | n + 1, e =>
    if (ringOf e onB).token.isNone then e
    else holdOut onB n (ringRun (waitClk ((ringOf e (txOf e onB)).txEnd.getD e.clk) e))

def tokenHoldEnd (onB : Bool) (e : Engine) : Engine :=
  holdOut onB (queued e + (ringOf e (txOf e onB)).transit.length + 3) (ringRun e)

/-- TOKEN_HOLD_END (R271). -/
def execTokenHoldEnd (onB : Bool) (s : State) : Host.Outcome State Fault Refusal := .next (s.run (tokenHoldEnd onB))

def shaperRefill (e : Engine) : Engine :=
  ringRun (shapeCatch (if e.clk / 1000 ≤ e.lrg.shapeUs then waitClk ((e.lrg.shapeUs + 1) * 1000) e else e))

/-- SHAPER_REFILL (R285). -/
def execShaperRefill (s : State) : Host.Outcome State Fault Refusal :=
  .next (s.run (fun e => whenE (!unpowered e) shaperRefill e))

-- claims ----------------------------------------------------------------------------------------------------------------------------------

/-- The station's bid: BID, then its MAC address, as a 56-bit number (R272). -/
def ownBid (e : Engine) : Nat := rdF e Fd.LRG_BID_BID * 281474976710656 + ownMac e

/-- Send the station's claim on a ring: BID, zero, NONCE. -/
def sendClaim (onB : Bool) (e : Engine) : Engine :=
  sendOut (txOf e onB) (ctlFrame e 2 onB (leBytes 1 (rdF e Fd.LRG_BID_BID) ++ [0] ++ leBytes 4 (ringOf e onB).nonce)) e

/-- Until the next token the station is no longer OPERATIONAL (R272). -/
def awaitToken (e : Engine) : Engine := { e with lrg := { e.lrg with operational := false } }

/-- The station claims ring `onB` no longer; with `loop` the two rings are one, and it claims neither. -/
def endClaim (onB loop : Bool) (e : Engine) : Engine :=
  let one (b : Bool) (e : Engine) : Engine :=
    let clk := e.clk
    if (ringOf e b).claiming then updRing b (fun r => { r with claiming := false, tokenAt := clk }) e else e
  whenE loop (one (!onB)) (one onB e)

/-- Start a claim with a nonce drawn anew (R272). -/
def startClaim (onB : Bool) (e : Engine) : Engine :=
  if isRepeater e then e
  else
    let e := awaitToken e
    let e := updRing onB (fun r => { r with claiming := true, nonce := free e % 4294967296, claimAt := e.clk, tokenAt := e.clk }) e
    pathChangeBoth (sendClaim onB (note Fd.LRG_CAUSE_CLAIM (inc Reg.LRG_CLAIM_CNT (useFree e))))

/-- A claim the station starts on its own; with TRT_TMO 0 it never does (R272). -/
def ownClaim (onB : Bool) (e : Engine) : Engine := if rdF e Fd.LRG_TRT_TRT_TMO = 0 then e else startClaim onB e

/-- The station's own claim of ring `onB` has returned: it increments GEN and issues the token (R272). -/
def claimWon (onB loop : Bool) (e : Engine) : Engine :=
  let e := awaitToken (endClaim onB loop e)
  let gen := ((ringOf e onB).gen + 1) % 65536
  let t : HeldToken := { at_ := e.clk, f := ctlFrame e 1 onB (leBytes 2 gen) }
  ringRun (passToken onB (updRing onB (fun r => { r with gen := gen, token := some t }) e))

/-- A duplicate of the station's MAC address: it claims no more and becomes a repeater (R273). -/
def dupFound (onB : Bool) (e : Engine) : Engine :=
  endClaim onB true (note Fd.LRG_CAUSE_DUP_MAC { e with lrg := { e.lrg with dupMac := true } })

/-- BID and NONCE of a CLAIM (R272). -/
def claimBid (f : Frame) : Nat := fieldOf f.payload 0 1 * 281474976710656 + f.sa
def claimNonce (f : Frame) : Nat := fieldOf f.payload 2 4

/-- The claim `nonce` is the one the station has out on ring `b`. -/
def claimOut (e : Engine) (b : Bool) (nonce : Nat) : Bool := (ringOf e b).claiming && nonce == (ringOf e b).nonce

/-- The claim `f` met on ring `onB` shows that the two rings are one loop (R274). -/
def oneLoop (e : Engine) (onB : Bool) (f : Frame) : Bool := wrapped e || f.ringB != onB

/-- A CLAIM with the station's own bid arrives: its own claim, wherever it returns, an old one, or a duplicate's (R272, R273). -/
def ownClaimIn (onB : Bool) (f : Frame) (e : Engine) : Engine :=
  let n := claimNonce f
  if claimOut e onB n then claimWon onB (oneLoop e onB f) e
  else if claimOut e (!onB) n then claimWon (!onB) true e
  else if n = (ringOf e onB).nonce ∨ n = (ringOf e (!onB)).nonce then e
  else dupFound onB e

/-- A CLAIM arrives (R272, R273). -/
def claimIn (onB : Bool) (f : Frame) (e : Engine) : Engine :=
  if isRepeater e then forwardFrame onB f e
  else if claimBid f > ownBid e then
    let e := awaitToken (endClaim onB (oneLoop e onB f) e)
    if f.sa = ownMac e then e else forwardFrame onB f e
  else if claimBid f < ownBid e then (if (ringOf e onB).claiming then sendClaim onB e else startClaim onB e)
  else ownClaimIn onB f e

def trtExpiry (onB : Bool) (e : Engine) : Engine :=
  let tmo := rdF e Fd.LRG_TRT_TRT_TMO
  if p2p e || !e.lrg.inserted || isRepeater e || (ringOf e onB).claiming || tmo == 0 then e
  else startClaim onB (waitClk ((ringOf e onB).tokenAt + 1000 * tmo) e)

/-- TRT_EXPIRY (R272). -/
def execTrtExpiry (onB : Bool) (s : State) : Host.Outcome State Fault Refusal := .next (s.run (trtExpiry onB))

def claimTimeout (onB : Bool) (e : Engine) : Engine :=
  let tmo := rdF e Fd.LRG_TRT_TRT_TMO
  if !(ringOf e onB).claiming || tmo == 0 then e
  else startClaim onB (waitClk ((ringOf e onB).claimAt + 2000 * tmo) e)

/-- CLAIM_TIMEOUT (R272). -/
def execClaimTimeout (onB : Bool) (s : State) : Host.Outcome State Fault Refusal := .next (s.run (claimTimeout onB))

-- hellos, wraps, links ----------------------------------------------------------------------------------------------------------------------

def sendHellos (e : Engine) : Engine :=
  let up := leBytes 2 (ofB e.lrg.a.rxUp + 2 * ofB e.lrg.b.rxUp)
  sendOut true (ctlFrame e 3 true up) (sendOut false (ctlFrame e 3 false up) e)

/-- The next multiple of 100 µs at which no hellos have been sent yet (R274). -/
def helloDue (e : Engine) : Nat :=
  let t := (e.clk + 99999) / 100000 * 100000
  match e.lrg.helloSent with | some h => if t ≤ h then h + 100000 else t | none => t

def helloSendNow (e : Engine) : Engine :=
  if p2p e || !e.lrg.inserted then e
  else
    let e := waitClk (helloDue e) e
    sendHellos { e with lrg := { e.lrg with helloSent := some e.clk } }

/-- HELLO_SEND (R274). -/
def execHelloSend (s : State) : Host.Outcome State Fault Refusal := .next (s.run helloSendNow)

/-- Wrap ring `onB` (R274): the claim goes out of the wrapped ring and returns on the other receiver. -/
def wrapRing (onB : Bool) (e : Engine) : Engine :=
  if (ringOf e onB).wrap then e
  else
    let e := updRing onB (fun r => { r with wrap := true, token := none, claiming := false }) e
    ownClaim (!onB) (pathChangeBoth (note Fd.LRG_CAUSE_WRAP (inc Reg.LRG_WRAP_CNT e)))

/-- Unwrap ring `onB` once its receive is up and the neighbours report that they receive from this station (R275). -/
def tryUnwrap (onB : Bool) (e : Engine) : Engine :=
  let r := ringOf e onB
  if r.wrap && r.rxUp && r.heard && (ringOf e (!onB)).heard then
    ownClaim true (ownClaim false (note Fd.LRG_CAUSE_UNWRAP (updRing onB (fun r => { r with wrap := false }) e)))
  else e

/-- The hellos of a ring have kept coming up to clk `t`; a point-to-point link has none (R267, R280). -/
def hellosTo (e : Engine) (onB : Bool) (t : Nat) : Bool :=
  p2p e || (match (ringOf e onB).helloAt with | some h => decide (t ≤ h + 300000) | none => false)

/-- A HELLO arrives (R267, R274, R275). -/
def helloIn (onB rxA rxB : Bool) (e : Engine) : Engine :=
  if p2p e || !hears e onB then e
  else
    let fresh := hellosTo e onB e.clk
    let e := updRing onB (fun r =>
      { r with helloAt := some e.clk, goodAt := if fresh && r.goodAt.isSome then r.goodAt else some e.clk }) e
    let h := if onB then rxA else rxB
    let e := updRing (!onB) (fun r => { r with heard := h }) e
    if !h then wrapRing (!onB) e else tryUnwrap false (tryUnwrap true e)

/-- HELLO (R274). -/
def execHello (onB rxA rxB : Bool) (s : State) : Host.Outcome State Fault Refusal := .next (s.run (helloIn onB rxA rxB))

/-- Lock or alignment of a receive link is lost (R267). -/
def loseLock (onB : Bool) (e : Engine) : Engine :=
  let clk := e.clk
  updRing onB (fun r => { r with lock := false, goodAt := none, lostAt := if r.lock then clk else r.lostAt }) e

/-- The instant at which an up link goes down: DEBOUNCE after the loss of lock, and in ring mode no later than 300 µs after the
last hello (R267, R280). -/
def downAt (e : Engine) (r : RingSt) : Nat :=
  let lost := r.lostAt + 1000 * rdF e Fd.LRG_LINK_DEBOUNCE
  let quiet := match r.helloAt with | some h => h + 300000 | none => e.clk
  if p2p e then lost else if r.lock then quiet else min lost quiet

/-- A receive link fails; there is no hello in point-to-point mode (R267, R280). -/
def linkDown (l : LinkLoss) (e : Engine) : Engine :=
  let onB := l.onB
  if !e.lrg.inserted || (p2p e && !l.lock) then e
  else if !(ringOf e onB).rxUp then whenE l.lock (loseLock onB) e
  else
    let e := whenE l.lock (loseLock onB) e
    let e := waitClk (downAt e (ringOf e onB)) e
    let e := updRing onB (fun r => { r with rxUp := false, goodAt := none }) e
    let e := note Fd.LRG_CAUSE_LINK_DOWN e
    if p2p e then
      (if onB then e else ringRun { e with lrg := { e.lrg with secondary := true, primaryAt := none } })
    else wrapRing onB e

/-- LINK_DOWN (R267). -/
def execLinkDown (l : LinkLoss) (s : State) : Host.Outcome State Fault Refusal := .next (s.run (linkDown l))

/-- A down link whose conditions have held for 10 ms comes up (R267). -/
def linkUp (onB : Bool) (e : Engine) : Engine :=
  let r := ringOf e onB
  match r.goodAt with
  | none => e
  | some g =>
    if !e.lrg.inserted || r.rxUp || !r.lock || !hellosTo e onB (max e.clk (g + 10000000)) then e
    else
      let e := waitClk (g + 10000000) e
      let e := updRing onB (fun r => { r with rxUp := true }) e
      if p2p e then ringRun (if onB then e else { e with lrg := { e.lrg with primaryAt := some e.clk } })
      else tryUnwrap onB e

/-- LINK_UP (R267). -/
def execLinkUp (onB : Bool) (s : State) : Host.Outcome State Fault Refusal := .next (s.run (linkUp onB))

def blockLock (onB : Bool) (e : Engine) : Engine :=
  if !e.lrg.inserted || (ringOf e onB).lock then e
  else
    let fresh := hellosTo e onB e.clk
    updRing onB (fun r => { r with lock := true, goodAt := if fresh then some e.clk else none }) e

/-- BLOCK_LOCK (R267). -/
def execBlockLock (onB : Bool) (s : State) : Host.Outcome State Fault Refusal := .next (s.run (blockLock onB))

def primaryReturn (e : Engine) : Engine :=
  match e.lrg.primaryAt with
  | none => e
  | some t =>
    if !p2p e || !e.lrg.inserted || !e.lrg.secondary || !e.lrg.a.rxUp then e
    else
      let e := waitClk (t + 1000000000) e
      ringRun { e with lrg := { e.lrg with secondary := false, primaryAt := none } }

/-- PRIMARY_RETURN (R280). -/
def execPrimaryReturn (s : State) : Host.Outcome State Fault Refusal := .next (s.run primaryReturn)

-- pause -------------------------------------------------------------------------------------------------------------------------------------

/-- The station accepts a PAUSE with this DA (R281). -/
def pauseFor (e : Engine) (da : Nat) : Bool := da == ownMac e || (p2p e && da == pauseMac)

/-- A PAUSE is acted on: 20.48 ns per quantum from now (R281). -/
def pauseApply (quanta : Nat) (e : Engine) : Engine :=
  let e := inc Reg.LRG_PAUSE_RX_CNT e
  if quanta = 0 then ringRun { e with lrg := { e.lrg with pauseTo := none } }
  else { e with lrg := { e.lrg with pauseTo := some (e.clk + (quanta * 2048 + 99) / 100) } }

def pauseExpiry (e : Engine) : Engine :=
  match e.lrg.pauseTo with
  | none => e
  | some t =>
    let e := waitClk t e
    ringRun { e with lrg := { e.lrg with pauseTo := none } }

/-- PAUSE_EXPIRY (R281). -/
def execPauseExpiry (s : State) : Host.Outcome State Fault Refusal := .next (s.run pauseExpiry)

/-- The payload of a PAUSE. -/
def pauseBytes (quanta : Nat) : List Byte := [0, 1, BitVec.ofNat 8 (quanta / 256), BitVec.ofNat 8 quanta]

/-- The station sends PAUSE: not with HWM 0, as a repeater, or detached (R264, R273, R282). -/
def pauses (e : Engine) : Bool := rdF e Fd.LRG_PAUSE_HWM != 0 && !isRepeater e && e.lrg.inserted

/-- Send a PAUSE (R282). -/
def sendPause (quanta : Nat) (p : Paused) (e : Engine) : Engine :=
  let f : Frame := { ctlFrame e 0 p.onB (pauseBytes quanta) with da := p.mac, eth := 0x8808 }
  if !pauses e then e
  else inc Reg.LRG_PAUSE_TX_CNT (sendOut (if p2p e then p.onB else txOf e p.onB) f e)

/-- The high and low marks of the receive buffer in bytes (R282). -/
def hwm (e : Engine) : Nat := rdF e Fd.LRG_PAUSE_HWM * 1024
def lwm (e : Engine) : Nat := min (rdF e Fd.LRG_PAUSE_LWM) (rdF e Fd.LRG_PAUSE_HWM - 1) * 1024

/-- Quanta 0 to every station paused, once the buffer has fallen to LWM (R282). -/
def pauseRelease (e : Engine) : Engine :=
  if e.lrg.above && decide (e.lrg.used ≤ lwm e) then
    let l := e.lrg.pausedBy
    each l (sendPause 0) { e with lrg := { e.lrg with above := false, pausedBy := [] } }
  else e

/-- PAUSE_RELEASE (R282). -/
def execPauseRelease (s : State) : Host.Outcome State Fault Refusal := .next (s.run pauseRelease)

/-- Pause the sender of a frame that found the buffer at HWM, or above LWM since (R282). -/
def pauseSender (sa : Nat) (onB : Bool) (e : Engine) : Engine :=
  let mac := if p2p e then pauseMac else sa
  if e.lrg.pausedBy.any (fun p => p.mac == mac) then e
  else if e.lrg.pausedBy.length ≥ 8 then note Fd.LRG_CAUSE_PAUSE_OVF e
  else
    let p : Paused := { mac := mac, onB := onB, at_ := e.clk }
    sendPause (rdF e Fd.LRG_PAUSE_QUANTA) p { e with lrg := { e.lrg with pausedBy := e.lrg.pausedBy ++ [p] } }

/-- A frame has arrived for the buffer, which holds `level` bytes with it (R282). -/
def pauseCheck (sa : Nat) (onB : Bool) (level : Nat) (e : Engine) : Engine :=
  if !pauses e then e
  else if e.lrg.above then (if p2p e then e else pauseSender sa onB e)
  else if level ≥ hwm e then pauseSender sa onB { e with lrg := { e.lrg with above := true } }
  else e

/-- Half the pause time in ns. -/
def halfPause (e : Engine) : Nat := rdF e Fd.LRG_PAUSE_QUANTA * 1024 / 100

def pauseRepeat (e : Engine) : Engine :=
  match e.lrg.pausedBy with
  | [] => e
  | p :: l =>
    if !pauses e || !e.lrg.above || decide (e.lrg.used ≤ lwm e) then e
    else
      let e := waitClk (((p :: l).map (fun p => p.at_ + halfPause e)).foldl min (p.at_ + halfPause e)) e
      let due := fun (p : Paused) => decide (p.at_ + halfPause e ≤ e.clk)
      let all := e.lrg.pausedBy
      each (all.filter due) (sendPause (rdF e Fd.LRG_PAUSE_QUANTA))
        { e with lrg := { e.lrg with pausedBy := all.map (fun p => if due p then { p with at_ := e.clk } else p) } }

/-- PAUSE_REPEAT (R282). -/
def execPauseRepeat (s : State) : Host.Outcome State Fault Refusal := .next (s.run pauseRepeat)

-- host receive rings --------------------------------------------------------------------------------------------------------------------------

def rxSize (e : Engine) (n : Nat) : Nat := rdF e (Fd.LRG_RX_CFG_SIZE.at n 32)
/-- Buffer size in bytes: BUF of 9..15 acts as 8. -/
def rxBuf (e : Engine) (n : Nat) : Nat := min (rdF e (Fd.LRG_RX_CFG_BUF.at n 32)) 8 * 256
def rxHead (e : Engine) (n : Nat) : Nat := rdF e (Fd.LRG_RX_HEAD_HEAD.at n 32)
def rxTail (e : Engine) (n : Nat) : Nat := rdF e (Fd.LRG_RX_TAIL_TAIL.at n 32)
def rxBase (e : Engine) (n : Nat) : Nat :=
  rdF e (Fd.LRG_RX_BASE_LO_BASE.at n 32) * 64 + rdF e (Fd.LRG_RX_BASE_HI_BASE.at n 32) * 4294967296

/-- Buffers of the frame in progress already filled. -/
def rxFilled (e : Engine) (n : Nat) : Nat := Tbl.get (fun _ => 0) e.lrg.rxIndex n

def setFilled (n k : Nat) (e : Engine) : Engine :=
  { e with lrg := { e.lrg with rxIndex := Tbl.put (fun _ => 0) e.lrg.rxIndex n k } }

/-- Address of the descriptor `k` places on from TAIL. -/
def rxDesc (e : Engine) (n k : Nat) : Nat := rxBase e n + 16 * ((rxTail e n + k) % max 1 (rxSize e n))

/-- A descriptor is free for the next buffer. -/
def rxFree (e : Engine) (n : Nat) : Bool :=
  rxSize e n != 0 && rxBuf e n != 0 && decide (rxFilled e n < ringDist (rxSize e n) (rxTail e n) (rxHead e n))

/-- The oldest frame in the buffer for host ring `n`. -/
def rxFirst (e : Engine) (n : Nat) : Option RxFrame := e.lrg.rxq.find? (fun f => f.ring == n)

/-- Remove the oldest element satisfying `p`. -/
def dropFirst {α : Type} (p : α → Bool) : List α → List α
  | [] => []
  | x :: t => if p x then t else x :: dropFirst p t

/-- Change the oldest element satisfying `p`. -/
def onFirst {α : Type} (p : α → Bool) (f : α → α) : List α → List α
  | [] => []
  | x :: t => if p x then f x :: t else x :: onFirst p f t

/-- The oldest frame of ring `n` leaves the buffer. -/
def rxPop (n : Nat) (e : Engine) : Engine :=
  match rxFirst e n with
  | none => e
  | some f => { e with lrg := { e.lrg with rxq := dropFirst (fun x => x.ring == n) e.lrg.rxq, used := e.lrg.used - f.size } }

/-- A frame is dropped for want of a descriptor (R284). -/
def rxNoBuf (e : Engine) : Engine := note Fd.LRG_CAUSE_RX_NOBUF (inc Reg.LRG_NOBUF_CNT e)

/-- The LEAT_RX stream of a host ring. -/
def rxStream (e : Engine) (n : Nat) : Option Stream :=
  e.dma.streams.find? (fun s => match s.job with | .leatRx m => m == n | _ => false)

/-- Begin the next frames of host ring `n`: a stream for the first that finds a descriptor; the others are dropped (R284).
A stream opens without length: its first chunk reads the descriptor. -/
def rxStart (n : Nat) (e : Engine) : Engine :=
  (List.range e.lrg.rxq.length).foldl (fun e _ =>
    if (rxStream e n).isSome || (rxFirst e n).isNone then e
    else if rxFree e n then openStream 12 0 (rxDesc e n (rxFilled e n)) 0 false 0xFFFF 0xFFFF (.leatRx n) (setFilled n 0 e)
    else rxNoBuf (rxPop n e)) e

/-- Bytes 8..15 of descriptor `k` of `m` of a frame (R283). -/
def descTail (e : Engine) (f : RxFrame) (len : Nat) (k m : Nat) (discarded : Bool) : List Byte :=
  let l := if k + 1 < m then rxBuf e f.ring else len
  leBytes 2 l ++ [BitVec.ofNat 8 (ofB (k == 0) + 2 * ofB (k + 1 == m) + 4 * ofB discarded + 8 * ofB f.secured + 16 * f.pri
    + 128 * ofB f.onB), BitVec.ofNat 8 f.roster] ++ leBytes 4 f.ns

/-- A write of descriptor `k` faults: the stream halts at it, all of the frame's buffers moved (R254, R255). -/
def descHalt (s : Stream) (n k : Nat) (e : Engine) : Engine :=
  updStream s.id (fun s => { s with iova := rxDesc e n k + 8, len := 0, done := 0 }) e

/-- Write bytes 8..15 of the frame's `m` descriptors; `.inr` where one of the writes faults. -/
def writeDescs (s : Stream) (f : RxFrame) (len m : Nat) (discarded : Bool) : List Nat → Engine → Engine × Option (Nat × Nat)
  | [], e => (e, none)
  | k :: t, e =>
    match moveRun 0 (rxDesc e f.ring k + 8) 8 true .ok e with
    | (e, .inl parts) => writeDescs s f len m discarded t (writeRun parts (descTail e f len k m discarded) e)
    | (e, .inr why) => (descHalt s f.ring k e, some why)

/-- The frame's descriptors stand: TAIL moves past them and VECTOR is signalled (R283). -/
def rxReturn (n m : Nat) (e : Engine) : Engine :=
  let e := wrF (Fd.LRG_RX_TAIL_TAIL.at n 32) ((rxTail e n + m) % max 1 (rxSize e n)) (setFilled n 0 e)
  let v := rdF e (Fd.LRG_RX_CFG_VECTOR.at n 32)
  if v = 0 then e else signalMsix 0 v e

/-- The frame in progress of ring `n` is discarded as RX_NOBUF and the ring goes on with its next frame (R259, R283). -/
def rxAbandon (n : Nat) (e : Engine) : Engine :=
  match rxStream e n with
  | none => e
  | some s => rxStart n (rxNoBuf (rxPop n (setFilled n 0 (dropStream s.id e))))

/-- Write the descriptors of the `m` buffers filled, the last holding `len` bytes, and close the frame; `drop`: the
descriptors ran out (R284). `.inr` where a write faults. -/
def rxClose (s : Stream) (f : RxFrame) (len m : Nat) (drop : Bool) (e : Engine) : Engine ⊕ Engine × Nat × Nat :=
  match writeDescs s f len m drop (List.range m) e with
  | (e, some why) => .inr (e, why)
  | (e, none) =>
    let e := rxPop f.ring (rxReturn f.ring m (dropStream s.id e))
    .inl (rxStart f.ring (whenE drop rxNoBuf e))

/-- After a buffer of `len` bytes has been filled: the next descriptor, or the end of the frame. -/
def rxNext (s : Stream) (f : RxFrame) (len : Nat) (e : Engine) : Engine ⊕ Engine × Nat × Nat :=
  let m := rxFilled e f.ring + 1
  if f.off + len ≥ f.bytes.length then rxClose s f len m false e
  else if m < ringDist (rxSize e f.ring) (rxTail e f.ring) (rxHead e f.ring) then
    let q := onFirst (fun x => x.ring == f.ring) (fun x => { x with off := f.off + len }) e.lrg.rxq
    let e := setFilled f.ring m { e with lrg := { e.lrg with rxq := q } }
    .inl (updStream s.id (fun s => { s with iova := rxDesc e f.ring m, len := 0, done := 0, write := false, buf := [] }) e)
  else rxClose s f len m true e

/-- One chunk of a LEAT_RX stream: it reads a descriptor, then fills its buffer, then the frame's descriptors are written
(R247, R283); `.inr` where it faults. -/
def rxChunk (s : Stream) (res : HostRes) (e : Engine) : Engine ⊕ Engine × Nat × Nat :=
  match s.job with
  | .leatRx n =>
    match rxFirst e n with
    | none => .inl (dropStream s.id e)
    | some f =>
      if !s.write then
        match moveRun 0 s.iova 16 false res e with
        | (e, .inr why) => .inr (e, why)
        | (e, .inl parts) =>
          let a := fieldOf (readRun e parts) 0 8 % 281474976710656 / 64 * 64
          let data := (f.bytes.drop f.off).take (rxBuf e n)
          .inl (updStream s.id (fun s => { s with iova := a, len := data.length, done := 0, write := true, buf := data }) e)
      else if s.done ≥ s.len then rxNext s f s.buf.length e
      else
        let l := min 256 (s.len - s.done)
        match moveRun 0 (s.iova + s.done) l true res e with
        | (e, .inr why) => .inr (e, why)
        | (e, .inl parts) =>
          let e := writeRun parts ((s.buf.drop s.done).take l) e
          let e := updStream s.id (fun s => { s with done := s.done + l }) e
          if s.done + l < s.len then .inl e else rxNext { s with done := s.done + l } f s.len e
  | _ => .inl e

/-- An authorised write of LRG_RXn_CFG: any write resets HEAD and TAIL and discards a frame in progress. -/
def rxCfgApply (n v : Nat) (e : Engine) : Engine :=
  let e := wr (Reg.LRG_RX_TAIL + 32 * n) 0 (wr (Reg.LRG_RX_HEAD + 32 * n) 0 (wr (Reg.LRG_RX_CFG + 32 * n) v e))
  rxAbandon n (setFilled n 0 e)

/-- A write of LRG_RXn_HEAD: a value of SIZE or more, or one behind the descriptors already taken, is discarded (R283). -/
def rxHeadApply (n v : Nat) (e : Engine) : Engine :=
  let h := bits v 15 0
  let sz := rxSize e n
  if h ≥ sz ∨ ringDist sz (rxTail e n) h < ringDist sz (rxTail e n) (rxHead e n) then note Fd.LRG_CAUSE_HEAD_BAD e
  else wr (Reg.LRG_RX_HEAD + 32 * n) v e

-- receiving ------------------------------------------------------------------------------------------------------------------------------------

/-- The VALID roster entry of a source address. -/
def rosterFrom (e : Engine) (sa : Nat) : Option Nat :=
  (e.lrg.roster.find? (fun p => rosValid e p.1 && rosMac e p.1 == sa)).map (fun p => p.1)

/-- The receive SA slot of a SecTAG: its SCI is explicit and the station's (R277). -/
def rxSa (e : Engine) (i : Nat) (t : SecTag) : Option Nat :=
  if t.sci ≠ some (rosSci e i) then none
  else if rosBits e i 3 31 31 = 1 ∧ rosBits e i 3 30 29 = t.an then some 0
  else if rosBits e i 3 28 28 = 1 ∧ rosBits e i 3 27 26 = t.an then some 1 else none

/-- The 802.1AE checks: SA lookup, ICV, replay; on success the lowest acceptable PN follows the window, and an SA whose last packet
number it has passed takes no further frame (R277). -/
def secCheck (i : Nat) (t : SecTag) (e : Engine) : Option Engine :=
  match rxSa e i t with
  | none => none
  | some k =>
    let low := rosBits e i (4 + k) 31 0
    let next := max low (t.pn + 1 - rosBits e i 3 15 0)
    if !t.icvOk ∨ t.pn < low ∨ 2 * i + k ∈ e.lrg.rxSpent then none
    else
      let e := if next > 0xFFFFFFFF then { e with lrg := { e.lrg with rxSpent := dedup ((2 * i + k) :: e.lrg.rxSpent) } } else e
      some (setRos i (4 + k) 31 0 (min next 0xFFFFFFFF) e)

/-- The bytes of an address on the wire, most significant first. -/
def macBytes (m : Nat) : List Byte := (leBytes 6 m).reverse

-- the frames of the time unit ----------------------------------------------------------------------------------------------------

/-- The roster entry of a slot's master is VALID, the slot enabled and the station inserted (R293). -/
def slotHears (e : Engine) (n : Nat) : Bool :=
  slotEn e n && e.lrg.inserted && rosValid e (rdF e (Fd.TIM_DOM_CFG_MASTER.at n 32)) && !unpowered e

/-- The ring or link a slot takes its Sync from (R293). -/
def slotRing (e : Engine) (n : Nat) : Bool := if p2p e then e.lrg.secondary else on e (Fd.TIM_DOM_CFG_RING.at n 32)

/-- A Sync from slot `n`'s master (R293, R296). -/
def syncIn (n : Nat) (onB wrap : Bool) (ttl : Nat) (r : SyncRec) (e : Engine) : Engine :=
  if n > 1 ∨ !slotHears e n ∨ slotRing e n ≠ onB then e
  else
    let hops := 255 - ttl
    let was := (e.tim.slot n).hops
    let clk := e.clk
    let moved := !p2p e && (wrap || (match was with | some h => h != hops | none => false))
    let e := updSlotT n (fun x => { x with sync := some { r with t2 := stamp r.t2 }, lastSync := clk, hops := if p2p e then x.hops else some hops }) e
    if moved then pathChange n e else e

/-- A Follow_Up from slot `n`'s master (R294). -/
def followUpIn (n seq : Nat) (origin corr : Int) (e : Engine) : Engine :=
  if n > 1 ∨ !slotHears e n then e
  else
    match (e.tim.slot n).sync with
    | none => e
    | some r =>
      if r.seq ≠ seq ∨ r.complete then e
      else updSlotT n (fun x => { x with sync := some { r with t1 := origin, cs := r.cs + corr, complete := true } }) e

/-- A Delay_Resp that answers a Delay_Req of slot `n` (R294). -/
def delayRespIn (n seq : Nat) (t4 cr : Int) (interval : Nat) (e : Engine) : Engine :=
  if n > 1 ∨ !slotHears e n then e
  else
    let e := tsqPrune (updSlotT n (fun x => { x with reqEvery := interval }) e)
    match e.tim.tsq.find? (fun t => t.slot == n && t.seq == seq) with
    | none => e
    | some q =>
      let e := { e with tim := { e.tim with tsq := e.tim.tsq.filter (fun t => t != q) } }
      match (e.tim.slot n).sync with
      | none => e
      | some r =>
        if !r.complete || pathHeld e n then e
        else
          let mpd := ((r.t2 - r.t1 - r.cs) + (t4 - q.t3 - cr)) / 2
          measure n ((r.t2 - r.t1 - r.cs) - mpd) mpd e

/-- An IEEE 1588 number in `k` bytes from `o` on, most significant first. -/
def ptpField (l : List Byte) (o k : Nat) : Nat := ofBytes ((l.drop o).take k).reverse

/-- A two's complement number of `k` bytes. -/
def ptpInt (l : List Byte) (o k : Nat) : Int := sext (8 * k) (ptpField l o k)

/-- A timestamp in 2⁻¹⁶ ns: 48 bits of seconds, 32 of nanoseconds. -/
def ptpStamp (l : List Byte) (o : Nat) : Int := ((ptpField l o 6 * 1000000000 + ptpField l (o + 6) 4) * 65536 : Nat)

/-- The station's port identity (IEEE 1588-2019; log 52). -/
def ownPort (e : Engine) : List Byte := macBytes (ownMac e) ++ [0, 1, 0, 1]

/-- The interval of a logMessageInterval, in ns. -/
def ptpEvery (i : Int) : Nat := if i < 0 then 1000000000 / 2 ^ (-i).toNat else 1000000000 * 2 ^ (min i.toNat 20)

/-- A message from roster entry `i` for slot `n`: the slot acts on those of its master and its domain (R293, R294). -/
def slotMsg (n i : Nat) (onB wrap : Bool) (ttl : Nat) (l : List Byte) (e : Engine) : Engine :=
  let ty := ptpField l 0 1 % 16
  let seq := ptpField l 30 2
  let corr := ptpInt l 8 8
  if rdF e (Fd.TIM_DOM_CFG_MASTER.at n 32) ≠ i ∨ rdF e (Fd.TIM_DOM_CFG_DOMAIN_NUM.at n 32) ≠ ptpField l 4 1 then e
  else if ty = 0 then
    syncIn n onB wrap ttl ⟨seq, ptpStamp l 34, corr, (e.tim.slot n).clock, !bit (ptpField l 6 1) 1⟩ e
  else if ty = 8 then followUpIn n seq (ptpStamp l 34) corr e
  else if ty = 9 ∧ (l.drop 44).take 10 = ownPort e then
    delayRespIn n seq (ptpStamp l 34) corr (ptpEvery (ptpInt l 33 1)) e
  else e

/-- The station copies to the time unit a DATA frame of EtherType 0x88F7 from a VALID roster entry (R293). -/
def timeFrame (i : Nat) (onB : Bool) (f : Frame) (e : Engine) : Engine :=
  match (match f.sec with | some t => secCheck i t e | none => some e) with
  | none => note Fd.LRG_CAUSE_SEC_FAIL (inc Reg.LRG_SEC_CNT e)
  | some e => slotMsg 1 i onB f.wrap f.ttl f.payload (slotMsg 0 i onB f.wrap f.ttl f.payload (inc Reg.LRG_RX_CNT e))

/-- Entries of a ring hopper's 64 in use: each command takes its header and its continuation entries (R222). -/
def ringEntries (bytes : List Byte) : Nat :=
  let plen := fieldOf bytes 8 2
  1 + (if bit (fieldOf bytes 2 1) 0 ∨ plen > 224 then 0 else (plen + 31) / 32)

/-- A protected command frame of roster entry `i` (R278). -/
def ringCommand (i : Nat) (onB : Bool) (pl : List Byte) (e : Engine) : Engine :=
  let hdr := pl.drop 4
  let need := if bit (fieldOf hdr 2 1) 0 then 0 else fieldOf hdr 8 2
  let q := rosHopper e i
  if fieldOf pl 0 1 ≠ 1 ∨ fieldOf pl 1 1 ≠ 1 ∨ pl.length < 36 + need ∨ !(e.dom (rosDomain e i)).ringEn then
    inc Reg.LRG_CMD_BAD_CNT e
  else
    let ref : RingRef := { roster := i, dom := rosDomain e i, mac := rosMac e i, seq := fieldOf pl 2 2, onB := onB }
    let used := (((e.hop q).ring).map (fun r => ringEntries r.bytes)).sum
    if used + ringEntries hdr > 64 then
      ringComplete ref q stPortBusy (fieldOf hdr 4 4 % 4096) 0xF1
        (note Fd.LRG_CAUSE_HOP_FULL (inc Reg.LRG_HOPFULL_CNT e))
    else updHop q (fun h => { h with ring := h.ring ++ [{ ref := ref, bytes := hdr.take (32 + need), sub := e.cmd.subs }] })
        { e with cmd := { e.cmd with subs := e.cmd.subs + 1 } }

/-- A frame for the host enters the receive buffer (R282, R283). -/
def hostFrame (i : Nat) (onB secured : Bool) (f : Frame) (e : Engine) : Engine :=
  let n := if p2p e then 0 else f.pri / 2
  let x : RxFrame := { ring := n, onB := onB, pri := f.pri, secured := secured, roster := i, ns := dNsF e, size := f.wire,
                       bytes := macBytes f.da ++ macBytes f.sa ++ (leBytes 2 f.eth).reverse ++ f.payload }
  rxStart n { e with lrg := { e.lrg with rxq := e.lrg.rxq ++ [x], used := e.lrg.used + f.wire } }

/-- Process a copied frame from roster entry `i` (R277, R278, R281, R283). -/
def process (i : Nat) (onB : Bool) (f : Frame) (e : Engine) : Engine :=
  let checked : Option Engine := match f.sec with | some t => secCheck i t e | none => some e
  match checked with
  | none => note Fd.LRG_CAUSE_SEC_FAIL (inc Reg.LRG_SEC_CNT e)
  | some e =>
    if f.eth = 0x88B5 then
      (if f.sec.isSome ∧ f.da = ownMac e ∧ rosBits e i 0 30 30 = 1 then ringCommand i onB f.payload e else e)
    else if f.eth ∈ [0x88B6, 0x8808, 0x88F7] then e
    else if rosBits e i 0 29 29 = 1 ∧ (f.sec.isSome ∨ rosBits e i 0 28 28 = 1) then hostFrame i onB f.sec.isSome f e
    else e

/-- Copy a frame for processing, if the 128 KiB buffer has room (R269, R282). -/
def copyFrame (i : Nat) (onB : Bool) (f : Frame) (e : Engine) : Engine :=
  let level := e.lrg.used + f.wire
  if level > 131072 then pauseCheck f.sa onB e.lrg.used (inc Reg.LRG_RXDROP_CNT e)
  else process i onB f (pauseCheck f.sa onB level (inc Reg.LRG_RX_CNT (pauseRelease e)))

/-- The DA is one the station copies. -/
def daMine (e : Engine) (da : Nat) : Bool := da == ownMac e || (da == broadcastMac && on e Fd.LRG_CTL_BCAST_EN)

/-- A received MAC Control frame that is a PAUSE: its quanta (R281). -/
def pauseOf (f : Frame) : Option Nat :=
  match f.payload with
  | o1 :: o0 :: q1 :: q0 :: _ =>
    if f.eth = 0x8808 ∧ o1 = 0 ∧ o0 = 1 then some (q1.toNat * 256 + q0.toNat) else none
  | _ => none

/-- A stranger: no VALID entry has its SA (R270). -/
def stranger (e : Engine) : Engine := note Fd.LRG_CAUSE_STRANGER (inc Reg.LRG_STRANGER_CNT e)

/-- A frame arrives in point-to-point mode (R280, R281). -/
def linkFrame (onB : Bool) (f : Frame) (e : Engine) : Engine :=
  if !f.fcsOk then inc Reg.LRG_ORPHAN_CNT e
  else
    match pauseOf f with
    | some q => if pauseFor e f.da then pauseApply q e else e
    | none =>
      match rosterFrom e f.sa with
      | none => stranger e
      | some i => if f.eth = 0x88F7 then timeFrame i onB f e else copyFrame i onB f e

/-- A control frame of the ring goes to its own rule (R271, R272, R274). -/
def ctlIn (onB : Bool) (f : Frame) (e : Engine) : Engine :=
  if f.kind = 1 then tokenIn onB f e
  else if f.kind = 2 then claimIn onB f e
  else helloIn onB (bit (fieldOf f.payload 0 1) 0) (bit (fieldOf f.payload 0 1) 1) e

/-- A DATA frame that is not the station's own (R269, R270, R281). -/
def dataIn (onB : Bool) (f : Frame) (e : Engine) : Engine :=
  match rosterFrom e f.sa with
  | none =>
    let e := stranger e
    if on e Fd.LRG_CTL_STRIP_STRANGER then e else forwardData false onB f e
  | some i =>
    match pauseOf f with
    | some q =>
      if f.da = ownMac e then forwardData true onB f (pauseApply q e)
      else if f.da = pauseMac then inc Reg.LRG_ORPHAN_CNT e
      else forwardData true onB f e
    | none =>
      forwardData true onB f (if f.eth = 0x88F7 then timeFrame i onB f e else whenE (daMine e f.da) (copyFrame i onB f) e)

/-- A frame with the station's own address is stripped; its own token and its own claim have returned to it (R269, R272). -/
def ownFrameIn (onB : Bool) (f : Frame) (e : Engine) : Engine :=
  let e := inc Reg.LRG_STRIP_CNT e
  if f.fcsOk ∧ f.kind = 1 then tokenIn onB f e
  else if f.fcsOk ∧ f.kind = 2 then claimIn onB f e
  else e

/-- A frame that the station receives (R269, R280). A repeater forwards its own address's frames too (R273). -/
def frameHere (onB : Bool) (f : Frame) (e : Engine) : Engine :=
  if p2p e then linkFrame onB f e
  else if f.sa = ownMac e ∧ !isRepeater e then ownFrameIn onB f e
  else if f.kind > 3 ∨ f.ttl ≤ 1 ∨ !f.fcsOk then inc Reg.LRG_ORPHAN_CNT e
  else if f.kind ≠ 0 then ctlIn onB f e
  else if isRepeater e then forwardData (rosterFrom e f.sa).isSome onB f e
  else dataIn onB f e

/-- A frame arrives (R265); the station's transmitters come first. -/
def frameIn (onB : Bool) (f : Frame) (e : Engine) : Engine :=
  if !hears e onB || !f.sized then e
  else frameHere onB f (ringRun e)

/-- RING_FRAME (R269). -/
def execRingFrame (onB : Bool) (f : Frame) (s : State) : Host.Outcome State Fault Refusal := .next (s.run (frameIn onB f))

/-- A control frame of the ring that arrives on ring `onB` from another station. -/
def ctlFrom (o : Origin) (kind : Nat) (onB : Bool) (payload : List Byte) : Frame :=
  { da := broadcastMac, sa := o.sa, kind := kind, ringB := onB, wrap := o.wrap, ttl := o.ttl, payload := payload }

/-- A control frame does not exist in point-to-point mode (R280). -/
def ctlArrives (onB : Bool) (f : Frame) (e : Engine) : Engine := if p2p e then e else frameIn onB f e

/-- TOKEN (R271). -/
def execToken (onB : Bool) (t : TokenIn) (s : State) : Host.Outcome State Fault Refusal :=
  .next (s.run (ctlArrives onB (ctlFrom t.src 1 onB (leBytes 2 t.gen))))

/-- CLAIM (R272, R273). -/
def execClaim (onB : Bool) (bid : Nat) (src : Origin) (nonce : Nat) (s : State) : Host.Outcome State Fault Refusal :=
  .next (s.run (ctlArrives onB (ctlFrom src 2 onB (leBytes 1 bid ++ [0] ++ leBytes 4 nonce))))

/-- PAUSE (R281). -/
def execPause (p : PauseIn) (quanta : Nat) (s : State) : Host.Outcome State Fault Refusal :=
  .next (s.run (frameIn p.onB { da := p.da, sa := p.sa, ttl := p.ttl, eth := 0x8808, payload := pauseBytes quanta }))

/-- COMMAND_FRAME: a frame of EtherType 0x88B5 for this station (R278). -/
def execCommandFrame (onB : Bool) (f : Frame) (s : State) : Host.Outcome State Fault Refusal :=
  .next (s.run (fun e => if f.eth = 0x88B5 ∧ f.kind = 0 ∧ f.da = ownMac e then frameIn onB f e else e))

end Sys2Proof.Machine
end

