-- ==== Sys2Proof/Machine/Time.lean ====
section
/-! DEFINITION. The two slaves' messages, the timestamp queue, SYNC_OUT and PPS (R289, R293-R301). -/

namespace Sys2Proof.Machine

-- Sync and Follow_Up ---------------------------------------------------------------------------------------------------------------

/-- SYNC_MSG: a Sync of the slot's domain and master, with its receive timestamp (R293, R296). -/
def execSyncMsg (slot : Nat) (onB wrap : Bool) (ttl : Nat) (twoStep : Bool) (seq : Nat) (origin corr rxTime : Int) (s : State) :
    Host.Outcome State Fault Refusal :=
  .next (s.run (syncIn slot onB wrap ttl ⟨seq, origin, corr, rxTime, !twoStep⟩))

/-- FOLLOW_UP (R294). -/
def execFollowUp (slot seq : Nat) (origin corr : Int) (s : State) : Host.Outcome State Fault Refusal :=
  .next (s.run (followUpIn slot seq origin corr))

-- Delay_Req and the timestamp queue -------------------------------------------------------------------------------------------------

/-- The bytes of a Delay_Req (IEEE 1588-2019; log 52). -/
def delayReqBytes (e : Engine) (domain seq : Nat) : List Byte :=
  [0x01, 0x12, 0, 44, BitVec.ofNat 8 domain] ++ List.replicate 15 0 ++ ownPort e ++ (leBytes 2 seq).reverse ++ [1, 0x7F] ++ List.replicate 10 0

/-- A slot's Delay_Req goes to queue 7: it leaves with the token of its ring, and its timestamp enters the timestamp queue as
it does (R271, R285, R293, R299). -/
def delayReqNow (n : Nat) (t3 : Int) (e : Engine) : Engine :=
  if n > 1 ∨ !slotHears e n ∨ (isRepeater e : Bool) then e
  else
    let x := e.tim.slot n
    let e := match x.reqAt with | some t => waitClk (t + x.reqEvery) e | none => e
    let dn := rdF e (Fd.TIM_DOM_CFG_DOMAIN_NUM.at n 32)
    let out := if p2p e then e.lrg.secondary else !slotRing e n
    let clk := e.clk
    let t : TsEntry := { t3 := stamp t3, ringB := out, seq := x.seq, domain := dn, slot := n, at_ := clk }
    let e := updSlotT n (fun x => { x with reqAt := some clk, seq := (x.seq + 1) % 65536 }) e
    ringRun (queueFrame 7 { da := 0x011B19000000, eth := 0x88F7, payload := delayReqBytes e dn x.seq,
                            wire := wireLen (p2p e) false 44, onB := out, req := some t } e)

/-- DELAY_REQ_SEND: a Delay_Req leaves with its transmit timestamp (R293, R299). -/
def execDelayReqSend (slot : Nat) (txTime : Int) (s : State) : Host.Outcome State Fault Refusal :=
  .next (s.run (delayReqNow slot txTime))

/-- DELAY_RESP: an exchange is complete; `interval` is the one the master asks for, ns (R293, R294). -/
def execDelayResp (slot seq : Nat) (t4 corr : Int) (interval : Nat) (s : State) : Host.Outcome State Fault Refusal :=
  .next (s.run (delayRespIn slot seq t4 corr interval))

def syncTmoNow (n : Nat) (e : Engine) : Engine :=
  if n > 1 ∨ (e.tim.slot n).state ≠ .locked ∨ unpowered e = true then e
  else
    let tmo := max 1 (rdF e (Fd.TIM_DOM_THR_SYNC_TMO.at n 32))
    enterHoldover n (waitClk ((e.tim.slot n).lastSync + 1000000 * tmo) e)

/-- SYNC_TMO (R295). -/
def execSyncTmo (slot : Nat) (s : State) : Host.Outcome State Fault Refusal := .next (s.run (syncTmoNow slot))

def pathHoldEndNow (n : Nat) (e : Engine) : Engine :=
  match (e.tim.slot n).pathHoldTo with
  | none => e
  | some t => if n > 1 then e else updSlotT n (fun x => { x with pathHoldTo := none }) (waitClk t e)

/-- PATH_HOLD_END (R296). -/
def execPathHoldEnd (slot : Nat) (s : State) : Host.Outcome State Fault Refusal := .next (s.run (pathHoldEndNow slot))

def tsqExpiryNow (e : Engine) : Engine :=
  match e.tim.tsq with
  | [] => e
  | t :: _ => tsqPrune (waitClk (t.at_ + 2000000000) e)

/-- TSQ_EXPIRY (R299). -/
def execTsqExpiry (s : State) : Host.Outcome State Fault Refusal := .next (s.run tsqExpiryNow)

-- PPS and SYNC_OUT -----------------------------------------------------------------------------------------------------------------------

/-- A rising edge of PPS_IN: timestamped, and fed to the selected slot's servo under PPS_DISC, but not when less than 0.9 s
after the previous accepted edge (R301, R396). -/
def ppsInNow (e : Engine) : Engine :=
  if unpowered e then e
  else
    let clk := e.clk
    let u : Int := stamp ((e.tim.d % 65536000000000 : Nat) : Int)
    let e := wr Reg.TIM_PPSIN_NS (dNsF e) (wr Reg.TIM_PPSIN_SEC (dSec e) e)
    let e := { e with tim := { e.tim with ppsInAt := some clk } }
    let near := match e.tim.ppsInFed with | some t => decide (clk < t + 900000000) | none => false
    if !on e Fd.TIM_CTL_PPS_DISC || (e.tim.slot e.tim.sel).state == .locked || near then e
    else
      let o : Int := if u ≥ 32768000000000 then u - 65536000000000 else u
      servoRun e.tim.sel o { e with tim := { e.tim with ppsInFed := some clk } }

/-- PPS_IN (R301). -/
def execPpsIn (s : State) : Host.Outcome State Fault Refusal := .next (s.run ppsInNow)

/-- The first grid instant of D, in ns, at or after `t` (R300). -/
def gridAfter (phase t : Nat) : Nat := if t ≤ phase then phase else (t - phase + 4999) / 5000 * 5000 + phase

/-- Raise SYNC_OUT; with FRAME_SRC LOCAL it is the frame edge (R123, R300). -/
def syncRiseNow (e : Engine) : Engine :=
  let clk := e.clk
  let e := { e with tim := { e.tim with syncHigh := true, syncRise := some clk } }
  if on e Fd.SNS_CTL_FRAME_SRC then frameEdge [] e else e

/-- The next rising edge: on the grid; omitted less than 4.5 µs after the last, produced at once 5.5 µs after it (R300). -/
def syncRiseNext (e : Engine) : Engine :=
  let phase := 10 * min (rdF e Fd.TIM_SYNC_PHASE) 499
  match e.tim.syncRise with
  | none => let g := gridAfter phase (dNs e); syncRiseNow (waitD g e)
  | some r =>
    let e1 := waitClk (r + 4500) e
    let g := gridAfter phase (dNs e1)
    if e1.clk + untilD e1 g > r + 5500 then syncRiseNow (waitClk (r + 5500) e1)
    else syncRiseNow (waitD g e1)

/-- SYNC_OUT_EDGE: the next edge of SYNC_OUT (R300). -/
def syncOutNow (e : Engine) : Engine :=
  if unpowered e then e
  else if e.tim.syncHigh then
    let e := waitClk ((e.tim.syncRise.getD 0) + 2500) e
    { e with tim := { e.tim with syncHigh := false } }
  else if on e Fd.TIM_CTL_SYNC_OUT_EN then syncRiseNext e else e

/-- SYNC_OUT_EDGE (R300). -/
def execSyncOutEdge (s : State) : Host.Outcome State Fault Refusal := .next (s.run syncOutNow)

/-- WIDTH of PPS_OUT in ms. -/
def ppsWidth (e : Engine) : Nat := min 999 (max 1 (rdF e Fd.TIM_PPS_WIDTH))

/-- PPS_OUT rises. -/
def ppsUp (e : Engine) : Engine := { e with tim := { e.tim with ppsHigh := true, ppsRise := some e.clk } }

def ppsOutNow (e : Engine) : Engine :=
  if unpowered e then e
  else if e.tim.ppsHigh then
    let e := waitClk ((e.tim.ppsRise.getD 0) + 1000000 * ppsWidth e) e
    { e with tim := { e.tim with ppsHigh := false } }
  else if on e Fd.TIM_CTL_PPS_OUT_EN then
    ppsUp (waitD ((dSec e + 1) * 1000000000) e)
  else e

/-- PPS_OUT_EDGE (R301). -/
def execPpsOutEdge (s : State) : Host.Outcome State Fault Refusal := .next (s.run ppsOutNow)

-- what the mailbox and the registers show --------------------------------------------------------------------------------------------------

/-- A clock in 2⁻¹⁶ ns as NS, SEC and QNS words, with word 3 (R289). -/
def timeWords (e : Engine) (t : Nat) : List Word :=
  let ns := t / 65536
  [wd (ns % 1000000000), wd (ns / 1000000000),
   wd (bits (ns / 1000000000) 47 32 + (t % 65536 / 16384) * 65536),
   wd (ofB e.tim.valid * 2147483648 + e.tim.sel), 0, 0, 0, 0]

/-- D, through the TIME selector. -/
def timeRead (e : Engine) : List Word := timeWords e (if unpowered e then 0 else e.tim.d)

/-- The clock of slot `n`, through the TIME_SLOT selector. -/
def timeSlotRead (e : Engine) (n : Nat) : List Word := timeWords e (if unpowered e then 0 else (e.tim.slot n).clock.toNat)

/-- One entry of the timestamp queue (R299). -/
def tsWords (t : TsEntry) : List Word :=
  let u := t.t3.toNat
  let ns := u / 65536
  let sec := ns / 1000000000
  [wd (ns % 1000000000), wd sec, wd (bits sec 47 32 + (u % 65536 / 16384 + 4 * ofB t.ringB) * 65536 + 1 * 16777216),
   wd (t.seq + t.domain * 65536 + t.slot * 16777216)]

/-- TIME_SET, and whether it is applied: a malformed time is refused, and so is a step that is held back (R289, R304). -/
def timeSet (data : List Word) (e : Engine) : Engine × Bool :=
  let ns := wordAt data 0
  let w2 := wordAt data 2
  if ns ≥ 1000000000 ∨ w2 / 262144 ≠ 0 then (e, false)
  else
    let t := ((wordAt data 1 + bits w2 15 0 * 4294967296) * 1000000000 + ns) * 65536 + bits w2 17 16 * 16384
    let e := waitD (dNs e / 10 * 10 + 10) e
    let gap : Int := clockGap t e.tim.d
    if stepHeld e && decide (intAbs gap > twoNs) then (note Fd.TIM_CAUSE_SET_REFUSED e, false)
    else
      let e := updSlotT e.tim.sel (fun x => { x with clock := t, acc := 0 }) { e with tim := { e.tim with valid := true, acc := 0 } }
      (dStep gap e, true)

def SlotState.code : SlotState → Nat
  | .disabled => 0 | .listening => 1 | .acquiring => 2 | .locked => 3 | .holdover => 4

/-- TIM_STAT. -/
def timStat (e : Engine) : Nat :=
  let t := e.tim
  let seen := match t.ppsInAt with | some x => decide (e.clk ≤ x + 1500000000) | none => false
  ofB t.valid <<< 31 + t.sel <<< 30 + ofB t.ho.isSome <<< 29 + ofB e.pwr.tbB <<< 28 + t.s0.state.code <<< 25 + t.s1.state.code <<< 22
    + ofB seen <<< 21 + ofB t.stepDefer.isSome <<< 20 + t.tsq.length

/-- The live bits of TIM_CAUSE. -/
def timLive (e : Engine) : Nat :=
  ofB ((e.tim.slot e.tim.sel).state == .holdover) <<< 16 + ofB e.tim.ho.isSome <<< 17 + ofB e.tim.stepDefer.isSome <<< 18

/-- TIM_DOMn_STAT. -/
def domStat (e : Engine) (n : Nat) : Nat :=
  let x := e.tim.slot n
  x.state.code <<< 29 + ofB (pathHeld e n) <<< 28 + (x.hops.getD 0) <<< 8 + x.lockRun

/-- A value in 2⁻¹⁶ ns as 0.25 ns units in 32 bits, saturating. -/
def quarterNs (v : Int) : Nat := trunc 32 (satS 32 (v / 16384))

/-- TIM_TSQ_DROPk. -/
def tsqDrop (e : Engine) (k : Nat) : Nat := e.tim.drops.getD (2 * k) 0 + e.tim.drops.getD (2 * k + 1) 0 * 65536

end Sys2Proof.Machine
end

