-- ==== Sys2Proof/Machine/Streams.lean ====
section
/-! DEFINITION. How streams end and go on: R256-R260, DMA_RESUME, DMA_ABORT and the halt timeout. -/

namespace Sys2Proof.Machine

/-- The command a stream belongs to, by its hopper and tag. -/
def streamCx (s : Stream) : Cx := { domain := s.dom, hopper := s.hopper, tag := s.tag }

/-- A stream ends without its data; its command completes with `status` (R259). -/
def endStream (id status : Nat) (e : Engine) : Engine :=
  match e.stream id with
  | none => e
  | some s =>
    let e := dropStream id e
    match s.job with
    | .sq q => disableHopper q e
    | .cq q => endCq q e
    | .param _ _ _ next loose =>
      settle (match loose with
        | none => complete (streamCx s) status 0 e
        | some _ => if s.orphan then cqDrop e else deliver (streamCx s) false none next status 0 e)
    | .list cx _ => settle (complete cx status 0 e)
    | .flume _ _ =>
      (match e.sch.flume with
       | some (cx, _, _) => complete cx status e.sch.fetched { e with sch := { e.sch with flume := none, spent := true } }
       | none => e)
    | .aim cx _ => aimDone cx status (s.done / 32) e
    | .sload cx _ => complete cx status 0 e
    | .tableRead cx p _ => complete cx status (if p.table = 1 then 0 else s.done / entrySize p.table) (releasePin cx e)
    | .tableWrite cx _ n => complete cx status n e
    | .capture cx _ => complete cx status ((s.done - 32) / 16) e
    | .query cx _ => complete cx status ((s.done - 32) / 4) e
    | .fw cx _ =>
      let e := unstage e
      complete cx status 0 { e with sys := { e.sys with fwBusy := false } }
    | .leatRx n => rxStart n (rxNoBuf (rxPop n (setFilled n 0 e)))

/-- A stream halts in a slot, or ends at once where none is free (R254, R256). -/
def haltOrEnd (id reason level : Nat) (e : Engine) : Engine :=
  match haltStream id reason level e with
  | some e => e
  | none => endStream id stXlate (note Fd.DMA_CAUSE_HALT_FULL e)

/-- Free a slot; its last record stays readable (R255). -/
def clearSlot (n : Nat) (e : Engine) : Engine :=
  { e with dma := { e.dma with slots := Tbl.upd (fun _ => {}) e.dma.slots n (fun r => { r with halted := false }) } }

/-- Restart a halted stream (R257): a completion stream posts what it holds, a submission stream lets its hopper be fetched
again, any other takes its next turn. -/
def resumeStream (id : Nat) (e : Engine) : Engine :=
  match e.stream id with
  | none => e
  | some s =>
    match s.job with
    | .cq q => flushHeld q (dropStream id e)
    | .sq _ => dropStream id e
    | _ => updStream id (fun s => { s with halted := false }) e

/-- Whether the slot holds the fault named (R257). -/
def slotHolds (e : Engine) (p : SlotSeqP) : Bool :=
  decide (p.slot < 64) && (e.slotRec p.slot).halted && (e.slotRec p.slot).seq == p.seq

/-- The issuer may not name this slot (R257). -/
def slotDenied (e : Engine) (cx : Cx) (p : SlotSeqP) : Bool :=
  cx.domain != 0 && decide (p.slot < 64) && (e.slotRec p.slot).halted && (e.slotRec p.slot).dom != cx.domain

def dmaResumeBody (cx : Cx) (p : SlotSeqP) (e : Engine) : Engine :=
  if slotDenied e cx p then complete cx stNotOwner 0 e
  else if !slotHolds e p then complete cx stBadParam 0 e
  else complete cx stOk 0 (resumeStream (e.slotRec p.slot).stream (clearSlot p.slot e))

/-- DMA_RESUME at execution. -/
def goDmaResume (cx : Cx) (p : SlotSeqP) : Engine → Engine :=
  runCmd { opcode := 0x0704, operator := false } cx p.rsv noPorts (dmaResumeBody cx p)

/-- DMA_RESUME (R257). -/
def execDmaResume (cx : Cx) (p : SlotSeqP) (s : State) : Host.Outcome State Fault Refusal :=
  .next (s.run (arriveT cx (goDmaResume cx p)))

def dmaAbortBody (cx : Cx) (p : SlotSeqP) (e : Engine) : Engine :=
  if slotDenied e cx p then complete cx stNotOwner 0 e
  else if !slotHolds e p then complete cx stBadParam 0 e
  else
    let e := inc Reg.DMA_ABORT_CNT (clearSlot p.slot e)
    complete cx stOk 0 (endStream (e.slotRec p.slot).stream stDmaAborted e)

/-- DMA_ABORT at execution. -/
def goDmaAbort (cx : Cx) (p : SlotSeqP) : Engine → Engine :=
  runCmd { opcode := 0x0705, operator := false } cx p.rsv noPorts (dmaAbortBody cx p)

/-- DMA_ABORT (R257, R259). -/
def execDmaAbort (cx : Cx) (p : SlotSeqP) (s : State) : Host.Outcome State Fault Refusal :=
  .next (s.run (arriveT cx (goDmaAbort cx p)))

def haltTmoNow (n : Nat) (e : Engine) : Engine :=
  let r := e.slotRec n
  if n ≥ 64 ∨ !r.halted ∨ r.tmo = 0 then e
  else
    let e := waitClk (r.at_ + 1000000 * r.tmo + 10) e
    endStream r.stream stXlate (note Fd.DMA_CAUSE_HALT_TMO (clearSlot n e))

/-- HALT_TMO (R258): the stream ends when the cycle of its timeout is over, so that a DMA_RESUME of that cycle has come first
(R260; log 87). -/
def execHaltTmo (slot : Nat) (s : State) : Host.Outcome State Fault Refusal := .next (s.run (haltTmoNow slot))

end Sys2Proof.Machine
end

