-- ==== Sys2Proof/Machine/Packet.lean ====
section
/-! DEFINITION. The packets of submission rings: the header entry and the parameter blocks of every opcode (R8, R214, R215, R236),
and the command each spells. -/

namespace Sys2Proof.Machine

-- the header entry ----------------------------------------------------------------------------------------------------------------

/-- The opcodes of the index and the least length of their parameter blocks (R215, R236). -/
def blockLen (op : Nat) : Option Nat :=
  match op with
  | 0x0001 => some 0 | 0x0002 => some 8 | 0x0003 => some 8 | 0x0004 => some 24 | 0x0005 => some 16 | 0x0006 => some 8
  | 0x0101 => some 24 | 0x0102 => some 24
  | 0x0201 => some 16 | 0x0202 => some 24 | 0x0203 => some 8 | 0x0204 => some 20 | 0x0205 => some 8
  | 0x0301 => some 16 | 0x0302 => some 24 | 0x0303 => some 8 | 0x0304 => some 8 | 0x0305 => some 16
  | 0x0401 => some 56 | 0x0402 => some 40 | 0x0403 => some 32 | 0x0404 => some 16
  | 0x0501 => some 16 | 0x0502 => some 8 | 0x0503 => some 4 | 0x0504 => some 24
  | 0x0601 => some 8 | 0x0602 => some 8 | 0x0603 => some 24
  | 0x0701 => some 8 | 0x0702 => some 8 | 0x0703 => some 8 | 0x0704 => some 8 | 0x0705 => some 8
  | _ => none

/-- The opcodes a tenant may issue (R236). -/
def tenantOps : List Nat := [0x0001, 0x0002, 0x0101, 0x0102, 0x0201, 0x0202, 0x0203, 0x0204, 0x0205, 0x0704, 0x0705]

/-- Check 1 of R217: the reserved bits, PARAM_ADDR with the end of the block it names (R247), and PLEN under R215. -/
def headerBad (h : List Byte) : Bool :=
  bits (fieldOf h 2 1) 7 2 != 0 || fieldOf h 7 1 != 0 || fieldOf h 10 6 != 0 || fieldOf h 24 8 != 0
    || (if hParamRef h then decide (hAddr h + hPlen h > 281474976710656) || hAddr h % 8 != 0 || hPlen h == 0
        else hAddr h != 0 || decide (hPlen h > 224))
    || (match blockLen (hOpcode h) with | some n => decide (hPlen h < n) | none => false)

-- parameter blocks ------------------------------------------------------------------------------------------------------------------

/-- Reserved bytes: the fields at these (place, length) and everything from byte `n` on, added up. -/
def rsvOf (l : List Byte) (n : Nat) (fs : List (Nat × Nat)) : Nat :=
  (fs.map (fun f => fieldOf l f.1 f.2)).sum + ofBytes (l.drop n)

/-- Seconds at byte `i` and nanoseconds 8 bytes on. -/
def atOf (l : List Byte) (i : Nat) : At := { sec := fieldOf l i 6, ns := fieldOf l (i + 8) 4 }

/-- Bits [7:k] of byte `i`. -/
def highBits (l : List Byte) (i k : Nat) : Nat := bits (fieldOf l i 1) 7 k

/-- The bytes of an address name a 64-bit value. -/
def addrOf (l : List Byte) (i : Nat) : Nat := fieldOf l i 8

def parsePairTxn (cx : Cx) (l : List Byte) : Instr :=
  let count := fieldOf l 2 2
  let by_ := bit (fieldOf l 4 1) 0
  let n := if by_ then 16 else 16 + 4 * count
  .pairTxn cx { xid := fieldOf l 0 2, count := count, byAddr := by_, addr := addrOf l 8,
                entries := if by_ then [] else wordsOf (l.drop 16) (min count 56), rsv := rsvOf l n [(5, 3)] + highBits l 4 1 }

/-- The commands of groups 0, 1 and 2. -/
def parseLow (op : Nat) (cx : Cx) (l : List Byte) : Option Instr :=
  match op with
  | 0x0001 => some (.nop cx)
  | 0x0002 => some (.getInfo cx { item := fieldOf l 0 1, rsv := rsvOf l 1 [] })
  | 0x0003 => some (.setMode cx { target := fieldOf l 0 1, rsv := rsvOf l 1 [] })
  | 0x0004 => some (.snapshot cx { whn := fieldOf l 0 1, at_ := atOf l 8, rsv := rsvOf l 20 [(1, 7), (14, 2)] })
  | 0x0005 => some (.fwStage cx { addr := addrOf l 0, length := fieldOf l 8 4, rsv := rsvOf l 12 [] })
  | 0x0006 => some (.fwActivate cx { whn := fieldOf l 0 1, rsv := rsvOf l 1 [] })
  | 0x0101 => some (.tableRead cx { table := fieldOf l 0 1, first := fieldOf l 4 4, count := fieldOf l 8 4, addr := addrOf l 16,
                                    rsv := rsvOf l 24 [(1, 3), (12, 4)] })
  | 0x0102 => some (.tableWrite cx { table := fieldOf l 0 1, first := fieldOf l 4 4, count := fieldOf l 8 4, addr := addrOf l 16,
                                     rsv := rsvOf l 24 [(1, 3), (12, 4)] })
  | 0x0201 => some (parsePairTxn cx l)
  | 0x0202 => some (.pairCommit cx { xid := fieldOf l 0 2, whn := fieldOf l 2 1, early := bit (fieldOf l 3 1) 0, at_ := atOf l 8,
                                     rsv := rsvOf l 20 [(4, 4), (14, 2)] + highBits l 3 1 })
  | 0x0203 => some (.pairAbort cx { xid := fieldOf l 0 2, rsv := rsvOf l 2 [] })
  | 0x0204 => some (.pairQuery cx { kind := fieldOf l 0 1, domain := fieldOf l 1 1, xid := fieldOf l 2 2, addr := addrOf l 8,
                                    first := fieldOf l 16 2, count := fieldOf l 18 2, rsv := rsvOf l 20 [(4, 4)] })
  | 0x0205 => some (.portPark cx { port := fieldOf l 0 2, rsv := rsvOf l 2 [] })
  | _ => none

/-- The commands of groups 3 and 4. -/
def parseMid (op : Nat) (cx : Cx) (l : List Byte) : Option Instr :=
  match op with
  | 0x0301 => some (.schLoad cx { kind := fieldOf l 0 1, cross := bit (fieldOf l 1 1) 0, first := fieldOf l 2 2,
                                  count := fieldOf l 4 2, addr := addrOf l 8, rsv := rsvOf l 16 [(6, 2)] + highBits l 1 1 })
  | 0x0302 => some (.schStart cx { first := fieldOf l 0 2, source := fieldOf l 2 1, whn := fieldOf l 3 1, at_ := atOf l 8,
                                   rsv := rsvOf l 20 [(4, 4), (14, 2)] })
  | 0x0303 => some (.schStop cx { how := fieldOf l 0 1, rsv := rsvOf l 1 [] })
  | 0x0304 => some (.schJump cx { target := fieldOf l 0 2, rsv := rsvOf l 2 [] })
  | 0x0305 => some (.schStream cx { addr := addrOf l 0, log2 := fieldOf l 8 1, resume := bit (fieldOf l 9 1) 0,
                                    start := fieldOf l 12 4, rsv := rsvOf l 16 [(10, 2)] + highBits l 9 1 })
  | 0x0401 => some (.loopCfg cx { first := fieldOf l 0 2, count := fieldOf l 2 2, words := fieldOf l 4 2,
                                  restart := bit (fieldOf l 6 1) 0, cfg := wordsOf (l.drop 8) 11,
                                  rsv := rsvOf l 52 [(7, 1)] + highBits l 6 1 })
  | 0x0402 => some (.loopInject cx { aperture := fieldOf l 0 2, axis := fieldOf l 2 1, point := fieldOf l 3 1, wave := fieldOf l 4 1,
                                     start := fieldOf l 5 1, half := fieldOf l 6 2, amp := sext 32 (fieldOf l 8 4),
                                     duration := fieldOf l 12 4, f0 := fieldOf l 16 2, f1 := fieldOf l 18 2, at_ := atOf l 24,
                                     rsv := rsvOf l 36 [(20, 4), (30, 2)] })
  | 0x0403 => some (.captureArm cx { unit := fieldOf l 0 1, axis := fieldOf l 1 1, aperture := fieldOf l 2 2,
                                     trigger := fieldOf l 4 1, length := fieldOf l 6 2, pre := fieldOf l 8 2,
                                     level := fieldOf l 12 4, at_ := atOf l 16,
                                     rsv := rsvOf l 28 [(5, 1), (10, 2), (22, 2)] })
  | 0x0404 => some (.captureRead cx { unit := fieldOf l 0 1, first := fieldOf l 4 2, count := fieldOf l 6 2, addr := addrOf l 8,
                                      rsv := rsvOf l 16 [(1, 3)] })
  | _ => none

/-- The commands of groups 5, 6 and 7. -/
def parseHigh (op : Nat) (cx : Cx) (l : List Byte) : Option Instr :=
  match op with
  | 0x0501 => some (.calSensor cx { first := fieldOf l 0 2, count := fieldOf l 2 2, step := fieldOf l 4 1,
                                    known := sext 16 (fieldOf l 6 2), frames := fieldOf l 8 2, rsv := rsvOf l 10 [(5, 1)] })
  | 0x0502 => some (.calSurvey cx { firstRound := fieldOf l 0 2, rounds := fieldOf l 2 2, measFrames := fieldOf l 4 1,
                                    keep := bit (fieldOf l 5 1) 0, rsv := rsvOf l 6 [] + highBits l 5 1 })
  | 0x0503 => some (.calCommit cx { target := fieldOf l 0 1, action := fieldOf l 1 1, rsv := rsvOf l 2 [] })
  | 0x0504 => some (.aimUpload cx { addr := addrOf l 0, first := fieldOf l 8 4, count := fieldOf l 12 4, set := fieldOf l 16 1,
                                    rsv := rsvOf l 17 [] })
  | 0x0601 => some (.domainCfg cx { domain := fieldOf l 0 1, en := bit (fieldOf l 1 1) 0, vfEn := bit (fieldOf l 1 1) 1,
                                    ringEn := bit (fieldOf l 1 1) 2, hopFirst := fieldOf l 2 2, hopCount := fieldOf l 4 2,
                                    tagQuota := fieldOf l 6 2, rsv := rsvOf l 8 [] + highBits l 1 3 })
  | 0x0602 => some (.ownerSet cx { first := fieldOf l 0 2, count := fieldOf l 2 2, domain := fieldOf l 4 1, rsv := rsvOf l 5 [] })
  | 0x0603 => some (.policerSet cx { first := fieldOf l 0 2, count := fieldOf l 2 2, rate := fieldOf l 4 4, burst := fieldOf l 8 4,
                                     overhead := fieldOf l 12 2, pairCost := fieldOf l 14 2, interval := fieldOf l 16 2,
                                     fill := bit (fieldOf l 18 1) 0, rsv := rsvOf l 19 [] + highBits l 18 1 })
  | 0x0701 => some (.drillSwap cx { dwellMs := fieldOf l 0 4, abortAge := fieldOf l 4 2, rsv := rsvOf l 6 [] })
  | 0x0702 => some (.bistRun cx { suites := fieldOf l 0 1, rsv := rsvOf l 1 [] })
  | 0x0703 => some (.faultClear cx { exitSafe := bit (fieldOf l 0 1) 0, clearCauses := bit (fieldOf l 0 1) 1,
                                     clearHistory := bit (fieldOf l 0 1) 2, rsv := rsvOf l 1 [] + highBits l 0 3 })
  | 0x0704 => some (.dmaResume cx { slot := fieldOf l 0 1, seq := fieldOf l 2 2, rsv := rsvOf l 4 [(1, 1)] })
  | 0x0705 => some (.dmaAbort cx { slot := fieldOf l 0 1, seq := fieldOf l 2 2, rsv := rsvOf l 4 [(1, 1)] })
  | _ => none

/-- The command that an opcode and its parameter bytes spell. -/
def parse (op : Nat) (cx : Cx) (l : List Byte) : Option Instr :=
  if op < 0x0300 then parseLow op cx l else if op < 0x0500 then parseMid op cx l else parseHigh op cx l

/-- The command's parameters name an I/O virtual address (R222). -/
def namesMemory (i : Instr) : Bool :=
  match i with
  | .pairTxn _ p => p.byAddr
  | .pairQuery _ p => p.kind == 1
  | .aimUpload _ _ => true
  | .captureRead _ _ => true
  | .schLoad _ _ => true
  | .schStream _ _ => true
  | .tableRead _ _ => true
  | .tableWrite _ _ => true
  | .fwStage _ _ => true
  | _ => false

/-- Entries the policer charges (R224). -/
def chargedPairs (i : Option Instr) : Nat :=
  match i with
  | some (.pairTxn _ p) => p.count
  | some (.portPark _ _) => 1
  | _ => 0

/-- A PAIR_TXN shorter than its inline entries (R215). -/
def listShort (i : Option Instr) (plen : Nat) : Bool :=
  match i with
  | some (.pairTxn _ p) => !p.byAddr && decide (plen < 16 + 4 * p.count)
  | _ => false

/-- Execute a command that has passed the checks of R217. -/
def runInstr (i : Instr) (extra : Nat) (e : Engine) : Engine :=
  match i with
  | .nop cx => if extra = 0 then goNop cx e else runCmd cmdNop cx extra noPorts (complete cx stBadParam 0) e
  | .getInfo cx p => goGetInfo cx p e
  | .setMode cx p => goSetMode cx p e
  | .snapshot cx p => goSnapshot cx p e
  | .fwStage cx p => goFwStage cx p e
  | .fwActivate cx p => goFwActivate cx p e
  | .tableRead cx p => goTableRead cx p e
  | .tableWrite cx p => goTableWrite cx p e
  | .pairTxn cx p => goPairTxn cx p e
  | .pairCommit cx p => goPairCommit cx p e
  | .pairAbort cx p => goPairAbort cx p e
  | .pairQuery cx p => goPairQuery cx p e
  | .portPark cx p => goPortPark cx p e
  | .schLoad cx p => goSchLoad cx p e
  | .schStart cx p => goSchStart cx p e
  | .schStop cx p => goSchStop cx p e
  | .schJump cx p => goSchJump cx p e
  | .schStream cx p => goSchStream cx p e
  | .loopCfg cx p => goLoopCfg cx p e
  | .loopInject cx p => goLoopInject cx p e
  | .captureArm cx p => goCaptureArm cx p e
  | .captureRead cx p => goCaptureRead cx p e
  | .calSensor cx p => goCalSensor cx p e
  | .calSurvey cx p => goCalSurvey cx p e
  | .calCommit cx p => goCalCommit cx p e
  | .aimUpload cx p => goAimUpload cx p e
  | .domainCfg cx p => goDomainCfg cx p e
  | .ownerSet cx p => goOwnerSet cx p e
  | .policerSet cx p => goPolicerSet cx p e
  | .drillSwap cx p => goDrillSwap cx p e
  | .bistRun cx p => goBistRun cx p e
  | .faultClear cx p => goFaultClear cx p e
  | .dmaResume cx p => goDmaResume cx p e
  | .dmaAbort cx p => goDmaAbort cx p e
  | _ => e

end Sys2Proof.Machine
end

