-- ==== Sys2Proof/Machine/Intake.lean ====
section
/-! DEFINITION. COMMAND_FETCH and CHUNK: the command processor's intake and the DMA engine's turns (R216, R217, R224, R246-R254). -/

namespace Sys2Proof.Machine

-- which hopper is served -----------------------------------------------------------------------------------------------------------

/-- The domain a hopper's next command is for: for a ring hopper that of the association its frame arrived on (R222; log 107). -/
def intakeDom (e : Engine) (q : Nat) : Option Nat :=
  if isRing q then ((e.hop q).ring.head?).map (fun r => r.ref.dom) else hopDom e q

/-- The header bytes next in a hopper, where they can be read. -/
def peekHeader (e : Engine) (q d : Nat) : Option (List Byte) :=
  if isRing q then ((e.hop q).ring.head?).map (fun r => r.bytes.take 32)
  else peekAt e q d (e.hop q).sqHead

/-- A command's entries are visible (R212). -/
def hasWork (e : Engine) (q : Nat) : Bool :=
  if isRing q then !(e.hop q).ring.isEmpty else (e.hop q).enabled && decide (0 < (e.hop q).depth)

/-- The hopper's earlier commands have posted their completions (R214, FENCE). -/
def fenceOpen (e : Engine) (q : Nat) : Bool :=
  owed e q == 0 && (e.hop q).held.isEmpty

/-- Room for one more completion beyond those reserved (R216). -/
def cqRoom (e : Engine) (q : Nat) : Bool :=
  let h := e.hop q
  isRing q || decide (ringDist h.cqSize h.cqHead h.cqTail + owed e q + 1 < h.cqSize)

/-- An internal tag is free for the domain (R216). -/
def tagRoom (e : Engine) (d : Nat) : Bool :=
  decide (tagsUsed e < 4096) && decide (domTags e d < (e.dom d).tagQuota)

/-- Eligible on the timing wheel (R225). -/
def wheelOpen (e : Engine) (q : Nat) : Bool :=
  (e.hop q).interval == 0 || !on e Fd.CMD_CTL_SHAPE_EN || (e.hop q).wheel.isNone

/-- The hopper's submission stream is halted. -/
def sqHalted (e : Engine) (q : Nat) : Bool := e.dma.streams.any (fun s => match s.job with | .sq x => x == q | _ => false)

/-- The intake runs: not with FETCH_EN 0, in the modes in which commands execute, and for ring hoppers in HOLD; entries in host memory
need the DMA (R111, R216, R347). -/
def intakeOpen (e : Engine) (q : Nat) : Bool :=
  on e Fd.CMD_CTL_FETCH_EN && !islandDown e 258 && (isRing q || !dmaOff e) && (inMode e execModes || (e.sys.mode == .hold && isRing q))

/-- Every condition of R216 but completion room and tags. -/
def fetchable (e : Engine) (q : Nat) : Bool :=
  intakeOpen e q && hasWork e q && wheelOpen e q && !sqHalted e q &&
    (match intakeDom e q with
     | none => false
     | some d => domEn e d &&
       (match peekHeader e q d with
        | none => true
        | some h => (isRing q || decide (1 + contEntries h ≤ (e.hop q).depth)) && (!hFence h || fenceOpen e q)))

/-- The hopper may be served (R216). -/
def qualifies (e : Engine) (q : Nat) : Bool :=
  fetchable e q && cqRoom e q && tagRoom e ((intakeDom e q).getD 0)

/-- Held back only by its completion ring. -/
def heldForCq (e : Engine) (q : Nat) : Bool := fetchable e q && !cqRoom e q && tagRoom e ((intakeDom e q).getD 0)
/-- Held back only by tags. -/
def heldForTags (e : Engine) (q : Nat) : Bool := fetchable e q && cqRoom e q && !tagRoom e ((intakeDom e q).getD 0)

def anyCqFull (e : Engine) : Bool := e.cmd.hoppers.any (fun x => heldForCq e x.1)
def anyTagsFull (e : Engine) : Bool := e.cmd.hoppers.any (fun x => heldForTags e x.1)

/-- CQ_FULL and TAGS_FULL are raised as their conditions begin (R216). -/
def fullFlags (e : Engine) : Engine :=
  let c := anyCqFull e
  let t := anyTagsFull e
  let e := if c && !on e Fd.CMD_CAUSE_LIVE_CQ_FULL then note Fd.CMD_CAUSE_CQ_FULL e else e
  let e := if t && !on e Fd.CMD_CAUSE_LIVE_TAGS_FULL then note Fd.CMD_CAUSE_TAGS_FULL e else e
  setLive Fd.CMD_CAUSE_LIVE_CQ_FULL c (setLive Fd.CMD_CAUSE_LIVE_TAGS_FULL t e)

/-- The hopper served next: round-robin in ascending number from the last (R216). -/
def nextHopper (e : Engine) : Option Nat :=
  (sortBy (fun q => (q + 4095 - e.cmd.last) % 4096) (e.cmd.hoppers.map (·.1))).find? (qualifies e)

-- the checks ------------------------------------------------------------------------------------------------------------------------

/-- A packet on chip (R217): where it came from, its header, the ring index of its header entry, whether it holds its TAG, and
whether its hopper has been disabled since its fetch (R221). -/
structure Packet where
  dom : Nat
  hopper : Nat
  hdr : List Byte
  idx : Nat
  next : Nat                               -- SQ_HEAD after its fetch
  sub : Nat                                -- place in the order of submission (R180)
  ref : Option RingRef := none
  held : Bool := true
  orphan : Bool := false
deriving DecidableEq, Repr

def Packet.cx (p : Packet) : Cx := { domain := p.dom, hopper := p.hopper, tag := hTag p.hdr }

/-- Complete a packet that is refused (R217, R221). -/
def refusePacket (p : Packet) (status cause : Nat) (e : Engine) : Engine :=
  if p.held then complete p.cx status (refuseResult p.idx cause) e
  else if p.orphan then cqDrop e
  else deliver p.cx false p.ref p.next status (refuseResult p.idx cause) e

/-- Refused at check 1, 2 or 4..8. -/
def headerErr (p : Packet) (status cause : Nat) (e : Engine) : Engine :=
  refusePacket p status cause (note Fd.CMD_CAUSE_HDR_ERR (inc Reg.CMD_HDR_ERR_CNT e))

/-- The packet takes its TAG (R216). -/
def Packet.hold (p : Packet) (e : Engine) : Engine :=
  holdTag { cx := p.cx, opcode := hOpcode p.hdr, accepted := false, at_ := dNs e, sub := p.sub, sqHead := p.next, ring := p.ref,
            orphan := p.orphan } e

/-- A packet takes its TAG unless it has it or another command of its hopper holds it (R217, check 7; log 108). -/
def claimTag (p : Packet) (e : Engine) : Engine × Packet :=
  if p.held || tagTaken p.cx e then (e, p) else (p.hold e, { p with held := true })

/-- The policer: what a command costs, and the bucket after it (R224); `none` where it is POLICED. -/
def policed (h : Hopper) (cost : Nat) : Option Hopper :=
  if h.rate ≠ 0 ∧ h.burst ≠ 0 ∧ 256 * cost ≤ h.tokens then some { h with tokens := h.tokens - 256 * cost } else none

/-- The length of an inline list, the last part of check 1, then checks 3 to 8 of R217 and the execution of a command whose
parameters are on chip. -/
def checkParams (p : Packet) (params : List Byte) (e : Engine) : Engine :=
  let e := catchUp e
  let h := e.hop p.hopper
  let op := hOpcode p.hdr
  let i := parse op p.cx params
  let plen := hPlen p.hdr
  if listShort i plen then headerErr p stBadParam 0xE1 e
  else
  match policed h (plen + h.overhead + h.pairCost * chargedPairs i) with
  | none =>
    let e := updHop p.hopper (fun h => { h with live := { h.live with policed := (h.live.policed + 1) % 4294967296 } }) e
    refusePacket p stPoliced 0xE3 (note Fd.CMD_CAUSE_POLICED (inc Reg.CMD_POLICED_CNT e))
  | some h' =>
    let e := updHop p.hopper (fun _ => h') e
    let bad := fun st c => headerErr p st c e
    if hDomain p.hdr ≠ p.dom then bad stNotOwner 0xE4
    else
      match i with
      | none => bad stBadOpcode 0xE5
      | some i =>
        if p.dom ≠ 0 ∧ op ∉ tenantOps then bad stNotOwner 0xE6
        else if !p.held then bad stBadParam 0xE7
        else if p.ref.isSome ∧ (hParamRef p.hdr ∨ namesMemory i) then bad stBadParam 0xE8
        else runInstr i (ofBytes params) e

/-- The parameters of a packet are on chip (R217). -/
def afterParams (p : Packet) (params : List Byte) (e : Engine) : Engine :=
  let r := claimTag p e
  checkParams r.2 params r.1

/-- A packet has been fetched: its tag is held, checks 1 and 2 are made, and its parameters follow inline or by a stream
(R216, R217). -/
def takePacket (p : Packet) (params : List Byte) (e : Engine) : Engine :=
  let r := claimTag { p with held := false } e
  let p := r.2
  let e := r.1
  if headerBad p.hdr then headerErr p stBadParam 0xE1 e
  else if hQueue p.hdr ≠ p.hopper then headerErr p stBadParam 0xE2 e
  else if hParamRef p.hdr && p.ref.isNone then
    openStream 2 p.dom (hAddr p.hdr) (hPlen p.hdr) false p.hopper (hTag p.hdr)
      (.param p.hopper p.hdr p.idx p.next (if p.held then none else some p.sub)) e
  else afterParams p params e

/-- The hopper has been served: its wheel slot (R225), and the round-robin's place. -/
def served (q : Nat) (e : Engine) : Engine :=
  let us := dUs e
  let e := { e with cmd := { e.cmd with last := q } }
  updHop q (fun h => if h.interval = 0 then h else { h with wheel := some ((us + h.interval) % 1024) }) e

/-- The submission stream of a hopper halts (R254), or without a free slot the hopper is disabled (R256, R259). -/
def sqFault (q d iova why level : Nat) (e : Engine) : Engine :=
  let id := e.dma.nextId
  haltOrEnd id why level (openStream 1 d iova 32 false q 0xFFFF (.sq q) e)

/-- Read the continuation entries of a command: the `n` entries from entry `i` on are one chunk, or at the end of the ring the two
that lie in one piece each; `.inr` the first address of a chunk that faults (R212, R247; log 89). -/
def readEntries (q d n i : Nat) (res : HostRes) (e : Engine) : Engine × (List Byte ⊕ Nat × Nat × Nat) :=
  let h := e.hop q
  let i := i % max 1 h.sqSize
  let k := min n (h.sqSize - i)
  if n = 0 then (e, .inl [])
  else
    match moveRun d (h.sqBase + 32 * i) (32 * k) false res e with
    | (e, .inr f) => (e, .inr (h.sqBase + 32 * i, f))
    | (e, .inl parts) =>
      let b := readRun e parts
      if k = n then (e, .inl b)
      else
        match moveRun d h.sqBase (32 * (n - k)) false res e with
        | (e, .inr f) => (e, .inr (h.sqBase, f))
        | (e, .inl parts) => (e, .inl (b ++ readRun e parts))

/-- The place of the command at the head of a hopper: that of the first doorbell that makes all its `n` entries visible (R180). -/
def subOf (e : Engine) (h : Hopper) (n : Nat) : Nat :=
  ((h.bells.find? (fun b => decide (n ≤ ringDist h.sqSize h.sqHead b.1))).map (·.2)).getD e.cmd.subs

/-- A hopper after `n` of its entries have been fetched. -/
def Hopper.took (h : Hopper) (n : Nat) : Hopper :=
  { h with sqHead := (h.sqHead + n) % max 1 h.sqSize, bells := h.bells.filter (fun b => decide (n < ringDist h.sqSize h.sqHead b.1)) }

/-- Fetch the next command of a host hopper (R212, R216). -/
def fetchHost (q d : Nat) (res : FetchRes) (e : Engine) : Engine :=
  let h := e.hop q
  match moveRun d (h.sqBase + 32 * h.sqHead) 32 false res.head (eccMeets res.head (sqTurn (takeLink 1 e))) with
  | (e, .inr (why, l)) => sqFault q d (h.sqBase + 32 * h.sqHead) why l e
  | (e, .inl parts) =>
    let hdr := readRun e parts
    let n := contEntries hdr
    match readEntries q d n (h.sqHead + 1) res.rest (eccMeets res.rest e) with
    | (e, .inr (a, why, l)) => sqFault q d a why l e
    | (e, .inl body) =>
      let p : Packet := { dom := d, hopper := q, hdr := hdr, idx := h.sqHead, next := (h.took (1 + n)).sqHead, sub := subOf e h (1 + n) }
      takePacket p (body.take (hPlen hdr)) (served q (updHop q (Hopper.took · (1 + n)) e))

/-- Take the next command of a ring hopper (R222, R278). -/
def fetchRing (q d : Nat) (e : Engine) : Engine :=
  match (e.hop q).ring with
  | [] => e
  | r :: rest =>
    let h := e.hop q
    let next := (h.sqHead + ringEntries r.bytes) % 64
    let e := served q (updHop q (fun h => { h with sqHead := next, ring := rest }) e)
    let hdr := r.bytes.take 32
    takePacket { dom := d, hopper := q, hdr := hdr, idx := h.sqHead, next := next, sub := r.sub, ref := some r.ref }
      ((r.bytes.drop 32).take (hPlen hdr)) e

/-- One turn of the command processor (R216); a fetch from host memory waits for the class-1 streams whose turn comes first
(R248). -/
def fetchNow (res : FetchRes) (e : Engine) : Engine :=
  let e := catchUp e
  match nextHopper e with
  | none => fullFlags e
  | some q =>
    let d := (intakeDom e q).getD 0
    if isRing q then fullFlags (settle (fetchRing q d e))
    else if sqWaits e then fullFlags e
    else fullFlags (settle (fetchHost q d res e))

/-- COMMAND_FETCH (R216). -/
def execCommandFetch (host : FetchRes) (s : State) : Host.Outcome State Fault Refusal := .next (s.run (fetchNow host))

-- chunks --------------------------------------------------------------------------------------------------------------------------------

/-- A read stream's data is complete. -/
def readDone (s : Stream) (data : List Byte) (e : Engine) : Engine :=
  let e := dropStream s.id e
  match s.job with
  | .param q hdr idx next loose =>
    settle (afterParams { dom := s.dom, hopper := q, hdr := hdr, idx := idx, next := next, sub := loose.getD 0,
                          held := loose.isNone, orphan := s.orphan } data e)
  | .list cx p => settle (pairTxnGo cx { p with entries := wordsOf data p.count } e)
  | .flume first n => flumeBlock first n data e
  | .sload cx p => schLoaded cx p data e
  | .fw cx _ => { e with sys := { e.sys with fwStage := some (cx, data) } }
  | _ => e

/-- A chunk's bytes have been read (R247). -/
def readChunk (s : Stream) (data : List Byte) (e : Engine) : Engine :=
  let last := decide (s.done + data.length ≥ s.len)
  match s.job with
  | .aim cx p =>
    (match aimChunk cx p (data.length / 32) data (s.done / 32) e with
     | (e, false) => dropStream s.id e
     | (e, true) =>
       if last then aimDone cx stOk p.count (dropStream s.id e)
       else updStream s.id (fun s => { s with done := s.done + data.length }) e)
  | .tableWrite cx p n => tableWriteChunk s cx p n data e
  | _ =>
    if last then readDone s (s.buf ++ data) e
    else updStream s.id (fun s => { s with done := s.done + data.length, buf := s.buf ++ data }) e

/-- A chunk is written into its translated run (R247). -/
def writeChunk (s : Stream) (n : Nat) (parts : List (Nat × Nat)) (e : Engine) : Engine :=
  match s.job with
  | .tableRead cx p copy => tableReadChunk s cx p copy parts e
  | .capture cx p => put cx p.count
  | .query cx p => put cx p.count
  | _ => e
where
  put (cx : Cx) (result : Nat) : Engine :=
    let e := writeRun parts ((s.buf.drop s.done).take n) e
    if s.done + n ≥ s.len then complete cx stOk result (dropStream s.id e)
    else updStream s.id (fun s => { s with done := s.done + n }) e

/-- Move the stream's next chunk, whole or not at all (R247, R254). -/
def moveChunk (s : Stream) (res : HostRes) (e : Engine) : Engine :=
  match s.job with
  | .leatRx _ =>
    (match rxChunk s res e with
     | .inl e => e
     | .inr (e, why, l) => haltOrEnd s.id why l e)
  | _ =>
    let n := min 256 (s.len - s.done)
    match moveRun s.dom (s.iova + s.done) n s.write res e with
    | (e, .inr (why, l)) => haltOrEnd s.id why l e
    | (e, .inl parts) => if s.write then writeChunk s n parts e else readChunk s (readRun e parts) e

/-- The stream that has moved takes the last place in the turns of its class (R248). -/
def toBack (id : Nat) (e : Engine) : Engine :=
  let l := e.dma.streams
  { e with dma := { e.dma with streams := l.filter (fun s => s.id != id) ++ l.filter (fun s => s.id == id), last := some id,
                               sqBefore := e.dma.sqBefore.filter (· ≠ id) } }

/-- A submission fetch is ready whose turn comes before a chunk of `s`: before every one of a lower class, and in class 1 by
round-robin (R248). -/
def fetchFirst (s : Stream) (e : Engine) : Bool :=
  (match nextHopper (catchUp e) with | some q => !isRing q | none => false) &&
    (decide (2 ≤ kindClass s.kind) || (kindClass s.kind == 1 && decide (s.id ∉ e.dma.sqBefore) && !sqWaits e))

/-- One chunk of a stream whose turn it is (R247, R248). -/
def chunkNow (id : Nat) (res : HostRes) (e : Engine) : Engine :=
  match turn e with
  | none => e
  | some s =>
    if s.id ≠ id ∨ fetchFirst s e then e
    else
      let e := if preempts e (kindClass s.kind) then inc Reg.DMA_PREEMPT_CNT e else e
      toBack id (moveChunk s res (eccMeets res e))

/-- CHUNK (R247). -/
def execChunk (stream : Nat) (res : HostRes) (s : State) : Host.Outcome State Fault Refusal := .next (s.run (chunkNow stream res))

end Sys2Proof.Machine
end

