-- ==== Sys2Proof/Machine/HostPci.lean ====
section
/-! DEFINITION. The PCI Express functions: link, resets and errors (R239, R240, R261, R262, R393). -/

namespace Sys2Proof.Machine

/-- The mailbox of a function (R319). -/
def fnMbx (fn : Nat) : Nat := if fn = 0 then 0 else 16 + fn

/-- A hopper is disabled by a reset: both sizes are written to 0 (R261, R326). -/
def resetHopper (q : Nat) (e : Engine) : Engine :=
  if (e.hop q).enabled then orphanHopper q (updHop q (fun h => { h with sqSize := 0, cqSize := 0 }) e)
  else updHop q (fun h => { h with sqSize := 0, cqSize := 0 }) e

/-- A stream of a reset domain ends without further transfer; its command's completion is discarded (R221, R261). -/
def killStream (s : Stream) (e : Engine) : Engine :=
  match s.job with
  | .sq _ => dropStream s.id e
  | .cq _ => dropStream s.id e
  | .leatRx n => rxAbandon n e
  | .flume _ _ => dropStream s.id e
  | .param _ _ _ _ (some _) => cqDrop (dropStream s.id e)
  | .fw cx _ =>
    let e := unstage (dropStream s.id e)
    complete cx stXlate 0 { e with sys := { e.sys with fwBusy := false } }
  | _ => complete (streamCx s) stXlate 0 (dropStream s.id e)

/-- SCH_STREAM ends with domain 0's reset: the player under-runs once the window is spent (R259, R261). -/
def killFlume (e : Engine) : Engine :=
  match e.sch.flume with
  | some (cx, _, _) => complete cx stXlate 0 { e with sch := { e.sch with flume := none, spent := true } }
  | none => e

/-- The configuration, the MSI-X table and the pending bits of function `d` return to their reset values: every vector masked,
no bus master (R261, R326). -/
def fnReset (d : Nat) (h : HifSt) : HifSt :=
  { h with cfg := Tbl.del h.cfg d, vecs := h.vecs.filter (fun x => x.1 / 64 != d), opened := h.opened.filter (· ≠ d),
           pba := h.pba.filter (fun p => p.1 != d) }

/-- A function-level reset of domain `d` (R261). -/
def flrDomain (d : Nat) (e : Engine) : Engine :=
  let qs := (e.cmd.hoppers.map (·.1)).filter (fun q => !isRing q && hopDom e q == some d)
  let e := each qs resetHopper e
  let ts := e.xact.txns.filter (fun t => t.dom == d && !t.restore && !t.checked)
  let e := each ts (fun t => failTxn t.id 0x0E 0xFFFF) e
  let e := each (e.dma.streams.filter (fun s => s.dom == d)) killStream e
  let e := if d = 0 then killFlume e else e
  let e := settle (tcDropDom d e)
  { e with
    hif := fnReset d { e.hif with flrBusy := dedup (d :: e.hif.flrBusy) }
    mbx := Tbl.put (fun _ => {}) e.mbx (fnMbx d) {} }

/-- A counted function-level reset. -/
def flrOne (d : Nat) (e : Engine) : Engine := note Fd.HIF_CAUSE_FLR (inc Reg.HIF_FLR_CNT (flrDomain d e))

/-- A function exists. -/
def fnExists (e : Engine) (fn : Nat) : Bool := fn == 0 || decide (fn ≤ e.hif.numVfs)

def flrNow (fn : Nat) (e : Engine) : Engine :=
  if !e.hif.up || !fnExists e fn || decide (fn ∈ e.hif.flrBusy) then e else flrOne fn e

/-- FLR (R261). -/
def execFlr (fn : Nat) (s : State) : Host.Outcome State Fault Refusal := .next (s.run (flrNow fn))

/-- FLR_DONE: the reset is complete; the function issues no request until the host enables it again (R261). -/
def flrDoneNow (fn : Nat) (e : Engine) : Engine :=
  { e with hif := { e.hif with flrBusy := e.hif.flrBusy.filter (· ≠ fn) } }

/-- FLR_DONE (R261). -/
def execFlrDone (fn : Nat) (s : State) : Host.Outcome State Fault Refusal := .next (s.run (flrDoneNow fn))

/-- Every function that exists is reset, as is the QUEUE entry of every hopper; VF Enable is cleared, so no virtual function
exists, and no translation stays (R262, R326). -/
def resetFunctions (e : Engine) : Engine :=
  let there := 0 :: span 1 e.hif.numVfs
  let e := each (List.range 64) (fun d e => if d ∈ there then flrOne d e else flrDomain d e) e
  let e := each ((e.cmd.hoppers.map (·.1)).filter (fun q => !isRing q && (hopDom e q).isNone)) resetHopper e
  { e with hif := { e.hif with numVfs := 0, cfg := [], vecs := [], opened := [], flrBusy := there }, dma := { e.dma with tc := [] } }

/-- HOT_RESET (R262). -/
def execHotReset (s : State) : Host.Outcome State Fault Refusal :=
  .next (s.run (fun e => if e.hif.up then resetFunctions e else e))

/-- PERST_N low for `lowNs`: recognised at 1 µs, as a hot reset (R262, R393). -/
def execPerstN (lowNs : Nat) (s : State) : Host.Outcome State Fault Refusal :=
  .next (s.run (fun e => if e.sys.mode = .off ∨ lowNs < 1000 then e else resetFunctions (pass 1000 e)))

/-- PCIE_LINK_DOWN (R262). -/
def execPcieLinkDown (s : State) : Host.Outcome State Fault Refusal :=
  .next (s.run (fun e =>
    if e.hif.up then
      let e := resetFunctions e
      note Fd.HIF_CAUSE_DOWN { e with hif := { e.hif with up := false, speed := 0, width := 0 } }
    else e))

/-- The link is below 32 GT/s ×8 (HIF_LINK.DEGRADED). -/
def degraded (e : Engine) : Bool := e.hif.up && (decide (e.hif.speed < 5) || decide (e.hif.width < 8))

/-- The functions as the host has configured them: 63 virtual functions, every function a bus master with its MSI-X vectors
open (log 60). -/
def configured (h : HifSt) : HifSt :=
  { h with numVfs := 63, cfg := (List.range 64).map (fun f => (f, { master := true, msixEn := true })), opened := List.range 64, flrBusy := [] }

/-- The link trains: DL_UP, SPEED and WIDTH (R239); a host that finds no virtual function enabled configures the functions. -/
def linkTrained (speed width : Nat) (e : Engine) : Engine :=
  if inMode e [.off, .cooldown] ∨ speed = 0 ∨ speed > 5 ∨ width ∉ [1, 2, 4, 8] then e
  else
    let h := { e.hif with up := true, speed := speed, width := width }
    let e := { e with hif := if h.numVfs = 0 then configured h else h }
    if degraded e then note Fd.HIF_CAUSE_DEGRADED e else e

/-- PCIE_LINK_UP: the link has trained and the host has configured the functions (R239; log 60). -/
def execPcieLinkUp (speed width : Nat) (s : State) : Host.Outcome State Fault Refusal :=
  .next (s.run (linkTrained speed width))

/-- NumVFs falls to `n` (0 with VF Enable cleared): each function that stops existing undergoes its reset (R240). -/
def vfDisableNow (n : Nat) (e : Engine) : Engine :=
  if !e.hif.up ∨ n ≥ e.hif.numVfs then e
  else
    let gone := span (n + 1) (e.hif.numVfs - n)
    let e := each gone flrOne e
    { e with hif := { e.hif with numVfs := n } }

/-- VF_DISABLE (R240). -/
def execVfDisable (numVfs : Nat) (s : State) : Host.Outcome State Fault Refusal := .next (s.run (vfDisableNow numVfs))

/-- An uncorrectable error is logged: which of the standard's errors it was is a free value, in the status of the physical
function (R239; log 86). -/
def aerNow (e : Engine) : Engine :=
  if !e.hif.up then e
  else
    let v := free e % 4294967296
    let set (c : FnCfg) : FnCfg := { c with aer := c.aer ||| v }
    note Fd.HIF_CAUSE_AER (useFree { e with hif := { e.hif with cfg := Tbl.upd (fun _ => {}) e.hif.cfg 0 set } })

/-- AER (R239). -/
def execAer (s : State) : Host.Outcome State Fault Refusal := .next (s.run aerNow)

-- MSI-X tables and configuration spaces ---------------------------------------------------------------------------------------

/-- Vectors of a function's MSI-X table (R239). -/
def vecCount (fn : Nat) : Nat := if fn = 0 then 64 else 16

/-- A dword of a function's MSI-X table: four for each vector (R241, R242). -/
def msixRead (e : Engine) (fn o : Nat) : Nat :=
  let v := o / 16
  let x := e.vec fn v
  if v ≥ vecCount fn then 0
  else if o / 4 % 4 = 0 then x.addr % 4294967296 else if o / 4 % 4 = 1 then x.addr / 4294967296
  else if o / 4 % 4 = 2 then x.data else ofB (vecMasked e fn v)

/-- A dword of a function's pending-bit array. -/
def pbaRead (e : Engine) (fn k : Nat) : Nat := bitsOf ((List.range 32).map (fun j => decide ((fn, 32 * k + j) ∈ e.hif.pba)))

/-- The messages that no mask holds back any longer are sent, and their pending bits clear (R239, R245). -/
def pbaFlush (e : Engine) : Engine :=
  let go := e.hif.pba.filter (fun p => vecOpen e p.1 p.2)
  each go (fun p => signalMsix p.1 p.2) { e with hif := { e.hif with pba := e.hif.pba.filter (fun p => !vecOpen e p.1 p.2) } }

/-- A write of a dword of a function's MSI-X table. -/
def msixWrite (fn o v : Nat) (e : Engine) : Engine :=
  let set (x : Vec) : Vec :=
    if o / 4 % 4 = 0 then { x with addr := x.addr / 4294967296 * 4294967296 + v / 4 * 4 }
    else if o / 4 % 4 = 1 then { x with addr := v * 4294967296 + x.addr % 4294967296 }
    else if o / 4 % 4 = 2 then { x with data := v } else { x with mask := some (bit v 0) }
  if o / 16 ≥ vecCount fn then e
  else pbaFlush { e with hif := { e.hif with vecs := Tbl.upd (fun _ => {}) e.hif.vecs (64 * fn + o / 16) set } }

/-- A dword of the configuration space of function `fn`, at the model's own offsets (R239; log 86). -/
def cfgRead (e : Engine) (fn r : Nat) : Nat :=
  let c := e.fnCfg fn
  if r = 0 then (if fn = 0 then 0xB4091F3D else 0xB40A1F3D)
  else if r = 4 then ofB c.master <<< 2
  else if r = 8 then 0x088000C0
  else if r = 0x10 then c.mrrs <<< 12 + c.mps <<< 5
  else if r = 0x14 then c.cplTo
  else if r = 0x18 then ofB c.msixEn <<< 15 + ofB c.fnMask <<< 14 + (vecCount fn - 1)
  else if r = 0x1C then (if fn = 0 then ofB (e.hif.numVfs != 0) <<< 16 + 63 <<< 8 + e.hif.numVfs else 0)
  else if r = 0x20 then c.power
  else if r = 0x24 then (if fn = 0 then 0x00010001 else 0)
  else if r = 0x28 then (if fn = 0 then 1 else 0)
  else if r = 0x2C then ofB c.aspm <<< 1
  else if r = 0x30 then c.aer
  else if r = 0x34 then 0x00000885
  else if r = 0x38 then 0x10000002
  else 0

/-- A change of a function's configuration. -/
def updCfg (fn : Nat) (f : FnCfg → FnCfg) (e : Engine) : Engine :=
  pbaFlush { e with hif := { e.hif with cfg := Tbl.upd (fun _ => {}) e.hif.cfg fn f } }

/-- VF Enable and NumVFs (R240). -/
def numVfsPut (n : Nat) (e : Engine) : Engine :=
  if n < e.hif.numVfs then vfDisableNow n e else { e with hif := { e.hif with numVfs := n } }

/-- A write of a dword of the configuration space of a function that exists (R239, R240, R373; log 86). -/
def cfgWrite (fn r v : Nat) (e : Engine) : Engine :=
  if !fnExists e fn then e
  else if r = 4 then updCfg fn (fun c => { c with master := bit v 2 }) e
  else if r = 0x10 then updCfg fn (fun c => { c with mps := min 2 (bits v 7 5), mrrs := min 5 (bits v 14 12) }) e
  else if r = 0x14 then updCfg fn (fun c => { c with cplTo := v % 16 }) e
  else if r = 0x18 then updCfg fn (fun c => { c with msixEn := bit v 15, fnMask := bit v 14 }) e
  else if r = 0x1C ∧ fn = 0 then numVfsPut (if bit v 16 then v % 64 else 0) e
  else if r = 0x2C then updCfg fn (fun c => { c with aspm := bit v 1 }) e
  else if r = 0x30 then updCfg fn (fun c => { c with aer := c.aer - (c.aer &&& v) }) e
  else if r = 0x20 ∧ v % 4 = 3 then updCfg fn (fun c => { c with power := 3 }) e
  else if r = 0x20 ∧ v % 4 = 0 then
    if fn = 0 ∧ (e.fnCfg 0).power = 3 then d3hotLeave e else updCfg fn (fun c => { c with power := 0 }) e
  else e

/-- HIF_LINK. -/
def hifLink (e : Engine) : Nat :=
  ofB e.hif.up <<< 31 + e.hif.speed <<< 28 + e.hif.width <<< 24 + ofB (degraded e) <<< 23 + e.hif.numVfs

end Sys2Proof.Machine
end

