-- ==== Sys2Proof/Machine/RegRead.lean ====
section
/-! DEFINITION. What every register of BAR0 and of a virtual function's window reads (R307, R327): the stored word, or, for a
field that shows the state of a unit, that state. -/

namespace Sys2Proof.Machine

/-- How many numbers below `n` satisfy `p`. -/
def countIf (n : Nat) (p : Nat → Bool) : Nat := ((List.range n).filter p).length

/-- The bits of tiles 32·k .. 32·k+31. -/
def tileBits (k : Nat) (p : Nat → Bool) : Nat := bitsOf ((List.range 32).map (fun j => p (32 * k + j)))

-- live bits ------------------------------------------------------------------------------------------------------------------------

/-- The live bits each cause register has (R341). -/
def liveMask (off : Nat) : Nat :=
  if off = Reg.SYS_CAUSE then 0x20000 else if off = Reg.PWR_CAUSE then 0x2FF0000 else if off = Reg.THM_CAUSE then 0x170000
  else if off = Reg.FLT_CAUSE then 0xCD0000 else if off = Reg.TIM_CAUSE then 0x70000 else if off = Reg.LRG_CAUSE then 0x41B0000
  else if off = Reg.HIF_CAUSE then 0x30000 else if off = Reg.DMA_CAUSE then 0x10000 else if off = Reg.CMD_CAUSE then 0x60000
  else if off = Reg.XACT_CAUSE then 0xC00000 else if off = Reg.SCH_CAUSE then 0x10000 else if off = Reg.SYN_CAUSE then 0xA0000
  else if off = Reg.RFS_CAUSE then 0x14310000 else if off = Reg.SNS_CAUSE then 0x890000 else if off = Reg.LOOP_CAUSE then 0xC0000
  else if off = Reg.NVR_CAUSE then 0x60000
  else if off ≥ 0x8000 ∧ (off - 0x8000) % 0x40 = 4 then 0x3490000 else 0

/-- The live bits that wire faults hold: a reporter in wire fault reports (R329, R330). -/
def wireLive (e : Engine) (off : Nat) : Nat :=
  e.flt.wires.foldl (fun m w =>
    if causeOff w.1 w.2.1 = some off then m ||| (1 <<< (w.2.2 + 16)) else m) 0 &&& liveMask off

/-- An RWP register with its programmings. -/
def nvRegs : List Nat := [Reg.THM_RESTORE, Reg.LRG_MAC_LO, Reg.LRG_MAC_HI] ++ (List.range 61).map (fun k => Reg.NVR_SCRATCH + 4 * k)
def wearOf (e : Engine) (off : Nat) : Nat := Tbl.get (fun _ => 0) e.nvr.wear off
/-- At 95,000 programmings a register is past its warning, at 100,000 it is worn out (R317). -/
def warned (e : Engine) (off : Nat) : Bool := decide (95000 ≤ wearOf e off)
def worn (e : Engine) (off : Nat) : Bool := decide (100000 ≤ wearOf e off)

/-- A receive link of the inserted station is down (LRG_CAUSE.LIVE_LINK_DOWN). -/
def linkDownNow (e : Engine) : Bool := e.lrg.inserted && !(e.lrg.a.rxUp && e.lrg.b.rxUp)

/-- An internal rail has been out of its range; whether it is now, nothing says (log 1). -/
def railDoubt (e : Engine) : Bool := e.pwr.railWarn && e.pwr.rails

/-- The live bits of a controller block that are the state of a unit (R341). -/
def liveNow (e : Engine) (off : Nat) : Nat :=
  if off = Reg.SYS_CAUSE then ofB e.sys.zeroService <<< 17
  else if off = Reg.PWR_CAUSE then
    ofB ((e.pwr.overA && e.pwr.feedA) || (e.pwr.overB && e.pwr.feedB)) <<< 20
      + ofB (railDoubt e && free e % 2 == 1) <<< 25
  else if off = Reg.THM_CAUSE then
    ofB (e.thm.warnLive.any id) <<< 16 + ofB (e.thm.sensors.any (fun x => x.2.riseLive)) <<< 17
      + ofB (e.thm.sensors.any (fun x => x.2.fastLive)) <<< 18 + ofB (e.thm.sensors.any (fun x => x.2.failed)) <<< 20
  else if off = Reg.FLT_CAUSE then
    ofB (!e.flt.wires.isEmpty) <<< 16 + ofB (rd e Reg.FLT_HANG != 0) <<< 18 + ofB (e.flt.runs.any (fun x => decide (200 ≤ x.2))) <<< 19
      + ofB (e.sys.mode == .safe) <<< 22 + ofB (e.sys.mode == .lockout) <<< 23
  else if off = Reg.TIM_CAUSE then timLive e
  else if off = Reg.LRG_CAUSE then
    ofB (linkDownNow e) <<< 16 + ofB (wrapped e) <<< 17 + ofB (e.lrg.a.claiming || e.lrg.b.claiming) <<< 19
      + ofB e.lrg.dupMac <<< 20 + ofB (!e.lrg.exhausted.isEmpty) <<< 26
  else if off = Reg.HIF_CAUSE then ofB (!e.hif.up) <<< 16 + ofB (degraded e) <<< 17
  else if off = Reg.DMA_CAUSE then ofB (e.dma.slots.any (fun x => x.2.halted)) <<< 16
  else if off = Reg.SYN_CAUSE then
    ofB (e.bkp.tiles.any (fun x => x.2.frozen)) <<< 17
      + ofB (e.syn.regions.any (fun x => x.2.seen && outOfSets x.2.temp)) <<< 19
  else if off = Reg.RFS_CAUSE then
    ofB (refreshOn e && !(selfA e && selfB e)) <<< 20 + ofB (e.bkp.tiles.any (fun x => x.2.tokenAt e.clk == 3)) <<< 26
      + ofB (e.bkp.tiles.any (fun x => x.2.deferred.isSome)) <<< 28
  else if off = Reg.SNS_CAUSE then
    ofB (e.bkp.tiles.any (fun x => x.2.lost)) <<< 16 + ofB (e.sns.banks.any (fun x => x.2.settling.isSome && !bankSettled e x.1)) <<< 19
      + ofB (e.sns.banks.any (fun x => x.2.hkFail)) <<< 23
  else if off = Reg.LOOP_CAUSE then
    ofB (e.loop.loops.any (fun x => x.2.st == .holding)) <<< 18 + ofB (e.loop.loops.any (fun x => x.2.x.sat || x.2.y.sat)) <<< 19
  else if off = Reg.NVR_CAUSE then ofB (nvRegs.any (warned e)) <<< 17 + ofB (nvRegs.any (worn e)) <<< 18
  else 0

-- status registers, block by block ----------------------------------------------------------------------------------------------------

/-- SYS (R381). -/
def sysRead (e : Engine) (off : Nat) : Option Nat :=
  if off = Reg.SYS_STAT then
    some (e.sys.mode.code <<< 28 + e.sys.prev.code <<< 24 + ofB e.sys.bootDone <<< 23 + ofB e.sys.setMode.isSome <<< 22
      + ofB e.sys.zeroService <<< 21 + ofB e.sys.staged.isSome <<< 20 + (e.sys.active % 2) <<< 19)
  else if off = Reg.SYS_BOOT then some ((e.sys.stage % 16) <<< 28 + (e.sys.err % 16) <<< 24 + min e.sys.bootMs 0xFFFFFF)
  else if off = Reg.SYS_FW_ACTIVE then some e.sys.running.toNat
  else if off = Reg.SYS_FW_STAGED then some (e.sys.staged.getD 0).toNat
  else if off = Reg.SYS_UPTIME then some (uptime e)
  else none

/-- A measurement the power monitor shows: free (log 4). -/
def telemetry (off : Nat) : Bool := off == Reg.PWR_FEED_A || off == Reg.PWR_FEED_B || off == Reg.PWR_POWER

/-- A read of the register takes a free value. -/
def freeRead (e : Engine) (off : Nat) : Bool := telemetry off || (off == Reg.PWR_CAUSE && railDoubt e)

/-- PWR and THM (R366). -/
def thmRead (e : Engine) (off : Nat) : Option Nat :=
  let p := e.pwr
  let g := (off - Reg.THM_GROUP) / 4
  if telemetry off then some (free e % 4294967296)
  else if off = Reg.PWR_STAT then
    some (ofB p.feedA <<< 31 + ofB p.feedB <<< 30 + ofB p.auxA <<< 29 + ofB p.auxB <<< 28 + ofB p.refA <<< 27 + ofB p.refB <<< 26
      + ofB p.rails <<< 25)
  else if off = Reg.THM_STAT then
    some (ofB e.sys.gateWaiting <<< 31 + ofB (e.sys.mode == .cooldown) <<< 30
      + e.thm.interval.foldr (fun x n => x % 4 + 4 * n) 0)
  else if Reg.THM_GROUP ≤ off ∧ off < Reg.THM_GROUP + 20 then
    some (match groupMax e g with | some (i, v) => trunc 16 v <<< 16 + i % 512 | none => 0)
  else if Reg.THM_RATE ≤ off ∧ off < Reg.THM_RATE + 20 then some (trunc 16 (groupRate e ((off - Reg.THM_RATE) / 4)))
  else none

/-- The record FLT_HIST_IDX names, as words; zero beyond HIST_COUNT. -/
def histRecord (e : Engine) : List Word :=
  match e.flt.hist[rdF e Fd.FLT_HIST_IDX_IDX]? with | some r => r.words | none => [0, 0, 0, 0]

/-- FLT and ATN (R349). -/
def fltRead (e : Engine) (off : Nat) : Option Nat :=
  if off = Reg.FLT_STAT then
    some (ofB (e.sys.mode == .safe) <<< 31 + ofB (e.sys.mode == .lockout) <<< 30 + e.flt.hist.length)
  else if off = Reg.FLT_HIST0 then some (wordAt (histRecord e) 0)
  else if Reg.FLT_HIST1 ≤ off ∧ off < Reg.FLT_HIST1 + 12 then some (wordAt e.flt.histWords ((off - Reg.FLT_HIST0) / 4))
  else if off = Reg.FLT_GRAVE_STAT then some (ofB e.flt.graveValid <<< 31 + ofB e.flt.graveBusy <<< 30 + min e.flt.graveCount 0xFFFF)
  else if Reg.FLT_GRAVE ≤ off ∧ off < Reg.FLT_GRAVE + 16 then some (wordAt e.flt.graveRec.words ((off - Reg.FLT_GRAVE) / 4))
  else if off = Reg.FLT_IRST then some (setBits (rd e off) 31 31 (ofB e.flt.irst.isSome))
  else if off = Reg.ATN_SUM then some (atnSum e)
  else if off = Reg.ATN_PIN then some (ofB (attnLow e))
  else if Reg.ATN_TILE ≤ off ∧ off < Reg.ATN_TILE + 32 then some (atnTile e ((off - Reg.ATN_TILE) / 4))
  else none

/-- TIM (R306). -/
def timRead (e : Engine) (off : Nat) : Option Nat :=
  let n := (off - Reg.TIM_DOM_CFG) / 32
  let r := Reg.TIM_DOM_CFG + (off - Reg.TIM_DOM_CFG) % 32
  if off = Reg.TIM_STAT then some (timStat e)
  else if Reg.TIM_DOM_CFG ≤ off ∧ n < 2 then
    if r = Reg.TIM_DOM_STAT then some (domStat e n)
    else if r = Reg.TIM_DOM_OFS then some (quarterNs (e.tim.slot n).ofs)
    else if r = Reg.TIM_DOM_ADJ then some (trunc 32 (e.tim.slot n).adj)
    else if r = Reg.TIM_DOM_MPD then some (quarterNs (e.tim.slot n).mpd)
    else none
  else if Reg.TIM_TSQ_DROP ≤ off ∧ off < Reg.TIM_TSQ_DROP + 16 then some (tsqDrop e ((off - Reg.TIM_TSQ_DROP) / 4))
  else none

/-- LRG (LRG_STAT). -/
def lrgRead (e : Engine) (off : Nat) : Option Nat :=
  let l := e.lrg
  if off = Reg.LRG_STAT then
    some (lrgState e <<< 29 + ofB l.a.rxUp <<< 28 + ofB l.b.rxUp <<< 27 + ofB l.a.wrap <<< 26 + ofB l.b.wrap <<< 25
      + ofB l.a.token.isSome <<< 24 + ofB l.b.token.isSome <<< 23 + ofB (pausedNow e) <<< 22 + ofB (p2p e && l.secondary) <<< 21
      + l.gen % 65536)
  else none

/-- The halted slots from `k` on that satisfy `p`, as bits. -/
def haltBits (e : Engine) (k : Nat) (p : FaultSlot → Bool) : Nat :=
  bitsOf ((List.range 32).map (fun j => let r := Tbl.get (fun _ => {}) e.dma.slots (k + j); r.halted && p r))

def haltCount (e : Engine) (p : FaultSlot → Bool) : Nat := (e.dma.slots.filter (fun x => x.2.halted && p x.2)).length

/-- HIF and DMA (R262). -/
def hifRead (e : Engine) (off : Nat) : Option Nat :=
  if off = Reg.HIF_LINK then some (hifLink e)
  else if off = Reg.DMA_STAT then
    some (haltCount e (fun _ => true) <<< 25 + min e.dma.tc.length 4096 <<< 12 + min e.dma.streams.length 4095)
  else if off = Reg.DMA_HALT0 then some (haltBits e 0 (fun _ => true))
  else if off = Reg.DMA_HALT1 then some (haltBits e 32 (fun _ => true))
  else none

/-- CMD (R238). -/
def cmdRead (e : Engine) (off : Nat) : Option Nat :=
  if off = Reg.CMD_STAT then
    some (tagsUsed e <<< 19 + (e.cmd.hoppers.filter (fun x => !isRing x.1 && x.2.enabled)).length <<< 6
      + ofB (!on e Fd.CMD_CTL_FETCH_EN || e.sys.mode == .hold) <<< 5)
  else none

/-- XACT (R186). -/
def xactRead (e : Engine) (off : Nat) : Option Nat :=
  if off = Reg.XACT_STAT then
    some (e.xact.txns.foldl (fun m t => match t.group with | some g => m ||| (1 <<< (g % 16)) | none => m) 0 <<< 16
      + min e.xact.txns.length 127 <<< 9 + ofB (pinnedNow e) <<< 8 + ofB (decide (e.xact.pubEpoch < e.xact.epoch)) <<< 7)
  else none

def PlState.code : PlState → Nat
  | .idle => 0 | .waitStart => 1 | .playing => 2 | .held => 3 | .stopped => 4

/-- The slot a play shows. -/
def playSlot (e : Engine) (p : Play) : Nat :=
  segSlot (if e.sch.stream then Tbl.get (fun _ => []) e.sch.window p.pos else Tbl.get (fun _ => []) e.sch.segs p.pos)

/-- SCH (R209). -/
def schRead (e : Engine) (off : Nat) : Option Nat :=
  let s := e.sch
  if off = Reg.SCH_STAT then
    some (s.st.code <<< 29 + ofB s.stream <<< 28 + (s.reason % 8) <<< 25 + ofB s.jump.isSome <<< 24
      + (match s.cur with | some p => (playSlot e p % 256) <<< 16 + p.pos % 1024 | none => 0))
  else if off = Reg.SCH_HFLAG_SET then some (rd e Reg.SCH_HFLAG)
  else if off = Reg.SCH_POS then some (match s.cur with | some p => if s.stream then p.pos % 4294967296 else 0 | none => 0)
  else if off = Reg.SCH_WIN then
    let oldest := s.window.foldl (fun o x => match o with
      | none => some x.1
      | some y => if posBefore x.1 y then some x.1 else o) (none : Option Nat)
    some ((oldest.getD 0 % 65536) <<< 16 + min s.window.length 256)
  else none

/-- SYN (R93). -/
def synRead (e : Engine) (off : Nat) : Option Nat :=
  let s := e.syn
  if off = Reg.SYN_STAT then
    some (ofB (!s.sweep.isEmpty) <<< 31 + ofB (e.bkp.tiles.any (fun x => x.2.reload.isSome)) <<< 30
      + (e.bkp.tiles.filter (fun x => x.2.frozen)).length)
  else if Reg.SYN_FROZEN ≤ off ∧ off < Reg.SYN_FROZEN + 32 then
    some (tileBits ((off - Reg.SYN_FROZEN) / 4) (fun t => (e.tile t).frozen))
  else if off = Reg.SYN_SURVEY_STAT then some (setBits (rd e off) 31 31 (ofB s.survey.isSome))
  else if off = Reg.SYN_SURVEY_GEN then some (s.gen % 32768)
  else if off = Reg.SYN_CAL_STAT then
    some (ofB s.aimStage.isSome <<< 31 + (match s.aimStage with | some p => p.1 % 4 | none => 0) <<< 29
      + ofB s.survStage.isSome <<< 28 + ofB s.persist.isSome <<< 27)
  else if Reg.SYN_REGION ≤ off ∧ off < Reg.SYN_REGION + 256 then
    let r := e.region ((off - Reg.SYN_REGION) / 4)
    some ((r.lo % 4) <<< 30 + min r.w 1023 <<< 20 + trunc 16 r.temp)
  else none

/-- RFS_STAT.OWNER: none, A, B, or mixed. -/
def ownerCode (e : Engine) : Nat :=
  if (List.range 256).all (fun t => tokenNow e t == 0) then 0
  else if allOwn e 1 then 1 else if allOwn e 2 then 2 else 3

/-- What remains of the 10 s of a fail-back, in ms (R108). -/
def holdoffLeft (e : Engine) : Nat :=
  match e.rfs.gapless with
  | some t => if on e Fd.RFS_CTL_FAILBACK_EN then (t + 10000000000 - e.clk + 999999) / 1000000 else 0
  | none => 0

/-- BKP and RFS (R58, R116). -/
def rfsRead (e : Engine) (off : Nat) : Option Nat :=
  if off = Reg.BKP_BRAKE_STAT then
    some (ofB e.bkp.braking <<< 31 + ofB e.bkp.zero <<< 30 + ofB e.pins.brakeLow <<< 29 + e.bkp.live % 256)
  else if off = Reg.BKP_MARCH_STAT then some (setBits (rd e off) 30 30 (ofB (marching e).isSome))
  else if off = Reg.RFS_STAT then
    some (ownerCode e <<< 30 + ofB (refreshOn e && selfA e) <<< 29 + ofB (refreshOn e && selfB e) <<< 28
      + ofB (hbArrives e false) <<< 27 + ofB (hbArrives e true) <<< 26 + ofB e.rfs.drill.isSome <<< 25
      + ofB (e.sys.mode == .hold && holdDone e) <<< 24 + holdoffLeft e % 16384)
  else if off = Reg.RFS_HOLD_STAT then
    some (if e.sys.mode = .hold then setBits (rd e off) 19 0 (holdSecs e) else rd e off)
  else if off = Reg.RFS_HOLD_DT then
    some (if e.sys.mode = .hold then min (holdDt e) 0xFFFF else rd e off)
  else none

/-- SNS and LOOP (R134, R159). -/
def loopRead (e : Engine) (off : Nat) : Option Nat :=
  let lost := (e.bkp.tiles.filter (fun x => x.2.lost)).length
  if off = Reg.SNS_STAT then
    some (ofB ((List.range 256).all (fun t => (e.tile t).edgeAt.isSome) && lost == 0) <<< 31 + ofB (on e Fd.SNS_CTL_FRAME_SRC) <<< 30
      + ofB ((List.range 256).all (bankSettled e)) <<< 29 + ofB (lost != 0) <<< 28 + lost)
  else if Reg.SNS_REFSET ≤ off ∧ off < Reg.SNS_REFSET + 32 then
    some (tileBits ((off - Reg.SNS_REFSET) / 4) (bankSettled e))
  else if Reg.SNS_LOSS ≤ off ∧ off < Reg.SNS_LOSS + 32 then
    some (tileBits ((off - Reg.SNS_LOSS) / 4) (fun t => (e.tile t).lost))
  else if off = Reg.LOOP_STAT then
    some ((e.loop.loops.filter (fun x => x.2.locked)).length <<< 19
      + (e.loop.loops.filter (fun x => x.2.st == .acquire)).length <<< 6 + min e.loop.inj.length 16)
  else if Reg.LOOP_CAP_STAT ≤ off ∧ off < Reg.LOOP_CAP_STAT + 16 then
    let c := Tbl.get (fun _ => {}) e.loop.caps ((off - Reg.LOOP_CAP_STAT) / 4)
    some ((c.st % 4) <<< 30 + (c.p.axis % 2) <<< 29 + (c.p.aperture % 8192) <<< 16 + min c.recs.length 4096)
  else none

/-- NVR, TBL (R326). -/
def nvrRead (e : Engine) (off : Nat) : Option Nat :=
  if off = Reg.NVR_STAT then
    some (ofB e.nvr.busy.isSome <<< 31 + ofB (on e Fd.NVR_LOCK_LOCK) <<< 30 + (nvRegs.filter (warned e)).length <<< 8
      + (nvRegs.filter (worn e)).length)
  else if off = Reg.NVR_WEAR then
    let o := rdF e Fd.NVR_WEAR_SEL_OFFSET
    some (if o ∈ nvRegs then 2147483648 + ofB (worn e o) <<< 30 + ofB (warned e o) <<< 29 + min (wearOf e o) 100000 else 0)
  else if off = Reg.SNAP_CTL then
    some (setBits (rd e off) 0 0 (ofB (e.snap.nowWait.contains none || e.snap.serving.contains none)))
  else if off = Reg.SNAP_STAT then
    some (ofB (snapBusy e) <<< 31 + ofB e.snap.atPend.isSome <<< 30
      + (match e.snap.latched with | some s => s.missed | none => e.snap.cur.missed))
  else if off = Reg.SNAP_GEN then some e.snap.cur.gen
  else none

/-- A mailbox register at offset `o` of its block (R319, R320). -/
def mbxRead (m : Mbx) (o : Nat) : Nat :=
  if o = 0 then m.selRsv + m.sel else if o = 4 then m.idx else if o = 8 then ofB m.busy <<< 31 + m.ctlRsv + ofB m.write
  else if o = 12 then ofB m.valid <<< 31 + ofB m.busy <<< 30 + m.err <<< 20 + m.gen
  else if 16 ≤ o ∧ o < 48 ∧ o % 4 = 0 then wordAt m.data ((o - 16) / 4) else 0

/-- The registers of tile `t` (R58, R59, R99); `r` is the offset in the tile. -/
def tileRead (e : Engine) (t r : Nat) : Option Nat :=
  let x := e.tile t
  let aps := (tileAps t).map e.aper
  if r = 0 then
    some (ofB x.frozen <<< 31 + ofB x.islandRst <<< 30 + ofB e.bkp.braking <<< 29 + ofB (aps.all (fun a => a.actKind == 0) && !x.silent) <<< 28
      + (x.tokenAt e.clk % 4) <<< 26 + (x.band % 4) <<< 24 + bitsOf (aps.map (fun a => a.armed)))
  else if r = 4 then
    some (rd e (0x8004 + 0x40 * t) ||| (ofB (aps.any (fun a => a.shortMap != 0)) <<< 16 + ofB x.frozen <<< 19 + ofB x.lost <<< 22))
  else if r = 12 then some (if tileSensorFailed e t then 0x7FFF else trunc 16 x.temp)
  else if r = 16 then
    some ((aps.map (fun a => countIf 96 (fun c => bit a.shortMap c))).sum <<< 17 + bitsOf (aps.map (fun a => a.shortMap != 0)))
  else if r = 20 then some (setBits (rd e (0x8014 + 0x40 * t)) 1 0 (ofB x.islandRst))
  else if r = 28 then some (min (oldestShadow e t) 1023 <<< 16 + min (oldestActive e t) 1023)
  else none

/-- The unit that shows an offset. -/
def unitRead (e : Engine) (off : Nat) : Option Nat :=
  if off < 0x400 then sysRead e off else if off < 0x800 then thmRead e off else if off < 0x1000 then fltRead e off
  else if off < 0x1800 then timRead e off else if off < 0x2000 then lrgRead e off else if off < 0x2800 then hifRead e off
  else if off < 0x3000 then cmdRead e off else if off < 0x3200 then xactRead e off else if off < 0x3800 then schRead e off
  else if off < 0x3A00 then synRead e off else if off < 0x4000 then rfsRead e off else if off < 0x4800 then loopRead e off
  else if off < 0x8000 then nvrRead e off
  else if off < 0xC000 then tileRead e ((off - 0x8000) / 0x40) ((off - 0x8000) % 0x40) else none

/-- What a defined register reads: the unit's value or the stored word, with its live bits, and its reserved bits as they are held
(R307, R314, R341). -/
def regValue (e : Engine) (r : RegInfo) (off : Nat) : Nat :=
  ((unitRead e off).getD (rd e off)) ||| liveNow e off ||| wireLive e off ||| (rd e off &&& r.rsv)

/-- The blocks of the millpond island, which answer while the main rails are off (R373, R398). -/
def millpond (off : Nat) : Bool :=
  (decide (0x400 ≤ off) && decide (off < 0x1000)) || (decide (0x4800 ≤ off) && decide (off < 0x4A00)) || off == Reg.SYS_WAKE

/-- A read of BAR0 by the requester whose mailbox is `key` (R307, R310, R327): an undefined offset, a guard address and a
write-only register read 0. A host reads a record's words as they stand now, since its reads are no rows; the SMBus reads those that
its read of FLT_HIST0 latched (R349). -/
def readReg (e : Engine) (key off : Nat) : Nat :=
  if unpowered e && !millpond off then 0
  else match regInfo off with
    | none => 0
    | some r =>
      if r.wo ≠ 0 then rd e off &&& r.rsv
      else if r.kind = .mbx then mbxRead (Tbl.get (fun _ => {}) e.mbx key) (off - Reg.MBX_SEL)
      else if key ≠ 5 ∧ Reg.FLT_HIST1 ≤ off ∧ off < Reg.FLT_HIST1 + 12 then wordAt (histRecord e) ((off - Reg.FLT_HIST0) / 4)
      else regValue e r off

/-- The requester's number in REG_GUARD_LAST, and its mailbox (R312, R319). -/
def rqNum : Rq → Nat
  | .pf => 0 | .core m => 1 + m | .smbus => 5 | .jtag => 6 | .vf d => 16 + d

/-- The hopper whose doorbell a function's window shows: through the physical function every one, through function d its
domain's first 1,536 (R241, R242). -/
def dbShown (e : Engine) (fn n : Nat) : Option Nat :=
  if fn = 0 then (if n < 4096 then some n else none)
  else if n < min (e.dom fn).hopCount 1536 then some ((e.dom fn).hopFirst + n) else none

/-- A half of a doorbell reads the value in force: SQ_TAIL, or CQ_HEAD at 4 (R213). -/
def doorbellRead (e : Engine) (fn o : Nat) : Nat :=
  match dbShown e fn (o / 8) with
  | none => 0
  | some q => if o % 8 < 4 then (e.hop q).sqTail else (e.hop q).cqHead

/-- A read of the window of virtual function `d` (R242, R262, R319). -/
def vfRead (e : Engine) (d off : Nat) : Nat :=
  let mine (r : FaultSlot) : Bool := r.dom == d
  if off = 0 then ofB (domEn e d) <<< 31 + ofB (e.dom d).vfEn <<< 30 + d % 64
  else if off = 4 then ofB (decide (d ∈ e.hif.flrBusy)) <<< 31 + haltCount e mine <<< 24 + min (e.dom d).hopCount 1536
  else if off = 8 then haltBits e 0 mine
  else if off = 12 then haltBits e 32 mine
  else if 0x40 ≤ off ∧ off < 0x70 then mbxRead (Tbl.get (fun _ => {}) e.mbx (16 + d)) (off - 0x40)
  else if 0x800 ≤ off ∧ off < 0x900 then msixRead e d (off - 0x800)
  else if off = 0xC00 then pbaRead e d 0
  else if 0x1000 ≤ off ∧ off < 0x4000 then doorbellRead e d (off - 0x1000)
  else 0

/-- Where the windows of the physical function other than BAR0 lie among the offsets of its accesses: BAR2/3, BAR4/5, and the
configuration spaces of the functions (R241; log 86). -/
def bar2At : Nat := 0x18000
def bar4At : Nat := 0x10000
def cfgAt : Nat := 0x20000

/-- A dword that a requester reads. -/
def busRead (e : Engine) (rq : Rq) (off : Nat) : Nat :=
  match rq with
  | .vf d => vfRead e d off
  | .pf =>
    if off < bar4At then readReg e 0 off
    else if off < bar4At + 0x1000 then msixRead e 0 (off - bar4At)
    else if off < bar4At + 0x1008 then pbaRead e 0 ((off - bar4At - 0x1000) / 4)
    else if off < bar2At then 0
    else if off < cfgAt then doorbellRead e 0 (off - bar2At)
    else cfgRead e ((off - cfgAt) / 0x1000) ((off - cfgAt) % 0x1000)
  | r => readReg e (rqNum r) off

/-- A host read of `n` bytes, 1 to 8, from `off`; it changes nothing (R244). -/
def hostRead (e : Engine) (rq : Rq) (off n : Nat) : Nat :=
  let w (k : Nat) : Nat := busRead e rq (off / 4 * 4 + 4 * k)
  ((w 2 <<< 64 + w 1 <<< 32 + w 0) >>> (8 * (off % 4))) % 2 ^ (8 * n)

end Sys2Proof.Machine
end

