-- ==== Sys2Proof/Machine/RegWrite.lean ====
section
/-! DEFINITION. Register writes: requesters, guarded, locked, persistent and reserved fields, the registers with an effect of
their own, and the mailbox registers (R307-R320). -/

namespace Sys2Proof.Machine

-- requesters ------------------------------------------------------------------------------------------------------------------------

/-- The host functions. -/
def isHost : Rq → Bool
  | .pf => true | .vf _ => true | _ => false

/-- The requester's access arrives: its link or supply is there, and its master is not held nor its island in reset (R240, R261, R347,
R348, R398, R401). -/
def reachable (e : Engine) : Rq → Bool
  | .pf => e.hif.up && !inMode e [.off, .cooldown] && !decide (0 ∈ e.hif.flrBusy) && !masterHeld e 5 && !islandDown e 256
  | .vf d => decide (0 < d) && decide (d ≤ e.hif.numVfs) && e.hif.up && !unpowered e && !decide (d ∈ e.hif.flrBusy)
      && !masterHeld e 5 && !islandDown e 256
  | .core m => decide (m < 4) && !unpowered e && !masterHeld e m && !islandDown e (270 + m)
  | .smbus => millpondOn e && !pinsHeld e
  | .jtag => !unpowered e && !e.pins.trstLow && !masterHeld e 7

-- locks and reserved bits -----------------------------------------------------------------------------------------------------------

/-- A lock violation (R315). -/
def lockViol (e : Engine) : Engine := inc Reg.REG_LOCK_CNT (note Fd.REG_CAUSE_LOCK_VIOL e)

/-- A write-1-to-clear or write-1-to-set register. -/
def RegInfo.isW1 (r : RegInfo) : Bool := r.w1c != 0 || r.w1s != 0

/-- The reserved bits a write would change (R314). -/
def rsvChange (r : RegInfo) (held v : Nat) : Nat := if r.isW1 then v &&& r.rsv else (v ^^^ held) &&& r.rsv

/-- A write would have changed reserved bits (R314). -/
def rsvFlag (e : Engine) : Engine := inc Reg.REG_RSV_CNT (note Fd.REG_CAUSE_RSV_CHANGED e)

/-- The reserved bits of a write (R314): outside TEST they are kept and flagged; in TEST they take the written value, a bit
written to a W1C or W1S register a free one. Answers the word as it is applied. -/
def rsvKeep (r : RegInfo) (off v : Nat) (e : Engine) : Engine × Nat :=
  let held := rd e off
  let ch := rsvChange r held v
  let keep := (v &&& (0xFFFFFFFF ^^^ r.rsv)) ||| (held &&& r.rsv)
  if ch = 0 then (e, keep)
  else if e.sys.mode = .test then
    if r.isW1 then (useFree (wr off ((held &&& (0xFFFFFFFF ^^^ ch)) ||| (free e &&& ch)) e), keep)
    else (wr off (held ^^^ ch) e, keep ^^^ ch)
  else (rsvFlag e, keep)

/-- The stored word after a write of `v` to the written and reserved bits. -/
def merged (e : Engine) (r : RegInfo) (off v : Nat) : Nat :=
  (rd e off &&& (0xFFFFFFFF ^^^ (r.rw ||| r.rsv))) ||| (v &&& (r.rw ||| r.rsv))

-- guarded registers -----------------------------------------------------------------------------------------------------------------

/-- The main address a guard address belongs to (R310). -/
def guardMain (off : Nat) : Option Nat :=
  if off < 4 then none
  else match regInfo (off - 4) with | some r => if r.kind = .guarded then some (off - 4) else none | none => none

/-- The latch of a requester. -/
def latchOf (e : Engine) (k : Nat) : Option Latch := (e.guards.find? (fun x => x.1 == k)).map (·.2)

/-- A write to a guard address arms the requester's latch, replacing any earlier arming (R310). -/
def armGuard (k main v : Nat) (e : Engine) : Engine :=
  { e with guards := Tbl.ins e.guards k { word := wd v, main := main, at_ := e.clk } }

/-- Why a write to a guarded main address is discarded, the first in the order of R312; 0 where it is applied. -/
def guardReason (l : Option Latch) (main v clk : Nat) (eight : Bool) : Nat :=
  if eight then 5
  else match l with
    | none => 1
    | some x =>
      if x.main ≠ main then 3 else if clk > x.at_ + 1000000 then 4
      else if wd v ≠ ~~~ x.word then 2 else 0

/-- A discarded guarded write (R312). -/
def guardErr (reason k main : Nat) (e : Engine) : Engine :=
  wr Reg.REG_GUARD_LAST (reason <<< 28 + (k % 16) <<< 24 + main % 65536)
    (inc Reg.REG_GUARD_CNT (note Fd.REG_CAUSE_GUARD_ERR e))

/-- A lock bit that is set (R315). -/
def locked (e : Engine) (off : Nat) : Bool := (off == Reg.CMD_OWN_LOCK || off == Reg.NVR_LOCK) && bit (rd e off) 0

/-- GOV_EN and FEED_EN take a 0 only in TEST (R366). -/
def brakeEnApply (off v : Nat) (e : Engine) : Engine :=
  if !bit v 0 && e.sys.mode != .test then lockViol e else wr off v e

/-- BKP_BRAKE_EN: with PIN_EN 1 a pin that is low brakes (R45); PIN_EN 0 releases nothing by itself (R48). -/
def pinEnApply (v : Nat) (e : Engine) : Engine :=
  let e := wr Reg.BKP_BRAKE_EN v e
  if bit v 0 && e.pins.brakeLow && !unpowered e then pinBrake e else e

/-- SYS_REMAP (R376): changed only in TEST; what the firmware cores decode by it, no row shows (R346; log 114). -/
def remapApply (v : Nat) (e : Engine) : Engine :=
  if bit v 0 ≠ on e Fd.SYS_REMAP_REMAP ∧ e.sys.mode ≠ .test then lockViol e else wr Reg.SYS_REMAP v e

/-- What the firmware cores find at address 0: working SRAM once REMAP is set, the boot ROM before (R346, R376). -/
inductive CoreZero where
  | bootRom | workingSram
deriving DecidableEq, Repr
def coreZero (e : Engine) : CoreZero := if on e Fd.SYS_REMAP_REMAP then .workingSram else .bootRom

/-- A complete guarded write of the word `v`. -/
def guardedApply (rq : Rq) (off v : Nat) (e : Engine) : Engine :=
  if off = Reg.BKP_SPAN then spanApply rq v e
  else if off = Reg.BKP_BRAKE_EN then pinEnApply v e
  else if off = Reg.CMD_DOM_EN0 then domEnApply false v e
  else if off = Reg.CMD_DOM_EN1 then domEnApply true v e
  else if off = Reg.RFS_OVR then ovrApply v e
  else if off = Reg.THM_BRAKE_EN ∨ off = Reg.PWR_BRAKE_EN then brakeEnApply off v e
  else if off = Reg.FLT_GRAVE_CLR then graveClrApply v e
  else if off = Reg.FLT_IRST then irstApply v e
  else if off = Reg.SYS_REMAP then remapApply v e
  else if off = Reg.DMA_PM_CTL then tcFlush (wr off v e)
  else if 0x8000 ≤ off then tileCtlApply ((off - 0x8000) / 0x40) v e
  else wr off v e

/-- A write to a guarded main address (R312, R315). -/
def guardedWrite (rq : Rq) (r : RegInfo) (off v : Nat) (eight : Bool) (e : Engine) : Engine :=
  let k := rqNum rq
  let why := guardReason (latchOf e k) off v e.clk eight
  let e := { e with guards := Tbl.del e.guards k }
  if why ≠ 0 then guardErr why k off e
  else if locked e off then lockViol e
  else
    let p := rsvKeep r off v e
    guardedApply rq off (merged p.1 r off p.2) p.1

-- persistent registers --------------------------------------------------------------------------------------------------------------

/-- A write to a persistent register (R315-R317). -/
def nvWrite (off v : Nat) (e : Engine) : Engine :=
  if on e Fd.NVR_LOCK_LOCK then lockViol e
  else if e.nvr.busy.isSome then note Fd.NVR_CAUSE_BUSY_DROP e
  else if worn e off then note Fd.NVR_CAUSE_WORN e
  else if v = rd e off then e
  else
    let e := wr off v e
    { e with nvr := { e.nvr with busy := some (off, wd v), busyAt := e.clk } }

/-- A programming ends (R316, R317): it counts, and its word is what the next power-up loads unless its verify failed. -/
def nvDone (ok : Bool) (e : Engine) : Engine :=
  match e.nvr.busy with
  | none => e
  | some (off, v) =>
    let e := waitClk (e.nvr.busyAt + 20000) e
    let n := wearOf e off + 1
    let e := { e with nvr := { e.nvr with busy := none, wear := Tbl.put (fun _ => 0) e.nvr.wear off n,
                                          stored := if ok then Tbl.ins e.nvr.stored off v else e.nvr.stored } }
    let e := if n = 95000 then note Fd.NVR_CAUSE_WEAR_WARN e else e
    if ok then e else note Fd.NVR_CAUSE_PROG_FAIL e

/-- NVR_PROGRAM_DONE: the programming ends, with its verify passed or failed (R316). -/
def execNvrProgramDone (ok : Bool) (s : State) : Host.Outcome State Fault Refusal := .next (s.run (nvDone ok))

-- mailbox registers -----------------------------------------------------------------------------------------------------------------

def Engine.mbxOf (e : Engine) (key : Nat) : Mbx := Tbl.get (fun _ => {}) e.mbx key
def updMbx (key : Nat) (f : Mbx → Mbx) (e : Engine) : Engine :=
  { e with mbx := Tbl.upd (fun _ => {}) e.mbx key f }

/-- Eight data words with word `k` set. -/
def setData (l : List Word) (k : Nat) (v : Word) : List Word := setAt (l ++ List.replicate (8 - l.length) 0) k v

/-- The reserved bits of a mailbox register at offset `o` of its block. -/
def mbxRsv (o : Nat) : Nat := if o = 0 then 0xFFFF0000 else if o = 8 then 0x7FFFFFFE else 0

/-- A word written to a mailbox register at offset `o` of its block, its reserved bits as they stay (R314, R319, R320). -/
def mbxSet (o v : Nat) (m : Mbx) : Mbx :=
  if o = 0 then { m with sel := v % 65536, selRsv := v &&& mbxRsv 0 }
  else if o = 4 then { m with idx := v }
  else if o = 8 then
    let m := { m with write := bit v 0, ctlRsv := v &&& mbxRsv 8 }
    if bit v 31 then { m with busy := true, valid := false, err := 0, gen := 0 } else m
  else if 16 ≤ o ∧ o < 48 ∧ o % 4 = 0 then { m with data := setData m.data ((o - 16) / 4) (wd v) }
  else m

/-- A write to a mailbox register; while BUSY it is discarded and flagged (R320). -/
def mbxWrite (key o v : Nat) (e : Engine) : Engine :=
  if o = 12 then e
  else if (e.mbxOf key).busy then note Fd.REG_CAUSE_MBX_COLLIDE e
  else
    let ch := (v ^^^ mbxRead (e.mbxOf key) o) &&& mbxRsv o
    if ch = 0 ∨ e.sys.mode = .test then updMbx key (mbxSet o v) e
    else updMbx key (mbxSet o (v ^^^ ch)) (rsvFlag e)

-- registers with an effect of their own -----------------------------------------------------------------------------------------

/-- BKP_MARCH_CTL: its fields, then GO (R55). -/
def marchCtlApply (v : Nat) (e : Engine) : Engine :=
  let e := wr Reg.BKP_MARCH_CTL (setBits v 0 0 (ofB (marching e).isSome)) e
  if bit v 0 then marchGo e else e

/-- CMD_CTL: HWM_CLR clears itself (R216). -/
def cmdCtlApply (v : Nat) (e : Engine) : Engine :=
  let e := wr Reg.CMD_CTL (setBits v 3 3 0) e
  if bit v 3 then wrF Fd.CMD_TAG_HWM_HWM 0 e else e

/-- The station becomes a repeater: a token it holds goes on, and its claims end (R271, R273). -/
def lrgOff (e : Engine) : Engine :=
  let off (onB : Bool) (e : Engine) : Engine :=
    updRing onB (fun r => { r with claiming := false }) (if (ringOf e onB).token.isSome then passToken onB e else e)
  ringRun (off true (off false e))

/-- The station starts over in its new mode, MODE being written: of the links lock alone counts then, and with the primary link down the
secondary is active (R263, R280). -/
def lrgModeSet (e : Engine) : Engine :=
  let link := p2p e
  let clear (r : RingSt) : RingSt :=
    { r with wrap := false, token := none, claiming := false, helloAt := none, tokenAt := e.clk, heard := true, txEnd := none, transit := [],
             goodAt := if link && r.lock then some e.clk else none }
  { e with lrg := { e.lrg with a := clear e.lrg.a, b := clear e.lrg.b, operational := false, secondary := link && !e.lrg.a.rxUp,
                               primaryAt := none } }

/-- LRG_CTL: MODE only while EN is 0 (R263); EN 0 makes a repeater, EN 1 ends DUP_MAC (R273). -/
def lrgCtlApply (v : Nat) (e : Engine) : Engine :=
  let was := on e Fd.LRG_CTL_EN
  let mode := on e Fd.LRG_CTL_MODE
  let bad := was && bit v 1 != mode
  let v := if bad then setBits v 1 1 (ofB mode) else v
  let e := if bad then note Fd.LRG_CAUSE_CFG_BUSY e else e
  let e := if was && !bit v 0 && !mode then lrgOff e else e
  let e := wr Reg.LRG_CTL v e
  let e := if !was && bit v 0 then { e with lrg := { e.lrg with dupMac := false } } else e
  if bit v 1 ≠ mode then lrgModeSet e else e

/-- FLT_CAUSE: once SEVERE and GRAVE are both clear SMB_ALERT_N is released (R344). -/
def alertCheck (e : Engine) : Engine :=
  if bits (rd e Reg.FLT_CAUSE) 7 6 = 0 then { e with flt := { e.flt with smbAlert := false } } else e

/-- SYS_WAKE (R112, R373). -/
def wakeApply (rq : Rq) (v : Nat) (e : Engine) : Engine :=
  whenE (mayWake rq && bit v 1) holdExitNow (whenE (mayWake rq && bit v 0) wakeNow e)

/-- A requester outside the engine: not firmware (R129). -/
def hostRq (rq : Rq) : Bool := match rq with | .core _ => false | _ => true

/-- A write to a plain register; `v` carries the reserved bits as they stay (R307, R308). -/
def plainApply (rq : Rq) (r : RegInfo) (off v : Nat) (e : Engine) : Engine :=
  let w := merged e r off v
  if off = Reg.BKP_MARCH_CTL then marchCtlApply w e
  else if off = Reg.RFS_CTL then rfsCtlApply w e
  else if off = Reg.SNS_OS_CTL then oneShotGo (hostRq rq) w e
  else if Reg.SNS_REFSEL ≤ off ∧ off < Reg.SNS_REFSEL + 64 then refselApply ((off - Reg.SNS_REFSEL) / 4) w e
  else if off = Reg.LOOP_CTL then loopCtlApply w e
  else if off = Reg.LOOP_DAMSEL then damselApply w e
  else if off = Reg.XACT_CTL then wr off (w &&& 0x0FFFFFFF) e
  else if off = Reg.SCH_CLK_INT ∨ off = Reg.SCH_CLK_FRAC then
    if playerRuns e then note Fd.SCH_CAUSE_CLK_BUSY e else wr off w e
  else if off = Reg.SCH_FLUME_PI then flumePi w e
  else if off = Reg.SCH_HFLAG_SET then hflagSet v e
  else if off = Reg.CMD_CTL then cmdCtlApply w e
  else if off = Reg.TIM_CTL then timCtlApply w e
  else if off = Reg.TIM_DOM_CFG ∨ off = Reg.TIM_DOM_CFG + 32 then domCfgApply ((off - Reg.TIM_DOM_CFG) / 32) w e
  else if off = Reg.LRG_CTL then lrgCtlApply w e
  else if Reg.LRG_SHAPE ≤ off ∧ off < Reg.LRG_SHAPE + 32 then wr off w (shapeCatch e)
  else if Reg.LRG_RX_BASE_LO ≤ off ∧ off < Reg.LRG_RX_BASE_LO + 128 then
    let n := (off - Reg.LRG_RX_BASE_LO) / 32
    let k := (off - Reg.LRG_RX_BASE_LO) % 32
    if k = 8 then rxCfgApply n w e
    else if k = 12 then rxHeadApply n w e
    else if rxSize e n ≠ 0 then note Fd.LRG_CAUSE_CFG_BUSY e else wr off w e
  else if off = Reg.PWR_TB_CTL then tbCtlApply w e
  else if off = Reg.SNAP_CTL then snapGoApply w e
  else if off = Reg.SYS_WAKE then wakeApply rq v e
  else if off = Reg.FLT_CAUSE then alertCheck (clearCause off (v &&& r.w1c) e)
  else if off = Reg.SCH_HFLAG then wr off (rd e off &&& (0xFFFFFFFF ^^^ v)) e
  else if r.w1c ≠ 0 then clearCause off (v &&& r.w1c) e
  else if off = Reg.ATN_MASK then withAttn (wr off w) e
  else wr off w e

/-- A register with no field that software writes: a write is ignored but for its reserved bits (R307, R314). -/
def RegInfo.readOnly (r : RegInfo) : Bool := r.rw == 0 && r.w1c == 0 && r.w1s == 0 && r.wo == 0

/-- A write to BAR0 that reaches the register fabric. -/
def barWrite (rq : Rq) (off v : Nat) (eight : Bool) (e : Engine) : Engine :=
  match guardMain off with
  | some m => armGuard (rqNum rq) m v e
  | none =>
    match regInfo off with
    | none => e
    | some r =>
      if r.kind = .mbx then mbxWrite (rqNum rq) (off - Reg.MBX_SEL) v e
      else if r.readOnly then (rsvKeep r off v e).1
      else if r.kind = .guarded then guardedWrite rq r off v eight e
      else if r.kind = .nv then
        -- the lock, then BUSY, stands before the reserved bits: the write is ignored in whole (R315, R316)
        if on e Fd.NVR_LOCK_LOCK ∨ e.nvr.busy.isSome ∨ worn e off then nvWrite off v e
        else let p := rsvKeep r off v e; nvWrite off (merged p.1 r off p.2) p.1
      else let p := rsvKeep r off v e; plainApply rq r off p.2 p.1

/-- A write through the window of virtual function `d`: its mailbox and its MSI-X table; all else reads only (R242, R262,
R319). -/
def vfWrite (d off v : Nat) (e : Engine) : Engine :=
  if 0x40 ≤ off ∧ off < 0x70 then mbxWrite (16 + d) (off - 0x40) v e
  else if 0x800 ≤ off ∧ off < 0x900 then msixWrite d (off - 0x800) v e else e

/-- A write through the physical function: BAR0, or the MSI-X table of BAR4/5 (R241). -/
def pfWrite (off v : Nat) (eight : Bool) (e : Engine) : Engine :=
  if off < bar4At then barWrite .pf off v eight e
  else if off < bar4At + 0x400 then msixWrite 0 (off - bar4At) v e else e

/-- A register write by a requester: none arrives from one that is held or cut off; LOCKOUT ignores every write (R333); with
the main rails off only the millpond island's blocks take one (R373, R398); a host write that does not enable all four
bytes of its dwords is discarded (R244). Configuration accesses are served in LOCKOUT and in SLEEP too (R333, R373). -/
def busWrite (rq : Rq) (off : Nat) (v : Word) (eight allBytes : Bool) (e : Engine) : Engine :=
  if !reachable e rq then e
  else if rq = .pf ∧ cfgAt ≤ off then
    (if allBytes && off % 4 == 0 then cfgWrite ((off - cfgAt) / 0x1000) ((off - cfgAt) % 0x1000) v.toNat e else e)
  else if e.sys.mode = .lockout ∨ (unpowered e ∧ !millpond off) then e
  else if isHost rq ∧ (!allBytes ∨ off % 4 ≠ 0) then
    (if unpowered e then e else note Fd.HIF_CAUSE_PARTIAL_WR e)
  else match rq with
    | .pf => pfWrite off v.toNat eight e
    | .vf d => vfWrite d off v.toNat e
    | _ => barWrite rq off v.toNat eight e

-- the rows ---------------------------------------------------------------------------------------------------------------------------

/-- A write of one dword. -/
def busDword (rq : Rq) (off : Nat) (v : Word) : Engine → Engine := busWrite rq off v false true

/-- SPAN_WRITE: BKP_SPAN, the last write of its guarded sequence (R51). -/
def execSpanWrite (rq : Rq) (v : Word) (s : State) : Host.Outcome State Fault Refusal := .next (s.run (busDword rq Reg.BKP_SPAN v))

/-- MARCH_RUN: BKP_MARCH_CTL (R55). -/
def execMarchRun (rq : Rq) (v : Word) (s : State) : Host.Outcome State Fault Refusal := .next (s.run (busDword rq Reg.BKP_MARCH_CTL v))

/-- SHORT_RETRY: TILE_CTL of a tile (R54). -/
def execShortRetry (rq : Rq) (tile : Nat) (v : Word) (s : State) : Host.Outcome State Fault Refusal :=
  .next (s.run (busDword rq (Reg.TILE_CTL + 0x40 * tile) v))

/-- ISLAND_RST: TILE_CTL of a tile (R59). -/
def execIslandRst (rq : Rq) (tile : Nat) (v : Word) (s : State) : Host.Outcome State Fault Refusal :=
  .next (s.run (fun e => busDword rq (Reg.TILE_CTL + 0x40 * tile) v e))

/-- FLT_IRST (R348). -/
def execFltIrst (rq : Rq) (v : Word) (s : State) : Host.Outcome State Fault Refusal := .next (s.run (busDword rq Reg.FLT_IRST v))

/-- FLUME_PI_WRITE: SCH_FLUME_PI (R200). -/
def execFlumePiWrite (rq : Rq) (v : Word) (s : State) : Host.Outcome State Fault Refusal := .next (s.run (busDword rq Reg.SCH_FLUME_PI v))

/-- FORCE_OWNER: RFS_OVR (R109). -/
def execForceOwner (rq : Rq) (v : Word) (s : State) : Host.Outcome State Fault Refusal := .next (s.run (busDword rq Reg.RFS_OVR v))

/-- PEAK_CLR: RFS_CTL (R100). -/
def execPeakClr (rq : Rq) (v : Word) (s : State) : Host.Outcome State Fault Refusal := .next (s.run (busDword rq Reg.RFS_CTL v))

/-- ONE_SHOT: SNS_OS_CTL (R129). -/
def execOneShot (rq : Rq) (v : Word) (s : State) : Host.Outcome State Fault Refusal := .next (s.run (busDword rq Reg.SNS_OS_CTL v))

/-- REFSEL_WRITE: SNS_REFSELk; there is none above 15 (R127). -/
def execRefselWrite (rq : Rq) (k : Nat) (v : Word) (s : State) : Host.Outcome State Fault Refusal :=
  .next (s.run (whenE (decide (k < 16)) (busDword rq (Reg.SNS_REFSEL + 4 * k) v)))

/-- DAMSEL_WRITE: LOOP_DAMSEL (R144). -/
def execDamselWrite (rq : Rq) (v : Word) (s : State) : Host.Outcome State Fault Refusal := .next (s.run (busDword rq Reg.LOOP_DAMSEL v))

/-- TB_PREF_WRITE: PWR_TB_CTL (R364). -/
def execTbPrefWrite (rq : Rq) (v : Word) (s : State) : Host.Outcome State Fault Refusal := .next (s.run (busDword rq Reg.PWR_TB_CTL v))

/-- WAKE: a write of 1 to SYS_WAKE.WAKE (R373). -/
def execWake (rq : Rq) (s : State) : Host.Outcome State Fault Refusal := .next (s.run (busDword rq Reg.SYS_WAKE 1))

/-- HOLD_EXIT: a write of 1 to SYS_WAKE.HOLD_EXIT (R112). -/
def execHoldExit (rq : Rq) (s : State) : Host.Outcome State Fault Refusal := .next (s.run (busDword rq Reg.SYS_WAKE 2))

/-- GRAVE_CLR: FLT_GRAVE_CLR (R342). -/
def execGraveClr (rq : Rq) (v : Word) (s : State) : Host.Outcome State Fault Refusal := .next (s.run (busDword rq Reg.FLT_GRAVE_CLR v))

/-- SNAP_GO: SNAP_CTL (R322). -/
def execSnapGo (rq : Rq) (v : Word) (s : State) : Host.Outcome State Fault Refusal := .next (s.run (busDword rq Reg.SNAP_CTL v))

/-- GUARD_WRITE: a write to a guard address (R310). -/
def execGuardWrite (rq : Rq) (off : Nat) (v : Word) (s : State) : Host.Outcome State Fault Refusal := .next (s.run (busDword rq off v))

/-- GUARDED_WRITE: a write to a guarded main address; `eight`: as the first half of an 8-byte write that covers its guard, whose
second half is a GUARD_WRITE of its own (R244, R312). -/
def execGuardedWrite (rq : Rq) (off : Nat) (v : Word) (eight : Bool) (s : State) : Host.Outcome State Fault Refusal :=
  .next (s.run (busWrite rq off v eight true))

/-- RWP_WRITE: a write to a persistent register (R316). -/
def execRwpWrite (rq : Rq) (off : Nat) (v : Word) (s : State) : Host.Outcome State Fault Refusal :=
  .next (s.run (fun e => busDword rq off v e))

/-- DOM_EN_WRITE: CMD_DOM_EN0, or CMD_DOM_EN1 (R227). -/
def execDomEnWrite (rq : Rq) (hi : Bool) (v : Word) (s : State) : Host.Outcome State Fault Refusal :=
  .next (s.run (busDword rq (if hi then Reg.CMD_DOM_EN1 else Reg.CMD_DOM_EN0) v))

/-- HWM_CLR: CMD_CTL (R216). -/
def execHwmClr (rq : Rq) (v : Word) (s : State) : Host.Outcome State Fault Refusal := .next (s.run (busDword rq Reg.CMD_CTL v))

/-- REMAP_WRITE: SYS_REMAP (R376). -/
def execRemapWrite (rq : Rq) (v : Word) (s : State) : Host.Outcome State Fault Refusal := .next (s.run (busDword rq Reg.SYS_REMAP v))

/-- HANDOVER: TIM_CTL (R297). -/
def execHandover (rq : Rq) (v : Word) (s : State) : Host.Outcome State Fault Refusal := .next (s.run (busDword rq Reg.TIM_CTL v))

/-- RX_CFG_WRITE: LRG_RXn_CFG (R283). -/
def execRxCfgWrite (rq : Rq) (n : Nat) (v : Word) (s : State) : Host.Outcome State Fault Refusal :=
  .next (s.run (whenE (decide (n < 4)) (busDword rq (Reg.LRG_RX_CFG + 32 * n) v)))

/-- RX_HEAD_WRITE: LRG_RXn_HEAD (R283). -/
def execRxHeadWrite (rq : Rq) (n : Nat) (v : Word) (s : State) : Host.Outcome State Fault Refusal :=
  .next (s.run (whenE (decide (n < 4)) (busDword rq (Reg.LRG_RX_HEAD + 32 * n) v)))

/-- REGISTER_WRITE: any register of BAR0, or of a virtual function's window (R307, R308). -/
def execRegisterWrite (rq : Rq) (off : Nat) (v : Word) (allBytes : Bool) (s : State) : Host.Outcome State Fault Refusal :=
  .next (s.run (busWrite rq off v false allBytes))

end Sys2Proof.Machine
end

