-- ==== Sys2Proof/Machine/Mailbox.lean ====
section
/-! DEFINITION. The mailbox selectors (R289, R299, R319-R323). A row is one operation of a requester's mailbox: the selector, index
and data of the row are written and the operation is run; while an operation that the registers have started is in progress the
row's writes are discarded (R320). That operation ends by itself, at the next tick (log 18). -/

namespace Sys2Proof.Machine

/-- The direction of a selector, `true` a write; `none` where there is no such selector (R321). -/
def selDir (sel : Nat) : Option Bool :=
  if sel = 3 ∨ sel = 0x32 then some true
  else if sel = 1 ∨ sel = 2 ∨ sel = 4 ∨ sel = 0x10 ∨ sel = 0x11 ∨ sel = 0x20 ∨ sel = 0x30 ∨ sel = 0x31 then some false
  else none

/-- The selectors a virtual function may use (R321). -/
def vfMay (sel : Nat) : Bool := sel == 1 || sel == 2 || sel == 0x10 || sel == 0x11 || sel == 0x20

/-- The index is in the selector's range (R321). -/
def idxOk (e : Engine) (sel idx : Nat) : Bool :=
  if sel = 2 then decide (idx < 2)
  else if sel = 4 then decide (idx < e.tim.tsq.length)
  else if sel = 0x20 then decide (idx < 64)
  else if sel = 0x31 then decide (idx < 65536) && idx % 32 == 0
  else if sel = 0x32 then isCounter idx
  else idx == 0

/-- The fault record of a slot (R255). -/
def faultRec (e : Engine) (n : Nat) : FaultSlot := Tbl.get (fun _ => {}) e.dma.slots n

/-- The error of an operation: 0 none, 1 BAD_SEL, 2 BAD_IDX, 3 DENIED (R321). -/
def selErr (vf : Option Nat) (m : Mbx) (e : Engine) : Nat :=
  if selDir m.sel ≠ some m.write then 1
  else if vf.isSome && !vfMay m.sel then 3
  else if !idxOk e m.sel m.idx then 2
  else if m.sel = 0x20 ∧ faultRec e m.idx ≠ {} ∧ vf.any (fun d => (faultRec e m.idx).dom != d) then 3 else 0

/-- A 64-bit number as two words. -/
def twoWords (n : Nat) : List Word := [wd n, wd (n / 4294967296)]

/-- SNAP_INFO (R323). -/
def snapInfoWords (e : Engine) : List Word :=
  let c := e.snap.cur
  [wd c.gen, wd (c.time % 1000000000), wd (c.time / 1000000000), wd (bits (c.time / 1000000000) 47 32)]
    ++ twoWords c.epoch ++ [wd (c.missed % 512)]

/-- The words a read selector answers (R289, R299, R255, R323, R321). -/
def selRead (sel idx : Nat) (e : Engine) : List Word :=
  if sel = 1 then timeRead e
  else if sel = 2 then timeSlotRead e idx
  else if sel = 4 then (match e.tim.tsq[idx]? with | some t => tsWords t | none => [])
  else if sel = 0x10 then twoWords e.xact.epoch
  else if sel = 0x11 then twoWords e.xact.pubEpoch
  else if sel = 0x20 then (if faultRec e idx = {} then [] else (faultRec e idx).words idx)
  else if sel = 0x30 then snapInfoWords e
  else (List.range 8).map (fun k => if isCounter (idx + 4 * k) then Tbl.get (fun _ => 0) e.snap.cur.counters (idx + 4 * k) else 0)

/-- Eight words, those a layout does not name zero (R320). -/
def pad8 (l : List Word) : List Word := (l ++ List.replicate 8 0).take 8

/-- The end of an operation: VALID, its error, and for a snapshot selector the generation (R320). -/
def Mbx.done (m : Mbx) (err gen : Nat) (data : List Word) : Mbx :=
  { m with valid := true, busy := false, err := err, gen := gen, data := data }

/-- Run the operation of mailbox `key` (R319-R321). -/
def mbxRun (key : Nat) (e : Engine) : Engine :=
  let m := e.mbxOf key
  let vf := if 16 ≤ key then some (key - 16) else none
  let err := selErr vf m e
  let gen := if m.sel = 0x30 ∨ m.sel = 0x31 then e.snap.cur.gen % 65536 else 0
  if err ≠ 0 then updMbx key (fun m => m.done err gen m.data) e
  else if m.sel = 3 then
    let r := timeSet m.data e
    updMbx key (fun m => m.done (if r.2 then 0 else 4) 0 m.data) r.1
  else if m.sel = 0x32 then updMbx key (fun m => m.done 0 0 m.data) (wr m.idx (wordAt m.data 0) e)
  else updMbx key (fun m => m.done 0 gen (pad8 (selRead m.sel m.idx e))) e

/-- Operations in progress end. -/
def mbxFinish (e : Engine) : Engine := each ((e.mbx.filter (fun x => x.2.busy)).map (·.1)) mbxRun e

/-- The mailbox of a requester takes operations (R309, R333): the register fabric runs on the main rails. -/
def mbxOpen (e : Engine) (rq : Rq) : Bool := reachable e rq && e.sys.mode != .lockout && !unpowered e

/-- One operation of a requester's mailbox (R319, R320). -/
def mbxOp (rq : Rq) (sel : Nat) (write : Bool) (idx : Nat) (data : List Word) (e : Engine) : Engine :=
  let key := rqNum rq
  if !mbxOpen e rq then e
  else if (e.mbxOf key).busy then note Fd.REG_CAUSE_MBX_COLLIDE e
  else
    mbxRun key (updMbx key (fun m =>
      { m with sel := sel, idx := idx % 4294967296, write := write, data := if write then pad8 data else m.data, busy := true,
               valid := false, err := 0, gen := 0 }) e)

/-- TIME (R289). -/
def execTime (rq : Rq) (write : Bool) (idx : Nat) (data : List Word) (s : State) : Host.Outcome State Fault Refusal :=
  .next (s.run (mbxOp rq 1 write idx data))

/-- TIME_SLOT (R289). -/
def execTimeSlot (rq : Rq) (write : Bool) (idx : Nat) (data : List Word) (s : State) : Host.Outcome State Fault Refusal :=
  .next (s.run (mbxOp rq 2 write idx data))

/-- TIME_SET (R289, R304). -/
def execTimeSet (rq : Rq) (write : Bool) (idx : Nat) (data : List Word) (s : State) : Host.Outcome State Fault Refusal :=
  .next (s.run (mbxOp rq 3 write idx data))

/-- TSQ (R299). -/
def execTsq (rq : Rq) (write : Bool) (idx : Nat) (data : List Word) (s : State) : Host.Outcome State Fault Refusal :=
  .next (s.run (mbxOp rq 4 write idx data))

/-- XACT_EPOCH (R173). -/
def execXactEpoch (rq : Rq) (write : Bool) (idx : Nat) (data : List Word) (s : State) : Host.Outcome State Fault Refusal :=
  .next (s.run (mbxOp rq 0x10 write idx data))

/-- XACT_MAP_EPOCH (R173). -/
def execXactMapEpoch (rq : Rq) (write : Bool) (idx : Nat) (data : List Word) (s : State) : Host.Outcome State Fault Refusal :=
  .next (s.run (mbxOp rq 0x11 write idx data))

/-- DMA_FAULT (R255). -/
def execDmaFault (rq : Rq) (write : Bool) (idx : Nat) (data : List Word) (s : State) : Host.Outcome State Fault Refusal :=
  .next (s.run (mbxOp rq 0x20 write idx data))

/-- SNAP_INFO (R323). -/
def execSnapInfo (rq : Rq) (write : Bool) (idx : Nat) (data : List Word) (s : State) : Host.Outcome State Fault Refusal :=
  .next (s.run (mbxOp rq 0x30 write idx data))

/-- SNAP_REG (R321). -/
def execSnapReg (rq : Rq) (write : Bool) (idx : Nat) (data : List Word) (s : State) : Host.Outcome State Fault Refusal :=
  .next (s.run (mbxOp rq 0x31 write idx data))

/-- CNT_PRESET (R318, R321). -/
def execCntPreset (rq : Rq) (write : Bool) (idx : Nat) (data : List Word) (s : State) : Host.Outcome State Fault Refusal :=
  .next (s.run (mbxOp rq 0x32 write idx data))

end Sys2Proof.Machine
end

