-- ==== Sys2Proof/Machine/Pins.lean ====
section
/-! DEFINITION. The SMBus and the test access port (R398-R401). -/

namespace Sys2Proof.Machine

-- SMBus -----------------------------------------------------------------------------------------------------------------------------

/-- The 7-bit address (R398). -/
def smbOwn (e : Engine) : Nat := 0x58 + bits e.pins.straps 2 0

/-- ID_STRAP3 makes Packet Error Checking mandatory (R387, R398). -/
def pecMust (e : Engine) : Bool := bit e.pins.straps 3

def smbSend (l : List Byte) (e : Engine) : Engine := emit (.smb l) e

/-- A transaction whose PEC is `pec`: NACKed where it is mandatory and absent; a write with a wrong one is discarded (R398). -/
def smbWrite (pec : Option Bool) (f : Engine → Engine) (e : Engine) : Engine :=
  match pec with
  | none => if pecMust e then emit .smbNack e else f e
  | some ok => if ok then f e else e

/-- A read: with PEC mandatory and absent it is NACKed (R398). -/
def smbRead (pec : Option Bool) (f : Engine → Engine) (e : Engine) : Engine :=
  if pec.isNone && pecMust e then emit .smbNack e else f e

/-- The engine answers on the SMBus: the millpond island has power, and the TAP does not hold the lands (R398, R401). -/
def smbOn (e : Engine) : Bool := millpondOn e && !pinsHeld e

/-- IDENT: items 0 and 1 of GET_INFO; the row carries no PEC (R379, R398). -/
def execIdent (s : State) : Host.Outcome State Fault Refusal :=
  .next (s.run (fun e => whenE (smbOn e) (smbRead none (fun e => smbSend (leBytes 8 (infoItem e 0) ++ leBytes 8 (infoItem e 1)) e)) e))

/-- STRAPS: the straps as sampled at power-on reset; the row carries no PEC (R387, R398). -/
def execStraps (s : State) : Host.Outcome State Fault Refusal :=
  .next (s.run (fun e => whenE (smbOn e) (smbRead none (fun e => smbSend (leBytes 1 (bits e.pins.straps 4 0)) e)) e))

/-- REG_ADDR takes a word; in LOCKOUT it is ignored (R333, R398). -/
def smbPoint (v : Nat) (e : Engine) : Engine :=
  if e.sys.mode = .lockout then e else { e with pins := { e.pins with smbAddr := v % 65536 } }

/-- REG_ADDR: write word `w`, or read word (R398). -/
def execRegAddr (w : Option Nat) (pec : Option Bool) (s : State) : Host.Outcome State Fault Refusal :=
  .next (s.run (fun e =>
    if !smbOn e then e
    else match w with
      | some v => if bits v 1 0 ≠ 0 then emit .smbNack e else smbWrite pec (smbPoint v) e
      | none => smbRead pec (fun e => smbSend (leBytes 2 e.pins.smbAddr) e) e))

/-- A register read by the SMBus (R309, R398): a read of FLT_HIST0 latches the four words of its record (R349), and a
measurement, or a rail's state, is a free value. -/
def smbReg (e : Engine) : Engine :=
  let off := e.pins.smbAddr
  let e1 := smbSend (leBytes 4 (readReg e 5 off)) e
  let e1 := if off = Reg.FLT_HIST0 then (let h := histRecord e; { e1 with flt := { e1.flt with histWords := h } }) else e1
  if freeRead e off then useFree e1 else e1

/-- REG_DATA: block write of `w`, or block read, of the register at REG_ADDR (R398). -/
def execRegData (w : Option Word) (pec : Option Bool) (s : State) : Host.Outcome State Fault Refusal :=
  .next (s.run (fun e =>
    if !smbOn e then e
    else match w with
      | some v => smbWrite pec (fun e => busDword .smbus e.pins.smbAddr v e) e
      | none => smbRead pec smbReg e))

/-- A register is read, and REG_ADDR advances by 4 (R398). -/
def smbNext (e : Engine) : Engine :=
  let e := smbReg e
  { e with pins := { e.pins with smbAddr := (e.pins.smbAddr + 4) % 65536 } }

/-- REG_NEXT: as a read of REG_DATA, then REG_ADDR advances by 4; the row carries no PEC (R398). -/
def execRegNext (s : State) : Host.Outcome State Fault Refusal := .next (s.run (fun e => whenE (smbOn e) (smbRead none smbNext) e))

/-- ALERT_RESPONSE: a read of address 0x0C (R399). -/
def execAlertResponse (s : State) : Host.Outcome State Fault Refusal :=
  .next (s.run (fun e =>
    if smbOn e && e.flt.smbAlert then
      let e := smbSend (leBytes 1 (2 * smbOwn e)) e
      { e with flt := { e.flt with smbAlert := false } }
    else e))

-- the test access port --------------------------------------------------------------------------------------------------------------

/-- The lands of the boundary register, in the order of R384: bit 0 is PERST_N (R400; log 113). -/
inductive Land where
  | perstN | rstN | brakeN | attnN | syncIn | syncOut | ppsIn | ppsOut | smbScl | smbSda | smbAlertN | pgA | pgB
  | strap0 | strap1 | strap2 | strap3 | strap4
deriving DecidableEq, Repr

/-- The lands of the boundary register, its bit 0 first. -/
def boundaryLands : List Land :=
  [.perstN, .rstN, .brakeN, .attnN, .syncIn, .syncOut, .ppsIn, .ppsOut, .smbScl, .smbSda, .smbAlertN, .pgA, .pgB,
   .strap0, .strap1, .strap2, .strap3, .strap4]

/-- The cell of a land in the boundary register. -/
def cellOf (b : Nat) (l : Land) : Bool := bit b (boundaryLands.idxOf l)

/-- What the engine drives its single-ended outputs with: the open-drain lands pulled low, the 3.3 V lands high (R384, R386). -/
structure Outputs where
  attnLow : Bool
  smbAlertLow : Bool
  pgALow : Bool
  pgBLow : Bool
  syncOut : Bool
  ppsOut : Bool
deriving DecidableEq, Repr

/-- The outputs as the engine's functions drive them (R344, R386). -/
def ownOutputs (e : Engine) : Outputs :=
  { attnLow := attnLow e, smbAlertLow := e.flt.smbAlert, pgALow := !e.pwr.feedA, pgBLow := !e.pwr.feedB,
    syncOut := e.tim.syncHigh, ppsOut := e.tim.ppsHigh }

/-- The outputs as the boundary register drives them (R401). -/
def cellOutputs (b : Nat) : Outputs :=
  { attnLow := !cellOf b .attnN, smbAlertLow := !cellOf b .smbAlertN, pgALow := !cellOf b .pgA, pgBLow := !cellOf b .pgB,
    syncOut := cellOf b .syncOut, ppsOut := cellOf b .ppsOut }

/-- The outputs: under EXTEST and CLAMP those of the boundary register, under HIGHZ `none`: every land is high-impedance (R401). -/
def outputs (e : Engine) : Option Outputs :=
  if !pinsHeld e then some (ownOutputs e) else if tapIr e = 5 then none else some (cellOutputs e.pins.boundary)

/-- The level at a land, where the engine's state holds it: a released open-drain land is pulled up (R384, R386, R390). -/
def landLevel (e : Engine) (l : Land) : Option Bool :=
  let out (f : Outputs → Bool) : Option Bool := (outputs e).map f
  match l with
  | .rstN => some (!e.pins.rstLow)
  | .brakeN => some (!e.pins.brakeLow)
  | .attnN => out (fun o => !o.attnLow)
  | .syncOut => out (·.syncOut)
  | .ppsOut => out (·.ppsOut)
  | .smbAlertN => out (fun o => !o.smbAlertLow)
  | .pgA => out (fun o => !o.pgALow)
  | .pgB => out (fun o => !o.pgBLow)
  | .strap0 => some (bit e.pins.straps 0)
  | .strap1 => some (bit e.pins.straps 1)
  | .strap2 => some (bit e.pins.straps 2)
  | .strap3 => some (bit e.pins.straps 3)
  | .strap4 => some (bit e.pins.straps 4)
  | _ => none

/-- The boundary register captures the levels at its lands; those that no state holds are free (R400; log 3). -/
def captured (e : Engine) : Nat :=
  bitsOf ((boundaryLands.zip (List.range 18)).map (fun x => (landLevel e x.1).getD (bit (free e) x.2)))

def loadIr (n : Nat) (e : Engine) : Engine := { e with pins := { e.pins with jtagIr := n } }

/-- The bypass register shifts a leading 0 (R400). -/
def tapBypass (e : Engine) : Engine := emit (.tdo 0) e

/-- The boundary register captures the lands and shifts them out (R400). -/
def tapCapture (e : Engine) : Engine := useFree (emit (.tdo (captured e)) e)

/-- JTAG_BYPASS (R400). -/
def execJtagBypass (s : State) : Host.Outcome State Fault Refusal :=
  .next (s.run (fun e => whenE (tapOn e) (fun e => tapBypass (loadIr 0 e)) e))

/-- IDCODE (R400). -/
def execIdcode (s : State) : Host.Outcome State Fault Refusal :=
  .next (s.run (fun e => whenE (tapOn e) (fun e => emit (.tdo 0xCB4099C7) (loadIr 1 e)) e))

/-- SAMPLE/PRELOAD (R400): the levels at the lands come out, and the boundary register is loaded. -/
def execSamplePreload (preload : Nat) (s : State) : Host.Outcome State Fault Refusal :=
  .next (s.run (fun e => whenE (tapOn e) (fun e =>
    let e := tapCapture (loadIr 2 e)
    { e with pins := { e.pins with boundary := preload % 262144 } }) e))

/-- EXTEST (R401): the boundary register drives the lands and captures them; in the other modes BYPASS stands in its place. -/
def execExtest (s : State) : Host.Outcome State Fault Refusal :=
  .next (s.run (fun e => whenE (tapOn e) (fun e =>
    let e := loadIr 3 e
    if pinsHeld e then tapCapture e else tapBypass e) e))

/-- CLAMP (R401): the boundary register drives the lands, the bypass register is shifted. -/
def execClamp (s : State) : Host.Outcome State Fault Refusal :=
  .next (s.run (fun e => whenE (tapOn e) (fun e => tapBypass (loadIr 4 e)) e))

/-- HIGHZ (R401): the lands are high-impedance, the bypass register is shifted. -/
def execHighz (s : State) : Host.Outcome State Fault Refusal :=
  .next (s.run (fun e => whenE (tapOn e) (fun e => tapBypass (loadIr 5 e)) e))

/-- TRST_N low resets the TAP and the debug master, which ends its hang (R347, R401). -/
def execTrstN (low : Bool) (s : State) : Host.Outcome State Fault Refusal :=
  .next (s.run (fun e =>
    if low then releaseMaster 7 { e with pins := { e.pins with jtagIr := 1, trstLow := true } }
    else { e with pins := { e.pins with trstLow := false } }))

end Sys2Proof.Machine
end

