-- ==== Sys2Proof/Machine/Tick.lean ====
section
/-! DEFINITION. One tick of 10 ns: what time alone brings where no command names it (R42, log 1). -/

namespace Sys2Proof.Machine

/-- The entry to HOLD is complete (R113). -/
def holdTick (e : Engine) : Engine :=
  if e.sys.mode = .hold ∧ holdDone e then { e with rfs := { e.rfs with holdStop := true } } else e

/-- The brake is released once nothing holds it and its 2.0 µs have passed (R48). -/
def brakeTick (e : Engine) : Engine := if e.bkp.brakeAt + 2000 ≤ e.clk then settleBrake e else e

/-- A map that waits is published, at the latest 8 µs after a read pinned the buffer (R174, R175). -/
def publishTick (e : Engine) : Engine :=
  match e.xact.pinned with
  | some (_, t) => if e.clk < t + 8000 then e else publishNow e
  | none => publishNow e

/-- The shutdown's 10 µs have passed (R355). -/
def coolTick (e : Engine) : Engine :=
  match e.thm.coolPend with
  | some t => if t + 10000 ≤ e.clk ∧ !e.bkp.zeroing then enterCooldown e else e
  | none => e

/-- One tick. -/
def tick (e : Engine) : Engine :=
  let e := leaveEnd (pass 10 e)
  if unpowered e then e
  else
    let e := coolTick (brakeTick (bootTick e))
    if unpowered e ∨ e.sys.mode = .lockout then e
    else
      let e := holdTick (passDue e)
      let e := mbxFinish (startReloads (settle (publishTick e)))
      fullFlags (ringRun (catchUp e))

end Sys2Proof.Machine
end

