-- ==== Sys2Proof/Machine/Dispatch.lean ====
section
/-! DEFINITION. One arm per command: a direct call of its meaning. -/

namespace Sys2Proof.Machine

/-- The effect of a command on everything but the queue. -/
def exec (i : Instr) (s : State) : Host.Outcome State Fault Refusal :=
  match i with
  | .nop cx => Sys2Proof.Machine.execNop cx s
  | .getInfo cx p => Sys2Proof.Machine.execGetInfo cx p s
  | .setMode cx p => Sys2Proof.Machine.execSetMode cx p s
  | .snapshot cx p => Sys2Proof.Machine.execSnapshot cx p s
  | .fwStage cx p => Sys2Proof.Machine.execFwStage cx p s
  | .fwActivate cx p => Sys2Proof.Machine.execFwActivate cx p s
  | .tableRead cx p => Sys2Proof.Machine.execTableRead cx p s
  | .tableWrite cx p => Sys2Proof.Machine.execTableWrite cx p s
  | .pairTxn cx p => Sys2Proof.Machine.execPairTxn cx p s
  | .pairCommit cx p => Sys2Proof.Machine.execPairCommit cx p s
  | .pairAbort cx p => Sys2Proof.Machine.execPairAbort cx p s
  | .pairQuery cx p => Sys2Proof.Machine.execPairQuery cx p s
  | .portPark cx p => Sys2Proof.Machine.execPortPark cx p s
  | .schLoad cx p => Sys2Proof.Machine.execSchLoad cx p s
  | .schStart cx p => Sys2Proof.Machine.execSchStart cx p s
  | .schStop cx p => Sys2Proof.Machine.execSchStop cx p s
  | .schJump cx p => Sys2Proof.Machine.execSchJump cx p s
  | .schStream cx p => Sys2Proof.Machine.execSchStream cx p s
  | .loopCfg cx p => Sys2Proof.Machine.execLoopCfg cx p s
  | .loopInject cx p => Sys2Proof.Machine.execLoopInject cx p s
  | .captureArm cx p => Sys2Proof.Machine.execCaptureArm cx p s
  | .captureRead cx p => Sys2Proof.Machine.execCaptureRead cx p s
  | .calSensor cx p => Sys2Proof.Machine.execCalSensor cx p s
  | .calSurvey cx p => Sys2Proof.Machine.execCalSurvey cx p s
  | .calCommit cx p => Sys2Proof.Machine.execCalCommit cx p s
  | .aimUpload cx p => Sys2Proof.Machine.execAimUpload cx p s
  | .domainCfg cx p => Sys2Proof.Machine.execDomainCfg cx p s
  | .ownerSet cx p => Sys2Proof.Machine.execOwnerSet cx p s
  | .policerSet cx p => Sys2Proof.Machine.execPolicerSet cx p s
  | .drillSwap cx p => Sys2Proof.Machine.execDrillSwap cx p s
  | .bistRun cx p => Sys2Proof.Machine.execBistRun cx p s
  | .faultClear cx p => Sys2Proof.Machine.execFaultClear cx p s
  | .dmaResume cx p => Sys2Proof.Machine.execDmaResume cx p s
  | .dmaAbort cx p => Sys2Proof.Machine.execDmaAbort cx p s
  | .sqDoorbell fn n v aligned => Sys2Proof.Machine.execSqDoorbell fn n v aligned s
  | .cqDoorbell fn n v aligned => Sys2Proof.Machine.execCqDoorbell fn n v aligned s
  | .commandFetch host => Sys2Proof.Machine.execCommandFetch host s
  | .policerRefill => Sys2Proof.Machine.execPolicerRefill s
  | .shaperSlot => Sys2Proof.Machine.execShaperSlot s
  | .completionSignal => Sys2Proof.Machine.execCompletionSignal s
  | .hopperSample => Sys2Proof.Machine.execHopperSample s
  | .chunk stream res => Sys2Proof.Machine.execChunk stream res s
  | .haltTmo slot => Sys2Proof.Machine.execHaltTmo slot s
  | .flr fn => Sys2Proof.Machine.execFlr fn s
  | .hotReset => Sys2Proof.Machine.execHotReset s
  | .perstN lowNs => Sys2Proof.Machine.execPerstN lowNs s
  | .pcieLinkDown => Sys2Proof.Machine.execPcieLinkDown s
  | .vfDisable numVfs => Sys2Proof.Machine.execVfDisable numVfs s
  | .d3hotToD0 => Sys2Proof.Machine.execD3hotToD0 s
  | .powerOn straps brakeLow loadErr => Sys2Proof.Machine.execPowerOn straps brakeLow loadErr s
  | .bootStageTimeout stage err => Sys2Proof.Machine.execBootStageTimeout stage err s
  | .thermalGateRelease => Sys2Proof.Machine.execThermalGateRelease s
  | .rstN lowNs => Sys2Proof.Machine.execRstN lowNs s
  | .rstNRelease => Sys2Proof.Machine.execRstNRelease s
  | .brakeN lowNs => Sys2Proof.Machine.execBrakeN lowNs s
  | .brakeSluice => Sys2Proof.Machine.execBrakeSluice s
  | .brakeFail silent => Sys2Proof.Machine.execBrakeFail silent s
  | .brakeRelease => Sys2Proof.Machine.execBrakeRelease s
  | .spanWrite rq v => Sys2Proof.Machine.execSpanWrite rq v s
  | .resynthesisStart => Sys2Proof.Machine.execResynthesisStart s
  | .marchRun rq v => Sys2Proof.Machine.execMarchRun rq v s
  | .marchEnd reads => Sys2Proof.Machine.execMarchEnd reads s
  | .shortRetry rq tile v => Sys2Proof.Machine.execShortRetry rq tile v s
  | .islandRst rq tile v => Sys2Proof.Machine.execIslandRst rq tile v s
  | .fltIrst rq v => Sys2Proof.Machine.execFltIrst rq v s
  | .islandResetEnd tile reads => Sys2Proof.Machine.execIslandResetEnd tile reads s
  | .short aperture col => Sys2Proof.Machine.execShort aperture col s
  | .atnHoldoffEnd => Sys2Proof.Machine.execAtnHoldoffEnd s
  | .arm job residues => Sys2Proof.Machine.execArm job residues s
  | .armComplete aperture => Sys2Proof.Machine.execArmComplete aperture s
  | .prepared txn ddrEcc => Sys2Proof.Machine.execPrepared txn ddrEcc s
  | .noGroup txn => Sys2Proof.Machine.execNoGroup txn s
  | .syncMissing txn => Sys2Proof.Machine.execSyncMissing txn s
  | .openTmo txn => Sys2Proof.Machine.execOpenTmo txn s
  | .check job => Sys2Proof.Machine.execCheck job s
  | .sluice => Sys2Proof.Machine.execSluice s
  | .mapPublish => Sys2Proof.Machine.execMapPublish s
  | .conditionRefresh => Sys2Proof.Machine.execConditionRefresh s
  | .majorPark => Sys2Proof.Machine.execMajorPark s
  | .armPoint => Sys2Proof.Machine.execArmPoint s
  | .segmentArrival => Sys2Proof.Machine.execSegmentArrival s
  | .flumePiWrite rq v => Sys2Proof.Machine.execFlumePiWrite rq v s
  | .surveyEnd gen => Sys2Proof.Machine.execSurveyEnd gen s
  | .calSensorEnd first => Sys2Proof.Machine.execCalSensorEnd first s
  | .calPersistDone ok => Sys2Proof.Machine.execCalPersistDone ok s
  | .sweeperRebuild p => Sys2Proof.Machine.execSweeperRebuild p s
  | .cacheReloadDone tile => Sys2Proof.Machine.execCacheReloadDone tile s
  | .refresh byB aperture row shadow reads => Sys2Proof.Machine.execRefresh byB aperture row shadow reads s
  | .heartbeat fromB clean => Sys2Proof.Machine.execHeartbeat fromB clean s
  | .heartbeatMissing ofB => Sys2Proof.Machine.execHeartbeatMissing ofB s
  | .takeover => Sys2Proof.Machine.execTakeover s
  | .failback => Sys2Proof.Machine.execFailback s
  | .drillEnd => Sys2Proof.Machine.execDrillEnd s
  | .drillClaimTimeout => Sys2Proof.Machine.execDrillClaimTimeout s
  | .forceOwner rq v => Sys2Proof.Machine.execForceOwner rq v s
  | .peakClr rq v => Sys2Proof.Machine.execPeakClr rq v s
  | .scrub upsets => Sys2Proof.Machine.execScrub upsets s
  | .holdExit rq => Sys2Proof.Machine.execHoldExit rq s
  | .wake rq => Sys2Proof.Machine.execWake rq s
  | .syncIn absent => Sys2Proof.Machine.execSyncIn absent s
  | .syncLoss tile => Sys2Proof.Machine.execSyncLoss tile s
  | .freeRunFrame tile => Sys2Proof.Machine.execFreeRunFrame tile s
  | .conversionDone aperture convs converter oneShot => Sys2Proof.Machine.execConversionDone aperture convs converter oneShot s
  | .oneShot rq v => Sys2Proof.Machine.execOneShot rq v s
  | .refselWrite rq k v => Sys2Proof.Machine.execRefselWrite rq k v s
  | .refSettled tile => Sys2Proof.Machine.execRefSettled tile s
  | .loopEvaluation aperture arrived residue reads => Sys2Proof.Machine.execLoopEvaluation aperture arrived residue reads s
  | .damselWrite rq v => Sys2Proof.Machine.execDamselWrite rq v s
  | .thermalMeasurement group readings => Sys2Proof.Machine.execThermalMeasurement group readings s
  | .cooldownEnd => Sys2Proof.Machine.execCooldownEnd s
  | .feedLoss b => Sys2Proof.Machine.execFeedLoss b s
  | .feedReturn b => Sys2Proof.Machine.execFeedReturn b s
  | .brownout => Sys2Proof.Machine.execBrownout s
  | .overcurrent b => Sys2Proof.Machine.execOvercurrent b s
  | .auxLoss b => Sys2Proof.Machine.execAuxLoss b s
  | .railWarn => Sys2Proof.Machine.execRailWarn s
  | .powerLoss => Sys2Proof.Machine.execPowerLoss s
  | .refclkLost b => Sys2Proof.Machine.execRefclkLost b s
  | .refGood b => Sys2Proof.Machine.execRefGood b s
  | .tbRevert => Sys2Proof.Machine.execTbRevert s
  | .tbPrefWrite rq v => Sys2Proof.Machine.execTbPrefWrite rq v s
  | .wireFault block inst code => Sys2Proof.Machine.execWireFault block inst code s
  | .busHang master addr => Sys2Proof.Machine.execBusHang master addr s
  | .hsErr tile => Sys2Proof.Machine.execHsErr tile s
  | .gravePersist ok => Sys2Proof.Machine.execGravePersist ok s
  | .graveClr rq v => Sys2Proof.Machine.execGraveClr rq v s
  | .snapGo rq v => Sys2Proof.Machine.execSnapGo rq v s
  | .snapshotPulse => Sys2Proof.Machine.execSnapshotPulse s
  | .generationReadable => Sys2Proof.Machine.execGenerationReadable s
  | .time rq write idx data => Sys2Proof.Machine.execTime rq write idx data s
  | .timeSlot rq write idx data => Sys2Proof.Machine.execTimeSlot rq write idx data s
  | .timeSet rq write idx data => Sys2Proof.Machine.execTimeSet rq write idx data s
  | .tsq rq write idx data => Sys2Proof.Machine.execTsq rq write idx data s
  | .xactEpoch rq write idx data => Sys2Proof.Machine.execXactEpoch rq write idx data s
  | .xactMapEpoch rq write idx data => Sys2Proof.Machine.execXactMapEpoch rq write idx data s
  | .dmaFault rq write idx data => Sys2Proof.Machine.execDmaFault rq write idx data s
  | .snapInfo rq write idx data => Sys2Proof.Machine.execSnapInfo rq write idx data s
  | .snapReg rq write idx data => Sys2Proof.Machine.execSnapReg rq write idx data s
  | .cntPreset rq write idx data => Sys2Proof.Machine.execCntPreset rq write idx data s
  | .guardWrite rq off v => Sys2Proof.Machine.execGuardWrite rq off v s
  | .guardedWrite rq off v eight => Sys2Proof.Machine.execGuardedWrite rq off v eight s
  | .rwpWrite rq off v => Sys2Proof.Machine.execRwpWrite rq off v s
  | .nvrProgramDone ok => Sys2Proof.Machine.execNvrProgramDone ok s
  | .domEnWrite rq hi v => Sys2Proof.Machine.execDomEnWrite rq hi v s
  | .hwmClr rq v => Sys2Proof.Machine.execHwmClr rq v s
  | .remapWrite rq v => Sys2Proof.Machine.execRemapWrite rq v s
  | .handover rq v => Sys2Proof.Machine.execHandover rq v s
  | .handoverJoin => Sys2Proof.Machine.execHandoverJoin s
  | .rxCfgWrite rq n v => Sys2Proof.Machine.execRxCfgWrite rq n v s
  | .rxHeadWrite rq n v => Sys2Proof.Machine.execRxHeadWrite rq n v s
  | .registerWrite rq off v allBytes => Sys2Proof.Machine.execRegisterWrite rq off v allBytes s
  | .ringFrame onB f => Sys2Proof.Machine.execRingFrame onB f s
  | .commandFrame onB f => Sys2Proof.Machine.execCommandFrame onB f s
  | .token onB gen => Sys2Proof.Machine.execToken onB gen s
  | .tokenHoldEnd onB => Sys2Proof.Machine.execTokenHoldEnd onB s
  | .shaperRefill => Sys2Proof.Machine.execShaperRefill s
  | .trtExpiry onB => Sys2Proof.Machine.execTrtExpiry onB s
  | .claim onB bid mac nonce => Sys2Proof.Machine.execClaim onB bid mac nonce s
  | .claimTimeout onB => Sys2Proof.Machine.execClaimTimeout onB s
  | .helloSend => Sys2Proof.Machine.execHelloSend s
  | .hello onB rxA rxB => Sys2Proof.Machine.execHello onB rxA rxB s
  | .linkDown onB => Sys2Proof.Machine.execLinkDown onB s
  | .linkUp onB => Sys2Proof.Machine.execLinkUp onB s
  | .primaryReturn => Sys2Proof.Machine.execPrimaryReturn s
  | .pause da quanta => Sys2Proof.Machine.execPause da quanta s
  | .pauseExpiry => Sys2Proof.Machine.execPauseExpiry s
  | .pauseRepeat => Sys2Proof.Machine.execPauseRepeat s
  | .pauseRelease => Sys2Proof.Machine.execPauseRelease s
  | .syncMsg slot onB wrap ttl twoStep seq origin corr rxTime => Sys2Proof.Machine.execSyncMsg slot onB wrap ttl twoStep seq origin corr rxTime s
  | .followUp slot seq origin corr => Sys2Proof.Machine.execFollowUp slot seq origin corr s
  | .delayReqSend slot txTime => Sys2Proof.Machine.execDelayReqSend slot txTime s
  | .delayResp slot seq t4 corr interval => Sys2Proof.Machine.execDelayResp slot seq t4 corr interval s
  | .syncTmo slot => Sys2Proof.Machine.execSyncTmo slot s
  | .pathHoldEnd slot => Sys2Proof.Machine.execPathHoldEnd slot s
  | .tsqExpiry => Sys2Proof.Machine.execTsqExpiry s
  | .ppsIn => Sys2Proof.Machine.execPpsIn s
  | .syncOutEdge => Sys2Proof.Machine.execSyncOutEdge s
  | .ppsOutEdge => Sys2Proof.Machine.execPpsOutEdge s
  | .ident => Sys2Proof.Machine.execIdent s
  | .straps => Sys2Proof.Machine.execStraps s
  | .regAddr w pec => Sys2Proof.Machine.execRegAddr w pec s
  | .regData w pec => Sys2Proof.Machine.execRegData w pec s
  | .regNext => Sys2Proof.Machine.execRegNext s
  | .alertResponse => Sys2Proof.Machine.execAlertResponse s
  | .jtagBypass => Sys2Proof.Machine.execJtagBypass s
  | .idcode => Sys2Proof.Machine.execIdcode s
  | .samplePreload preload => Sys2Proof.Machine.execSamplePreload preload s
  | .extest => Sys2Proof.Machine.execExtest s
  | .clamp => Sys2Proof.Machine.execClamp s
  | .highz => Sys2Proof.Machine.execHighz s
  | .trstN low => Sys2Proof.Machine.execTrstN low s
  | .bootEnd bistFail => Sys2Proof.Machine.execBootEnd bistFail s
  | .fwStaged verdict => Sys2Proof.Machine.execFwStaged verdict s
  | .fwActivated ok => Sys2Proof.Machine.execFwActivated ok s
  | .bistEnd failed place => Sys2Proof.Machine.execBistEnd failed place s
  | .railCollapse => Sys2Proof.Machine.execRailCollapse s
  | .blockLock onB => Sys2Proof.Machine.execBlockLock onB s
  | .pcieLinkUp speed width => Sys2Proof.Machine.execPcieLinkUp speed width s
  | .aer => Sys2Proof.Machine.execAer s
  | .flrDone fn => Sys2Proof.Machine.execFlrDone fn s
  | .irstEnd => Sys2Proof.Machine.execIrstEnd s
  | .brakeNRelease => Sys2Proof.Machine.execBrakeNRelease s
  | .auxReturn b => Sys2Proof.Machine.execAuxReturn b s

end Sys2Proof.Machine
end

