-- ==== Sys2Proof/Machine/Step.lean ====
section
/-! DEFINITION. One step: the command at the front of the queue, or, on an empty queue, one tick. -/

namespace Sys2Proof.Machine

/-- Take the oldest waiting command and run it with the queue's rest; on an empty queue one tick passes (log 1). -/
def step (s : State) : Host.Outcome State Fault Refusal :=
  match s.pending with
  | [] => .next (s.run tick)
  | c :: rest => exec c { s with pending := rest }

/-- `s` with the command a word spells at the front of its queue; no word of this block spells one. -/
def State.withFetchWord (s : State) (nbits w : Nat) : State :=
  match Sys2Proof.decodeTableWord nbits w with
  | some c => { s with pending := c :: s.pending }
  | none => s

end Sys2Proof.Machine
end

