-- ==== Sys2Proof/Safety.lean ====
section
/-! DEFINITION. What the statements speak of: the parts of the engine, what a command leaves unchanged, and the invariant every
step keeps. -/

namespace Sys2Proof.Machine

/-- The parts of the engine, one for each of its fields. -/
inductive Part where
  | clk | freeCtr | regs | trip1 | trip2 | reach | guards | mbx | snap | nvr | flt | sys | thm | pwr | tim | pins | cmd | dma
  | hif | xact | bkp | syn | rfs | sns | loop | sch | lrg | hostMem | out
deriving DecidableEq, Repr

/-- Part `p` of `b` is that of `a`. -/
def same (p : Part) (a b : Engine) : Prop :=
  match p with
  | .clk => b.clk = a.clk
  | .freeCtr => b.freeCtr = a.freeCtr
  | .regs => b.regs = a.regs
  | .trip1 => b.trip1 = a.trip1
  | .trip2 => b.trip2 = a.trip2
  | .reach => b.reach = a.reach
  | .guards => b.guards = a.guards
  | .mbx => b.mbx = a.mbx
  | .snap => b.snap = a.snap
  | .nvr => b.nvr = a.nvr
  | .flt => b.flt = a.flt
  | .sys => b.sys = a.sys
  | .thm => b.thm = a.thm
  | .pwr => b.pwr = a.pwr
  | .tim => b.tim = a.tim
  | .pins => b.pins = a.pins
  | .cmd => b.cmd = a.cmd
  | .dma => b.dma = a.dma
  | .hif => b.hif = a.hif
  | .xact => b.xact = a.xact
  | .bkp => b.bkp = a.bkp
  | .syn => b.syn = a.syn
  | .rfs => b.rfs = a.rfs
  | .sns => b.sns = a.sns
  | .loop => b.loop = a.loop
  | .sch => b.sch = a.sch
  | .lrg => b.lrg = a.lrg
  | .hostMem => b.hostMem = a.hostMem
  | .out => b.out = a.out

/-- Every part but those of `l` is unchanged from `a` to `b`. -/
def Unchanged (l : List Part) (a b : Engine) : Prop := ∀ p, p ∉ l → same p a b

/-- The engine as a command finds it: what the command before it sent is gone. -/
def State.start (s : State) : Engine := { s.eng with out := [] }

/-- The state with engine `e` and the queue of `s`. -/
def State.to (s : State) (e : Engine) : State := { s with eng := e }

/-- Command `c` completes in `s`: `exec` answers a next state, with the queue as it was and an engine that has `P`. -/
def Goes (c : Instr) (s : State) (P : Engine → Prop) : Prop := ∃ t, exec c s = .next t ∧ t.pending = s.pending ∧ P t.eng

/-- Command `cx` of kind `i`, naming the ports `ports`, finds its way clear: its hopper is its domain's, the mode is one of
its own, its tag is free, nothing before it holds one of its ports, and, where it names ports, every command in flight is
accepted and no hopper has an entry to be fetched (R180, R181, R217, R368, R404). -/
structure Clear (cx : Cx) (i : CmdInfo) (ports : List Nat) (e : Engine) : Prop where
  mode : e.sys.mode ∈ i.modes
  exec : e.sys.mode ∈ execModes
  dom : hopDom e cx.hopper = some cx.domain
  operator : i.operator = true → cx.domain = 0
  host : i.hostMem = true → isRing cx.hopper = false
  tag : ∀ j ∈ e.cmd.inflight, ¬(j.cx.hopper = cx.hopper ∧ j.cx.tag = cx.tag)
  loose : looseTags e (fun c => c.hopper == cx.hopper && c.tag == cx.tag) = []
  free : ∀ j ∈ e.cmd.inflight, ∀ p ∈ j.ports, p ∉ ports
  parked : ∀ k ∈ e.flt.parks, ∀ p ∈ k.scope e, p ∉ ports
  first : i.opcode ∈ namingOps → (∀ j ∈ e.cmd.inflight, j.accepted = true) ∧
    ∀ x ∈ e.cmd.hoppers, x.2.ring = [] ∧ x.2.before e.cmd.subs = 0

/-- The engine once a clear command has been taken in: it holds its tag and its ports' order tags and is counted as accepted
(R180, R217). -/
def accepted (cx : Cx) (opcode : Nat) (ports : List Nat) (e : Engine) : Engine := takeIn cx opcode ports true e

/-- Nothing waits for a group or for an order tag (R167, R181), no servo step is deferred (R304), and no completion keeps the engine
from SLEEP (R373). -/
structure Quiet (e : Engine) : Prop where
  groups : ∀ t ∈ e.xact.txns, t.ready = true → t.group.isSome = true
  tags : ∀ i ∈ e.cmd.inflight, i.wait = none
  step : e.tim.stepDefer = none
  sleep : ∀ j, e.sys.setMode = some j → j.wait ≠ .sleepPost

/-- A dword write by `rq` to offset `off` of BAR0 reaches the register fabric (R240, R244, R333, R373, R398). -/
def Reaches (rq : Rq) (off : Nat) (e : Engine) : Prop :=
  reachable e rq = true ∧ (∀ d, rq ≠ .vf d) ∧ e.sys.mode ≠ .lockout ∧ (unpowered e = true → millpond off = true) ∧
    off < bar4At ∧ off % 4 = 0

/-- The engine and the word of register `off` as a write of `v` leaves its reserved bits (R314). -/
def written (off : Nat) (v : Word) (e : Engine) : Engine × Nat :=
  match regInfo off with
  | some r => ((rsvKeep r off v.toNat e).1, merged (rsvKeep r off v.toNat e).1 r off (rsvKeep r off v.toNat e).2)
  | none => (e, 0)

/-- The latch of `rq` holds the complement of `v` for the guarded register `off`, no more than 1 ms old (R310, R312). -/
def Armed (rq : Rq) (off : Nat) (v : Word) (e : Engine) : Prop :=
  ∃ x, latchOf e (rqNum rq) = some x ∧ x.main = off ∧ e.clk ≤ x.at_ + 1000000 ∧ x.word = ~~~ v

/-- The engine with the latch of `rq` used up. -/
def unlatched (rq : Rq) (e : Engine) : Engine := { e with guards := Tbl.del e.guards (rqNum rq) }

/-- What every step keeps: the canonical forms of host memory and of the register file, and the bounds of the history queue
(R339) and of the timestamp queue (R302). -/
def Inv (s : State) : Prop :=
  Memory.wf s.eng.hostMem = true ∧ Tbl.wf resetVal s.eng.regs = true ∧ s.eng.flt.hist.length ≤ 32 ∧ s.eng.tim.tsq.length ≤ 64

/-- Every part of the engine. -/
def everyPart : List Part :=
  [.clk, .freeCtr, .regs, .trip1, .trip2, .reach, .guards, .mbx, .snap, .nvr, .flt, .sys, .thm, .pwr, .tim, .pins, .cmd, .dma,
   .hif, .xact, .bkp, .syn, .rfs, .sns, .loop, .sch, .lrg, .hostMem, .out]

/-- Every part but those of `l`. -/
def allBut (l : List Part) : List Part := everyPart.filter (fun p => !l.contains p)

/-- The parts of the engine that a command can change: what its rules let it write, and, for a command whose completion or whose
flag can end in a reaction (a brake, a park, a mode change), what that reaction writes. -/
def touches (c : Sys2Proof.Instr) : List Part :=
  match c with
  | .nop _ | .getInfo _ _ | .tableWrite _ _ | .schLoad _ _ | .captureRead _ _ | .policerSet _ _ | .dmaResume _ _ =>
    [.regs, .trip1, .trip2, .reach, .flt, .cmd, .dma, .hif, .lrg, .hostMem, .out]
  | .setMode _ _ => allBut [.clk, .freeCtr, .guards, .mbx, .snap, .nvr, .pins]
  | .snapshot _ _ => [.regs, .trip1, .trip2, .reach, .snap, .flt, .cmd, .dma, .hif, .lrg, .hostMem, .out]
  | .fwStage _ _ => [.regs, .trip1, .trip2, .reach, .flt, .sys, .cmd, .dma, .hif, .lrg, .hostMem, .out]
  | .fwActivate _ _ => allBut [.clk, .freeCtr, .guards, .mbx, .snap, .nvr, .pwr, .tim, .pins, .loop]
  | .tableRead _ _ => allBut [.freeCtr, .guards, .mbx, .nvr, .sys, .thm, .pwr, .pins, .bkp, .syn, .rfs, .sns, .loop, .sch]
  | .pairTxn _ _ | .pairCommit _ _ | .pairAbort _ _ | .portPark _ _ | .domainCfg _ _ | .ownerSet _ _ | .dmaAbort _ _
  | .prepared _ _ | .majorPark => allBut [.clk, .freeCtr, .guards, .mbx, .nvr, .pins, .loop]
  | .pairQuery _ _ => [.regs, .trip1, .trip2, .reach, .flt, .cmd, .dma, .hif, .xact, .lrg, .hostMem, .out]
  | .schStart _ _ | .schJump _ _ | .schStream _ _ =>
    [.regs, .trip1, .trip2, .reach, .flt, .cmd, .dma, .hif, .sch, .lrg, .hostMem, .out]
  | .schStop _ _ | .segmentArrival =>
    [.regs, .trip1, .trip2, .reach, .flt, .cmd, .dma, .hif, .xact, .bkp, .sch, .lrg, .hostMem, .out]
  | .loopCfg _ _ | .loopInject _ _ | .captureArm _ _ =>
    [.regs, .trip1, .trip2, .reach, .flt, .cmd, .dma, .hif, .loop, .lrg, .hostMem, .out]
  | .calSensor _ _ => [.regs, .trip1, .trip2, .reach, .flt, .cmd, .dma, .hif, .sns, .lrg, .hostMem, .out]
  | .calSurvey _ _ => [.regs, .trip1, .trip2, .reach, .flt, .cmd, .dma, .hif, .xact, .syn, .lrg, .hostMem, .out]
  | .calCommit _ _ => [.regs, .trip1, .trip2, .reach, .flt, .cmd, .dma, .hif, .syn, .sns, .lrg, .hostMem, .out]
  | .aimUpload _ _ => [.regs, .trip1, .trip2, .reach, .flt, .cmd, .dma, .hif, .syn, .lrg, .hostMem, .out]
  | .drillSwap _ _ => [.regs, .trip1, .trip2, .reach, .flt, .cmd, .dma, .hif, .bkp, .rfs, .lrg, .hostMem, .out]
  | .bistRun _ _ | .faultClear _ _ => [.regs, .trip1, .trip2, .reach, .flt, .sys, .cmd, .dma, .hif, .bkp, .lrg, .hostMem, .out]
  | .sqDoorbell _ _ _ _ | .cqDoorbell _ _ _ _ => [.regs, .trip1, .trip2, .reach, .flt, .cmd, .hif, .out]
  | .commandFetch _ | .chunk _ _ | .brakeSluice | .islandResetEnd _ _ => allBut [.freeCtr, .guards, .mbx, .nvr, .pins]
  | .policerRefill | .shaperSlot | .hopperSample => [.clk, .tim, .cmd, .out]
  | .completionSignal => [.clk, .tim, .cmd, .hif, .out]
  | .haltTmo _ | .noGroup _ | .syncMissing _ | .openTmo _ | .check _ | .mapPublish =>
    allBut [.freeCtr, .guards, .mbx, .nvr, .pins, .loop]
  | .flr _ | .hotReset | .pcieLinkDown | .vfDisable _ => allBut [.clk, .freeCtr, .guards, .nvr, .pins, .loop]
  | .perstN _ => allBut [.freeCtr, .guards, .nvr, .pins, .loop]
  | .d3hotToD0 | .feedReturn _ => allBut [.clk, .freeCtr, .nvr, .pins]
  | .powerOn _ _ _ => allBut [.freeCtr]
  | .bootStageTimeout _ _ => [.clk, .regs, .trip1, .trip2, .reach, .flt, .sys, .pwr, .tim, .hif, .bkp, .sns, .out]
  | .thermalGateRelease => [.clk, .sys, .pwr, .tim, .out]
  | .rstN _ => allBut [.clk, .freeCtr, .nvr]
  | .rstNRelease => [.clk, .sys, .tim, .pins, .out]
  | .brakeN _ => allBut [.clk, .freeCtr, .guards, .mbx, .snap, .nvr, .pwr, .tim]
  | .brakeFail _ => allBut [.freeCtr, .guards, .mbx, .nvr, .pwr, .pins]
  | .brakeRelease | .armComplete _ => [.clk, .tim, .bkp, .out]
  | .spanWrite _ _ | .marchRun _ _ | .shortRetry _ _ _ | .islandRst _ _ _ | .fltIrst _ _ | .flumePiWrite _ _ | .forceOwner _ _
  | .peakClr _ _ | .holdExit _ | .wake _ | .oneShot _ _ | .refselWrite _ _ _ | .damselWrite _ _ | .tbPrefWrite _ _
  | .graveClr _ _ | .snapGo _ _ | .guardWrite _ _ _ | .guardedWrite _ _ _ _ | .rwpWrite _ _ _ | .domEnWrite _ _ _ | .hwmClr _ _
  | .remapWrite _ _ | .handover _ _ | .rxCfgWrite _ _ _ | .rxHeadWrite _ _ _ | .registerWrite _ _ _ _ | .regData _ _ =>
    allBut [.clk, .pins]
  | .resynthesisStart => [.clk, .regs, .trip1, .trip2, .reach, .flt, .tim, .hif, .xact, .bkp, .out]
  | .marchEnd _ | .bistEnd _ _ => allBut [.guards, .mbx, .snap, .nvr, .pwr, .pins, .rfs]
  | .short _ _ => [.regs, .trip1, .trip2, .reach, .flt, .hif, .bkp, .out]
  | .atnHoldoffEnd => [.clk, .flt, .tim, .hif, .out]
  | .arm _ _ => allBut [.freeCtr, .guards, .mbx, .snap, .nvr, .pwr, .pins, .syn, .rfs, .sns, .sch]
  | .sluice => allBut [.guards, .mbx, .nvr, .pins]
  | .conditionRefresh => [.clk, .regs, .trip1, .trip2, .reach, .flt, .tim, .cmd, .dma, .hif, .xact, .lrg, .hostMem, .out]
  | .armPoint => allBut [.freeCtr, .guards, .mbx, .snap, .nvr, .sys, .thm, .pwr, .pins, .syn, .rfs, .sns, .loop]
  | .surveyEnd _ => allBut [.guards, .mbx, .snap, .nvr, .sys, .thm, .pwr, .pins, .rfs, .sns, .loop, .sch]
  | .calSensorEnd _ => [.clk, .regs, .trip1, .trip2, .reach, .flt, .tim, .cmd, .dma, .hif, .sns, .lrg, .hostMem, .out]
  | .calPersistDone _ => [.regs, .trip1, .trip2, .reach, .flt, .hif, .syn, .out]
  | .sweeperRebuild _ => allBut [.freeCtr, .guards, .mbx, .snap, .nvr, .pwr, .pins, .sns, .sch]
  | .cacheReloadDone _ => [.bkp, .out]
  | .refresh _ _ _ _ _ | .drillEnd | .drillClaimTimeout =>
    allBut [.freeCtr, .guards, .mbx, .snap, .nvr, .sys, .thm, .pwr, .pins, .xact, .syn, .sns, .loop, .sch]
  | .heartbeat _ _ => [.regs, .trip1, .trip2, .reach, .flt, .hif, .rfs, .out]
  | .heartbeatMissing _ => [.clk, .regs, .trip1, .trip2, .reach, .flt, .tim, .hif, .rfs, .out]
  | .takeover | .failback => [.clk, .regs, .trip1, .trip2, .reach, .flt, .tim, .hif, .bkp, .rfs, .out]
  | .scrub _ | .brownout | .busHang _ _ => allBut [.clk, .freeCtr, .guards, .mbx, .snap, .nvr, .pwr, .tim, .pins]
  | .syncIn _ => [.regs, .trip1, .trip2, .reach, .flt, .hif, .xact, .bkp, .syn, .sns, .loop, .sch, .out]
  | .syncLoss _ | .freeRunFrame _ => [.clk, .regs, .trip1, .trip2, .reach, .flt, .tim, .hif, .bkp, .sns, .loop, .out]
  | .conversionDone _ _ _ _ => allBut [.guards, .mbx, .snap, .nvr, .pwr, .pins]
  | .refSettled _ => [.sns, .out]
  | .loopEvaluation _ _ _ _ => allBut [.guards, .mbx, .snap, .nvr, .pwr, .pins, .sns]
  | .thermalMeasurement _ _ | .wireFault _ _ _ => allBut [.freeCtr, .guards, .mbx, .snap, .nvr, .pins]
  | .cooldownEnd => allBut [.freeCtr, .nvr, .pins]
  | .feedLoss _ | .auxLoss _ => [.regs, .trip1, .trip2, .reach, .flt, .sys, .pwr, .tim, .hif, .bkp, .lrg, .out]
  | .overcurrent _ | .railWarn => [.regs, .trip1, .trip2, .reach, .flt, .pwr, .hif, .out]
  | .powerLoss | .railCollapse => [.sys, .pwr, .tim, .bkp, .lrg, .out]
  | .refclkLost _ => allBut [.clk, .guards, .mbx, .nvr, .pins]
  | .refGood _ | .tbRevert => [.clk, .freeCtr, .regs, .trip1, .trip2, .reach, .snap, .flt, .pwr, .tim, .hif, .xact, .out]
  | .hsErr _ => allBut [.clk, .freeCtr, .guards, .mbx, .nvr, .pins]
  | .gravePersist _ | .pcieLinkUp _ _ => [.regs, .trip1, .trip2, .reach, .flt, .hif, .out]
  | .snapshotPulse => [.clk, .snap, .tim, .cmd, .out]
  | .generationReadable => [.clk, .regs, .trip1, .trip2, .reach, .snap, .flt, .tim, .cmd, .dma, .hif, .lrg, .hostMem, .out]
  | .time _ _ _ _ | .timeSlot _ _ _ _ | .timeSet _ _ _ _ | .tsq _ _ _ _ | .xactEpoch _ _ _ _ | .xactMapEpoch _ _ _ _
  | .dmaFault _ _ _ _ | .snapInfo _ _ _ _ | .snapReg _ _ _ _ | .cntPreset _ _ _ _ =>
    [.clk, .regs, .trip1, .trip2, .reach, .mbx, .snap, .flt, .tim, .hif, .xact, .out]
  | .nvrProgramDone _ => [.clk, .regs, .trip1, .trip2, .reach, .nvr, .flt, .tim, .hif, .out]
  | .handoverJoin | .syncTmo _ => [.clk, .regs, .trip1, .trip2, .reach, .snap, .flt, .tim, .hif, .xact, .out]
  | .ringFrame _ _ | .commandFrame _ _ | .token _ _ | .claim _ _ _ _ | .pause _ _ =>
    allBut [.guards, .mbx, .nvr, .sys, .thm, .pwr, .pins, .bkp, .syn, .rfs, .sns, .loop, .sch, .hostMem]
  | .tokenHoldEnd _ | .shaperRefill | .helloSend | .primaryReturn | .pauseExpiry | .pauseRepeat | .pauseRelease
  | .delayReqSend _ _ => [.clk, .freeCtr, .regs, .trip1, .trip2, .reach, .flt, .tim, .hif, .lrg, .out]
  | .trtExpiry _ | .claimTimeout _ | .hello _ _ _ | .linkDown _ | .linkUp _ =>
    [.clk, .freeCtr, .regs, .trip1, .trip2, .reach, .snap, .flt, .tim, .hif, .xact, .lrg, .out]
  | .syncMsg _ _ _ _ _ _ _ _ _ | .delayResp _ _ _ _ _ => [.regs, .trip1, .trip2, .reach, .snap, .flt, .tim, .hif, .xact, .out]
  | .followUp _ _ _ _ => [.tim, .out]
  | .pathHoldEnd _ | .tsqExpiry | .ppsOutEdge => [.clk, .tim, .out]
  | .ppsIn => [.regs, .trip1, .trip2, .tim, .out]
  | .syncOutEdge => allBut [.freeCtr, .guards, .mbx, .snap, .nvr, .sys, .thm, .pwr, .pins, .cmd, .dma, .rfs, .lrg, .hostMem]
  | .ident | .straps => [.out]
  | .regAddr _ _ | .jtagBypass | .idcode | .clamp | .highz => [.pins, .out]
  | .regNext => [.freeCtr, .flt, .pins, .out]
  | .alertResponse => [.flt, .out]
  | .samplePreload _ | .extest => [.freeCtr, .pins, .out]
  | .trstN _ => [.regs, .trip1, .trip2, .pins, .out]
  | .bootEnd _ => allBut [.freeCtr, .guards, .mbx, .snap, .nvr, .pins, .rfs]
  | .fwStaged _ => [.freeCtr, .regs, .trip1, .trip2, .reach, .flt, .sys, .cmd, .dma, .hif, .lrg, .hostMem, .out]
  | .fwActivated _ => [.regs, .trip1, .trip2, .reach, .flt, .sys, .cmd, .dma, .hif, .rfs, .loop, .lrg, .hostMem, .out]
  | .blockLock _ => [.lrg, .out]
  | .aer => [.freeCtr, .regs, .trip1, .trip2, .reach, .flt, .hif, .out]
  | .flrDone _ => [.hif, .out]
  | .irstEnd => allBut [.clk, .guards, .mbx, .nvr, .sys, .thm, .pins, .bkp, .syn, .sns, .loop, .sch, .lrg]
  | .brakeNRelease => [.pins, .bkp, .out]
  | .auxReturn _ => [.regs, .trip1, .trip2, .pwr, .out]

end Sys2Proof.Machine
end

