-- ==== Sys2Proof/Certificates/Slice0/Obligations.lean ====
section
/-! DEFINITION. The statements for the provers: what each command does, that every command completes, and the rules of the whole
engine. Each docstring names the rules it formalises and the log entries of the model's own choices. -/

open Sys2Proof Sys2Proof.Machine

/-- A step with command `c` in front of the queue is `exec` of `c` on the state whose queue is the rest
(spec/10_command_protocol.md; the queue is the model's own, log 1). -/
def Obligations.stepTakesFront : Prop :=
  ∀ (c : Instr) (l : List Instr) (s : State), s.pending = c :: l →
    step s = exec c { s with pending := l } ∧ ∃ t, step s = .next t ∧ t.pending = l

/-- A step on an empty queue is one tick of 10 ns: the engine's own clock passes, and an engine without main power does
nothing but let it pass (the model's choice, log 1; spec/03_phase_backplane.md, R42, gives the 10 ns grid). -/
def Obligations.emptyQueueTicks : Prop :=
  (∀ s : State, s.pending = [] → step s = .next (s.to (tick s.start))) ∧
  (∀ s : State, s.pending = [] → unpowered s.eng = true → step s = .next (s.to (pass 10 s.start)))

/-- Right after reset nothing waits, every register reads its reset column, no register copy differs, host memory lists
nothing and the engine is in BOOT with no command in flight, no record in the history queue, no guard latch armed and no transaction (spec/14_registers.md; where the spec states no value the model's
choice, logs 4, 5 and 6). -/
def Obligations.resetHolds : Prop :=
  State.reset.pending = [] ∧ (∀ off, rd State.reset.eng off = (resetVal off).toNat) ∧
  (∀ off, raw State.reset.eng off = copy1 State.reset.eng off ∧ raw State.reset.eng off = copy2 State.reset.eng off) ∧ (∀ a, rdByte State.reset.eng a = 0) ∧
  State.reset.eng.sys.mode = .boot ∧ State.reset.eng.cmd.inflight = [] ∧ State.reset.eng.flt.hist = [] ∧
  State.reset.eng.guards = [] ∧ State.reset.eng.xact.txns = []

/-- The invariant holds at reset. -/
def Obligations.invAtReset : Prop := Inv State.reset

/-- The invariant: host memory and the register file keep their canonical form, the history queue holds 32 records at most and
the timestamp queue 64 (R339; spec/15_faults_attention.md, spec/13_time.md). Every step keeps it, from every state that has it. -/
def Obligations.invKept : Prop := ∀ s t : State, Inv s → step s = .next t → Inv t

/-- No step changes the band fuse (the band is a factory field of SYS_ID that no reset changes, R313 and R326; what the fuse holds, log 5), and no step lowers the wear count of a persistent register (R317)
(spec/03_phase_backplane.md, spec/14_registers.md). -/
def Obligations.bandAndWearKept : Prop :=
  ∀ s t : State, step s = .next t → t.eng.sys.bandCB = s.eng.sys.bandCB ∧
    ∀ k, Tbl.get (fun _ => 0) s.eng.nvr.wear k ≤ Tbl.get (fun _ => 0) t.eng.nvr.wear k

/-- Every command answers a next state, leaves the queue, and leaves every part of the engine but those that `touches` names
for it (Sys2Proof/Safety.lean).
When a row's instant comes, and that a row without its occasion changes nothing, are the model's choice (logs 1 and 2). -/
def Obligations.everyCommandKeepsTheRest : Prop :=
  ∀ (c : Instr) (s : State), Goes c s (fun t => Unchanged (touches c) s.eng t)

/-- NOP, GET_INFO, BIST_RUN and FAULT_CLEAR answer once their way is clear. `a` is the engine once the command is accepted.
NOP answers the disciplined time of its acceptance, GET_INFO an item. BIST_RUN starts its suites, MARCH with its run of the
march writer, and is to end when their time is over (the instants are the model's choice, log 111). FAULT_CLEAR without a flag is
refused; else it clears what it is told to, and where no SEVERE cause is live leaves SAFE for BYPASS, to complete once its cycle of
10 ns is over (spec/10_command_protocol.md, 17_modes_startup.md, 15_faults_attention.md).
Where the spec leaves the rest open: logs 29, 43 and 111. -/
def Obligations.basicCommandsAnswer : Prop :=
  (∀ (s : State) (cx : Cx) (a : Engine), Clear cx cmdNop [] s.start → a = accepted cx 0x0001 [] s.start →
    exec (.nop cx) s = .next (s.to (
      complete cx stOk (dNs s.eng / 1000000000 % 4294967296 * 4294967296 + dNs s.eng % 1000000000) a))) ∧
  (∀ (s : State) (cx : Cx) (p : GetInfoP) (a : Engine), Clear cx cmdGetInfo [] s.start → a = accepted cx 0x0002 [] s.start →
    exec (.getInfo cx p) s = .next (s.to (
      if p.rsv ≠ 0 ∨ p.item > 4 then complete cx stBadParam 0 a else complete cx stOk (infoItem a p.item) a))) ∧
  (∀ (s : State) (cx : Cx) (p : BistRunP) (a : Engine), Clear cx cmdBist [] s.start → a = accepted cx 0x0702 [] s.start →
    exec (.bistRun cx p) s = .next (s.to (
      if p.rsv ≠ 0 then complete cx stBadParam 0 a
      else if p.suites = 0 then complete cx stEmpty 0 a
      else if s.eng.sys.bist.isSome ∨ (marching a).isSome then complete cx stPortBusy 0 a
      else bistGo cx (p.suites % 32) a))) ∧
  (∀ (cx : Cx) (n : Nat) (a x : Engine), x = (if bit n 0 = true then beginMarch true (bistCtl a) a else a) →
    bistGo cx n a = { x with sys := { x.sys with bist := some { cx := cx, suites := n, endAt :=
      (if bit n 0 = true then ((marching x).map MarchRun.endAt).getD x.clk else x.clk) + suitesNs n } } }) ∧
  (∀ (s : State) (cx : Cx) (p : FaultClearP) (a b x : Engine), Clear cx (cmdFaultClear cx) [] s.start →
    a = accepted cx 0x0703 [] s.start → x = toMode .bypass (brakeOff 2 b) →
    b = whenE p.clearHistory (fun e => wr Reg.FLT_HIST_OVF_CNT 0 { e with flt := { e.flt with hist := [] } })
          (whenE p.clearCauses clearAllCauses a) →
    exec (.faultClear cx p) s = .next (s.to (
      if p.rsv ≠ 0 ∨ p.exitSafe = false ∧ p.clearCauses = false ∧ p.clearHistory = false then complete cx stBadParam 0 a
      else if p.exitSafe = true ∧ s.eng.sys.mode = .safe then
        match severeLive b with
        | some c => complete cx stWrongMode (c.1 * 256 + c.2 * 65536) b
        | none => { x with sys := { x.sys with leaving := some (cx, x.clk) } }
      else if p.exitSafe = true ∧ p.clearCauses = false ∧ p.clearHistory = false then complete cx stEmpty 0 b
      else complete cx stOk 0 b)))

/-- SET_MODE, SNAPSHOT, FW_STAGE and FW_ACTIVATE do their part once their way is clear. SET_MODE: within a span change it
waits; towards a lit mode from BYPASS, and in SERVICE left at zero phase by a failed restore, it waits for the entry sluice;
towards SLEEP for the brake sluice; otherwise the mode is the target at once, unless the restore that it overtakes leaves SERVICE at
zero phase: then it completes with WRONG_MODE (the model's choice, log 104). In HOLD, from a ring hopper, SET_MODE ends HOLD: with
SERVICE it completes, with another target it goes on from SERVICE. SNAPSHOT: NOW joins those that wait, AT waits for its time.
FW_STAGE opens its stream. FW_ACTIVATE with WHEN 0 makes the staged slot the active one; with WHEN 1 it does so too, keeps the
restart to come and passes from SERVICE into HOLD; while a SET_MODE is not complete, one with WHEN 1 waits
(spec/17_modes_startup.md, 14_registers.md, 05_refresh_retention.md).
Where the spec leaves the rest open: logs 30, 64, 90 and 104. -/
def Obligations.modeCommandsAct : Prop :=
  (∀ (s : State) (cx : Cx) (p : SetModeP) (m : Mode) (a b : Engine), Clear cx cmdSetMode [] s.start → p.rsv = 0 →
    a = accepted cx 0x0003 [] s.start → b = failAll (fun _ => true) 0x0B { a with sys := { a.sys with setMode := none } } →
    Mode.ofCode p.target = some m → m ∈ reaches s.eng.sys.mode s.eng.sys.zeroService → s.eng.sys.setMode = none →
    (m = .sleep → s.eng.pwr.auxA = true ∨ s.eng.pwr.auxB = true) →
    Goes (.setMode cx p) s (fun t =>
      if s.eng.bkp.span.isSome = true then
        t.sys.mode = s.eng.sys.mode ∧ t.sys.setMode = some { cx := cx, target := m, prev := s.eng.sys.mode, wait := .spanEnd }
      else if s.eng.sys.mode = .bypass ∧ m ∈ litModes ∨ s.eng.sys.zeroService = true ∧ m = .service then
        t.sys.mode = s.eng.sys.mode ∧ t.sys.setMode = some { cx := cx, target := m, prev := s.eng.sys.mode, wait := .entrySluice }
      else if m = .sleep then
        t.sys.mode = s.eng.sys.mode ∧ t.sys.setMode = some { cx := cx, target := m, prev := s.eng.sys.mode, wait := .sleepBrake }
      else if b.sys.zeroService = true then t.sys.mode = s.eng.sys.mode ∧ t.sys.setMode = none ∧ t.sys.zeroService = true
      else t.sys.mode = m ∧ t.sys.prev = s.eng.sys.mode ∧ t.sys.setMode = none)) ∧
  (∀ (s : State) (cx : Cx) (p : SetModeP) (m : Mode) (a : Engine), s.eng.sys.mode = .hold → isRing cx.hopper = true →
    hopDom s.eng cx.hopper = some 0 → cx.domain = 0 → tagTaken cx s.eng = false → p.rsv = 0 → Mode.ofCode p.target = some m →
    s.eng.sys.setMode = none → a = exitHold 1 .service (accepted cx 0x0003 [] s.start) →
    m = .service ∨ m ∈ reaches .service s.eng.sys.zeroService → (m = .sleep → s.eng.pwr.auxA = true ∨ s.eng.pwr.auxB = true) →
    exec (.setMode cx p) s = .next (s.to (if m = .service then complete cx stOk (modeResult .service .hold) a
      else goMode { cx := cx, target := m, prev := .service, wait := .spanEnd } a))) ∧
  (∀ (s : State) (cx : Cx) (p : SnapshotP) (a : Engine), Clear cx { opcode := 0x0004 } [] s.start →
    a = accepted cx 0x0004 [] s.start → p.rsv = 0 →
    exec (.snapshot cx p) s = .next (s.to (
      if p.whn > 1 ∨ p.at_.ns ≥ 1000000000 ∨ (p.whn = 0 ∧ p.at_.sec ≠ 0) then complete cx stBadParam 0 a
      else if p.whn = 0 then
        { a with snap := { a.snap with
            nowWait := s.eng.snap.nowWait ++ [some cx],
            nowAt := (if snapBusy a = true then s.eng.snap.nowAt else tickAfter (dNs s.eng)) } }
      else if s.eng.snap.atPend.isSome then complete cx stPortBusy 0 a
      else
        { a with snap := { a.snap with
            atPend := some (cx, p.at_.sec * 1000000000 + p.at_.ns),
            atTick := (if dNs s.eng < p.at_.sec * 1000000000 + p.at_.ns then gridUp (p.at_.sec * 1000000000 + p.at_.ns)
                       else tickAfter (dNs s.eng - 1)) } }))) ∧
  (∀ (s : State) (cx : Cx) (p : FwStageP) (a : Engine), Clear cx cmdFwStage [] s.start → a = accepted cx 0x0005 [] s.start →
    p.rsv = 0 → 1 ≤ p.length → p.length ≤ 16777216 → iovaOk p.addr 4096 p.length = true → s.eng.sys.fwBusy = false →
    exec (.fwStage cx p) s = .next (s.to (openStream 11 cx.domain p.addr p.length false cx.hopper cx.tag (.fw cx p)
      { a with sys := { s.eng.sys with slots := s.eng.sys.slots.set (1 - s.eng.sys.active) none, staged := none,
                                       fwStage := none, fwBusy := true } }))) ∧
  (∀ (s : State) (cx : Cx) (p : FwActivateP), Clear cx (cmdFwActivate p.whn) [] s.start → p.rsv = 0 → p.whn = 0 →
    s.eng.sys.staged.isSome = true →
    Goes (.fwActivate cx p) s (fun t => t.sys.active = 1 - s.eng.sys.active ∧ t.sys.staged = none ∧
      t.sys.running = s.eng.sys.running ∧ t.sys.mode = s.eng.sys.mode)) ∧
  (∀ (s : State) (cx : Cx) (p : FwActivateP), Clear cx (cmdFwActivate p.whn) [] s.start → p.rsv = 0 → p.whn = 1 →
    s.eng.sys.staged.isSome = true → s.eng.sys.setMode = none →
    Goes (.fwActivate cx p) s (fun t => t.sys.active = 1 - s.eng.sys.active ∧ t.sys.staged = none ∧
      t.sys.fwRestart = some { cx := cx, inHold := s.eng.sys.mode == .service, oldSlot := s.eng.sys.active } ∧
      t.sys.mode = if s.eng.sys.mode = .service then .hold else s.eng.sys.mode)) ∧
  (∀ (s : State) (cx : Cx) (p : FwActivateP), Clear cx (cmdFwActivate 0) [] s.start → p.whn = 1 → s.eng.sys.setMode.isSome = true →
    exec (.fwActivate cx p) s = .next (s.to (updInfl cx (fun x => { x with wait := some (.fwActivate cx p) })
      (accepted cx 0x0006 [] s.start))))

/-- TABLE_READ, TABLE_WRITE, DMA_RESUME and DMA_ABORT do their part once their way is clear. A table command with a count and
an address in range opens its stream, of kind 8, over the whole run; a read that would meet a refusal at its first entry is
left out. DMA_RESUME and DMA_ABORT of the fault a slot holds free the slot, and the stream goes on or ends
(spec/10_command_protocol.md, 11_host_interface.md).
Where the spec leaves the rest open: log 41. -/
def Obligations.tableAndDmaCommandsAct : Prop :=
  (∀ (s : State) (cx : Cx) (p : TableP) (a : Engine),
    Clear cx { opcode := 0x0101, operator := false, hostMem := true } [] s.start → a = accepted cx 0x0101 [] s.start →
    p.rsv = 0 → p.count ≠ 0 → 1 ≤ p.table → p.table ≤ 15 → iovaOk p.addr 16 (entrySize p.table * p.count) = true →
    (p.table = 1 → (fillRead (unpin a) cx.domain p (entrySize p.table * p.count) p.count 0 []).2 = none) →
    (copied p.table = true → (fillRead a cx.domain p (entrySize p.table * p.count) p.count 0 []).2 = none) →
    Goes (.tableRead cx p) s (fun t => ∃ st ∈ t.dma.streams, st.kind = 8 ∧ st.write = true ∧ st.dom = cx.domain ∧
      st.iova = p.addr ∧ st.len = entrySize p.table * p.count ∧ st.hopper = cx.hopper ∧ st.tag = cx.tag ∧ st.halted = false)) ∧
  (∀ (s : State) (cx : Cx) (p : TableP) (a : Engine),
    Clear cx { opcode := 0x0102, operator := false, hostMem := true } [] s.start → a = accepted cx 0x0102 [] s.start →
    exec (.tableWrite cx p) s = .next (s.to (
      if p.rsv ≠ 0 then complete cx stBadParam 0 a
      else if p.count = 0 then complete cx stEmpty 0 a
      else if 1 ≤ p.table ∧ p.table ≤ 15 ∧ iovaOk p.addr 16 (entrySize p.table * p.count) = true then
        openStream 8 cx.domain p.addr (entrySize p.table * p.count) false cx.hopper cx.tag (.tableWrite cx p 0) a
      else complete cx stBadParam 0 a))) ∧
  (∀ (s : State) (cx : Cx) (p : SlotSeqP) (a : Engine) (r : FaultSlot),
    Clear cx { opcode := 0x0704, operator := false } [] s.start → a = accepted cx 0x0704 [] s.start →
    p.rsv = 0 → r = s.eng.slotRec p.slot →
    exec (.dmaResume cx p) s = .next (s.to (
      if cx.domain ≠ 0 ∧ p.slot < 64 ∧ r.halted = true ∧ r.dom ≠ cx.domain then complete cx stNotOwner 0 a
      else if p.slot < 64 ∧ r.halted = true ∧ r.seq = p.seq then complete cx stOk 0 (resumeStream r.stream (clearSlot p.slot a))
      else complete cx stBadParam 0 a))) ∧
  (∀ (s : State) (cx : Cx) (p : SlotSeqP) (a : Engine) (r : FaultSlot),
    Clear cx { opcode := 0x0705, operator := false } [] s.start → a = accepted cx 0x0705 [] s.start →
    p.rsv = 0 → r = s.eng.slotRec p.slot →
    exec (.dmaAbort cx p) s = .next (s.to (
      if cx.domain ≠ 0 ∧ p.slot < 64 ∧ r.halted = true ∧ r.dom ≠ cx.domain then complete cx stNotOwner 0 a
      else if p.slot < 64 ∧ r.halted = true ∧ r.seq = p.seq then
        complete cx stOk 0 (endStream r.stream stDmaAborted (inc Reg.DMA_ABORT_CNT (clearSlot p.slot a)))
      else complete cx stBadParam 0 a)))

/-- PAIR_TXN, PAIR_COMMIT, PAIR_ABORT, PAIR_QUERY and PORT_PARK do their part once their way is clear and nothing waits. A valid
PAIR_TXN opens its transaction and answers how many entries it has and how many apertures it arms; one that fetches its list
opens the stream for it; one of no entries completes with OK_EMPTY. PAIR_COMMIT commits the open transaction of its XID; PAIR_ABORT fails it with cause 0x0C unless its
check instant has passed. PAIR_QUERY of KIND 0 answers the epoch, once it is published; of KIND 1 it opens a stream with the record of the transaction and
the entries asked for. PORT_PARK of a port that has to move
opens and commits a transaction of its own (spec/08_pairing_transactions.md).
Where the spec leaves the rest open: log 67. -/
def Obligations.pairingCommandsAct : Prop :=
  (∀ (s : State) (cx : Cx) (p : PairTxnP) (a : Engine) (l : List Word) (es : List Entry),
    Clear cx cmdPairTxn (listPorts l s.start) s.start → Quiet s.eng → a = accepted cx 0x0201 (listPorts l s.start) s.start →
    p.rsv = 0 → p.byAddr = false → p.count ≠ 0 → pairTxnOk p = true → l = listOf p →
    validate s.eng cx.domain p.xid l = none → es = l.map (parseEntry s.eng (listNames l)) →
    exec (.pairTxn cx p) s = .next (s.to (
      complete cx stOk (p.count + (es.flatMap (·.targets s.eng)).length * 65536) (openTxn cx.domain p.xid es a)))) ∧
  (∀ (s : State) (cx : Cx) (p : PairTxnP), Clear cx { cmdPairTxn with hostMem := true } [] s.start → Quiet s.eng →
    p.byAddr = true → p.count ≠ 0 → pairTxnOk p = true → listStream s.eng cx = false →
    Goes (.pairTxn cx p) s (fun t => t.dma.streams = s.eng.dma.streams ++
      [{ id := s.eng.dma.nextId, kind := 3, dom := cx.domain, iova := p.addr, len := 4 * p.count, write := false,
         hopper := cx.hopper, tag := cx.tag, job := .list cx { p with entries := [] } }])) ∧
  (∀ (s : State) (cx : Cx) (p : PairTxnP), Clear cx cmdPairTxn [] s.start → Quiet s.eng → p.rsv = 0 → p.count = 0 →
    p.byAddr = false ∨ isRing cx.hopper = false ∧ listStream s.eng cx = false →
    exec (.pairTxn cx p) s = .next (s.to (complete cx stEmpty 0 (accepted cx 0x0201 [] s.start)))) ∧
  (∀ (s : State) (cx : Cx) (p : PairCommitP) (t : Txn), Clear cx cmdPairCommit (xidPorts cx.domain p.xid s.start) s.start →
    Quiet s.eng → p.rsv = 0 → byXid s.eng cx.domain p.xid = some t → t.st = .opened → whenOk p.whn p.at_ = true →
    s.eng.sys.zeroService = false →
    Goes (.pairCommit cx p) s (fun e => e.cmd.accepts = s.eng.cmd.accepts + 1 ∧ e.xact.txns = s.eng.xact.txns.map (fun u =>
      if u.id = t.id then { u with st := .prepared, whn := p.whn, req := p.at_.sec * 1000000000 + p.at_.ns, early := p.early,
                                   commit := some cx, order := s.eng.cmd.accepts } else u))) ∧
  (∀ (s : State) (cx : Cx) (p : PairAbortP) (t : Txn) (a : Engine),
    Clear cx cmdPairAbort (xidPorts cx.domain p.xid s.start) s.start → Quiet s.eng → p.rsv = 0 →
    byXid s.eng cx.domain p.xid = some t → a = accepted cx 0x0203 (xidPorts cx.domain p.xid s.start) s.start →
    exec (.pairAbort cx p) s = .next (s.to (
      if t.checked = true then complete cx stTimeout 0 a else complete cx stOk 0 (failTxn t.id 0x0C 0xFFFF a)))) ∧
  (∀ (s : State) (cx : Cx) (p : PairQueryP) (a : Engine), Clear cx (cmdPairQuery p.kind) [] s.start →
    a = accepted cx 0x0204 [] s.start → p.rsv = 0 → p.kind = 0 →
    exec (.pairQuery cx p) s = .next (s.to (if s.eng.xact.unpub = false then complete cx stOk s.eng.xact.epoch a
      else { a with xact := { s.eng.xact with pubWait := s.eng.xact.pubWait ++ [⟨cx, stOk, s.eng.xact.epoch, s.eng.xact.epoch⟩] } }))) ∧
  (∀ (s : State) (cx : Cx) (p : PairQueryP) (a : Engine), Clear cx (cmdPairQuery p.kind) [] s.start →
    a = accepted cx 0x0204 [] s.start → p.rsv = 0 → p.kind ≠ 0 →
    exec (.pairQuery cx p) s = .next (s.to (
      if p.kind ≠ 1 ∨ iovaOk p.addr 32 (32 + 4 * p.count) = false ∨ (cx.domain ≠ 0 ∧ p.domain ≠ 0) ∨ p.domain > 63 then
        complete cx stBadParam 0 a
      else match recordOf s.eng (if cx.domain = 0 then p.domain else cx.domain) p.xid with
        | none => complete cx stBadParam 0 a
        | some t =>
          if p.first + p.count > t.entries.length then complete cx stBadParam 0 a
          else updStream s.eng.dma.nextId
            (fun st => { st with buf := queryHeader t ++ ((t.entries.drop p.first).take p.count).flatMap (queryWord (isOpen t)) })
            (openStream 10 cx.domain p.addr (32 + 4 * p.count) true cx.hopper cx.tag (.query cx p) a)))) ∧
  (∀ (s : State) (cx : Cx) (p : PortParkP) (l : List Word) (es : List Entry),
    Clear cx cmdPortPark (listPorts l s.start) s.start → Quiet s.eng → p.rsv = 0 → s.eng.sys.zeroService = false →
    l = parkList p.port → validate s.eng cx.domain 0 l = none → es = l.map (parseEntry s.eng (listNames l)) →
    es.flatMap (·.targets s.eng) ≠ [] →
    Goes (.portPark cx p) s (fun e => ∃ t ∈ e.xact.txns, t.id = s.eng.xact.nextId ∧ t.dom = cx.domain ∧ t.xid = 0 ∧ t.entries = es ∧
      t.st = .prepared ∧ t.whn = 0 ∧ t.commit = some cx))

/-- SCH_LOAD, SCH_START, SCH_STOP, SCH_JUMP and SCH_STREAM do their part once their way is clear and their parameters are in
order: a load opens its stream of kind 7; a start waits for T_0; a stop first lets the boundaries pass that open no sluice and whose tick has come, and then ends the play at once, or after a
boundary whose check instant has passed; where nothing plays it completes with OK_EMPTY; a jump is kept for the next boundary; a stream gets its buffer (spec/09_schedules.md).
Where the spec leaves the rest open: logs 49 and 88. -/
def Obligations.scheduleCommandsAct : Prop :=
  (∀ (s : State) (cx : Cx) (p : SchLoadP) (a : Engine), Clear cx cmdSchLoad [] s.start → a = accepted cx 0x0301 [] s.start →
    p.rsv = 0 → p.count ≠ 0 → p.kind ≤ 1 → p.first + p.count ≤ (if p.kind = 0 then 256 else 1024) →
    ¬(p.kind = 1 ∧ p.cross = true) → iovaOk p.addr 32 ((if p.kind = 0 then 8192 else 16) * p.count) = true →
    loadBusy s.eng p = false →
    exec (.schLoad cx p) s = .next (s.to (
      openStream 7 cx.domain p.addr ((if p.kind = 0 then 8192 else 16) * p.count) false cx.hopper cx.tag (.sload cx p) a))) ∧
  (∀ (s : State) (cx : Cx) (p : SchStartP) (t0 : Nat), Clear cx cmdSchStart [] s.start → p.rsv = 0 → whenOk p.whn p.at_ = true →
    (p.source = 0 ∧ p.first < 1024 ∧ Tbl.get (fun _ => []) s.eng.sch.segs p.first ≠ [] ∧ tableBad s.eng = none ∨
      p.source = 1 ∧ p.first = 0 ∧ s.eng.sch.flume.isSome = true) →
    10 ≤ rdF s.eng Fd.SCH_CLK_INT_INT → playerRuns s.eng = false → (∀ x ∈ s.eng.sch.slots, ownersMatch s.eng x.2 = true) →
    t0 = (if p.whn = 0 then gridUp (dNs s.eng + 4000) else if p.whn = 1 then gridUp (p.at_.sec * 1000000000 + p.at_.ns)
          else p.at_.sec * 1000000000 + p.at_.ns) → (p.whn ≠ 0 → dNs s.eng + 4000 ≤ t0) →
    Goes (.schStart cx p) s (fun t => t.sch.st = .waitStart ∧ t.sch.start = some (cx, p.whn, t0) ∧
      t.sch.stream = decide (p.source = 1) ∧ t.sch.cur = none ∧ t.sch.nextB = [] ∧
      t.sch.missing = some { pos := if p.source = 1 then s.eng.sch.startPos else p.first, left := 0, endE := 0, at_ := t0 })) ∧
  (∀ (s : State) (cx : Cx) (p : SchStopP) (y : Engine), Clear cx cmdSchStop [] s.start → p.rsv = 0 → p.how ≤ 1 →
    y = passDue (accepted cx 0x0303 [] s.start) → playerRuns y = false →
    exec (.schStop cx p) s = .next (s.to (complete cx stEmpty 0 y))) ∧
  (∀ (s : State) (cx : Cx) (p : SchStopP) (y : Engine), Clear cx cmdSchStop [] s.start → p.rsv = 0 → p.how ≤ 1 →
    y = passDue (accepted cx 0x0303 [] s.start) → playerRuns y = true → y.sch.stopCx = none →
    Goes (.schStop cx p) s (fun t =>
      if (latchedSlot y).isSome = true then t.sch = { y.sch with stopAfter := some 1, stopCx := some (cx, p.how) }
      else t.sch.st = .stopped ∧ t.sch.reason = 1 ∧ t.sch.cur = none ∧ t.sch.nextB = [])) ∧
  (∀ (s : State) (cx : Cx) (p : SchJumpP), Clear cx cmdSchJump [] s.start → p.rsv = 0 → p.target < 1024 →
    playerRuns s.eng = true → (s.eng.sch.stream = true ∨ (Tbl.get (fun _ => []) s.eng.sch.segs p.target ≠ [] ∧
      (s.eng.slot (segSlot (Tbl.get (fun _ => []) s.eng.sch.segs p.target))).loaded = true)) →
    Goes (.schJump cx p) s (fun t => t.sch = { s.eng.sch with jump := some (cx, p.target) })) ∧
  (∀ (s : State) (cx : Cx) (p : SchStreamP), Clear cx cmdSchStream [] s.start → p.rsv = 0 → 8 ≤ p.log2 → p.log2 ≤ 16 →
    iovaOk p.addr 256 (16 * 2 ^ p.log2) = true → s.eng.sch.flume = none → p.start < 4294967296 →
    Goes (.schStream cx p) s (fun t => t.sch.flume = some (cx, p.addr, p.log2) ∧ t.sch.fetched = 0 ∧
      (if p.resume = true then t.sch.window = s.eng.sch.window
       else t.sch.window = [] ∧ t.sch.startPos = p.start ∧ rd t Reg.SCH_FLUME_CI = p.start ∧ rd t Reg.SCH_FLUME_PI = p.start)))

/-- LOOP_CFG, LOOP_INJECT, CAPTURE_ARM and CAPTURE_READ do their part once their way is clear and their parameters are in range:
the words a mask selects of every entry named are replaced and no other word of LOOPCFG; an injection replaces that of its loop,
and WAVE 0 takes it away; an armed unit starts over; a read opens its stream of kind 9 (spec/07_pointing_loops.md).
Where the spec leaves the rest open: logs 58 and 70. -/
def Obligations.loopCommandsAct : Prop :=
  (∀ (s : State) (cx : Cx) (p : LoopCfgP), Clear cx { opcode := 0x0401, modes := loopModes } [] s.start → p.rsv = 0 →
    p.words < 2048 → p.count ≠ 0 → p.first + p.count ≤ 4100 → cfgOk p.words p.cfg = true →
    Goes (.loopCfg cx p) s (fun t => ∀ ap w, w < 11 → wordAt (cfgOf t ap) w =
      if p.first ≤ ap ∧ ap < p.first + p.count ∧ bit p.words w = true then wordAt p.cfg w else wordAt (cfgOf s.eng ap) w)) ∧
  (∀ (s : State) (cx : Cx) (p : LoopInjectP) (o : List Inject), Clear cx { opcode := 0x0402, modes := loopModes } [] s.start →
    p.rsv = 0 → injectOk p = true → o = s.eng.loop.inj.filter (fun x => x.ap != p.aperture) → (p.wave ≠ 0 → o.length < 16) →
    Goes (.loopInject cx p) s (fun t => t.loop = { s.eng.loop with inj := if p.wave = 0 then o else o ++
      [{ ap := p.aperture, p := p, lfsr := lfsrSeed p.wave, sluices := (s.eng.loopOf p.aperture).sluices }] })) ∧
  (∀ (s : State) (cx : Cx) (p : CaptureArmP), Clear cx { opcode := 0x0403, modes := loopModes } [] s.start → p.rsv = 0 →
    captureArmOk p = true →
    Goes (.captureArm cx p) s (fun t => Tbl.get (fun _ => {}) t.loop.caps p.unit =
      { st := 1, p := p, sluices := (s.eng.loopOf p.aperture).sluices } ∧
      ∀ u, u ≠ p.unit → Tbl.get (fun _ => {}) t.loop.caps u = Tbl.get (fun _ => {}) s.eng.loop.caps u)) ∧
  (∀ (s : State) (cx : Cx) (p : CaptureReadP) (u : Capture), Clear cx { opcode := 0x0404, hostMem := true, modes := loopModes } [] s.start →
    p.rsv = 0 → p.count ≠ 0 → p.unit ≤ 3 → iovaOk p.addr 32 (32 + 16 * p.count) = true →
    u = Tbl.get (fun _ => {}) s.eng.loop.caps p.unit → u.st ≠ 1 → u.st ≠ 2 → p.first + p.count ≤ u.recs.length →
    Goes (.captureRead cx p) s (fun t => ∃ st ∈ t.dma.streams, st.kind = 9 ∧ st.write = true ∧ st.dom = cx.domain ∧
      st.iova = p.addr ∧ st.len = 32 + 16 * p.count ∧ st.hopper = cx.hopper ∧ st.tag = cx.tag ∧
      st.buf = captureHeader u ++ ((u.recs.reverse.drop p.first).take p.count).flatMap CapRec.bytes))

/-- CAL_SENSOR, CAL_SURVEY, CAL_COMMIT and AIM_UPLOAD do their part once their way is clear and their parameters are in range: a
step of sensor calibration runs; a survey begins with its first round, counters at 0 and a generation of its own; a commit makes
the staged area live and is to be persisted, or discards it; an upload opens its stream of kind 6 over its set
(spec/04_phase_synthesis.md, 06_sensing.md).
Where the spec leaves the rest open: logs 33, 34, 35, 36 and 75. -/
def Obligations.calibrationCommandsAct : Prop :=
  (∀ (s : State) (cx : Cx) (p : CalSensorP), Clear cx cmdCalSensor [] s.start → p.rsv = 0 → p.count ≠ 0 →
    p.first + p.count ≤ 4100 → p.step ≤ 2 → (p.step = 1 → -300 ≤ p.known ∧ p.known ≤ 300) → (p.step ≠ 1 → p.known = 0) →
    p.frames = 0 ∨ 16 ≤ p.frames ∧ p.frames ≤ 4096 → (p.step ≤ 1 → ∀ ap, p.first ≤ ap → ap < p.first + p.count → ordinary ap = true) →
    s.eng.sns.job = none →
    Goes (.calSensor cx p) s (fun t => t.sns = { s.eng.sns with job := some { cx := cx, p := p, at_ := s.eng.clk } })) ∧
  (∀ (s : State) (cx : Cx) (p : CalSurveyP), Clear cx cmdCalSurvey [] s.start → p.rsv = 0 → p.firstRound ≤ 4090 →
    (p.rounds ≠ 0 → p.firstRound + p.rounds ≤ 4091) → p.measFrames ≤ 16 → s.eng.syn.survey = none →
    Goes (.calSurvey cx p) s (fun t =>
      t.syn.survey = some { cx := cx, first := p.firstRound, last := if p.rounds = 0 then 4090 else p.firstRound + p.rounds - 1,
                            meas := if p.measFrames = 0 then 4 else p.measFrames, round := p.firstRound, p0st := stationP0 s.eng } ∧
      t.syn.gen = (s.eng.syn.gen + 1) % 32768 ∧ (p.keep = false → t.syn.survStage = some []) ∧
      (p.keep = true → t.syn.survStage = some (s.eng.syn.survStage.getD [])) ∧
      ∃ j ∈ t.xact.jobs, j.owner = .survey p.firstRound false ∧ j.grp = 13)) ∧
  (∀ (s : State) (cx : Cx) (p : CalCommitP) (a b : Engine), Clear cx cmdCalCommit [] s.start → a = accepted cx 0x0503 [] s.start →
    p.rsv = 0 → 1 ≤ p.target → p.target ≤ 3 → p.action ≤ 1 → ¬(p.target = 2 ∧ s.eng.syn.survey.isSome = true) →
    b = discardStage p.target (commitStage p.target a) →
    exec (.calCommit cx p) s = .next (s.to (
      if stageEmpty s.eng p.target = true then complete cx stEmpty 0 a
      else if p.action = 1 then complete cx stOk 0 (discardStage p.target a)
      else complete cx stOk 0 { b with syn := { b.syn with persist := some p.target } }))) ∧
  (∀ (s : State) (cx : Cx) (p : AimUploadP), Clear cx cmdAimUpload [] s.start → p.rsv = 0 → p.count ≠ 0 → p.set ≤ 3 →
    p.first + p.count ≤ numRecords → iovaOk p.addr 32 (32 * p.count) = true → (∀ x ∈ s.eng.syn.aimStage, x.1 = p.set) →
    Goes (.aimUpload cx p) s (fun t => t.dma.streams = s.eng.dma.streams ++
      [{ id := s.eng.dma.nextId, kind := 6, dom := cx.domain, iova := p.addr, len := 32 * p.count, write := false,
         hopper := cx.hopper, tag := cx.tag, job := .aim cx p }] ∧
      ∃ m, t.syn.aimStage = some (p.set, m) ∧
        m = match s.eng.syn.aimStage with | some x => x.2 | none => setOverlay s.eng.syn.aims p.set))

/-- DOMAIN_CFG, OWNER_SET, POLICER_SET and DRILL_SWAP do their part once their way is clear and their checks pass: the domain has
its new range, quota and enables and no other domain's entry changes; the ports of the span have their new owner and every other
port keeps its own; POLICER_SET sets the policers and shapers of its span, or completes with OK_EMPTY or BAD_PARAM; a drill begins
and sequencer B claims every tile, which at the end of the row strobe in progress gives it to B unless A claimed it in the same 10 ns
(spec/10_command_protocol.md, 05_refresh_retention.md).
Where the spec leaves the rest open: log 59. -/
def Obligations.operatorCommandsAct : Prop :=
  (∀ (s : State) (cx : Cx) (p : DomainCfgP), Clear cx { opcode := 0x0601 } [] s.start → Quiet s.eng → p.rsv = 0 →
    p.domain ≤ 63 → p.hopCount ≤ 4080 → p.tagQuota ≤ 4096 → (p.domain = 0 → p.en = true ∧ p.vfEn = false) →
    p.hopFirst + p.hopCount ≤ 4080 →
    (∀ d, d < 64 → d ≠ p.domain → overlap p.hopFirst p.hopCount (s.eng.dom d).hopFirst (s.eng.dom d).hopCount = false) →
    leaves (accepted cx 0x0601 [] s.start) p = false → (p.en = false → domEn s.eng p.domain = false) →
    Goes (.domainCfg cx p) s (fun t => domEn t p.domain = (p.en || p.domain == 0) ∧
      t.dom p.domain = { vfEn := p.vfEn, ringEn := p.ringEn, tagQuota := p.tagQuota, hopFirst := p.hopFirst, hopCount := p.hopCount } ∧
      ∀ d, d ≠ p.domain → t.dom d = s.eng.dom d)) ∧
  (∀ (s : State) (cx : Cx) (p : OwnerSetP), Clear cx cmdOwnerSet ((span p.first p.count).filter (fun q => decide (q < 4096))) s.start →
    Quiet s.eng → p.rsv = 0 → p.count ≠ 0 → p.first + p.count ≤ 4096 → p.domain ≤ 63 → on s.eng Fd.CMD_OWN_LOCK_LOCK = false →
    (∀ q ∈ span p.first p.count, reservedPort q = false ∧ (s.eng.port q).txn = none ∧ slotBusy s.eng q = false ∧
      (paired s.eng q = true → partner s.eng q ∈ span p.first p.count ∨ (s.eng.port (partner s.eng q)).owner = p.domain)) →
    Goes (.ownerSet cx p) s (fun t => ∀ q, (t.port q).owner =
      if p.first ≤ q ∧ q < p.first + p.count then p.domain else (s.eng.port q).owner)) ∧
  (∀ (s : State) (cx : Cx) (p : PolicerSetP) (a : Engine), Clear cx { opcode := 0x0603 } [] s.start →
    a = accepted cx 0x0603 [] s.start → p.rsv = 0 →
    exec (.policerSet cx p) s = .next (s.to (
      if p.count = 0 then complete cx stEmpty 0 a
      else if p.first + p.count > 4096 ∨ p.interval > 1023 then complete cx stBadParam 0 a
      else complete cx stOk 0 (each (span p.first p.count) (fun q => updHop q (fun h =>
        { h with rate := p.rate, burst := p.burst, overhead := p.overhead, pairCost := p.pairCost, interval := p.interval,
                 tokens := if p.fill then 256 * p.burst else min h.tokens (256 * p.burst) })) (catchUp a))))) ∧
  (∀ (s : State) (cx : Cx) (p : DrillSwapP), Clear cx { opcode := 0x0701, modes := [.bypass, .calibrate, .service, .schedule] } [] s.start →
    p.rsv = 0 → drillOk s.eng = true → 1 ≤ p.dwellMs → p.dwellMs ≤ 60000 →
    (p.abortAge = 0 ∨ 768 ≤ p.abortAge ∧ p.abortAge ≤ 1023) →
    Goes (.drillSwap cx p) s (fun t => (∀ k, k < 256 → t.tile k = (s.eng.tile k).claimed s.eng.clk (strobeEnd s.eng k) 2) ∧
      t.rfs.drill = some { cx := cx, at_ := s.eng.clk, dwell := p.dwellMs, abort := if p.abortAge = 0 then 896 else p.abortAge }))

/-- What SQ_DOORBELL, CQ_DOORBELL and COMMAND_FETCH answer, in every case. A doorbell through a function that takes no access
changes nothing. Through an open one it is counted; where it names no hopper of the function or is not aligned it is discarded;
a tail is taken where the hopper is enabled, the value is an index of the ring and not behind the present one, a head where it
is an index not past the tail; otherwise it is discarded, which DB_BAD and CMD_DB_BAD_CNT show. COMMAND_FETCH with no hopper that
qualifies, or with a host hopper next while a stream of its class waits that has the turn (the model's choice, log 106), only keeps
the two flags of full rings and tags; with a ring hopper next it takes that hopper's oldest entry, in the domain of its arrival; with
a host hopper next it reads the header and then the continuation entries, moves the head past them and takes the packet, or, where
the one or the other cannot be read, halts the hopper's submission stream (spec/10_command_protocol.md, 11_host_interface.md).
When a row's instant comes, and that a row without its occasion changes nothing, are the model's choice (logs 1 and 2). Where the spec
leaves the rest open: logs 29, 43, 45, 65 and 84. -/
def Obligations.intakeCommandsAct : Prop :=
  (∀ (s : State) (fn n : Nat) (v : Word) (b : Bool), fnOpen s.eng fn = false →
    exec (.sqDoorbell fn n v b) s = .next (s.to s.start) ∧ exec (.cqDoorbell fn n v b) s = .next (s.to s.start)) ∧
  (∀ (s : State) (fn n : Nat) (v : Word) (b : Bool), fnOpen s.eng fn = true → dbTarget s.eng fn n = none ∨ b = false →
    Goes (.sqDoorbell fn n v b) s (fun t => t.cmd = s.eng.cmd ∧ rd t Reg.CMD_DB_CNT = (rd s.eng Reg.CMD_DB_CNT + 1) % 4294967296 ∧
      rd t Reg.CMD_DB_BAD_CNT = (rd s.eng Reg.CMD_DB_BAD_CNT + 1) % 4294967296 ∧ on t Fd.CMD_CAUSE_DB_BAD = true) ∧
    Goes (.cqDoorbell fn n v b) s (fun t => t.cmd = s.eng.cmd ∧ rd t Reg.CMD_DB_CNT = (rd s.eng Reg.CMD_DB_CNT + 1) % 4294967296 ∧
      rd t Reg.CMD_DB_BAD_CNT = (rd s.eng Reg.CMD_DB_BAD_CNT + 1) % 4294967296 ∧ on t Fd.CMD_CAUSE_DB_BAD = true)) ∧
  (∀ (s : State) (fn n q : Nat) (v : Word), fnOpen s.eng fn = true → dbTarget s.eng fn n = some q →
    Goes (.sqDoorbell fn n v true) s (fun t => rd t Reg.CMD_DB_CNT = (rd s.eng Reg.CMD_DB_CNT + 1) % 4294967296 ∧
      if (s.eng.hop q).enabled = true ∧ v.toNat < (s.eng.hop q).sqSize ∧
          (s.eng.hop q).depth ≤ ringDist (s.eng.hop q).sqSize (s.eng.hop q).sqHead v.toNat then
        (t.hop q).sqTail = v.toNat ∧ (t.hop q).sqHead = (s.eng.hop q).sqHead ∧ t.cmd.subs = s.eng.cmd.subs + 1 ∧
        (t.hop q).depth = ringDist (s.eng.hop q).sqSize (s.eng.hop q).sqHead v.toNat
      else t.cmd = s.eng.cmd ∧ on t Fd.CMD_CAUSE_DB_BAD = true ∧
        rd t Reg.CMD_DB_BAD_CNT = (rd s.eng Reg.CMD_DB_BAD_CNT + 1) % 4294967296) ∧
    Goes (.cqDoorbell fn n v true) s (fun t => rd t Reg.CMD_DB_CNT = (rd s.eng Reg.CMD_DB_CNT + 1) % 4294967296 ∧
      if (s.eng.hop q).enabled = true ∧ v.toNat < (s.eng.hop q).cqSize ∧
          ringDist (s.eng.hop q).cqSize (s.eng.hop q).cqHead v.toNat ≤
            ringDist (s.eng.hop q).cqSize (s.eng.hop q).cqHead (s.eng.hop q).cqTail then
        t.hop q = { s.eng.hop q with cqHead := v.toNat }
      else t.cmd = s.eng.cmd ∧ on t Fd.CMD_CAUSE_DB_BAD = true ∧
        rd t Reg.CMD_DB_BAD_CNT = (rd s.eng Reg.CMD_DB_BAD_CNT + 1) % 4294967296)) ∧
  (∀ (s : State) (res : FetchRes) (e : Engine), e = catchUp s.start → nextHopper e = none →
    exec (.commandFetch res) s = .next (s.to (fullFlags e))) ∧
  (∀ (s : State) (res : FetchRes) (e : Engine) (q : Nat) (r : RingEntry) (rest : List RingEntry) (h : Hopper),
    e = catchUp s.start → nextHopper e = some q → isRing q = true → h = e.hop q → h.ring = r :: rest →
    exec (.commandFetch res) s = .next (s.to (fullFlags (settle (takePacket
      { dom := r.ref.dom, hopper := q, hdr := r.bytes.take 32, idx := h.sqHead,
        next := (h.sqHead + ringEntries r.bytes) % 64, sub := r.sub, ref := some r.ref }
      ((r.bytes.drop 32).take (hPlen (r.bytes.take 32)))
      (served q (updHop q (fun y => { y with sqHead := (h.sqHead + ringEntries r.bytes) % 64, ring := rest }) e))))))) ∧
  (∀ (s : State) (res : FetchRes) (e : Engine) (q : Nat), e = catchUp s.start → nextHopper e = some q → isRing q = false →
    sqWaits e = true → exec (.commandFetch res) s = .next (s.to (fullFlags e))) ∧
  (∀ (s : State) (res : FetchRes) (e x : Engine) (q d : Nat) (h : Hopper) (got : List (Nat × Nat) ⊕ Nat × Nat),
    e = catchUp s.start → nextHopper e = some q → isRing q = false → sqWaits e = false → d = (hopDom e q).getD 0 → h = e.hop q →
    moveRun d (h.sqBase + 32 * h.sqHead) 32 false res.head (eccMeets res.head (sqTurn (takeLink 1 e))) = (x, got) →
    (∀ why l, got = .inr (why, l) →
      exec (.commandFetch res) s = .next (s.to (fullFlags (settle (sqFault q d (h.sqBase + 32 * h.sqHead) why l x))))) ∧
    (∀ (parts : List (Nat × Nat)) (y : Engine) (n a why l : Nat), got = .inl parts → n = contEntries (readRun x parts) →
      readEntries q d n (h.sqHead + 1) res.rest (eccMeets res.rest x) = (y, .inr (a, why, l)) →
      exec (.commandFetch res) s = .next (s.to (fullFlags (settle (sqFault q d a why l y))))) ∧
    (∀ (parts : List (Nat × Nat)) (y : Engine) (hdr body : List Byte) (n : Nat), got = .inl parts → hdr = readRun x parts →
      n = contEntries hdr → readEntries q d n (h.sqHead + 1) res.rest (eccMeets res.rest x) = (y, .inl body) →
      exec (.commandFetch res) s = .next (s.to (fullFlags (settle (takePacket
        { dom := d, hopper := q, hdr := hdr, idx := h.sqHead, next := (h.sqHead + (1 + n)) % max 1 h.sqSize, sub := subOf y h (1 + n) }
        (body.take (hPlen hdr)) (served q (updHop q (fun z => z.took (1 + n)) y))))))))

/-- What POLICER_REFILL, SHAPER_SLOT, COMPLETION_SIGNAL and HOPPER_SAMPLE answer (R220, R223, R225, R226), in every case: without
power and in LOCKOUT they change nothing. POLICER_REFILL waits for the next microsecond of disciplined time, where none has begun
since the last, and each that has begun brings every hopper its RATE up to 256·BURST and turns the wheel; SHAPER_SLOT does the
same while a hopper waits on the wheel, and otherwise nothing. COMPLETION_SIGNAL waits for the end of the microsecond of the
first hopper with a pending signal and signals those whose own is over; with none pending it changes nothing. HOPPER_SAMPLE waits
for the next millisecond, where none has begun since the last, and samples every enabled hopper if SAMPLE_EN is 1
(spec/10_command_protocol.md).
When a row's instant comes, and that a row without its occasion changes nothing, are the model's choice (logs 1 and 2). Where the spec
leaves the rest open: logs 43, 45 and 106. -/
def Obligations.hopperClocksRun : Prop :=
  (∀ s : State, ticking s.eng = true → s.eng.cmd.us < dUs s.eng →
    Goes .policerRefill s (fun t => t.clk = s.eng.clk ∧ t.cmd.us = dUs s.eng ∧
      t.cmd.hoppers = Tbl.mapAll (fun _ => {}) (fun _ h => { h with
        tokens := min (256 * h.burst) (h.tokens + (dUs s.eng - s.eng.cmd.us) * h.rate),
        wheel := match h.wheel with
          | some w => if wheelPassed s.eng.cmd.us (dUs s.eng) w then none else some w
          | none => none }) s.eng.cmd.hoppers)) ∧
  (∀ s : State, exec .policerRefill s = .next (s.to (if ticking s.eng then catchUp (nextUs s.start) else s.start))) ∧
  (∀ s : State, exec .shaperSlot s =
    .next (s.to (if ticking s.eng = true ∧ shaped s.eng = true then catchUp (nextUs s.start) else s.start))) ∧
  (∀ s : State, ticking s.eng = true → (∀ x ∈ s.eng.cmd.hoppers, x.2.sigPend = false) →
    exec .completionSignal s = .next (s.to s.start)) ∧
  (∀ (s : State) (q : Nat) (h : Hopper) (l : List (Nat × Hopper)), ticking s.eng = true →
    s.eng.cmd.hoppers.filter (fun x => x.2.sigPend) = (q, h) :: l →
    exec .completionSignal s = .next (s.to (each ((q, h) :: l) (fun x => signalLater x.1)
      (waitD ((h.sigUs.getD 0 + 1) * 1000) s.start)))) ∧
  (∀ (s : State) (x y : Engine), ticking s.eng = true →
    x = (if dUs s.eng / 1000 ≤ s.eng.cmd.ms then waitD ((s.eng.cmd.ms + 1) * 1000000) s.start else s.start) →
    y = { x with cmd := { x.cmd with ms := dUs x / 1000 } } →
    exec .hopperSample s = .next (s.to (if on y Fd.CMD_CTL_SAMPLE_EN = true then
      each (y.cmd.hoppers.filter (fun h => h.2.enabled)) (fun h e => updHop h.1 (Hopper.sample (dUs x) (e.visible h.1) (headLen e h.1)) e) y else y))) ∧
  (∀ s : State, ticking s.eng = false → exec .completionSignal s = .next (s.to s.start) ∧
    exec .hopperSample s = .next (s.to s.start))

/-- What CHUNK, HALT_TMO, FLR and FLR_DONE answer, in every case. CHUNK of a stream whose turn it is, unless a submission fetch has
it (log 106), moves one chunk of it, which may halt or end it, and puts the stream at the back of its
class; any other CHUNK changes nothing. HALT_TMO of a slot whose stream is halted with a timeout frees the slot, at the end of the
timeout or later, and ends the stream with XLATE_FAULT; of any other slot it changes nothing. FLR of a function that exists, with
the link up and no reset of it in progress, resets its domain, leaves the function busy, no bus master and with every vector
masked, and is counted; any other FLR changes nothing. FLR_DONE ends the reset and enables nothing (spec/11_host_interface.md;
that HALT_TMO comes 10 ns after the timeout is the model's choice, log 87).
When a row's instant comes, and that a row without its occasion changes nothing, are the model's choice (logs 1 and 2). Where the spec
leaves the rest open: logs 44, 85, 87, 89 and 106. -/
def Obligations.dmaEventsAct : Prop :=
  (∀ (s : State) (st : Stream) (res : HostRes) (a : Engine), turn s.start = some st →
    fetchFirst st s.start = false →
    a = (if preempts s.start (kindClass st.kind) = true then inc Reg.DMA_PREEMPT_CNT s.start else s.start) →
    exec (.chunk st.id res) s = .next (s.to (toBack st.id (moveChunk st res (eccMeets res a)))) ∧
    Goes (.chunk st.id res) s (fun t => t.dma.last = some st.id)) ∧
  (∀ (s : State) (id : Nat) (res : HostRes), (∀ st, turn s.start = some st → st.id ≠ id ∨ fetchFirst st s.start = true) →
    exec (.chunk id res) s = .next (s.to s.start)) ∧
  (∀ (st : Stream) (e : Engine), fetchFirst st e = ((match nextHopper (catchUp e) with | some q => !isRing q | none => false) &&
    (decide (2 ≤ kindClass st.kind) || (kindClass st.kind == 1 && decide (st.id ∉ e.dma.sqBefore) && !sqWaits e)))) ∧
  (∀ (st : Stream) (n : Nat) (res : HostRes) (e x : Engine) (why l : Nat), (∀ k, st.job ≠ .leatRx k) → n = min 256 (st.len - st.done) →
    moveRun st.dom (st.iova + st.done) n st.write res e = (x, .inr (why, l)) →
    moveChunk st res e = haltOrEnd st.id why l x) ∧
  (∀ (st : Stream) (n : Nat) (res : HostRes) (e x : Engine) (parts : List (Nat × Nat)), (∀ k, st.job ≠ .leatRx k) →
    n = min 256 (st.len - st.done) →
    moveRun st.dom (st.iova + st.done) n st.write res e = (x, .inl parts) →
    moveChunk st res e = if st.write = true then writeChunk st n parts x else readChunk st (readRun x parts) x) ∧
  (∀ (st : Stream) (k : Nat) (res : HostRes) (e : Engine), st.job = .leatRx k → moveChunk st res e =
    match rxChunk st res e with | .inl x => x | .inr (x, why, l) => haltOrEnd st.id why l x) ∧
  (∀ (s : State) (n : Nat) (r : FaultSlot), r = s.eng.slotRec n → n < 64 → r.halted = true → r.tmo ≠ 0 →
    exec (.haltTmo n) s = .next (s.to (
      endStream r.stream stXlate (note Fd.DMA_CAUSE_HALT_TMO (clearSlot n (waitClk (r.at_ + 1000000 * r.tmo + 10) s.start)))))) ∧
  (∀ (s : State) (n : Nat), 64 ≤ n ∨ (s.eng.slotRec n).halted = false ∨ (s.eng.slotRec n).tmo = 0 →
    exec (.haltTmo n) s = .next (s.to s.start)) ∧
  (∀ (s : State) (fn : Nat), s.eng.hif.up = true → fnExists s.eng fn = true → fn ∉ s.eng.hif.flrBusy →
    exec (.flr fn) s = .next (s.to (note Fd.HIF_CAUSE_FLR (inc Reg.HIF_FLR_CNT (flrDomain fn s.start)))) ∧
    Goes (.flr fn) s (fun t => on t Fd.HIF_CAUSE_FLR = true ∧ fn ∈ t.hif.flrBusy ∧ t.fnCfg fn = {} ∧ fn ∉ t.hif.opened ∧
      (∀ x ∈ t.hif.vecs, x.1 / 64 ≠ fn) ∧ t.clk = s.eng.clk)) ∧
  (∀ (s : State) (fn : Nat), s.eng.hif.up = false ∨ fnExists s.eng fn = false ∨ fn ∈ s.eng.hif.flrBusy →
    exec (.flr fn) s = .next (s.to s.start)) ∧
  (∀ (s : State) (fn : Nat), exec (.flrDone fn) s =
    .next (s.to { s.start with hif := { s.eng.hif with flrBusy := s.eng.hif.flrBusy.filter (· ≠ fn) } }))

/-- What HOT_RESET, PERST_N, PCIE_LINK_DOWN, PCIE_LINK_UP, VF_DISABLE and AER answer, in every case. A hot reset, a low of PERST_N
of at least 1 µs on a powered engine, and the loss of the link leave no virtual function, no bus master, no vector the host has
written or unmasked and no cached translation, and every function that existed busy with its reset; the loss also clears the link's
state and sets DOWN. A link that trains shows its speed and width, with DEGRADED below 32 GT/s or eight lanes, and the host enables
63 virtual functions where there are none (the model's choice, log 60). VF_DISABLE to fewer functions leaves that many. AER sets
its cause. On a link that is down none of them but PERST_N and PCIE_LINK_UP does anything (spec/11_host_interface.md,
spec/18_package_pins.md).
When a row's instant comes, and that a row without its occasion changes nothing, are the model's choice (logs 1 and 2). Where the spec
leaves the rest open: logs 42, 60, 68 and 86. -/
def Obligations.pcieEventsAct : Prop :=
  (∀ s : State, s.eng.hif.up = true → Goes .hotReset s (fun t => t.hif.numVfs = 0 ∧ t.hif.cfg = [] ∧ t.hif.vecs = [] ∧
    t.hif.opened = [] ∧ t.hif.flrBusy = 0 :: span 1 s.eng.hif.numVfs ∧ t.dma.tc = [] ∧ t.clk = s.eng.clk)) ∧
  (∀ (s : State) (n : Nat), s.eng.sys.mode ≠ .off → 1000 ≤ n → Goes (.perstN n) s (fun t => t.hif.numVfs = 0 ∧ t.hif.cfg = [] ∧
    t.hif.vecs = [] ∧ t.hif.opened = [] ∧ t.hif.flrBusy = 0 :: span 1 s.eng.hif.numVfs ∧ t.dma.tc = [] ∧ t.clk = s.eng.clk + 1000)) ∧
  (∀ (s : State) (n : Nat), s.eng.sys.mode = .off ∨ n < 1000 → exec (.perstN n) s = .next (s.to s.start)) ∧
  (∀ s : State, s.eng.hif.up = true → Goes .pcieLinkDown s (fun t => t.hif.up = false ∧ t.hif.speed = 0 ∧ t.hif.width = 0 ∧
    t.hif.numVfs = 0 ∧ t.hif.cfg = [] ∧ t.hif.flrBusy = 0 :: span 1 s.eng.hif.numVfs ∧ t.dma.tc = [] ∧
    on t Fd.HIF_CAUSE_DOWN = true)) ∧
  (∀ (s : State) (v w : Nat), s.eng.sys.mode ≠ .off → s.eng.sys.mode ≠ .cooldown → 1 ≤ v → v ≤ 5 → w ∈ [1, 2, 4, 8] →
    Goes (.pcieLinkUp v w) s (fun t => t.hif.up = true ∧ t.hif.speed = v ∧ t.hif.width = w ∧
      t.hif.numVfs = (if s.eng.hif.numVfs = 0 then 63 else s.eng.hif.numVfs) ∧
      (v < 5 ∨ w < 8 → on t Fd.HIF_CAUSE_DEGRADED = true))) ∧
  (∀ (s : State) (v w : Nat), s.eng.sys.mode = .off ∨ s.eng.sys.mode = .cooldown ∨ v = 0 ∨ 5 < v ∨ w ∉ [1, 2, 4, 8] →
    exec (.pcieLinkUp v w) s = .next (s.to s.start)) ∧
  (∀ (s : State) (n : Nat), s.eng.hif.up = true → n < s.eng.hif.numVfs → Goes (.vfDisable n) s (fun t => t.hif.numVfs = n)) ∧
  (∀ (s : State) (n : Nat), s.eng.hif.up = false ∨ s.eng.hif.numVfs ≤ n → exec (.vfDisable n) s = .next (s.to s.start)) ∧
  (∀ s : State, s.eng.hif.up = true → Goes .aer s (fun t => on t Fd.HIF_CAUSE_AER = true ∧ t.cmd = s.eng.cmd ∧ t.dma = s.eng.dma)) ∧
  (∀ s : State, s.eng.hif.up = false → exec .hotReset s = .next (s.to s.start) ∧ exec .aer s = .next (s.to s.start) ∧
    exec .pcieLinkDown s = .next (s.to s.start))

/-- What D3HOT_TO_D0, WAKE, HOLD_EXIT, POWER_ON, BOOT_STAGE_TIMEOUT and BOOT_END answer. In SLEEP the physical function's return
to D0, and WAKE through that function or the SMBus, restart the engine in BOOT on a dark array; in another mode the return only sets
the function's power state, and WAKE nothing. HOLD_EXIT through either of the two ends HOLD in SERVICE. Neither does anything through
a requester that does not reach the engine, through a virtual function, or in LOCKOUT. POWER_ON leaves the engine in BOOT at clk 0
with the straps and the pin as given and the persistent words and their wear kept; a supplied engine in LOCKOUT it leaves as it is. A
stage of BOOT that fails with an error that it can have shows 15 and the error, at the bound where it ran past it; BOOT_END comes
at the typical end of stage 7 (log 31) and ends in SAFE after a SEVERE event, else in SERVICE with an image to restore, else in BYPASS,
with stage 8. What the regulators, the gate and the stages do on the way may end the BOOT first. Outside BOOT, at the gate, after the
end, or with RST_N low these two change nothing (spec/15_faults_attention.md, spec/16_thermal_power.md, spec/17_modes_startup.md).
When a row's instant comes, and that a row without its occasion changes nothing, are the model's choice (logs 1 and 2). Where the spec
leaves the rest open: logs 31, 54, 56, 65 and 110. -/
def Obligations.bootEventsAct : Prop :=
  (∀ (s : State) (x : Engine),
    x = { s.start with hif := { s.eng.hif with cfg := Tbl.upd (fun _ => {}) s.eng.hif.cfg 0 (fun c => { c with power := 0 }) } } →
    (s.eng.sys.mode = .sleep → exec .d3hotToD0 s = .next (s.to (beginBoot (resetEngine true .sleep (darkArray x)))) ∧
      Goes .d3hotToD0 s (fun t => t.sys.mode = .boot)) ∧
    (s.eng.sys.mode ≠ .sleep → exec .d3hotToD0 s = .next (s.to x))) ∧
  (∀ (s : State) (rq : Rq), rq = .pf ∨ rq = .smbus → reachable s.eng rq = true →
    (s.eng.sys.mode = .sleep → Goes (.wake rq) s (fun t => t.sys.mode = .boot)) ∧
    (s.eng.sys.mode = .hold → Goes (.holdExit rq) s (fun t => t.sys.mode = .service))) ∧
  (∀ (s : State) (rq : Rq), reachable s.eng rq = false ∨ s.eng.sys.mode = .lockout ∨ (∃ d, rq = .vf d) →
    exec (.wake rq) s = .next (s.to s.start) ∧ exec (.holdExit rq) s = .next (s.to s.start)) ∧
  (∀ (s : State) (n : Nat) (b : Bool) (l : List Nat), s.eng.sys.mode = .lockout ∧ millpondOn s.eng = true →
    exec (.powerOn n b l) s = .next (s.to s.start)) ∧
  (∀ (s : State) (n : Nat) (b : Bool) (l : List Nat), s.eng.sys.mode ≠ .lockout ∨ millpondOn s.eng = false → Goes (.powerOn n b l) s (fun t => t.sys.mode = .boot ∧
    t.pins = { straps := n % 32, brakeLow := b } ∧ t.nvr = { stored := s.eng.nvr.stored, wear := s.eng.nvr.wear } ∧ t.clk = 0)) ∧
  (∀ (s : State) (st er : Nat) (x : Engine), booting s.eng = true → failsIn st er = true → s.eng.sys.stage ≤ st →
    x = bootTo (stageStart s.eng st) (bootTo (s.eng.sys.bootAt + 100000) s.start) →
    (booting x = true → x.sys.stage = st → Goes (.bootStageTimeout st er) s (fun t => t.sys = { x.sys with stage := 15, err := er } ∧
      t.clk = if er = 5 then max x.clk (stageStart x st + stageBound st) else x.clk)) ∧
    (booting x = false ∨ x.sys.stage ≠ st → exec (.bootStageTimeout st er) s = .next (s.to x))) ∧
  (∀ (s : State) (st er : Nat), booting s.eng = false ∨ failsIn st er = false ∨ st < s.eng.sys.stage →
    exec (.bootStageTimeout st er) s = .next (s.to s.start)) ∧
  (∀ (s : State) (b : Bool) (x y : Engine), booting s.eng = true → x = bootTo (s.eng.sys.bootAt + 100000) s.start →
    y = bootTo (stageStart x 8) x →
    (booting x = true → booting y = true → Goes (.bootEnd b) s (fun t =>
      (t.sys.mode = if y.sys.severeSeen = true then .safe else if restores y = true then .service else .bypass) ∧
      t.sys.bootDone = true ∧ t.sys.stage = 8 ∧ t.sys.err = 0)) ∧
    (booting x = true → booting y = false → exec (.bootEnd b) s = .next (s.to y)) ∧
    (booting x = false → exec (.bootEnd b) s = .next (s.to x))) ∧
  (∀ (s : State) (b : Bool), booting s.eng = false → exec (.bootEnd b) s = .next (s.to s.start)) ∧
  (∀ e : Engine, booting e = (e.sys.mode == .boot && decide (e.sys.stage < 8) && !e.sys.gateWaiting && !e.pins.rstLow)) ∧
  (∀ st er : Nat, failsIn st er = true ↔ (st, er) ∈ [(1, 1), (3, 2), (5, 3), (4, 4)] ∨ er = 5 ∧ st ≤ 7)

/-- What THERMAL_GATE_RELEASE, RST_N, RST_N_RELEASE and COOLDOWN_END answer, in every case. At the gate, its thresholds met since a
clk, BOOT goes on with the rails on 60 s after that clk, its stages later by the wait; in COOLDOWN, so, the engine restarts in BOOT. A low of RST_N of at least
20 ns outside OFF and LOCKOUT leads to BOOT with the pin held low, and its rise, no sooner than 10 µs after, starts BOOT's time.
Where its condition fails, each changes nothing (spec/16_thermal_power.md, spec/18_package_pins.md).
When a row's instant comes, and that a row without its occasion changes nothing, are the model's choice (logs 1 and 2). Where the spec
leaves the rest open: logs 46, 55 and 62. -/
def Obligations.restartEventsAct : Prop :=
  (∀ (s : State) (t0 : Nat), s.eng.sys.mode = .boot → s.eng.sys.gateWaiting = true → s.eng.sys.gateAt = some t0 →
    Goes .thermalGateRelease s (fun t => t.sys.mode = .boot ∧ t.sys.gateWaiting = false ∧ t.sys.gateAt = none ∧ t.pwr.rails = true ∧
      t.sys.gateNs = t.clk - (s.eng.sys.bootAt + 100000) ∧
      t.clk = max s.eng.clk (t0 + 60000000000))) ∧
  (∀ s : State, s.eng.sys.mode ≠ .boot ∨ s.eng.sys.gateWaiting = false ∨ s.eng.sys.gateAt = none →
    exec .thermalGateRelease s = .next (s.to s.start)) ∧
  (∀ (s : State) (n : Nat), 20 ≤ n → s.eng.sys.mode ≠ .lockout → s.eng.sys.mode ≠ .off →
    Goes (.rstN n) s (fun t => t.sys.mode = .boot ∧ t.pins.rstLow = true ∧ t.pins.straps = s.eng.pins.straps)) ∧
  (∀ (s : State) (n : Nat), n < 20 ∨ s.eng.sys.mode = .lockout ∨ s.eng.sys.mode = .off → exec (.rstN n) s = .next (s.to s.start)) ∧
  (∀ s : State, s.eng.pins.rstLow = true → Goes .rstNRelease s (fun t => t.pins = { s.eng.pins with rstLow := false } ∧
    t.clk = max s.eng.clk (s.eng.pins.rstAt + 10000) ∧ t.sys = { s.eng.sys with bootAt := t.clk })) ∧
  (∀ s : State, s.eng.pins.rstLow = false → exec .rstNRelease s = .next (s.to s.start)) ∧
  (∀ (s : State) (t0 : Nat), s.eng.sys.mode = .cooldown → s.eng.thm.coolOk = some t0 →
    Goes .cooldownEnd s (fun t => t.sys.mode = .boot ∧ t.clk = max s.eng.clk (t0 + 60000000000))) ∧
  (∀ s : State, s.eng.sys.mode ≠ .cooldown ∨ s.eng.thm.coolOk = none → exec .cooldownEnd s = .next (s.to s.start))

/-- What BRAKE_N, BRAKE_N_RELEASE, BRAKE_SLUICE, BRAKE_FAIL, BRAKE_RELEASE, RESYNTHESIS_START, MARCH_END, SHORT,
ISLAND_RESET_END and IRST_END answer, in every case. The pin's fall of
at least 20 ns is kept, and brakes a powered engine where PIN_EN is 1; its rise takes its trigger away. The sluice of a brake that is
zeroing comes 0.8 µs after its start or, with silent tiles, 2.0 µs after, and these lead to LOCKOUT. With no trigger left the brake
releases 2.0 µs after its start. After a span change's own brake sluice the re-synthesis waits for its arming. A march run that no brake has stopped ends at
its time with its results and a brake, and then a BIST_RUN that holds it goes on. A short adds its column to its aperture's map and counts. The end of a tile's reset takes it out of
reset and, where powered and unbraked, rewrites its planes; that of a control island's clears the request, releases its bus
master, sets a sequencer's check, posts what the completion unit holds, or lets the timebase choose again. Otherwise nothing changes (spec/03_phase_backplane.md, spec/15_faults_attention.md).
When a row's instant comes, and that a row without its occasion changes nothing, are the model's choice (logs 1 and 2). Where the spec
leaves the rest open: logs 32, 47, 69, 82 and 83. -/
def Obligations.brakeEventsAct : Prop :=
  (∀ (s : State) (n : Nat) (x : Engine), 20 ≤ n → s.eng.pins.brakeLow = false →
    x = { s.start with pins := { s.eng.pins with brakeLow := true } } →
    exec (.brakeN n) s = .next (s.to (
      if on s.eng Fd.BKP_BRAKE_EN_PIN_EN = true ∧ unpowered s.eng = false then pinBrake x else x))) ∧
  (∀ (s : State) (n : Nat), n < 20 ∨ s.eng.pins.brakeLow = true →
    exec (.brakeN n) s = .next (s.to s.start)) ∧
  (∀ s : State, Goes .brakeNRelease s (fun t => t.pins = { s.eng.pins with brakeLow := false } ∧
    t.bkp = { s.eng.bkp with live := s.eng.bkp.live &&& 254 })) ∧
  (∀ s : State, s.eng.bkp.zeroing = true →
    exec .brakeSluice s = .next (s.to (afterBrake (brakeSluice [] (brakeInstant 800 s.start))))) ∧
  (∀ s : State, s.eng.bkp.zeroing = false → exec .brakeSluice s = .next (s.to s.start)) ∧
  (∀ (s : State) (l : List Nat), s.eng.bkp.zeroing = true → (∃ k ∈ l, k < 256) → s.eng.sys.mode ≠ .off →
    Goes (.brakeFail l) s (fun t => t.sys.mode = .lockout)) ∧
  (∀ (s : State) (l : List Nat), s.eng.bkp.zeroing = false ∨ (∀ k ∈ l, 256 ≤ k) →
    exec (.brakeFail l) s = .next (s.to s.start)) ∧
  (∀ s : State, s.eng.bkp.braking = true → s.eng.bkp.zeroing = false → s.eng.bkp.live = 0 →
    Goes .brakeRelease s (fun t => t.bkp = { s.eng.bkp with braking := false } ∧ t.clk = max s.eng.clk (s.eng.bkp.brakeAt + 2000))) ∧
  (∀ s : State, s.eng.bkp.braking = false ∨ s.eng.bkp.zeroing = true ∨ s.eng.bkp.live ≠ 0 →
    exec .brakeRelease s = .next (s.to s.start)) ∧
  (∀ (s : State) (j : SpanJob), s.eng.bkp.span = some j → j.cancelled = false → j.sluiced = true →
    (∀ x ∈ s.eng.xact.jobs, x.owner ≠ .resynth) →
    Goes .resynthesisStart s (fun t => ∃ x ∈ t.xact.jobs, x.owner = .resynth ∧ x.grp = 13 ∧ x.phase = .waiting)) ∧
  (∀ s : State, (∀ j, s.eng.bkp.span = some j → j.cancelled = true ∨ j.sluiced = false ∨ ∃ x ∈ s.eng.xact.jobs, x.owner = .resynth) →
    exec .resynthesisStart s = .next (s.to s.start)) ∧
  (∀ (s : State) (m : MarchRun) (l : List MarchRead) (x : Engine), marching s.eng = some m →
    x = haltMarch m (waitClk m.endAt s.start) →
    exec (.marchEnd l) s = .next (s.to (testBrake (whenE m.bist bistMarch (wrF Fd.BKP_MARCH_CTL_GO 0 (marchResults m l x))))) ∧
    Goes (.marchEnd l) s (fun t => t.clk = max s.eng.clk m.endAt)) ∧
  (∀ (s : State) (l : List MarchRead), marching s.eng = none → exec (.marchEnd l) s = .next (s.to s.start)) ∧
  (∀ (s : State) (a c : Nat), a < 4100 → c < 96 → bit (s.eng.aper a).shortMap c = false → unpowered s.eng = false →
    Goes (.short a c) s (fun t => (t.aper a).shortMap = (s.eng.aper a).shortMap ||| (1 <<< c) ∧
      rd t Reg.BKP_SHORT_CNT = (rd s.eng Reg.BKP_SHORT_CNT + 1) % 4294967296)) ∧
  (∀ (s : State) (a c : Nat), 4100 ≤ a ∨ 96 ≤ c ∨ bit (s.eng.aper a).shortMap c = true ∨ unpowered s.eng = true →
    exec (.short a c) s = .next (s.to s.start)) ∧
  (∀ (s : State) (k : Nat) (l : List FsRead) (x y : Engine), (s.eng.tile k).islandRst = true →
    x = marchEv s.eng.clk (.reset k false) (updTile k (fun y => { y with islandRst := false, initAt := s.eng.clk }) s.start) →
    y = (if s.eng.flt.irst = some k then { x with flt := { x.flt with irst := none } } else x) →
    exec (.islandResetEnd k l) s = .next (s.to (settle (startReloads (
      if unpowered y = true ∨ y.bkp.braking = true then y else lateReparks k (fsEvents k l (rewriteTile k y))))))) ∧
  (∀ (s : State) (k : Nat) (l : List FsRead), (s.eng.tile k).islandRst = false →
    exec (.islandResetEnd k l) s = .next (s.to (settle s.start))) ∧
  (∀ (s : State) (n : Nat) (x y : Engine), s.eng.flt.irst = some n → 256 ≤ n →
    x = { s.start with flt := { s.eng.flt with irst := none } } →
    y = (match masterOf n with | some m => releaseMaster m x | none => x) →
    exec .irstEnd s = .next (s.to (
      if n = 262 then { y with rfs := { y.rfs with rstA := false, checkA := true, gapless := none } }
      else if n = 263 then { y with rfs := { y.rfs with rstB := false, checkB := true } }
      else if n = 257 then each (y.cmd.hoppers.map (·.1)) flushHeld y
      else if n = 264 ∨ n = 265 then tbCheck y else y))) ∧
  (∀ s : State, (∀ n, s.eng.flt.irst = some n → n < 256) → exec .irstEnd s = .next (s.to s.start))

/-- What ARM, ARM_COMPLETE, PREPARED, NO_GROUP, SYNC_MISSING, OPEN_TMO, CHECK, SLUICE, MAP_PUBLISH, CONDITION_REFRESH and MAJOR_PARK
answer, in every case. The job's agents begin to write its apertures; the last row of an arm sets ARMED; a transaction whose records
are on chip takes its group, or fails with cause 0x01 to 0x04; it fails with 0x05 without a group in time, 0x06 without an edge, 0x0D open too
long, 0x0A with its tick inside a span change and 0x07 with an aperture not ARMED; otherwise its check is passed. SLUICE opens the next tick.
The map at the latest epoch is published after the pin of a read, and its condition fields are refreshed once a frame, which a pin
defers. The park of a MAJOR event's scope comes in a lit mode after the transactions and commands that hold its ports, in SCHEDULE as a
repair of the visit, and holds their order tags until its sluice has opened. Where its condition fails, each changes
nothing but what follows of itself: a brake due to release does, and commands and transactions whose way is clear go on (spec/08_pairing_transactions.md,
spec/03_phase_backplane.md, spec/15_faults_attention.md; the rows' operands are the model's choice, log 1).
When a row's instant comes, and that a row without its occasion changes nothing, are the model's choice (logs 1 and 2). Where the spec
leaves the rest open: logs 48, 65, 67 and 103. -/
def Obligations.transactionEventsAct : Prop :=
  (∀ (s : State) (id : Nat) (r : List (Nat × Residue)) (e0 : Engine), e0 = settleBrake s.start →
    (∀ (j : Job) (e : Engine) (k : Option Nat), e0.job id = some j → j.phase = .waiting → writersRun e0 = true →
      mustWaitReset e0 j = false → e = waitD j.armAt e0 →
      k = (if j.owner.isNow = true ∧ dNs e > j.armAt ∧ e.thm.restoring.isNone = true then some (gridUp (dNs e + 2000)) else j.t) →
      exec (.arm id r) s = .next (s.to (each j.targets (fun x e => armAper j.grp x.1 x.2 (Tbl.get (fun _ => 0) j.recs x.1)
          (Tbl.get (fun _ => (0, 0)) j.corrs x.1) (residueOf r x.1) e)
        (match j.owner with
         | .txn n => updTxn n (fun x => { x with st := .armed }) (updJob id (fun y => { y with phase := .arming, t := k }) e)
         | _ => updJob id (fun y => { y with phase := .arming, t := k }) e)))) ∧
    ((∀ j, e0.job id = some j → j.phase ≠ .waiting ∨ writersRun e0 = false ∨ mustWaitReset e0 j = true) →
      exec (.arm id r) s = .next (s.to e0))) ∧
  (∀ (s : State) (a : Nat), ((s.eng.aper a).arming = true → Goes (.armComplete a) s (fun t => (t.aper a).armed = true ∧
      (t.aper a).arming = false ∧ t.clk = max s.eng.clk ((s.eng.aper a).strobe + 10 * (80 - (s.eng.aper a).armRow)))) ∧
    ((s.eng.aper a).arming = false → exec (.armComplete a) s = .next (s.to s.start))) ∧
  (∀ (s : State) (id : Nat) (b : Bool), (∀ t, s.eng.txn id = some t → t.st = .prepared → t.ready = false →
      exec (.prepared id b) s = .next (s.to (settle (
        if b = true then failTxn id 0x03 0xFFFF s.start
        else match fetchAll t.entries 0 s.start with
          | (e, .inr (c, i)) => failTxn id c i e
          | (e, .inl recs) =>
            if tooLate e t = true then failTxn id 0x04 0xFFFF e
            else tryGroup id (updTxn id (fun t => { t with ready := true, recs := recs, waitFrom := e.clk }) e))))) ∧
    ((∀ t, s.eng.txn id = some t → t.st ≠ .prepared ∨ t.ready = true) → exec (.prepared id b) s = .next (s.to (settle s.start)))) ∧
  (∀ (s : State) (id : Nat), (∀ t, s.eng.txn id = some t → t.ready = true → t.group = none →
      exec (.noGroup id) s = .next (s.to (settle (failTxn id 0x05 0xFFFF
        (if t.whn = 0 then waitClk (t.waitFrom + 100000) s.start else waitD ((tickOf s.start t).2) s.start))))) ∧
    ((∀ t, s.eng.txn id = some t → t.ready = false ∨ t.group.isSome = true) →
      exec (.noGroup id) s = .next (s.to (settle s.start)))) ∧
  (∀ (s : State) (id : Nat), id ≠ 0 → (∀ t, s.eng.txn id = some t → t.whn = 2 → t.group.isSome = true → t.t = none →
      exec (.syncMissing id) s = .next (s.to (settle (failTxn id 0x06 0xFFFF (waitD (t.req + 10000) s.start))))) ∧
    ((∀ t, s.eng.txn id = some t → t.whn ≠ 2 ∨ t.group = none ∨ t.t.isSome = true) →
      exec (.syncMissing id) s = .next (s.to (settle s.start)))) ∧
  (∀ s : State, exec (.syncMissing 0) s = .next (s.to (settle (startMissing s.start)))) ∧
  (∀ (s : State) (id : Nat), (∀ t, s.eng.txn id = some t → t.st = .opened → t.tmoMs ≠ 0 →
      exec (.openTmo id) s = .next (s.to (settle (failTxn id 0x0D 0xFFFF (waitClk (t.openAt + t.tmoMs * 1000000) s.start))))) ∧
    ((∀ t, s.eng.txn id = some t → t.st ≠ .opened ∨ t.tmoMs = 0) → exec (.openTmo id) s = .next (s.to (settle s.start)))) ∧
  (∀ (s : State) (id : Nat), (∀ (j : Job) (tick : Nat) (e l : Engine), s.eng.job id = some j → j.t = some tick → j.phase = .arming →
      e = waitD (tick - 200) s.start → l = updJob id (fun j => { j with phase := .latched }) e →
      (∀ n, j.owner = .txn n → exec (.check id) s = .next (s.to (settle (
        if inSpan e tick = true then failTxn n 0x0A 0xFFFF e
        else if j.targets.any (fun x => !(e.aper x.1).armed) = true then failTxn n 0x07 0xFFFF e
        else updTxn n (fun x => { x with checked := true }) l)))) ∧
      (j.owner = .resynth → exec (.check id) s = .next (s.to (settle l))) ∧
      (j.owner ≠ .resynth → (∀ n, j.owner ≠ .txn n) →
        exec (.check id) s = .next (s.to (settle (if inSpan e tick = true then loseJob j e else l))))) ∧
    ((∀ j, s.eng.job id = some j → j.t = none ∨ j.phase ≠ .arming) → exec (.check id) s = .next (s.to (settle s.start)))) ∧
  (∀ s : State, (∀ t, nextTick s.start = some t → exec .sluice s = .next (s.to (settle (mapStep (openTick t) s.start)))) ∧
    (nextTick s.start = none → exec .sluice s = .next (s.to (settle s.start)))) ∧
  (∀ s : State, (s.eng.xact.unpub = true → (∀ e : Engine,
        e = (match s.eng.xact.pinned with | some (_, t) => waitClk (t + 8000) s.start | none => s.start) →
        exec .mapPublish s = .next (s.to (settle (publish { e with xact := { s.eng.xact with pinned := none } })))) ∧
      (s.eng.xact.pubWait = [] → Quiet s.eng → Goes .mapPublish s (fun t => t.xact.pub = s.eng.xact.cur ∧
        t.xact.pubEpoch = s.eng.xact.epoch ∧ t.xact.unpub = false))) ∧
    (s.eng.xact.unpub = false → exec .mapPublish s = .next (s.to (settle s.start)))) ∧
  (∀ s : State, (tilesUp s.eng = true → s.eng.sns.frameNo ≠ 0 → s.eng.xact.lastRefresh ≠ s.eng.sns.frameNo → ∀ y x e : Engine,
      y = waitD (s.eng.sns.frameD + 4500) s.start → x = { y with xact := { y.xact with lastRefresh := s.eng.sns.frameNo } } →
      e = (if x.xact.unpub = true then publish x else x) →
      exec .conditionRefresh s = .next (s.to (if pinnedNow x = true then mapDefer x else census (each
        (dedup ((e.xact.pub.map (·.1)).filter (fun p => (e.pubPair p).partner < 4096) ++ e.xact.ports.map (·.1))) refreshPort e)))) ∧
    (tilesUp s.eng = false ∨ s.eng.sns.frameNo = 0 ∨ s.eng.xact.lastRefresh = s.eng.sns.frameNo →
      exec .conditionRefresh s = .next (s.to s.start))) ∧
  (∀ (s : State) (x : Engine), x = { s.start with flt := { s.eng.flt with parks := s.eng.flt.parks.filter (livePark s.start) } } →
    (∀ (k : MajorPark) (y : Engine), x.flt.parks.find? (fun k => k.job.isNone) = some k →
      y = { x with flt := { x.flt with parks := x.flt.parks.erase k } } →
      (k.live x = false → exec .majorPark s = .next (s.to (settle y))) ∧
      (k.live x = true → parkHeld x k = true ∨ s.eng.sys.mode = .hold → exec .majorPark s = .next (s.to (settle x))) ∧
      (∀ o : Option Engine, k.live x = true → parkHeld x k = false → s.eng.sys.mode ≠ .hold →
        o = (if s.eng.sys.mode = .schedule then scheduleRepair k.ports x else parkNow k.ports none x) →
        (o = none → exec .majorPark s = .next (s.to (settle y))) ∧
        (∀ n, o = some n → exec .majorPark s = .next (s.to (settle { n with flt := { n.flt with
          parks := n.flt.parks.map (fun z => if z = k then { z with job := some s.eng.xact.nextJob } else z) } }))))) ∧
    (x.flt.parks.find? (fun k => k.job.isNone) = none → exec .majorPark s = .next (s.to (settle x))))

/-- What ARM_POINT and SEGMENT_ARRIVAL answer, in every case. Before the first boundary ARM_POINT wants the play of the start, 4 µs before
its time. Later, with the player playing, it wants at the arm point, after the quiet boundaries that lie before, what follows the last
resolved play: the target of a pending SCH_JUMP, what the play's segment says, or the stop. A segment that arrives in an under-run
continues by the policy: STRETCH shifts the timeline, SKIP walks it; a target that has gone ends the schedule with reason 3, a
segment that fails its checks with reason 4. Otherwise nothing changes (spec/09_schedules.md; the instants at which these rows
come are the model's choice, log 1).
When a row's instant comes, and that a row without its occasion changes nothing, are the model's choice (logs 1 and 2). Where the spec
leaves the rest open: logs 49 and 88. -/
def Obligations.scheduleEventsAct : Prop :=
  (∀ (s : State) (cx : Cx) (whn t : Nat) (p : Play) (x : Engine), s.eng.sch.st = .waitStart → s.eng.sch.nextB = [] →
    s.eng.sch.start = some (cx, whn, t) → s.eng.sch.missing = some p → x = waitD (t - 4000) s.start →
    exec .armPoint s = .next (s.to (wantPlay (some p.pos) none 0 t none
      { x with sch := { s.eng.sch with base := if whn = 2 then 0 else t, missing := none } }))) ∧
  (∀ s : State, s.eng.sch.st = .waitStart → s.eng.sch.nextB = [] → s.eng.sch.start = none ∨ s.eng.sch.missing = none →
    exec .armPoint s = .next (s.to s.start)) ∧
  (∀ (s : State) (p : Play) (t : Nat) (x y : Engine), s.eng.sch.st ≠ .waitStart ∨ s.eng.sch.nextB ≠ [] → s.eng.sch.st ≠ .held →
    playerRuns s.eng = true → s.eng.sch.stopAfter = none → lastPlay s.eng = some p → awaitsEdge s.eng = false →
    x = waitD (armPointAt s.eng p) (passQuiet (armPointAt s.eng p) s.eng.sch.nextB.length s.start) →
    t = boundaryTick x.sch.base p.endE →
    (∀ (cx : Cx) (field : Nat), x.sch.jump = some (cx, field) →
      exec .armPoint s = .next (s.to (wantPlay (some (resolveField x (playingPos x) field)) none p.endE t (some cx)
        { x with sch := { x.sch with jump := none } }))) ∧
    (∀ (q : Nat) (left : Option Nat), x.sch.jump = none → afterPlay p (segOf x p.pos) x = (y, .go q left) →
      exec .armPoint s = .next (s.to (wantPlay (some q) left p.endE t none y))) ∧
    (x.sch.jump = none → afterPlay p (segOf x p.pos) x = (y, .stop) →
      exec .armPoint s = .next (s.to
        { y with sch := { y.sch with nextB := y.sch.nextB ++ [{ play := { p with at_ := t }, stop := true }] } }))) ∧
  (∀ s : State, s.eng.sch.st ≠ .waitStart ∨ s.eng.sch.nextB ≠ [] →
    s.eng.sch.st = .held ∨ playerRuns s.eng = false ∨ s.eng.sch.stopAfter.isSome = true ∨ lastPlay s.eng = none ∨ awaitsEdge s.eng = true →
    exec .armPoint s = .next (s.to s.start)) ∧
  (∀ (s : State) (p : Play), s.eng.sch.st = .held → s.eng.sch.missing = some p →
    (∀ w : SegWords, findSeg s.eng p.pos = .seg w → exec .segmentArrival s = .next (s.to (
      if rdF s.eng Fd.SCH_CTL_POLICY = 1 then stretchFrom p w s.start
      else skipFrom (dNs s.eng) ((dNs s.eng + 6000 - p.at_) / 1990 + 2) p (if p.left = 0 then none else some p.left) s.start))) ∧
    (findSeg s.eng p.pos = .gone → exec .segmentArrival s = .next (s.to (targetGone p.jump (resumePlay s.start)))) ∧
    (findSeg s.eng p.pos = .bad → exec .segmentArrival s = .next (s.to (stopPlayer 4
      (match p.jump with | some cx => complete cx stWrongMode 0 (resumePlay s.start) | none => resumePlay s.start)))) ∧
    (findSeg s.eng p.pos = .absent → exec .segmentArrival s = .next (s.to s.start))) ∧
  (∀ s : State, s.eng.sch.st ≠ .held ∨ s.eng.sch.missing = none → exec .segmentArrival s = .next (s.to s.start))

/-- What SURVEY_END, CAL_SENSOR_END, CAL_PERSIST_DONE, SWEEPER_REBUILD and CACHE_RELOAD_DONE answer, in every case. A survey whose station
frames have begun stages what they measured once the last is over, and completes. A sensor calibration step, once its frames are over, records each
aperture of its range, completes with OK or, where one is rejected, 0x0060 with the counts accepted and rejected, and sets CAL_DONE. A persist leaves the committed stores in flash, or
sets PERSIST_FAIL. A rebuild the sweeper wants puts the entry built anew in place and hands its record to the tile. A reload
leaves the tile the pair it was reloading. Where its condition fails, each changes nothing; a reload that was deferred starts (spec/04_phase_synthesis.md,
spec/06_sensing.md).
When a row's instant comes, and that a row without its occasion changes nothing, are the model's choice (logs 1 and 2). Where the spec
leaves the rest open: logs 33, 34, 35, 75 and 76. -/
def Obligations.calibrationEventsAct : Prop :=
  (∀ (s : State) (gen : Nat) (v : Survey), s.eng.syn.survey = some v → v.ending = true → v.meas ≤ v.frame → gen = s.eng.syn.gen →
    exec (.surveyEnd gen) s = .next (s.to (endSurvey false (each stationDirs stageStation (waitD (s.eng.sns.frameD + 5000) s.start))))) ∧
  (∀ (s : State) (gen : Nat), (∀ v, s.eng.syn.survey = some v → v.ending = false ∨ v.frame < v.meas ∨ gen ≠ s.eng.syn.gen) →
    exec (.surveyEnd gen) s = .next (s.to s.start)) ∧
  (∀ (s : State) (j : CalJob) (x : Engine), s.eng.sns.job = some j → x = waitClk (j.at_ + 5000 * calFrames j.p) s.start →
    ∀ acc : Nat, acc = ((span j.p.first j.p.count).filter (fun a => (calResult x j.p a (j.accOf a)).1 == 0)).length →
    exec (.calSensorEnd j.p.first) s = .next (s.to (note Fd.SNS_CAUSE_CAL_DONE
      (complete j.cx (if acc = j.p.count then stOk else stImplausible) (acc + (j.p.count - acc) * 4294967296)
        (each (span j.p.first j.p.count) (fun a => recordCal j.p a (j.accOf a)) { x with sns := { x.sns with job := none } }))))) ∧
  (∀ (s : State) (n : Nat), (∀ j, s.eng.sns.job = some j → n ≠ j.p.first) → exec (.calSensorEnd n) s = .next (s.to s.start)) ∧
  (∀ (s : State) (k : Nat), s.eng.syn.persist = some k → Goes (.calPersistDone true) s (fun t =>
    t.syn = { s.eng.syn with persist := none, flashAims := s.eng.syn.aims, flashDeltas := s.eng.syn.deltas,
                             flashSensor := s.eng.sns.cal.map (fun x => (x.1, calKept x.2)) })) ∧
  (∀ (s : State) (k : Nat), s.eng.syn.persist = some k → Goes (.calPersistDone false) s (fun t =>
    t.syn = { s.eng.syn with persist := none } ∧ on t Fd.SYN_CAUSE_PERSIST_FAIL = true)) ∧
  (∀ (s : State) (b : Bool), s.eng.syn.persist = none → exec (.calPersistDone b) s = .next (s.to s.start)) ∧
  (∀ (s : State) (p : SweepP) (r : Region) (lo hi : Nat) (x : Engine), sweeps s.eng p.index = true → rebuildWanted s.eng p.index = true →
    r = s.eng.region (idxRegion p.index) → lo = aimRec s.eng.syn.aims r.lo p.index → hi = aimRec s.eng.syn.aims (r.lo + 1) p.index →
    x = whenE (!checkOk lo) aimCrc (whenE (!checkOk hi) aimCrc s.start) → ∀ n : Eff, n = buildEff x.syn.aims x.syn.deltas r p.index →
    exec (.sweeperRebuild p) s = .next (s.to (takeRecord (indexSource p.index) p n.rec_
      (putEff p.index n { x with syn := { x.syn with sweep := x.syn.sweep.filter (· ≠ p.index) } })))) ∧
  (∀ (s : State) (p : SweepP), sweeps s.eng p.index = false ∨ rebuildWanted s.eng p.index = false →
    exec (.sweeperRebuild p) s = .next (s.to s.start)) ∧
  (∀ (s : State) (k lo : Nat) (x : Engine), x = startReloads s.start → (x.tile k).reload = some lo →
    exec (.cacheReloadDone k) s = .next (s.to (updTile k (fun y => { y with pairLo := lo, reload := none }) x))) ∧
  (∀ (s : State) (k : Nat) (x : Engine), x = startReloads s.start → (x.tile k).reload = none →
    exec (.cacheReloadDone k) s = .next (s.to x))

/-- What REFRESH, HEARTBEAT, HEARTBEAT_MISSING, TAKEOVER, FAILBACK, DRILL_END, DRILL_CLAIM_TIMEOUT and SCRUB answer, in every case. The
owner's refresh of a row, its oldest, that the tile takes now writes it, and a non-owner's is counted and writes nothing; during a drill a row that
reaches the abort age ends the drill first. A heartbeat whose self-check passes is noted with its clk and ends the live bit of its silence; of A's heartbeats the 10 s begin again after a gap of 8 µs. One whose self-check
fails takes the sequencer out of service, A's also for the drill under way, and sets UNHEALTHY. Eight µs without the owner's sets HB_LINK where no row is as old as
1.5 P, and without the standby's SILENT. A takeover comes 1 ns after the owner's oldest row reaches 1.5 P and a fail-back after 10 s of A's
heartbeats; each claims every tile for the other,
which has the tile at the end of the row strobe in progress, and an owner taken over is out of service until its island is reset (R108). A drill ends at its dwell or its abort age with its result. Each upset of a SCRUB is corrected in turn.
Where its condition fails, each changes nothing (spec/05_refresh_retention.md, spec/14_registers.md).
When a row's instant comes, and that a row without its occasion changes nothing, are the model's choice (logs 1 and 2). Where the spec
leaves the rest open: logs 21, 32 and 59. -/
def Obligations.refreshEventsAct : Prop :=
  (∀ (s : State) (b shadow : Bool) (a r : Nat) (l : List FsRead) (at_ : Nat) (x : Engine), refreshOn s.eng = true → a < 4100 → r < 80 →
    ownedBy s.eng (if b = true then 2 else 1) (tileOf a) = true → refreshable s.eng a shadow = true → oldestRow s.eng a r shadow = true →
    trimTakes s.eng a r shadow = false → at_ = rowAt s.eng a r shadow → x = waitClk (refreshAt s.eng a at_) s.start →
    (s.eng.rfs.drill = none → exec (.refresh b a r shadow l) s = .next (s.to (refreshRow a r shadow l x))) ∧
    (∀ d, s.eng.rfs.drill = some d → exec (.refresh b a r shadow l) s = .next (s.to (
      if drillA s.eng d = true ∧ ageInstant s.eng (tileOf a) at_ d.abort ≤ refreshAt s.eng a at_
      then endDrill d 1 (waitClk (ageInstant s.eng (tileOf a) at_ d.abort) s.start)
      else drillRow a at_ (fun e => refreshRow a r shadow l (waitClk (refreshAt e a at_) e)) s.start)))) ∧
  (∀ (s : State) (b shadow : Bool) (a r : Nat) (l : List FsRead), refreshOn s.eng = true → a < 4100 → r < 80 →
    ownedBy s.eng (if b = true then 2 else 1) (tileOf a) = true →
    refreshable s.eng a shadow = false ∨ oldestRow s.eng a r shadow = false ∨ trimTakes s.eng a r shadow = true →
    exec (.refresh b a r shadow l) s = .next (s.to s.start)) ∧
  (∀ (s : State) (b shadow : Bool) (a r : Nat) (l : List FsRead), refreshOn s.eng = true → a < 4100 → r < 80 →
    ownedBy s.eng (if b = true then 2 else 1) (tileOf a) = false →
    exec (.refresh b a r shadow l) s = .next (s.to (inc Reg.RFS_NONOWNER_CNT s.start))) ∧
  (∀ (s : State) (b shadow : Bool) (a r : Nat) (l : List FsRead), refreshOn s.eng = false ∨ 4100 ≤ a ∨ 80 ≤ r →
    exec (.refresh b a r shadow l) s = .next (s.to s.start)) ∧
  (∀ (s : State) (b clean : Bool), refreshOn s.eng = true → selfCheck s.eng b clean = true → ∀ g : Option Nat,
    g = (if (ownerIsB s.eng && on s.eng Fd.RFS_CTL_FAILBACK_EN) = true then
      some (if hbArrives s.eng false = true then s.eng.rfs.gapless.getD s.eng.clk else s.eng.clk) else none) →
    exec (.heartbeat b clean) s = .next (s.to (
      setLive (if b = ownerIsB s.eng then Fd.RFS_CAUSE_LIVE_HB_LINK else Fd.RFS_CAUSE_LIVE_SILENT) false { s.start with rfs :=
        if b = true then { s.eng.rfs with hbB := some s.eng.clk } else { s.eng.rfs with hbA := some s.eng.clk, gapless := g } }))) ∧
  (∀ (s : State) (b clean : Bool) (x : Engine), refreshOn s.eng = true → selfCheck s.eng b clean = false →
    x = { s.start with rfs := if b = true then { s.eng.rfs with checkB := s.eng.rfs.checkB && s.eng.rfs.rstB }
                              else
          { s.eng.rfs with
            checkA := s.eng.rfs.checkA && s.eng.rfs.rstA
            drill := s.eng.rfs.drill.map (fun d => { d with aFailed := true }) } } →
    exec (.heartbeat b clean) s = .next (s.to (
      if (if b = true then selfB s.eng else selfA s.eng) = true then note Fd.RFS_CAUSE_UNHEALTHY x else x))) ∧
  (∀ (s : State) (b : Bool) (x y : Engine), refreshOn s.eng = true → x = waitClk (hbFrom s.eng b + 8000) s.start →
    y = (if b = true then x else { x with rfs := { s.eng.rfs with gapless := none } }) →
    (b ≠ ownerIsB s.eng → on s.eng Fd.RFS_CAUSE_LIVE_SILENT = false →
      exec (.heartbeatMissing b) s = .next (s.to (setLive Fd.RFS_CAUSE_LIVE_SILENT true (note Fd.RFS_CAUSE_SILENT y)))) ∧
    (b = ownerIsB s.eng → on s.eng Fd.RFS_CAUSE_LIVE_HB_LINK = false →
      exec (.heartbeatMissing b) s = .next (s.to (if allYounger y (fun _ => true) 1536 = true
        then setLive Fd.RFS_CAUSE_LIVE_HB_LINK true (note Fd.RFS_CAUSE_HB_LINK y) else y))) ∧
    (on s.eng (if b = ownerIsB s.eng then Fd.RFS_CAUSE_LIVE_HB_LINK else Fd.RFS_CAUSE_LIVE_SILENT) = true →
      exec (.heartbeatMissing b) s = .next (s.to s.start))) ∧
  (∀ (s : State) (b : Bool), refreshOn s.eng = false → exec (.heartbeat b true) s = .next (s.to s.start) ∧
    exec (.heartbeat b false) s = .next (s.to s.start) ∧ exec (.heartbeatMissing b) s = .next (s.to s.start) ∧
    exec .takeover s = .next (s.to s.start) ∧ exec .failback s = .next (s.to s.start)) ∧
  (∀ (s : State) (b : Bool) (n : Nat) (x y : Engine), refreshOn s.eng = true → b = ownerIsB s.eng → hbArrives s.eng b = false →
    (if b = true then s.eng.rfs.rstA else s.eng.rfs.rstB) = false →
    firstAged s.eng (ownedBy s.eng (if b = true then 2 else 1)) 1536 = some n →
    x = claimAll (if b = true then 1 else 2) (waitClk (n + 1) s.start) →
    y = setLive Fd.RFS_CAUSE_LIVE_SILENT false (setLive Fd.RFS_CAUSE_LIVE_HB_LINK false x) →
    exec .takeover s = .next (s.to (voidForce (note Fd.RFS_CAUSE_TAKEOVER
      (inc Reg.RFS_TAKEOVER_CNT { y with rfs :=
      if b = true then { y.rfs with gapless := none, checkB := false }
      else { y.rfs with gapless := none, checkA := false } }))))) ∧
  (∀ (s : State) (b : Bool), b = ownerIsB s.eng → hbArrives s.eng b = true ∨ (if b = true then s.eng.rfs.rstA else s.eng.rfs.rstB) = true ∨
    firstAged s.eng (ownedBy s.eng (if b = true then 2 else 1)) 1536 = none → exec .takeover s = .next (s.to s.start)) ∧
  (∀ (b k : Nat) (e : Engine), k < 256 → (claimAll b e).tile k = (e.tile k).claimed e.clk (strobeEnd e k) b) ∧
  (∀ (s : State) (g : Nat), s.eng.rfs.gapless = some g → refreshOn s.eng = true → ownerIsB s.eng = true →
    on s.eng Fd.RFS_CTL_FAILBACK_EN = true → autoOwner s.eng = true → s.eng.rfs.drill = none → selfA s.eng = true →
    ∀ x : Engine, x = waitClk (g + 10000000000) s.start → exec .failback s = .next (s.to (note Fd.RFS_CAUSE_FAILBACK (claimAll 1
      { x with rfs := { x.rfs with gapless := none, hbA := some x.clk, hbB := x.rfs.hbB.map (fun _ => x.clk) } })))) ∧
  (∀ s : State, s.eng.rfs.gapless = none ∨ ownerIsB s.eng = false ∨ on s.eng Fd.RFS_CTL_FAILBACK_EN = false ∨ autoOwner s.eng = false ∨
    s.eng.rfs.drill.isSome = true ∨ selfA s.eng = false → exec .failback s = .next (s.to s.start)) ∧
  (∀ (s : State) (d : Drill) (due : Nat), s.eng.rfs.drill = some d → due = d.at_ + d.dwell * 1000000 →
    exec .drillEnd s = .next (s.to (
      if drillA s.eng d = false then endDrill d 3 (waitClk due s.start)
      else match firstAged s.eng (fun _ => true) d.abort with
        | some w => if w ≤ due then endDrill d 1 (waitClk w s.start) else endDrill d 0 (waitClk due s.start)
        | none => endDrill d 0 (waitClk due s.start)))) ∧
  (∀ s : State, s.eng.rfs.drill = none → exec .drillEnd s = .next (s.to s.start) ∧
    exec .drillClaimTimeout s = .next (s.to s.start)) ∧
  (∀ (s : State) (d : Drill), s.eng.rfs.drill = some d → exec .drillClaimTimeout s = .next (s.to (
    if s.eng.clk ≤ d.at_ + 10000 ∧ drillA s.eng d = true then endDrill d 2 (waitClk (d.at_ + 10000) s.start) else s.start))) ∧
  (∀ (s : State) (l : List Upset), exec (.scrub l) s = .next (s.to (if s.eng.sys.mode = .off then s.start else each l scrubOne s.start)))

/-- What SYNC_IN, SYNC_LOSS, FREE_RUN_FRAME, CONVERSION_DONE and REF_SETTLED answer, in every case. An edge of the pin, with FRAME_SRC at 0, starts a frame
in every tile it reaches that accepts it, which keeps the time of its own edge, and one that comes early to a tile it reaches is counted. A tile without an edge for 10 µs
sets SYNC_LOSS and starts a frame, and then one every 5 µs. The conversions of an aperture, in its turn, are published at its
completion instant; those of a tile's window, row index 4100 and the tile's number, serve its housekeeping and one-shot queue. A settled reference ends its
bank's wait. Where its condition fails, each changes nothing (spec/06_sensing.md; the window's row index is the model's choice, log 80; that an edge in BOOT starts nothing, log 109).
When a row's instant comes, and that a row without its occasion changes nothing, are the model's choice (logs 1 and 2). Where the spec
leaves the rest open: logs 22, 79, 80 and 109. -/
def Obligations.sensingEventsAct : Prop :=
  (∀ (s : State) (l here ok : List Nat) (x y : Engine), on s.eng Fd.SNS_CTL_FRAME_SRC = false → tilesUp s.eng = true → s.eng.sys.mode ≠ .boot →
    here = (List.range 256).filter (fun t => !decide (t ∈ l)) → ok = here.filter (edgeOk s.eng) →
    x = (if here.any (edgeEarly s.eng) = true then note Fd.SNS_CAUSE_SYNC_EARLY (inc Reg.SNS_SYNC_EARLY_CNT s.start) else s.start) →
    y = (if 0 ∈ ok then inc Reg.SNS_FRAME_CNT (each ok acceptEdge x) else each ok acceptEdge x) →
    exec (.syncIn l) s = .next (s.to (if ok = [] then x else fixStart (dNs y) (fixSync (dNs y) (countFrames
      { y with sns := { y.sns with frameNo := y.sns.frameNo + 1, frameD := dNs y } })))) ∧
    (∀ k ∈ ok, k ∉ l ∧ edgeOk s.eng k = true)) ∧
  (∀ (k : Nat) (e : Engine), k < 256 → ((acceptEdge k e).tile k).frameD = dNs e ∧ ((acceptEdge k e).tile k).frameAt = some e.clk) ∧
  (∀ (s : State) (l : List Nat), on s.eng Fd.SNS_CTL_FRAME_SRC = true ∨ tilesUp s.eng = false ∨ s.eng.sys.mode = .boot →
    exec (.syncIn l) s = .next (s.to s.start)) ∧
  (∀ (s : State) (k : Nat) (x : Engine), tilesUp s.eng = true → (s.eng.tile k).lost = false → (s.eng.tile k).islandRst = false →
    x = mark Fd.SNS_CAUSE_SYNC_LOSS (noteTile Fd.TILE_CAUSE_SYNC_LOSS k 0 (waitClk (edgeFrom s.eng k + 10000) s.start)) →
    exec (.syncLoss k) s = .next (s.to (frameStart k false (updTile k (fun y => { y with lost := true }) x)))) ∧
  (∀ (s : State) (k : Nat), tilesUp s.eng = false ∨ (s.eng.tile k).lost = true ∨ (s.eng.tile k).islandRst = true →
    exec (.syncLoss k) s = .next (s.to s.start)) ∧
  (∀ (s : State) (k : Nat), tilesUp s.eng = true → (s.eng.tile k).lost = true → (s.eng.tile k).islandRst = false →
    exec (.freeRunFrame k) s = .next (s.to (frameStart k false
      (waitClk (((s.eng.tile k).frameAt).getD s.eng.clk + 5000) s.start)))) ∧
  (∀ (s : State) (k : Nat), tilesUp s.eng = false ∨ (s.eng.tile k).lost = false ∨ (s.eng.tile k).islandRst = true →
    exec (.freeRunFrame k) s = .next (s.to s.start)) ∧
  (∀ (s : State) (a k f : Nat) (cs : List Conv) (os : Option Conv), a < 4100 → framing s.eng (tileOf a) = some f →
    inTurn s.eng a f = true → exec (.conversionDone a cs k os) s = .next (s.to (publishSamples a f cs s.start))) ∧
  (∀ (s : State) (t k f : Nat) (cs : List Conv) (os : Option Conv), t < 256 → framing s.eng t = some f →
    exec (.conversionDone (4100 + t) cs k os) s = .next (s.to (windowNow t f cs k os s.start))) ∧
  (∀ (s : State) (a k : Nat) (cs : List Conv) (os : Option Conv), (a < 4100 ∧ ∀ f, framing s.eng (tileOf a) = some f → inTurn s.eng a f = false) ∨
    (4100 ≤ a ∧ framing s.eng (a - 4100) = none) ∨ 4356 ≤ a → exec (.conversionDone a cs k os) s = .next (s.to s.start)) ∧
  (∀ (s : State) (k : Nat), unpowered s.eng = false → Goes (.refSettled k) s (fun t =>
    t.bank k = { s.eng.bank k with settling := none, settled := true } ∧ (∀ j, j ≠ k → t.bank j = s.eng.bank j))) ∧
  (∀ (s : State) (k : Nat), unpowered s.eng = true → exec (.refSettled k) s = .next (s.to s.start))

/-- What LOOP_EVALUATION and THERMAL_MEASUREMENT answer, in every case. A due loop takes its turn at its samples' arrival, or 4.50 µs into the frame, no
sooner than 20 ns after the start before it, and 50 ns later it is evaluated; a loop that is disabled is run down instead, once. A group that
is measured takes its readings, in order and no sooner than its interval after the last, with the checks on each, the temperatures and the limits. Otherwise
nothing changes (spec/07_pointing_loops.md, spec/16_thermal_power.md).
When a row's instant comes, and that a row without its occasion changes nothing, are the model's choice (logs 1 and 2). Where the spec
leaves the rest open: logs 58 and 61. -/
def Obligations.evaluationEventsAct : Prop :=
  (∀ (s : State) (a n : Nat) (b : Bool) (res : Residue) (l : List FsRead) (y : Engine), loopDue s.eng a = true →
    n = max (if samplesHere s.eng a b = true then arrivalAt s.eng a else ownFrame s.eng a + 4500) (s.eng.tile (tileOf a)).loopFree →
    y = waitClk (n + 50) (updLoop a (fun z => { z with evalAt := ownFrame s.eng a })
      (updTile (tileOf a) (fun z => { z with loopFree := n + 20 }) s.start)) →
    exec (.loopEvaluation a b res l) s = .next (s.to (
      if loopEn y a = false then
        (if (y.loopOf a).st = .disabled then y else trimPass a (0, 0) (0, 0) res l (updLoop a (fun z => { z with st := .disabled }) y))
      else evaluate a (samplesHere s.eng a b) res l (if (y.loopOf a).st = .disabled then updLoop a Loop.reacquire y else y)))) ∧
  (∀ (s : State) (a : Nat) (b : Bool) (res : Residue) (l : List FsRead), loopDue s.eng a = false →
    exec (.loopEvaluation a b res l) s = .next (s.to s.start)) ∧
  (∀ (s : State) (g : Nat) (l rs : List (Nat × Int)) (ok : List Nat) (x y z w : Engine), measured s.eng g = true →
    x = (match (s.eng.thm.lastAt).getD g none with | some t => waitClk (t + intervalNs s.eng g) s.start | none => s.start) →
    y = { x with thm := { x.thm with lastAt := x.thm.lastAt.set g (some x.clk) } } → rs = groupReadings y g l →
    z = each rs (fun r => sensorRead r.1 r.2) y → ok = (rs.map (·.1)).filter (fun i => !(z.sensor i).failed) →
    w = each ok (fun i e => fastCheck i (if g = 0 ∨ g = 2 then riseCheck i e else e)) z →
    exec (.thermalMeasurement g l) s = .next (s.to (limits g (
      if g = 0 then each ok tileTemp w else if g = 2 then each (List.range 64) regionTemp w else w)))) ∧
  (∀ (s : State) (g : Nat) (l : List (Nat × Int)), measured s.eng g = false →
    exec (.thermalMeasurement g l) s = .next (s.to s.start))

/-- What FEED_LOSS, FEED_RETURN, BROWNOUT, RAIL_COLLAPSE, OVERCURRENT, RAIL_WARN, AUX_LOSS, AUX_RETURN and POWER_LOSS answer, in every
case. The loss of a feed is counted and told while the standby domain has a supply left, and otherwise is the loss of power; its return ends its live bit, the
brownout and the FEED trigger and starts an engine whose rails collapsed. A brownout is told as its event; outside COOLDOWN it is counted, and brakes
where FEED_EN is 1. The collapse of the rails in a brownout takes a powered engine's rails away and, outside LOCKOUT, leaves it in OFF; with no auxiliary supply
it is the loss of power. Each feed keeps whether its current is high, and a begin is told. A rail warning is told, and is kept as met. The loss of an auxiliary
supply is told while the standby domain has a supply left, and otherwise is the loss of power, which leaves the engine in OFF with no supply and the time unit as it
is without power. Where its condition fails, each changes nothing (spec/16_thermal_power.md; the end of an overcurrent as the operand of its row, and a rail
warning's live bit as a free value once one is met, are the model's choice, log 1).
When a row's instant comes, and that a row without its occasion changes nothing, are the model's choice (logs 1 and 2). Where the spec
leaves the rest open: logs 61 and 62. -/
def Obligations.supplyEventsAct : Prop :=
  (∀ e : Engine, standbyOn e = (e.pwr.auxA || e.pwr.auxB ||
    ((e.pwr.feedA || e.pwr.feedB) && !on e Fd.PWR_CAUSE_LIVE_BROWNOUT))) ∧
  (∀ (s : State) (b : Bool) (x : Engine), feedOf s.eng b = true → x = setFeed b false s.start → exec (.feedLoss b) s = .next (s.to (
    if standbyOn x = true then
      setLive (if b = true then Fd.PWR_CAUSE_LIVE_FEED_B_LOSS else Fd.PWR_CAUSE_LIVE_FEED_A_LOSS) true
        (note (if b = true then Fd.PWR_CAUSE_FEED_B_LOSS else Fd.PWR_CAUSE_FEED_A_LOSS) (inc Reg.PWR_FEED_LOSS_CNT x))
    else powerLossNow x))) ∧
  (∀ (s : State) (b : Bool), feedOf s.eng b = false → exec (.feedLoss b) s = .next (s.to s.start)) ∧
  (∀ (s : State) (b : Bool) (x : Engine), unfed s.eng = false →
    x = brakeOff 3 (setLive Fd.PWR_CAUSE_LIVE_BROWNOUT false (setLive
      (if b = true then Fd.PWR_CAUSE_LIVE_FEED_B_LOSS else Fd.PWR_CAUSE_LIVE_FEED_A_LOSS) false (setFeed b true s.start))) →
    exec (.feedReturn b) s = .next (s.to (
      if x.pwr.collapsed = true ∧ x.sys.mode = .off then beginBoot (resetEngine false .rst (darkArray { x with pwr := { x.pwr with collapsed := false } })) else x))) ∧
  (∀ (s : State) (b : Bool), unfed s.eng = true → exec (.feedReturn b) s = .next (s.to (setFeed b true s.start))) ∧
  (∀ (s : State) (x : Engine), s.eng.sys.mode ≠ .off → on s.eng Fd.PWR_CAUSE_LIVE_BROWNOUT = false →
    x = setLive Fd.PWR_CAUSE_LIVE_BROWNOUT true s.start →
    exec .brownout s = .next (s.to (if s.eng.sys.mode = .cooldown then raise Fd.PWR_CAUSE_BROWNOUT x
      else raise Fd.PWR_CAUSE_BROWNOUT (inc Reg.PWR_BROWNOUT_CNT
        (if on x Fd.PWR_BRAKE_EN_FEED_EN = true then trigger 3 x else x))))) ∧
  (∀ s : State, s.eng.sys.mode = .off ∨ on s.eng Fd.PWR_CAUSE_LIVE_BROWNOUT = true →
    exec .brownout s = .next (s.to s.start)) ∧
  (∀ s : State, on s.eng Fd.PWR_CAUSE_LIVE_BROWNOUT = true → unpowered s.eng = false → standbyOn s.eng = false →
    exec .railCollapse s = .next (s.to (powerLossNow s.start))) ∧
  (∀ s : State, on s.eng Fd.PWR_CAUSE_LIVE_BROWNOUT = true → unpowered s.eng = false → standbyOn s.eng = true →
    (s.eng.sys.mode = .lockout → exec .railCollapse s = .next (s.to { s.start with pwr := { s.eng.pwr with rails := false } })) ∧
    (s.eng.sys.mode ≠ .lockout → Goes .railCollapse s (fun t => t.sys.mode = .off ∧ t.pwr.rails = false ∧ t.pwr.collapsed = true ∧
      t.pwr.feedA = s.eng.pwr.feedA ∧ t.pwr.feedB = s.eng.pwr.feedB ∧ t.tim = {}))) ∧
  (∀ s : State, on s.eng Fd.PWR_CAUSE_LIVE_BROWNOUT = false ∨ unpowered s.eng = true →
    exec .railCollapse s = .next (s.to s.start)) ∧
  (∀ (s : State) (l : FeedLoad), exec (.overcurrent l) s = .next (s.to (
    if unfed s.eng = true ∨ feedOf s.eng l.b = false then s.start
    else setOver l.b l.high (if l.high = true then note Fd.PWR_CAUSE_OVERCURRENT s.start else s.start)))) ∧
  (∀ (b v : Bool) (e : Engine), (setOver b v e).pwr = if b = true then { e.pwr with overB := v } else { e.pwr with overA := v }) ∧
  (∀ (s : State) (x : Engine), x = note Fd.PWR_CAUSE_RAIL_WARN s.start → exec .railWarn s = .next (s.to (
    if unpowered s.eng = true then s.start else { x with pwr := { x.pwr with railWarn := true } }))) ∧
  (∀ (s : State) (b : Bool) (x : Engine), auxOf s.eng b = true → x = setAux b false s.start → exec (.auxLoss b) s = .next (s.to (
    if standbyOn x = true then
      setLive Fd.PWR_CAUSE_LIVE_AUX_LOSS true (note Fd.PWR_CAUSE_AUX_LOSS x) else powerLossNow x))) ∧
  (∀ (s : State) (b : Bool), auxOf s.eng b = false → exec (.auxLoss b) s = .next (s.to s.start)) ∧
  (∀ (s : State) (b : Bool) (x : Engine), x = setAux b true s.start → exec (.auxReturn b) s = .next (s.to (
    if unfed x = true then x else setLive Fd.PWR_CAUSE_LIVE_AUX_LOSS (!(x.pwr.auxA && x.pwr.auxB)) x))) ∧
  (∀ s : State, unfed s.eng = false → Goes .powerLoss s (fun t => t.sys.mode = .off ∧ t.pwr.rails = false ∧
    t.pwr.collapsed = false ∧ t.pwr.feedA = false ∧ t.pwr.feedB = false ∧ t.pwr.auxA = false ∧ t.pwr.auxB = false ∧ t.tim = {})) ∧
  (∀ s : State, unfed s.eng = true → exec .powerLoss s = .next (s.to s.start))

/-- What REFCLK_LOST, REF_GOOD and TB_REVERT answer, in every case. The loss of a reference is told, a timebase whose reference is lost gives
way to the other where that is good, and the loss of both is an event of its own; a further loss begins the 100 ms anew, and after 100 ms without a loss a reference is good again; the
engine reverts to PREF's reference once that has been good for 10 s and its island runs. Where its condition fails, each changes nothing (spec/16_thermal_power.md).
When a row's instant comes, and that a row without its occasion changes nothing, are the model's choice (logs 1 and 2). Where the spec
leaves the rest open: log 62. -/
def Obligations.referenceEventsAct : Prop :=
  (∀ (s : State) (b : Bool) (x : Engine), s.eng.sys.mode ≠ .off → refLost s.eng b = false →
    x = tbCheck (setLive (if b = true then Fd.PWR_CAUSE_LIVE_REFCLK_B_LOSS else Fd.PWR_CAUSE_LIVE_REFCLK_A_LOSS) true
      (note (if b = true then Fd.PWR_CAUSE_REFCLK_B_LOSS else Fd.PWR_CAUSE_REFCLK_A_LOSS) (setRef b false s.start))) →
    exec (.refclkLost b) s = .next (s.to (if (x.pwr.lostA && x.pwr.lostB) = true
      then raise Fd.PWR_CAUSE_REFCLK_LOSS (setLive Fd.PWR_CAUSE_LIVE_REFCLK_LOSS true x) else x))) ∧
  (∀ (s : State) (b : Bool), s.eng.sys.mode ≠ .off → refLost s.eng b = true → exec (.refclkLost b) s = .next (s.to (setRef b false s.start))) ∧
  (∀ (s : State) (b : Bool), s.eng.sys.mode = .off → exec (.refclkLost b) s = .next (s.to s.start)) ∧
  (∀ (b good : Bool) (e : Engine), refOk (setRef b good e) b = good ∧ refSince (setRef b good e) b = e.clk) ∧
  (∀ (s : State) (b : Bool), s.eng.sys.mode ≠ .off → refOk s.eng b = false → exec (.refGood b) s = .next (s.to (
    tbCheck (setLive Fd.PWR_CAUSE_LIVE_REFCLK_LOSS false
      (setLive (if b = true then Fd.PWR_CAUSE_LIVE_REFCLK_B_LOSS else Fd.PWR_CAUSE_LIVE_REFCLK_A_LOSS) false
        (setRef b true (waitClk (refSince s.eng b + 100000000) s.start))))))) ∧
  (∀ (s : State) (b : Bool), s.eng.sys.mode = .off ∨ refOk s.eng b = true → exec (.refGood b) s = .next (s.to s.start)) ∧
  (∀ (s : State) (p : Bool), p = on s.eng Fd.PWR_TB_CTL_PREF → s.eng.sys.mode ≠ .off → on s.eng Fd.PWR_TB_CTL_REVERT = true →
    p ≠ s.eng.pwr.tbB → otherTb s.eng = true →
    exec .tbRevert s = .next (s.to (switchTb (waitClk (refSince s.eng p + 10000000000) s.start)))) ∧
  (∀ s : State, s.eng.sys.mode = .off ∨ on s.eng Fd.PWR_TB_CTL_REVERT = false ∨ on s.eng Fd.PWR_TB_CTL_PREF = s.eng.pwr.tbB ∨
    otherTb s.eng = false →
    exec .tbRevert s = .next (s.to s.start))

/-- What WIRE_FAULT, BUS_HANG, HS_ERR, GRAVE_PERSIST and ATN_HOLDOFF_END answer, in every case. A reporter's pair that is found broken is recorded once
as a wire fault of its cause, counted and flagged, and its cause reacted to; every cause bit has one reporter (that of BUS_HANG names its master as the instance, log 63); once it reads good again it is no longer held broken, after 1 µs. A master that hangs is
told as BUS_HANG and held. A tile that stalls sets HS_ERR and freezes. In LOCKOUT an event is told and nothing else is done. The end of the GRAVE record's write clears its busy flag, and a
write that failed is told. The end of a hold-off with a rise in it signals once, where MSI_EN is 1, and begins the next. Where its
condition fails, each changes nothing, but that waiting commands and transactions whose way is clear go on after HS_ERR
(spec/15_faults_attention.md).
When a row's instant comes, and that a row without its occasion changes nothing, are the model's choice (logs 1 and 2). Where the spec
leaves the rest open: logs 57 and 63. -/
def Obligations.faultEventsAct : Prop :=
  (∀ (s : State) (b i c off : Nat) (x : Engine), s.eng.sys.mode ≠ .off → hasReporter b i c = true →
    reporter b i c ∉ s.eng.flt.wires → causeOff b i = some off →
    x = mark Fd.FLT_CAUSE_WIRE (inc Reg.FLT_WIRE_CNT (noteRec (mkRec s.start true b i c (classOf b c) 0) off
      { s.start with flt := { s.eng.flt with wires := s.eng.flt.wires ++ [reporter b i c] } })) →
    exec (.wireFault b i { code := c, ok := false }) s = .next (s.to (wireReact b i c
      (if b = 18 then (match summaryBit c with | some f => mark f x | none => x) else x)))) ∧
  (∀ (s : State) (b i c : Nat), s.eng.sys.mode = .off ∨ hasReporter b i c = false ∨ reporter b i c ∈ s.eng.flt.wires ∨ causeOff b i = none →
    exec (.wireFault b i { code := c, ok := false }) s = .next (s.to s.start)) ∧
  (∀ (s : State) (b i c : Nat), s.eng.sys.mode ≠ .off → reporter b i c ∈ s.eng.flt.wires →
    Goes (.wireFault b i { code := c, ok := true }) s (fun t => t.clk = s.eng.clk + 1000 ∧
      t.flt = { s.eng.flt with wires := s.eng.flt.wires.filter (· ≠ reporter b i c) } ∧ t.regs = s.eng.regs)) ∧
  (∀ (s : State) (b i c : Nat), s.eng.sys.mode = .off ∨ reporter b i c ∉ s.eng.flt.wires →
    exec (.wireFault b i { code := c, ok := true }) s = .next (s.to s.start)) ∧
  (∀ (s : State) (m a : Nat), unpowered s.eng = false → m < 8 → masterHeld s.eng m = false →
    exec (.busHang m a) s = .next (s.to (
      if s.eng.sys.mode = .lockout then raiseD Fd.FLT_CAUSE_BUS_HANG m (a % 4294967296) s.start
      else holdMaster m (raiseD Fd.FLT_CAUSE_BUS_HANG m (a % 4294967296) s.start)))) ∧
  (∀ (s : State) (m a : Nat), unpowered s.eng = true ∨ 8 ≤ m ∨ masterHeld s.eng m = true →
    exec (.busHang m a) s = .next (s.to s.start)) ∧
  (∀ (m : Nat) (e : Engine), m < 8 → masterHeld (holdMaster m e) m = true) ∧
  (∀ (s : State) (k : Nat) (x : Engine), unpowered s.eng = false → k < 256 → (s.eng.tile k).hsStall = false →
    x = updTile k (fun y => { y with hsStall := true })
      (setLive (tileCause Fd.TILE_CAUSE_LIVE_HS_ERR k) true (noteTile Fd.TILE_CAUSE_HS_ERR k 0 s.start)) →
    exec (.hsErr k) s = .next (s.to (settle (if s.eng.sys.mode = .lockout then x else freezeTile k x)))) ∧
  (∀ (s : State) (k : Nat), unpowered s.eng = true ∨ 256 ≤ k ∨ (s.eng.tile k).hsStall = true →
    exec (.hsErr k) s = .next (s.to (settle s.start))) ∧
  (∀ s : State, s.eng.flt.graveBusy = true →
    exec (.gravePersist true) s = .next (s.to { s.start with flt := { s.eng.flt with graveBusy := false } }) ∧
    exec (.gravePersist false) s = .next (s.to
      (note Fd.FLT_CAUSE_GRAVE_NV_FAIL { s.start with flt := { s.eng.flt with graveBusy := false } }))) ∧
  (∀ (s : State) (b : Bool), s.eng.flt.graveBusy = false → exec (.gravePersist b) s = .next (s.to s.start)) ∧
  (∀ (s : State) (x : Engine), s.eng.flt.risePend = true → x = waitClk s.eng.flt.holdUntil s.start →
    ∀ y : Engine, y = { x with flt := { x.flt with risePend := false, holdUntil := x.clk + 1000 * rdF x Fd.ATN_CTL_HOLDOFF } } →
    exec .atnHoldoffEnd s = .next (s.to (if on y Fd.ATN_CTL_MSI_EN = true then signalMsix 0 0 y else y))) ∧
  (∀ s : State, s.eng.flt.risePend = false → exec .atnHoldoffEnd s = .next (s.to s.start))

/-- What SNAPSHOT_PULSE, GENERATION_READABLE and NVR_PROGRAM_DONE answer, in every case. The pulse comes at the tick of the first request that waits, with none
latched and on a powered engine: the islands latch a generation one above the last and it answers that one request, an AT that is due or the first NOW; the others
wait on. The generation that is latched becomes readable, after a COUNTERS copy in progress, and its request is answered; of those that wait on, an AT whose tick is past asks for the next tick and a NOW for the
one after it, or for the next where no AT does. A programming
ends 20 µs after its start and counts one wear; one whose verify passed keeps its word and warns at 95,000, and one that failed sets PROG_FAIL. Without a request, a latched generation or a
programming they change nothing (spec/14_registers.md; one generation for each request, and the time of a copy, are the model's choice, log 90).
When a row's instant comes, and that a row without its occasion changes nothing, are the model's choice (logs 1 and 2). Where the spec
leaves the rest open: logs 15, 66 and 90. -/
def Obligations.snapshotEventsAct : Prop :=
  (∀ (s : State) (u : Nat) (x : Engine), snapTick s.eng = some u → x = waitD u s.start → Goes .snapshotPulse s (fun t =>
    t.snap.latched = some (latch x) ∧ (latch x).gen = (s.eng.snap.cur.gen + 1) % 4294967296 ∧ t.clk = x.clk ∧
    (atGoes x = true → t.snap.atPend = none ∧ t.snap.nowWait = s.eng.snap.nowWait ∧
      t.snap.serving = s.eng.snap.atPend.toList.map (fun p => some p.1)) ∧
    (atGoes x = false → t.snap.atPend = s.eng.snap.atPend ∧ t.snap.nowWait = s.eng.snap.nowWait.tail ∧
      t.snap.serving = s.eng.snap.nowWait.take 1))) ∧
  (∀ s : State, snapTick s.eng = none → exec .snapshotPulse s = .next (s.to s.start)) ∧
  (∀ (s : State) (sh : Shadows) (x : Engine), s.eng.snap.latched = some sh → x = waitClk s.eng.snap.copyTo s.start →
    exec .generationReadable s = .next (s.to (
      each s.eng.snap.serving (fun c e => match c with | some cx => complete cx stOk sh.gen e | none => e)
        (askAgain { x with snap := { s.eng.snap with cur := sh, latched := none, serving := [] } })))) ∧
  (∀ (e : Engine) (u : Nat) (late : Bool), u = tickAfter (dNs e) → late = (e.snap.atPend.isSome && decide (e.snap.atTick < u)) →
    (askAgain e).snap = { e.snap with atTick := if late = true then u else e.snap.atTick, nowAt := if late = true then u + 10 else u }) ∧
  (∀ s : State, s.eng.snap.latched = none → exec .generationReadable s = .next (s.to s.start)) ∧
  (∀ (s : State) (off : Nat) (v : Word), s.eng.nvr.busy = some (off, v) → Goes (.nvrProgramDone true) s (fun t =>
    t.nvr.busy = none ∧ wearOf t off = wearOf s.eng off + 1 ∧ Tbl.get (fun _ => 0) t.nvr.stored off = v ∧
    t.clk = max s.eng.clk (s.eng.nvr.busyAt + 20000) ∧ (wearOf s.eng off = 94999 → on t Fd.NVR_CAUSE_WEAR_WARN = true))) ∧
  (∀ (s : State) (off : Nat) (v : Word), s.eng.nvr.busy = some (off, v) → Goes (.nvrProgramDone false) s (fun t =>
    t.nvr.busy = none ∧ wearOf t off = wearOf s.eng off + 1 ∧ t.nvr.stored = s.eng.nvr.stored ∧
    t.clk = max s.eng.clk (s.eng.nvr.busyAt + 20000) ∧ on t Fd.NVR_CAUSE_PROG_FAIL = true)) ∧
  (∀ (s : State) (b : Bool), s.eng.nvr.busy = none → exec (.nvrProgramDone b) s = .next (s.to s.start))

/-- What the mailbox rows TIME, TIME_SLOT, TIME_SET, TSQ, XACT_EPOCH, XACT_MAP_EPOCH, DMA_FAULT, SNAP_INFO, SNAP_REG and CNT_PRESET
answer, in every case, of a requester whose mailbox takes operations. A read selector answers its words; TIME_SET sets the time or shows error 4; CNT_PRESET
sets the counter of its index and no other register. A direction the selector does not have shows error 1, a selector that a virtual function may not use
3, an index out of range 2, and another domain's fault record 3, and none of these changes anything but the mailbox. A row that finds an operation in progress, one that a register write started, is discarded
with MBX_COLLIDE (log 18). A mailbox that takes no operations is left as it is (spec/14_registers.md; a row as one whole operation is the model's
choice, log 1).
When a row's instant comes, and that a row without its occasion changes nothing, are the model's choice (logs 1 and 2). Where the spec
leaves the rest open: logs 18 and 19. -/
def Obligations.mailboxRowsAct : Prop :=
  (∀ (c : Rq → Bool → Nat → List Word → Instr) (sel : Nat) (r : Engine → Nat → List Word) (s : State) (rq : Rq) (i : Nat) (d : List Word),
    (c, sel, r) ∈ [(Instr.time, 1, fun e _ => timeRead e), (.timeSlot, 2, timeSlotRead),
      (.tsq, 4, fun e i => match e.tim.tsq[i]? with | some t => tsWords t | none => []),
      (.xactEpoch, 0x10, fun e _ => twoWords e.xact.epoch), (.xactMapEpoch, 0x11, fun e _ => twoWords e.xact.pubEpoch),
      (.dmaFault, 0x20, fun e i => if faultRec e i = {} then [] else (faultRec e i).words i),
      (.snapInfo, 0x30, fun e _ => snapInfoWords e),
      (.snapReg, 0x31, fun e i => (List.range 8).map (fun k =>
        if isCounter (i + 4 * k) = true then Tbl.get (fun _ => 0) e.snap.cur.counters (i + 4 * k) else 0))] →
    mbxOpen s.eng rq = true → (s.eng.mbxOf (rqNum rq)).busy = false → i < 4294967296 → idxOk s.eng sel i = true →
    (rqNum rq < 16 ∨ (vfMay sel = true ∧ (sel ≠ 0x20 ∨ faultRec s.eng i = {} ∨ (faultRec s.eng i).dom = rqNum rq - 16))) →
    Goes (c rq false i d) s (fun t => t.mbxOf (rqNum rq) =
      { s.eng.mbxOf (rqNum rq) with
        sel := sel, idx := i, write := false, data := pad8 (r s.eng i), busy := false, valid := true, err := 0,
        gen := if sel = 0x30 ∨ sel = 0x31 then s.eng.snap.cur.gen % 65536 else 0 } ∧
      t.regs = s.eng.regs ∧ t.tim = s.eng.tim ∧ t.out = [])) ∧
  (∀ (s : State) (rq : Rq) (d : List Word) (x : Engine) (p : Engine × Bool), mbxOpen s.eng rq = true →
    (s.eng.mbxOf (rqNum rq)).busy = false → rqNum rq < 16 →
    x = updMbx (rqNum rq) (fun m => { m with sel := 3, idx := 0, write := true, data := pad8 d, busy := true, valid := false, err := 0, gen := 0 }) s.start →
    p = timeSet (pad8 d) x →
    exec (.timeSet rq true 0 d) s = .next (s.to (updMbx (rqNum rq) (fun m => m.done (if p.2 = true then 0 else 4) 0 m.data) p.1))) ∧
  (∀ (s : State) (rq : Rq) (i : Nat) (d : List Word), mbxOpen s.eng rq = true → (s.eng.mbxOf (rqNum rq)).busy = false →
    rqNum rq < 16 → i < 4294967296 → isCounter i = true →
    Goes (.cntPreset rq true i d) s (fun t => rd t i = wordAt (pad8 d) 0 ∧ (∀ o, o ≠ i → rd t o = rd s.eng o) ∧
      t.mbxOf (rqNum rq) = { s.eng.mbxOf (rqNum rq) with
        sel := 0x32, idx := i, write := true, data := pad8 d, busy := false, valid := true, err := 0, gen := 0 })) ∧
  (∀ (c : Rq → Bool → Nat → List Word → Instr) (sel : Nat) (s : State) (rq : Rq) (w : Bool) (i : Nat) (d : List Word),
    (c, sel) ∈ [(Instr.time, 1), (.timeSlot, 2), (.timeSet, 3), (.tsq, 4), (.xactEpoch, 0x10), (.xactMapEpoch, 0x11),
      (.dmaFault, 0x20), (.snapInfo, 0x30), (.snapReg, 0x31), (.cntPreset, 0x32)] →
    (mbxOpen s.eng rq = false → exec (c rq w i d) s = .next (s.to s.start)) ∧
    (mbxOpen s.eng rq = true → (s.eng.mbxOf (rqNum rq)).busy = true → exec (c rq w i d) s = .next (s.to (
      note Fd.REG_CAUSE_MBX_COLLIDE s.start))) ∧
    (mbxOpen s.eng rq = true → (s.eng.mbxOf (rqNum rq)).busy = false → selDir sel ≠ some w →
      Goes (c rq w i d) s (fun t => (t.mbxOf (rqNum rq)).err = 1 ∧ (t.mbxOf (rqNum rq)).valid = true ∧
        (t.mbxOf (rqNum rq)).busy = false ∧ Unchanged [.mbx, .out] s.eng t)) ∧
    (mbxOpen s.eng rq = true → (s.eng.mbxOf (rqNum rq)).busy = false → selDir sel = some w →
      (∀ k, rqNum rq = 16 + k → vfMay sel = true) → idxOk s.eng sel (i % 4294967296) = false →
      Goes (c rq w i d) s (fun t => (t.mbxOf (rqNum rq)).err = 2 ∧ (t.mbxOf (rqNum rq)).valid = true ∧
        (t.mbxOf (rqNum rq)).busy = false ∧ Unchanged [.mbx, .out] s.eng t)) ∧
    (∀ k, mbxOpen s.eng rq = true → (s.eng.mbxOf (rqNum rq)).busy = false → selDir sel = some w → rqNum rq = 16 + k →
      vfMay sel = false ∨ (sel = 0x20 ∧ i < 64 ∧ faultRec s.eng i ≠ {} ∧ (faultRec s.eng i).dom ≠ k) →
      Goes (c rq w i d) s (fun t => (t.mbxOf (rqNum rq)).err = 3 ∧ (t.mbxOf (rqNum rq)).valid = true ∧
        (t.mbxOf (rqNum rq)).busy = false ∧ Unchanged [.mbx, .out] s.eng t)))

/-- What TOKEN, TOKEN_HOLD_END, SHAPER_REFILL, TRT_EXPIRY, CLAIM and CLAIM_TIMEOUT answer, in every case. A token or a claim is a frame of the ring: one of
the station's own address is stripped and counted and then acted on, once the frames that the transmitters have room for are out, one of another with TTL 0 or 1 counts as an orphan. A repeater forwards either. The
station takes a token unless it is claiming, and its transmitters run: a transit frame goes first, then an own frame of the token's ring while the holding time lasts (with 0, one), and then the token
itself; it passes a higher bid on, answers a lower with its own claim, and its own claim
coming back, on either ring, wins; its own bid with a nonce it does not use shows a duplicate address. The end of the hold runs the transmitters,
frame after frame, until the token has gone on; a timer that runs out starts a claim; a refill of the buckets lets what may be sent in point-to-point mode go. Where its condition fails, each changes
nothing (spec/12_leat_ring.md; who strips and who issues a token is the model's choice, log 51).
When a row's instant comes, and that a row without its occasion changes nothing, are the model's choice (logs 1 and 2). Where the spec
leaves the rest open: logs 50 and 51. -/
def Obligations.tokenEventsAct : Prop :=
  (∀ (s : State) (b : Bool) (o : Origin) (g bid n : Nat), p2p s.eng = true ∨ hears s.eng b = false →
    exec (.token b { gen := g, src := o }) s = .next (s.to s.start) ∧ exec (.claim b bid o n) s = .next (s.to s.start)) ∧
  (∀ (s : State) (b : Bool) (o : Origin) (g bid n : Nat) (f c : Frame) (y : Engine), p2p s.eng = false → hears s.eng b = true →
    y = ringRun s.start → p2p y = false →
    f = ctlFrom o 1 b (leBytes 2 g) → c = ctlFrom o 2 b (leBytes 1 bid ++ [0] ++ leBytes 4 n) →
    (o.sa = ownMac y → isRepeater y = false →
      exec (.token b { gen := g, src := o }) s = .next (s.to (tokenIn b f (inc Reg.LRG_STRIP_CNT y))) ∧
      exec (.claim b bid o n) s = .next (s.to (claimIn b c (inc Reg.LRG_STRIP_CNT y)))) ∧
    (o.sa ≠ ownMac y ∨ isRepeater y = true → o.ttl ≤ 1 →
      exec (.token b { gen := g, src := o }) s = .next (s.to (inc Reg.LRG_ORPHAN_CNT y)) ∧
      exec (.claim b bid o n) s = .next (s.to (inc Reg.LRG_ORPHAN_CNT y))) ∧
    (o.sa ≠ ownMac y ∨ isRepeater y = true → 1 < o.ttl →
      exec (.token b { gen := g, src := o }) s = .next (s.to (tokenIn b f y)) ∧
      exec (.claim b bid o n) s = .next (s.to (claimIn b c y))) ∧
    claimBid c = bid % 256 * 281474976710656 + o.sa ∧ claimNonce c = n % 4294967296) ∧
  (∀ (b : Bool) (f : Frame) (e x : Engine), (isRepeater e = true → tokenIn b f e = forwardFrame b f e) ∧
    (isRepeater e = false → (ringOf e b).claiming = true → tokenIn b f e = e) ∧
    (isRepeater e = false → (ringOf e b).claiming = false →
      x = updRing b (fun r => { r with tokenAt := e.clk, gen := fieldOf f.payload 0 2, token := some { at_ := e.clk, f := f } })
        { e with lrg := { e.lrg with gen := fieldOf f.payload 0 2, operational := true } } →
      tokenIn b f e = ringRun x)) ∧
  (∀ (b tx : Bool) (t : Nat) (k : HeldToken) (e : Engine), serve b tx t k e =
    match (if mayStart e k t = true then pickQueue (fun f => f.onRing b && decide (f.at_ ≤ t)) e else none) with
    | none => passToken b e
    | some q => sendHead q tx b t (updRing b (fun r => { r with token := some { k with sent := k.sent + 1 } }) e)) ∧
  (∀ (e : Engine) (k : HeldToken) (t : Nat), mayStart e k t =
    if rdF e Fd.LRG_THT_THT = 0 then k.sent == 0 else decide (t - k.at_ < rdF e Fd.LRG_THT_THT * 1000)) ∧
  (∀ (tx : Bool) (t : Nat) (x : Transit) (l : List Transit) (e : Engine), (ringOf e tx).transit = x :: l →
    txNext tx t e = some (startTx tx t x (updRing tx (fun r => { r with transit := l }) e))) ∧
  (∀ (b : Bool) (f : Frame) (e : Engine), (isRepeater e = true → claimIn b f e = forwardFrame b f e) ∧
    (isRepeater e = false → ownBid e < claimBid f → ∀ x : Engine, x = awaitToken (endClaim b (oneLoop e b f) e) →
      claimIn b f e = if f.sa = ownMac x then x else forwardFrame b f x) ∧
    (isRepeater e = false → claimBid f < ownBid e →
      claimIn b f e = if (ringOf e b).claiming = true then sendClaim b e else startClaim b e) ∧
    (isRepeater e = false → claimBid f = ownBid e → claimIn b f e =
      if claimOut e b (claimNonce f) = true then claimWon b (oneLoop e b f) e
      else if claimOut e (!b) (claimNonce f) = true then claimWon (!b) true e
      else if claimNonce f = (ringOf e b).nonce ∨ claimNonce f = (ringOf e (!b)).nonce then e
      else dupFound b e)) ∧
  (∀ (b : Bool) (e : Engine), (dupFound b e).lrg.dupMac = true ∧ (dupFound b e).lrg.a.claiming = false ∧ (dupFound b e).lrg.b.claiming = false) ∧
  (∀ (s : State) (b : Bool),
    exec (.tokenHoldEnd b) s = .next (s.to (holdOut b (queued s.eng + (ringOf s.eng (txOf s.eng b)).transit.length + 3) (ringRun s.start)))) ∧
  (∀ (b : Bool) (n : Nat) (e : Engine), holdOut b (n + 1) e = if (ringOf e b).token = none then e
    else holdOut b n (ringRun (waitClk ((ringOf e (txOf e b)).txEnd.getD e.clk) e))) ∧
  (∀ s : State, exec .shaperRefill s = .next (s.to (if unpowered s.eng = true then s.start else ringRun (shapeCatch
    (if s.eng.clk / 1000 ≤ s.eng.lrg.shapeUs then waitClk ((s.eng.lrg.shapeUs + 1) * 1000) s.start else s.start))))) ∧
  (∀ (s : State) (b : Bool) (tmo : Nat), tmo = rdF s.eng Fd.LRG_TRT_TRT_TMO →
    exec (.trtExpiry b) s = .next (s.to (
      if p2p s.eng = true ∨ s.eng.lrg.inserted = false ∨ isRepeater s.eng = true ∨ (ringOf s.eng b).claiming = true ∨ tmo = 0 then s.start
      else startClaim b (waitClk ((ringOf s.eng b).tokenAt + 1000 * tmo) s.start))) ∧
    exec (.claimTimeout b) s = .next (s.to (
      if (ringOf s.eng b).claiming = false ∨ tmo = 0 then s.start
      else startClaim b (waitClk ((ringOf s.eng b).claimAt + 2000 * tmo) s.start))))

/-- What HELLO_SEND, HELLO, LINK_DOWN, LINK_UP, BLOCK_LOCK and PRIMARY_RETURN answer, in every case. Hellos leave an inserted station in ring mode at
the next multiple of 100 µs, once at each. A hello is noted, and the ring opposite is wrapped where the neighbour does not hear the station; otherwise a ring whose conditions
hold is unwrapped. A link that fails goes down at its instant, with LINK_DOWN, and a ring station wraps, or a point-to-point station moves from link A to the
other; one that is down already only loses its lock, and a point-to-point link fails only by its lock. A link whose conditions have held for 10 ms comes up.
Lock is noted, with its clk where hellos come. The primary link is used again 1 s after it came up. Where its condition fails, each changes nothing
(spec/12_leat_ring.md; the operand that names the cause of a LINK_DOWN is the model's choice, log 51).
When a row's instant comes, and that a row without its occasion changes nothing, are the model's choice (logs 1 and 2). Where the spec
leaves the rest open: log 51. -/
def Obligations.linkEventsAct : Prop :=
  (∀ s : State, exec .helloSend s = .next (s.to (if p2p s.eng = true ∨ s.eng.lrg.inserted = false then s.start
    else sendHellos { waitClk (helloDue s.eng) s.start with lrg :=
      { s.eng.lrg with helloSent := some (waitClk (helloDue s.eng) s.start).clk } }))) ∧
  (∀ (e : Engine) (t : Nat), t = (e.clk + 99999) / 100000 * 100000 → helloDue e =
    match e.lrg.helloSent with | some h => if t ≤ h then h + 100000 else t | none => t) ∧
  (∀ (s : State) (b ra rb fresh : Bool) (x : Engine), p2p s.eng = false → hears s.eng b = true →
    fresh = hellosTo s.eng b s.eng.clk →
    x = updRing (!b) (fun r => { r with heard := if b = true then ra else rb }) (updRing b (fun r =>
      { r with helloAt := some s.eng.clk,
               goodAt := if (fresh && r.goodAt.isSome) = true then r.goodAt else some s.eng.clk }) s.start) →
    exec (.hello b ra rb) s = .next (s.to (
      if (if b = true then ra else rb) = false then wrapRing (!b) x else tryUnwrap false (tryUnwrap true x)))) ∧
  (∀ (s : State) (b ra rb : Bool), p2p s.eng = true ∨ hears s.eng b = false → exec (.hello b ra rb) s = .next (s.to s.start)) ∧
  (∀ (s : State) (b lock : Bool) (x y z : Engine), s.eng.lrg.inserted = true → p2p s.eng = false ∨ lock = true →
    (ringOf s.eng b).rxUp = true → x = (if lock = true then loseLock b s.start else s.start) →
    y = waitClk (downAt x (ringOf x b)) x →
    z = note Fd.LRG_CAUSE_LINK_DOWN (updRing b (fun r => { r with rxUp := false, goodAt := none }) y) →
    exec (.linkDown { onB := b, lock := lock }) s = .next (s.to (
      if p2p z = true then (if b = true then z else ringRun { z with lrg := { z.lrg with secondary := true, primaryAt := none } })
      else wrapRing b z))) ∧
  (∀ (s : State) (b lock : Bool), s.eng.lrg.inserted = true → p2p s.eng = false ∨ lock = true → (ringOf s.eng b).rxUp = false →
    exec (.linkDown { onB := b, lock := lock }) s = .next (s.to (if lock = true then loseLock b s.start else s.start))) ∧
  (∀ (s : State) (b lock : Bool), s.eng.lrg.inserted = false ∨ (p2p s.eng = true ∧ lock = false) →
    exec (.linkDown { onB := b, lock := lock }) s = .next (s.to s.start)) ∧
  (∀ (s : State) (b : Bool) (g : Nat) (x y : Engine), s.eng.lrg.inserted = true → (ringOf s.eng b).rxUp = false →
    (ringOf s.eng b).lock = true → (ringOf s.eng b).goodAt = some g → hellosTo s.eng b (max s.eng.clk (g + 10000000)) = true →
    x = waitClk (g + 10000000) s.start → y = updRing b (fun r => { r with rxUp := true }) x →
    exec (.linkUp b) s = .next (s.to (
      if p2p y = true then ringRun (if b = true then y else { y with lrg := { y.lrg with primaryAt := some y.clk } })
      else tryUnwrap b y))) ∧
  (∀ (s : State) (b : Bool), s.eng.lrg.inserted = false ∨ (ringOf s.eng b).rxUp = true ∨ (ringOf s.eng b).lock = false ∨
    (∀ g, (ringOf s.eng b).goodAt = some g → hellosTo s.eng b (max s.eng.clk (g + 10000000)) = false) →
    exec (.linkUp b) s = .next (s.to s.start)) ∧
  (∀ (s : State) (b : Bool), s.eng.lrg.inserted = true → (ringOf s.eng b).lock = false → Goes (.blockLock b) s (fun t =>
    ringOf t b = { ringOf s.eng b with lock := true, goodAt := if hellosTo s.eng b s.eng.clk = true then some s.eng.clk else none } ∧
    ringOf t (!b) = ringOf s.eng (!b))) ∧
  (∀ (s : State) (b : Bool), s.eng.lrg.inserted = false ∨ (ringOf s.eng b).lock = true →
    exec (.blockLock b) s = .next (s.to s.start)) ∧
  (∀ (s : State) (t : Nat) (x : Engine), s.eng.lrg.primaryAt = some t → p2p s.eng = true → s.eng.lrg.inserted = true →
    s.eng.lrg.secondary = true → s.eng.lrg.a.rxUp = true → x = waitClk (t + 1000000000) s.start →
    exec .primaryReturn s = .next (s.to (ringRun { x with lrg := { x.lrg with secondary := false, primaryAt := none } }))) ∧
  (∀ s : State, s.eng.lrg.primaryAt = none ∨ p2p s.eng = false ∨ s.eng.lrg.inserted = false ∨ s.eng.lrg.secondary = false ∨
    s.eng.lrg.a.rxUp = false → exec .primaryReturn s = .next (s.to s.start))

/-- What PAUSE, PAUSE_EXPIRY, PAUSE_REPEAT and PAUSE_RELEASE answer, in every case. A PAUSE that reaches the station holds its own frames for 20.48 ns a quantum,
or with 0 quanta lets them go: on a link where its address is the station's or the reserved one, on a ring where it is the station's, from a rostered
station, and the frame goes on; on a ring one with the reserved address counts as an orphan, one of the station's own address is stripped, one with TTL 0 or 1 is an
orphan, a stranger's counts and goes on unless STRIP_STRANGER is 1, one for another goes on, and a repeater forwards it. The end of
the time lets the frames go. While the buffer is above the low mark the station repeats its PAUSE to those it paused, each at half its
time, and at the low mark it releases them; a repeater, a station that is not inserted and one whose high mark is 0 send none. Where its condition fails, each changes nothing (spec/12_leat_ring.md).
When a row's instant comes, and that a row without its occasion changes nothing, are the model's choice (logs 1 and 2). Where the spec
leaves the rest open: log 51. -/
def Obligations.pauseEventsAct : Prop :=
  (∀ (s : State) (p : PauseIn) (q : Nat), hears s.eng p.onB = false → exec (.pause p q) s = .next (s.to s.start)) ∧
  (∀ (s : State) (p : PauseIn) (q : Nat) (y : Engine), hears s.eng p.onB = true → y = ringRun s.start → p2p y = true →
    exec (.pause p q) s = .next (s.to (if pauseFor y p.da = true then pauseApply (q % 65536) y else y))) ∧
  (∀ (s : State) (p : PauseIn) (q : Nat) (f : Frame) (x y : Engine), hears s.eng p.onB = true → y = ringRun s.start → p2p y = false →
    f = { da := p.da, sa := p.sa, ttl := p.ttl, eth := 0x8808, payload := pauseBytes q } → x = stranger y →
    exec (.pause p q) s = .next (s.to (
      if p.sa = ownMac y ∧ isRepeater y = false then inc Reg.LRG_STRIP_CNT y
      else if p.ttl ≤ 1 then inc Reg.LRG_ORPHAN_CNT y
      else if isRepeater y = true then forwardFrame p.onB f y
      else if rosterFrom y p.sa = none then (if on x Fd.LRG_CTL_STRIP_STRANGER = true then x else forwardFrame p.onB f x)
      else if p.da = ownMac y then forwardFrame p.onB f (pauseApply (q % 65536) y)
      else if p.da = pauseMac then inc Reg.LRG_ORPHAN_CNT y
      else forwardFrame p.onB f y))) ∧
  (∀ (q : Nat) (e x : Engine), x = inc Reg.LRG_PAUSE_RX_CNT e → pauseApply q e =
    if q = 0 then ringRun { x with lrg := { x.lrg with pauseTo := none } }
    else { x with lrg := { x.lrg with pauseTo := some (e.clk + (q * 2048 + 99) / 100) } }) ∧
  (∀ (s : State) (t : Nat) (x : Engine), s.eng.lrg.pauseTo = some t → x = waitClk t s.start →
    exec .pauseExpiry s = .next (s.to (ringRun { x with lrg := { x.lrg with pauseTo := none } }))) ∧
  (∀ s : State, s.eng.lrg.pauseTo = none → exec .pauseExpiry s = .next (s.to s.start)) ∧
  (∀ (s : State) (p : Paused) (l : List Paused) (x : Engine) (due : Paused → Bool), s.eng.lrg.pausedBy = p :: l →
    s.eng.lrg.above = true → lwm s.eng < s.eng.lrg.used → pauses s.eng = true →
    x = waitClk (((p :: l).map (fun p => p.at_ + halfPause s.eng)).foldl min (p.at_ + halfPause s.eng)) s.start →
    due = (fun p => decide (p.at_ + halfPause x ≤ x.clk)) →
    exec .pauseRepeat s = .next (s.to (each (x.lrg.pausedBy.filter due) (sendPause (rdF x Fd.LRG_PAUSE_QUANTA))
      { x with lrg := { x.lrg with pausedBy := x.lrg.pausedBy.map (fun p => if due p = true then { p with at_ := x.clk } else p) } }))) ∧
  (∀ s : State, s.eng.lrg.pausedBy = [] ∨ pauses s.eng = false ∨ s.eng.lrg.above = false ∨ s.eng.lrg.used ≤ lwm s.eng →
    exec .pauseRepeat s = .next (s.to s.start)) ∧
  (∀ s : State, exec .pauseRelease s = .next (s.to (if s.eng.lrg.above = false ∨ lwm s.eng < s.eng.lrg.used then s.start
    else each s.eng.lrg.pausedBy (sendPause 0) { s.start with lrg := { s.eng.lrg with above := false, pausedBy := [] } }))) ∧
  (∀ (q : Nat) (p : Paused) (e : Engine), pauses e = false → sendPause q p e = e) ∧
  (∀ e : Engine, pauses e = (rdF e Fd.LRG_PAUSE_HWM != 0 && !isRepeater e && e.lrg.inserted))

/-- What RING_FRAME and COMMAND_FRAME answer, in every case. A frame outside 64 to 2,000 bytes, or on a receiver that hears nothing, is dropped. At any other the transmitters first send what they have room for by then. On a link a
damaged frame is an orphan, a PAUSE is acted on, a stranger's is counted and a rostered station's goes to the time unit or is copied. On a ring a
frame of the station's own address is stripped and counted, and its own token or claim acted on; a reserved TYPE, TTL 0 or 1 or a damaged frame is an orphan; a
control frame follows its rule; a repeater forwards DATA frames; a stranger's DATA is counted, and forwarded unless STRIP_STRANGER is 1; a rostered station's is copied where it is for
this one, or goes to the time unit, and is forwarded, with R281 for a PAUSE. COMMAND_FRAME is RING_FRAME for a DATA frame of EtherType 0x88B5 for the station, and
otherwise changes nothing. A copied frame that fails its 802.1AE checks is counted; one that passes goes to its hopper, to the host, or nowhere, by its type and
its roster entry (spec/12_leat_ring.md).
When a row's instant comes, and that a row without its occasion changes nothing, are the model's choice (logs 1 and 2). Where the spec
leaves the rest open: logs 51 and 52. -/
def Obligations.frameEventsAct : Prop :=
  (∀ (s : State) (b : Bool) (f : Frame), hears s.eng b = false ∨ f.wire < 64 ∨ 2000 < f.wire →
    exec (.ringFrame b f) s = .next (s.to s.start)) ∧
  (∀ (s : State) (b : Bool) (f : Frame) (y : Engine), hears s.eng b = true → 64 ≤ f.wire → f.wire ≤ 2000 → y = ringRun s.start →
    p2p y = true →
    (f.fcsOk = false → exec (.ringFrame b f) s = .next (s.to (inc Reg.LRG_ORPHAN_CNT y))) ∧
    (∀ q, f.fcsOk = true → pauseOf f = some q →
      exec (.ringFrame b f) s = .next (s.to (if pauseFor y f.da = true then pauseApply q y else y))) ∧
    (f.fcsOk = true → pauseOf f = none → rosterFrom y f.sa = none → exec (.ringFrame b f) s = .next (s.to (stranger y))) ∧
    (∀ i, f.fcsOk = true → pauseOf f = none → rosterFrom y f.sa = some i →
      exec (.ringFrame b f) s = .next (s.to (if f.eth = 0x88F7 then timeFrame i b f y else copyFrame i b f y)))) ∧
  (∀ (s : State) (b : Bool) (f : Frame) (x y : Engine), hears s.eng b = true → 64 ≤ f.wire → f.wire ≤ 2000 → y = ringRun s.start →
    p2p y = false →
    f.sa = ownMac y → isRepeater y = false → x = inc Reg.LRG_STRIP_CNT y →
    exec (.ringFrame b f) s = .next (s.to (if f.fcsOk = true ∧ f.kind = 1 then tokenIn b f x
      else if f.fcsOk = true ∧ f.kind = 2 then claimIn b f x else x))) ∧
  (∀ (s : State) (b : Bool) (f : Frame) (y : Engine), hears s.eng b = true → 64 ≤ f.wire → f.wire ≤ 2000 → y = ringRun s.start →
    p2p y = false →
    f.sa ≠ ownMac y ∨ isRepeater y = true →
    (3 < f.kind ∨ f.ttl ≤ 1 ∨ f.fcsOk = false → exec (.ringFrame b f) s = .next (s.to (inc Reg.LRG_ORPHAN_CNT y))) ∧
    (1 < f.ttl → f.fcsOk = true → (f.kind = 1 → exec (.ringFrame b f) s = .next (s.to (tokenIn b f y))) ∧
      (f.kind = 2 → exec (.ringFrame b f) s = .next (s.to (claimIn b f y))) ∧
      (f.kind = 3 → exec (.ringFrame b f) s = .next (s.to
        (helloIn b (bit (fieldOf f.payload 0 1) 0) (bit (fieldOf f.payload 0 1) 1) y))) ∧
      (f.kind = 0 → isRepeater y = true →
        exec (.ringFrame b f) s = .next (s.to (forwardData (rosterFrom y f.sa).isSome b f y))) ∧
      (f.kind = 0 → isRepeater y = false → rosterFrom y f.sa = none → ∀ x : Engine, x = stranger y →
        exec (.ringFrame b f) s = .next (s.to (if on x Fd.LRG_CTL_STRIP_STRANGER = true then x else forwardData false b f x))) ∧
      (∀ i, f.kind = 0 → isRepeater y = false → rosterFrom y f.sa = some i → pauseOf f = none →
        exec (.ringFrame b f) s = .next (s.to (forwardData true b f (if f.eth = 0x88F7 then timeFrame i b f y
          else if daMine y f.da = true then copyFrame i b f y else y)))) ∧
      (∀ i q, f.kind = 0 → isRepeater y = false → rosterFrom y f.sa = some i → pauseOf f = some q →
        exec (.ringFrame b f) s = .next (s.to (
          if f.da = ownMac y then forwardData true b f (pauseApply q y)
          else if f.da = pauseMac then inc Reg.LRG_ORPHAN_CNT y else forwardData true b f y))))) ∧
  (∀ (s : State) (b : Bool) (f : Frame), f.eth = 0x88B5 → f.kind = 0 → f.da = ownMac s.eng →
    exec (.commandFrame b f) s = exec (.ringFrame b f) s) ∧
  (∀ (s : State) (b : Bool) (f : Frame), f.eth ≠ 0x88B5 ∨ f.kind ≠ 0 ∨ f.da ≠ ownMac s.eng →
    exec (.commandFrame b f) s = .next (s.to s.start)) ∧
  (∀ (i : Nat) (b : Bool) (f : Frame) (t : SecTag) (e : Engine), f.sec = some t → secCheck i t e = none →
    process i b f e = note Fd.LRG_CAUSE_SEC_FAIL (inc Reg.LRG_SEC_CNT e)) ∧
  (∀ (i : Nat) (b : Bool) (f : Frame) (e x : Engine), (f.sec = none ∧ x = e) ∨ (∃ t, f.sec = some t ∧ secCheck i t e = some x) →
    process i b f e =
      if f.eth = 0x88B5 then
        (if f.sec.isSome = true ∧ f.da = ownMac x ∧ rosBits x i 0 30 30 = 1 then ringCommand i b f.payload x else x)
      else if f.eth = 0x88B6 ∨ f.eth = 0x8808 ∨ f.eth = 0x88F7 then x
      else if rosBits x i 0 29 29 = 1 ∧ (f.sec.isSome = true ∨ rosBits x i 0 28 28 = 1) then hostFrame i b f.sec.isSome f x else x)

/-- What SYNC_MSG, FOLLOW_UP, DELAY_REQ_SEND, DELAY_RESP, SYNC_TMO, PATH_HOLD_END, TSQ_EXPIRY and HANDOVER_JOIN answer, in every case. A Sync that
the slot hears on its ring is kept with its times, in steps of 0.25 ns, and on a ring a WRAP bit or another hop count is a path change; the Follow_Up of its sequence
number completes it. A Delay_Req goes to queue 7, no sooner than the interval after the last. A Delay_Resp sets that interval, and one that matches an entry
of the timestamp queue takes it out and, with a complete Sync and no path change in the last 2 s, is a measurement. A LOCKED slot enters HOLDOVER at the end of
its time without Sync. The 2 s after a path change end, and the timestamp queue's first entry leaves after 2 s. A handover joins at the first tick at which it may, one whose clock steps back late enough that no tick comes twice. Where its condition fails,
each changes nothing (spec/13_time.md).
When a row's instant comes, and that a row without its occasion changes nothing, are the model's choice (logs 1 and 2). Where the spec
leaves the rest open: logs 52 and 53. -/
def Obligations.slaveEventsAct : Prop :=
  (∀ (s : State) (n ttl seq : Nat) (b w two : Bool) (o c rx : Int) (x : Engine), n ≤ 1 → slotHears s.eng n = true →
    slotRing s.eng n = b → x = updSlotT n (fun y => { y with sync := some ⟨seq, o, c, stamp rx, !two⟩, lastSync := s.eng.clk,
                                                             hops := if p2p s.eng = true then y.hops else some (255 - ttl) }) s.start →
    exec (.syncMsg n b w ttl two seq o c rx) s = .next (s.to (
      if p2p s.eng = false ∧ (w = true ∨ ∃ h, (s.eng.tim.slot n).hops = some h ∧ h ≠ 255 - ttl) then pathChange n x else x))) ∧
  (∀ (s : State) (n ttl seq : Nat) (b w two : Bool) (o c rx : Int), 1 < n ∨ slotHears s.eng n = false ∨ slotRing s.eng n ≠ b →
    exec (.syncMsg n b w ttl two seq o c rx) s = .next (s.to s.start)) ∧
  (∀ (s : State) (n seq : Nat) (o c : Int) (r : SyncRec), n ≤ 1 → slotHears s.eng n = true → (s.eng.tim.slot n).sync = some r →
    r.seq = seq → r.complete = false → exec (.followUp n seq o c) s = .next (s.to (updSlotT n (fun x =>
      { x with sync := some { r with t1 := o, cs := r.cs + c, complete := true } }) s.start))) ∧
  (∀ (s : State) (n seq : Nat) (o c : Int), 1 < n ∨ slotHears s.eng n = false ∨
    (∀ r, (s.eng.tim.slot n).sync = some r → r.seq ≠ seq ∨ r.complete = true) →
    exec (.followUp n seq o c) s = .next (s.to s.start)) ∧
  (∀ (s : State) (n dn : Nat) (t3 : Int) (y : TSlot) (x : Engine) (out : Bool), n ≤ 1 → slotHears s.eng n = true → isRepeater s.eng = false →
    y = s.eng.tim.slot n → x = (match y.reqAt with | some t => waitClk (t + y.reqEvery) s.start | none => s.start) →
    dn = rdF s.eng (Fd.TIM_DOM_CFG_DOMAIN_NUM.at n 32) → out = (if p2p s.eng = true then s.eng.lrg.secondary else !slotRing s.eng n) →
    exec (.delayReqSend n t3) s = .next (s.to (ringRun (queueFrame 7
      { da := 0x011B19000000, eth := 0x88F7, payload := delayReqBytes x dn y.seq, wire := wireLen (p2p s.eng) false 44, onB := out,
        req := some { t3 := stamp t3, ringB := out, seq := y.seq, domain := dn, slot := n, at_ := x.clk } }
      (updSlotT n (fun z => { z with reqAt := some x.clk, seq := (z.seq + 1) % 65536 }) x))))) ∧
  (∀ (s : State) (n : Nat) (t3 : Int), 1 < n ∨ slotHears s.eng n = false ∨ isRepeater s.eng = true →
    exec (.delayReqSend n t3) s = .next (s.to s.start)) ∧
  (∀ (s : State) (n seq iv : Nat) (t4 c : Int) (x : Engine), n ≤ 1 → slotHears s.eng n = true →
    x = tsqPrune (updSlotT n (fun z => { z with reqEvery := iv }) s.start) →
    (x.tim.tsq.find? (fun t => t.slot == n && t.seq == seq) = none → exec (.delayResp n seq t4 c iv) s = .next (s.to x)) ∧
    (∀ (q : TsEntry) (y : Engine), x.tim.tsq.find? (fun t => t.slot == n && t.seq == seq) = some q →
      y = { x with tim := { x.tim with tsq := x.tim.tsq.filter (fun t => t != q) } } →
      (∀ (r : SyncRec) (mpd : Int), (y.tim.slot n).sync = some r → r.complete = true → pathHeld y n = false →
        mpd = ((r.t2 - r.t1 - r.cs) + (t4 - q.t3 - c)) / 2 →
        exec (.delayResp n seq t4 c iv) s = .next (s.to (measure n ((r.t2 - r.t1 - r.cs) - mpd) mpd y))) ∧
      ((∀ r, (y.tim.slot n).sync = some r → r.complete = false ∨ pathHeld y n = true) →
        exec (.delayResp n seq t4 c iv) s = .next (s.to y)))) ∧
  (∀ (s : State) (n seq iv : Nat) (t4 c : Int), 1 < n ∨ slotHears s.eng n = false →
    exec (.delayResp n seq t4 c iv) s = .next (s.to s.start)) ∧
  (∀ (s : State) (n : Nat), exec (.syncTmo n) s = .next (s.to (
    if 1 < n ∨ (s.eng.tim.slot n).state ≠ .locked ∨ unpowered s.eng = true then s.start
    else enterHoldover n (waitClk ((s.eng.tim.slot n).lastSync +
      1000000 * max 1 (rdF s.eng (Fd.TIM_DOM_THR_SYNC_TMO.at n 32))) s.start)))) ∧
  (∀ (s : State) (n t : Nat), n ≤ 1 → (s.eng.tim.slot n).pathHoldTo = some t → exec (.pathHoldEnd n) s =
    .next (s.to (updSlotT n (fun x => { x with pathHoldTo := none }) (waitClk t s.start)))) ∧
  (∀ (s : State) (n : Nat), 1 < n ∨ (s.eng.tim.slot n).pathHoldTo = none → exec (.pathHoldEnd n) s = .next (s.to s.start)) ∧
  (∀ (s : State) (q : TsEntry) (l : List TsEntry), s.eng.tim.tsq = q :: l →
    exec .tsqExpiry s = .next (s.to (tsqPrune (waitClk (q.at_ + 2000000000) s.start)))) ∧
  (∀ s : State, s.eng.tim.tsq = [] → exec .tsqExpiry s = .next (s.to s.start)) ∧
  (∀ s : State, (∀ h, unpowered s.eng = false → s.eng.tim.ho = some h → joinable s.eng h = true →
      exec .handoverJoin s = .next (s.to (joinAtTick h.target s.start))) ∧
    (∀ h, unpowered s.eng = false → s.eng.tim.ho = some h → joinable s.eng h = false →
      exec .handoverJoin s = .next (s.to (joinRun 999999999 (pass (max 1 (h.at_ + 1000000 - s.eng.clk)) s.start)))) ∧
    (unpowered s.eng = true ∨ s.eng.tim.ho = none → exec .handoverJoin s = .next (s.to s.start))) ∧
  (∀ (n : Nat) (e x : Engine) (gap : Int), x = waitD (tickAfter (dNs e)) e → gap = clockGap (x.tim.slot n).clock x.tim.d →
    joinAtTick n e = joinSlot n (if gap < 0 then waitD (dNs x + (intAbs gap).toNat / 65536 + 2) x else x)) ∧
  (∀ t : Int, stamp t = t / 16384 * 16384)

/-- What PPS_IN, SYNC_OUT_EDGE and PPS_OUT_EDGE answer, in every case. On a powered engine a pulse is timestamped, and it feeds the selected slot's servo where
PPS_DISC is 1, the slot is not LOCKED and none was fed in the last 0.9 s. SYNC_OUT falls 2.5 µs after it rose, and low it rises at its next instant where it
is enabled. PPS_OUT falls after its width, and low it rises with the next second where it is enabled. Without power none changes anything (spec/13_time.md).
When a row's instant comes, and that a row without its occasion changes nothing, are the model's choice (logs 1 and 2). Where the spec
leaves the rest open: log 53. -/
def Obligations.pulseEventsAct : Prop :=
  (∀ (s : State) (x y : Engine) (ns u : Int), unpowered s.eng = false →
    x = wr Reg.TIM_PPSIN_NS (dNsF s.eng) (wr Reg.TIM_PPSIN_SEC (dSec s.eng) s.start) →
    y = { x with tim := { x.tim with ppsInAt := some s.eng.clk } } →
    u = stamp ((s.eng.tim.d % 65536000000000 : Nat) : Int) → ns = (if u ≥ 32768000000000 then u - 65536000000000 else u) →
    exec .ppsIn s = .next (s.to (
      if on y Fd.TIM_CTL_PPS_DISC = false ∨ (s.eng.tim.slot s.eng.tim.sel).state = .locked ∨
        (∃ t, s.eng.tim.ppsInFed = some t ∧ s.eng.clk < t + 900000000) then y
      else servoRun s.eng.tim.sel ns { y with tim := { y.tim with ppsInFed := some s.eng.clk } }))) ∧
  (∀ (s : State) (x : Engine), unpowered s.eng = false → s.eng.tim.syncHigh = true →
    x = waitClk ((s.eng.tim.syncRise.getD 0) + 2500) s.start →
    exec .syncOutEdge s = .next (s.to { x with tim := { x.tim with syncHigh := false } })) ∧
  (∀ s : State, unpowered s.eng = false → s.eng.tim.syncHigh = false →
    exec .syncOutEdge s = .next (s.to (if on s.eng Fd.TIM_CTL_SYNC_OUT_EN = true then syncRiseNext s.start else s.start))) ∧
  (∀ (s : State) (x : Engine), unpowered s.eng = false → s.eng.tim.ppsHigh = true →
    x = waitClk ((s.eng.tim.ppsRise.getD 0) + 1000000 * ppsWidth s.eng) s.start →
    exec .ppsOutEdge s = .next (s.to { x with tim := { x.tim with ppsHigh := false } })) ∧
  (∀ (s : State) (x : Engine), unpowered s.eng = false → s.eng.tim.ppsHigh = false → x = waitD ((dSec s.eng + 1) * 1000000000) s.start →
    exec .ppsOutEdge s = .next (s.to (if on s.eng Fd.TIM_CTL_PPS_OUT_EN = true
      then { x with tim := { x.tim with ppsHigh := true, ppsRise := some x.clk } } else s.start))) ∧
  (∀ s : State, unpowered s.eng = true → exec .ppsIn s = .next (s.to s.start) ∧ exec .syncOutEdge s = .next (s.to s.start) ∧
    exec .ppsOutEdge s = .next (s.to s.start))

/-- What IDENT, STRAPS, REG_ADDR, REG_DATA, REG_NEXT and ALERT_RESPONSE answer (R309, R333, R379, R387, R398, R399), in every case: the
SMBus answers identity and straps; REG_ADDR sets the address register, not in LOCKOUT, NACKed where the address is no multiple of 4, or sends it;
REG_DATA writes or sends the register at that address, and REG_NEXT sends it and then adds 4 to the address; a read without a PEC, as the rows without
the operand are, and a write without one is NACKed where one is mandatory, and a write with a wrong PEC is discarded. A pending
alert is answered with the SMBus's own address and released; with none pending, with no power on the millpond island, and while the TAP holds the
lands, nothing changes (spec/18_package_pins.md; the rows without a PEC operand as transactions without one, log 25).
When a row's instant comes, and that a row without its occasion changes nothing, are the model's choice (logs 1 and 2). Where the spec
leaves the rest open: logs 25 and 26. -/
def Obligations.smbusRowsAct : Prop :=
  (∀ e : Engine, smbOn e = (millpondOn e && !pinsHeld e)) ∧
  (∀ s : State, smbOn s.eng = true → pecMust s.eng = false →
    exec .ident s = .next (s.to { s.eng with out := [.smb (leBytes 8 (infoItem s.eng 0) ++ leBytes 8 (infoItem s.eng 1))] }) ∧
    exec .straps s = .next (s.to { s.eng with out := [.smb (leBytes 1 (bits s.eng.pins.straps 4 0))] })) ∧
  (∀ (s : State) (v : Nat) (pec : Option Bool), smbOn s.eng = true → bits v 1 0 = 0 →
    (pec = some true ∨ (pec = none ∧ pecMust s.eng = false) →
      exec (.regAddr (some v) pec) s = .next (s.to (if s.eng.sys.mode = .lockout then s.start
        else { s.start with pins := { s.eng.pins with smbAddr := v % 65536 } }))) ∧
    (pec = some false → exec (.regAddr (some v) pec) s = .next (s.to s.start)) ∧
    (pec = none → pecMust s.eng = true → exec (.regAddr (some v) pec) s = .next (s.to { s.eng with out := [.smbNack] }))) ∧
  (∀ (s : State) (v : Nat) (pec : Option Bool), smbOn s.eng = true → bits v 1 0 ≠ 0 →
    exec (.regAddr (some v) pec) s = .next (s.to { s.eng with out := [.smbNack] })) ∧
  (∀ (s : State) (pec : Option Bool), smbOn s.eng = true → (pec.isSome = true ∨ pecMust s.eng = false) →
    exec (.regAddr none pec) s = .next (s.to { s.eng with out := [.smb (leBytes 2 s.eng.pins.smbAddr)] }) ∧
    exec (.regData none pec) s = .next (s.to (smbReg s.start))) ∧
  (∀ (s : State) (v : Word) (pec : Option Bool), smbOn s.eng = true →
    (pec = some true ∨ (pec = none ∧ pecMust s.eng = false) →
      exec (.regData (some v) pec) s = .next (s.to (busDword .smbus s.eng.pins.smbAddr v s.start))) ∧
    (pec = some false → exec (.regData (some v) pec) s = .next (s.to s.start))) ∧
  (∀ (s : State) (w : Option Word), smbOn s.eng = true → pecMust s.eng = true →
    ∀ c ∈ [Instr.regData w none, .regAddr none none, .ident, .straps, .regNext],
      exec c s = .next (s.to { s.eng with out := [.smbNack] })) ∧
  (∀ (s : State) (x : Engine), smbOn s.eng = true → pecMust s.eng = false → x = smbReg s.start →
    exec .regNext s = .next (s.to { x with pins := { x.pins with smbAddr := (x.pins.smbAddr + 4) % 65536 } })) ∧
  (∀ s : State, smbOn s.eng = true → s.eng.flt.smbAlert = true → exec .alertResponse s = .next (s.to
    { s.eng with out := [.smb (leBytes 1 (2 * smbOwn s.eng))], flt := { s.eng.flt with smbAlert := false } })) ∧
  (∀ s : State, smbOn s.eng = true → s.eng.flt.smbAlert = false → exec .alertResponse s = .next (s.to s.start)) ∧
  (∀ (s : State) (w : Option Nat) (v : Option Word) (pec : Option Bool), smbOn s.eng = false →
    ∀ c ∈ [Instr.ident, .straps, .regAddr w pec, .regData v pec, .regNext, .alertResponse], exec c s = .next (s.to s.start))

/-- What JTAG_BYPASS, IDCODE, SAMPLE_PRELOAD, EXTEST, CLAMP, HIGHZ and TRST_N answer (R347, R400, R401), in every case: each loads
its instruction while the TAP runs, and changes nothing while it does not; BYPASS shifts out a 0, IDCODE the identity,
SAMPLE/PRELOAD the levels at the lands as captured before it shifts its word into the 18 cells of the boundary register, EXTEST the levels too where it
takes hold, and elsewhere, as CLAMP and HIGHZ, the 0 of the bypass register. TRST_N low loads IDCODE, holds the TAP reset
and ends the debug master's hang; TRST_N high lets the TAP run. EXTEST, CLAMP and HIGHZ act as BYPASS outside BYPASS, TEST and
SAFE (spec/18_package_pins.md; the order and number of the cells are the model's choice, log 113).
When a row's instant comes, and that a row without its occasion changes nothing, are the model's choice (logs 1 and 2). Where the spec
leaves the rest open: logs 27 and 113. -/
def Obligations.tapRowsAct : Prop :=
  (∀ s : State, tapOn s.eng = true →
    exec .jtagBypass s = .next (s.to { s.eng with pins := { s.eng.pins with jtagIr := 0 }, out := [.tdo 0] }) ∧
    exec .idcode s = .next (s.to { s.eng with pins := { s.eng.pins with jtagIr := 1 }, out := [.tdo 0xCB4099C7] }) ∧
    exec .clamp s = .next (s.to { s.eng with pins := { s.eng.pins with jtagIr := 4 }, out := [.tdo 0] }) ∧
    exec .highz s = .next (s.to { s.eng with pins := { s.eng.pins with jtagIr := 5 }, out := [.tdo 0] })) ∧
  (∀ (s : State) (b : Nat) (x : Engine), tapOn s.eng = true → x = { s.start with pins := { s.eng.pins with jtagIr := 2 } } →
    exec (.samplePreload b) s = .next (s.to { x with pins := { x.pins with boundary := b % 262144 }, out := [.tdo (captured x)],
                                                     freeCtr := s.eng.freeCtr + 1 })) ∧
  (∀ (s : State) (x : Engine), tapOn s.eng = true → x = { s.start with pins := { s.eng.pins with jtagIr := 3 } } →
    exec .extest s = .next (s.to (if inMode s.eng [.bypass, .test, .safe] = true
      then { x with out := [.tdo (captured x)], freeCtr := s.eng.freeCtr + 1 } else { x with out := [.tdo 0] }))) ∧
  (∀ (s : State) (b : Nat), tapOn s.eng = false → ∀ c ∈ [Instr.jtagBypass, .idcode, .extest, .clamp, .highz, .samplePreload b],
    exec c s = .next (s.to s.start)) ∧
  (∀ s : State, Goes (.trstN true) s (fun t => t.pins = { s.eng.pins with jtagIr := 1, trstLow := true } ∧
    masterHeld t 7 = false ∧ (∀ m, m < 7 → masterHeld t m = masterHeld s.eng m) ∧
    (∀ o, o ≠ Reg.FLT_HANG → rd t o = rd s.eng o) ∧ Unchanged [.regs, .trip1, .trip2, .reach, .pins, .out] s.eng t)) ∧
  (∀ s : State, exec (.trstN false) s = .next (s.to { s.start with pins := { s.eng.pins with trstLow := false } })) ∧
  (∀ e : Engine, 3 ≤ e.pins.jtagIr → inMode e [.bypass, .test, .safe] = false → tapIr e = 0)

/-- What FW_STAGED, FW_ACTIVATED and BIST_END answer (R375, R377, R378, R380), in every case: FW_STAGED puts an image that passes
its checks into the inactive slot, where it is staged (what of its header is not told is a free value, log 3), and completes FW_STAGE with its word; one that fails leaves the slot empty
and completes with BAD_PARAM and what failed. FW_ACTIVATED ends the restart, and the HOLD of one begun in SERVICE: the active
slot's image runs and FW_ACTIVATE completes OK with it, or the old slot is active again and it completes with DATA_ECC. BIST_END
completes BIST_RUN, once its time is over, with the suites and what of them failed, MARCH by its run of the march writer, with the place of the first failure, and
ends a run of the suite that is not over (its reads then fail none, the model's choice, log 111). With no image
staged, no restart and no suites running nothing changes (spec/17_modes_startup.md).
When a row's instant comes, and that a row without its occasion changes nothing, are the model's choice (logs 1 and 2). Where the spec
leaves the rest open: logs 64 and 111. -/
def Obligations.firmwareEventsAct : Prop :=
  (∀ (s : State) (cx : Cx) (k : List Byte) (w : Word) (x : Engine), s.eng.sys.fwStage = some (cx, k) →
    x = { s.start with sys := { s.eng.sys with fwStage := none, fwBusy := false } } →
    (∀ i : Image, i = { version := w, format := free s.eng, length := k.length,
                        security := s.eng.sys.leastSecurity + free (useFree s.eng) } →
      exec (.fwStaged (.accepted w)) s = .next (s.to (complete cx stOk w.toNat (note Fd.SYS_CAUSE_FW_STAGED
        { useFree (useFree x) with sys := { x.sys with slots := x.sys.slots.set (otherSlot x) (some i), staged := some w } })))) ∧
    exec (.fwStaged .format) s = .next (s.to (complete cx stBadParam 1 (unstage x))) ∧
    exec (.fwStaged .signature) s = .next (s.to (complete cx stBadParam 2 (unstage x))) ∧
    exec (.fwStaged .rollback) s = .next (s.to (complete cx stBadParam 3 (unstage x)))) ∧
  (∀ (s : State) (v : FwVerdict), s.eng.sys.fwStage = none → exec (.fwStaged v) s = .next (s.to s.start)) ∧
  (∀ (s : State) (r : FwRestart) (x : Engine) (v : Word), s.eng.sys.fwRestart = some r →
    x = (if r.inHold = true then holdExitNow (wrF Fd.SYS_REMAP_REMAP 1 { s.start with sys := { s.eng.sys with fwRestart := none } })
      else wrF Fd.SYS_REMAP_REMAP 1 { s.start with sys := { s.eng.sys with fwRestart := none } }) →
    v = ((x.sys.slots.getD x.sys.active none).map Image.version).getD x.sys.running →
    exec (.fwActivated true) s = .next (s.to (complete r.cx stOk v.toNat (note Fd.SYS_CAUSE_FW_ACTIVATED
      { x with sys := { x.sys with running := v } }))) ∧
    exec (.fwActivated false) s = .next (s.to (complete r.cx stDataEcc 0 (note Fd.SYS_CAUSE_FW_FALLBACK
      { x with sys := { x.sys with active := r.oldSlot } })))) ∧
  (∀ (s : State) (b : Bool), s.eng.sys.fwRestart = none → exec (.fwActivated b) s = .next (s.to s.start)) ∧
  (∀ (s : State) (j : BistJob) (f place bad : Nat) (o : Option Nat) (x y z : Engine), s.eng.sys.bist = some j →
    x = (if (marching s.eng).any (·.bist) = true then marchEndNow [] s.start else s.start) → y = waitClk j.endAt x →
    o = y.sys.bist.bind (·.march) → bad = (f % 32 &&& j.suites &&& 30) + (if o.isSome = true then 1 else 0) →
    z = { y with sys := { y.sys with bist := none } } →
    exec (.bistEnd f place) s = .next (s.to (complete j.cx stOk
      (j.suites + bad * 256 + (if bad ≠ 0 then o.getD (place % 65536) * 65536 else 0))
      (if bad ≠ 0 then note Fd.SYS_CAUSE_BIST_FAIL z else z)))) ∧
  (∀ (s : State) (f place : Nat), s.eng.sys.bist = none → exec (.bistEnd f place) s = .next (s.to s.start))

/-- What GUARD_WRITE, GUARDED_WRITE, SPAN_WRITE, SHORT_RETRY, ISLAND_RST, FLT_IRST, FORCE_OWNER, GRAVE_CLR, DOM_EN_WRITE and
REMAP_WRITE answer (R51, R54, R59, R109, R227, R244, R310-R312, R315, R342, R348, R376). A write to a guard address that
reaches the fabric arms its requester's latch. A write to a guarded register that does not reach the fabric changes nothing (a
virtual function's meets its own window, as plainWritesAct says); one that does uses the latch up: with the latch armed for the register, within 1 ms, with the complement of the word, it is applied,
or is a lock violation where the register is locked; otherwise it is discarded and logged with its reason. What is applied: a span
of the other band and a span in a mode or a change that forbids it are flagged, the first before the second where both hold (the
model's choice, log 69), any other is the new one, in SERVICE with its brake; SHORT_RETRY forgets the tile's shorts and resets the
island, each where its bit is 1; FLT_IRST resets the island it names, or flags a refusal; FORCE_OWNER has its sequencer claim every
tile; GRAVE_CLR clears the GRAVE record; DOM_EN_WRITE sets the enables of 32 domains; REMAP_WRITE changes REMAP in TEST, elsewhere a
change is a lock violation; any other guarded register has its own rule (spec/14_registers.md and the chapters of the rows).
Where the spec leaves the rest open: logs 11, 12, 16, 69 and 112. -/
def Obligations.guardedWritesAct : Prop :=
  (∀ (s : State) (rq : Rq) (off : Nat) (v : Word), Reaches rq (off + 4) s.eng → guardMain (off + 4) = some off →
    Goes (.guardWrite rq (off + 4) v) s (fun t => latchOf t (rqNum rq) = some { word := v, main := off, at_ := s.eng.clk } ∧
      (∀ k, k ≠ rqNum rq → latchOf t k = latchOf s.eng k) ∧ Unchanged [.guards, .out] s.eng t ∧ t.out = [])) ∧
  (∀ (s : State) (rq : Rq) (off k : Nat) (v : Word) (hi : Bool), k < 256 → off < cfgAt → (∀ d, rq ≠ .vf d) →
    ∀ p ∈ [(Instr.guardedWrite rq off v false, off), (.guardedWrite rq off v true, off), (.spanWrite rq v, Reg.BKP_SPAN),
        (.shortRetry rq k v, Reg.TILE_CTL + 0x40 * k), (.islandRst rq k v, Reg.TILE_CTL + 0x40 * k), (.fltIrst rq v, Reg.FLT_IRST),
        (.forceOwner rq v, Reg.RFS_OVR), (.graveClr rq v, Reg.FLT_GRAVE_CLR),
        (.domEnWrite rq hi v, if hi = true then Reg.CMD_DOM_EN1 else Reg.CMD_DOM_EN0), (.remapWrite rq v, Reg.SYS_REMAP)],
      (reachable s.eng rq = false ∨ s.eng.sys.mode = .lockout ∨ unpowered s.eng = true ∧ millpond p.2 = false →
        exec p.1 s = .next (s.to s.start)) ∧
      (∀ (r : RegInfo) (why : Nat), Reaches rq p.2 s.eng → guardMain p.2 = none → regInfo p.2 = some r → r.kind = .guarded →
        r.readOnly = false → why = guardReason (latchOf s.eng (rqNum rq)) p.2 v.toNat s.eng.clk (p.1 == .guardedWrite rq off v true) →
        (why ≠ 0 → exec p.1 s = .next (s.to (guardErr why (rqNum rq) p.2 (unlatched rq s.start)))) ∧
        (why = 0 → locked s.eng p.2 = true → exec p.1 s = .next (s.to (lockViol (unlatched rq s.start)))))) ∧
  (∀ (s : State) (rq : Rq) (off : Nat) (v : Word) (r : RegInfo) (p : Engine × Nat), Reaches rq off s.eng →
    guardMain off = none → regInfo off = some r → r.kind = .guarded → r.readOnly = false → Armed rq off v s.eng →
    locked s.eng off = false → p = written off v (unlatched rq s.start) →
    exec (.guardedWrite rq off v false) s = .next (s.to (guardedApply rq off p.2 p.1))) ∧
  (∀ (s : State) (rq : Rq) (v : Word) (p : Engine × Nat) (x y : Engine), Reaches rq Reg.BKP_SPAN s.eng → Armed rq Reg.BKP_SPAN v s.eng →
    p = written Reg.BKP_SPAN v (unlatched rq s.start) → x = wrF Fd.BKP_SPAN_SPAN (p.2 % 4) p.1 → y = releaseDue x →
    exec (.spanWrite rq v) s = .next (s.to (
      if p.2 % 4 = spanNow p.1 then p.1
      else if p.2 % 4 % 2 ≠ ofB (bandNow p.1) then note Fd.BKP_BRAKE_CAUSE_SPAN_BAD p.1
      else if p.1.bkp.span.isSome ∨ ¬(p.1.sys.mode = .service ∨ p.1.sys.mode = .bypass) then note Fd.BKP_BRAKE_CAUSE_SPAN_BUSY p.1
      else if p.1.sys.mode = .bypass then x
      else trigger 4
        { y with
          bkp := { y.bkp with
                     span := some { at_ := y.clk, saved := litApers y, rq := rq,
                                    sluiced := y.bkp.braking && !y.bkp.zeroing } } }))) ∧
  (∀ (s : State) (rq : Rq) (k : Nat) (v : Word) (p : Engine × Nat) (x : Engine), k < 256 →
    Reaches rq (Reg.TILE_CTL + 0x40 * k) s.eng → Armed rq (Reg.TILE_CTL + 0x40 * k) v s.eng →
    p = written (Reg.TILE_CTL + 0x40 * k) v (unlatched rq s.start) → x = (if bit p.2 1 = true then shortRetry k p.1 else p.1) →
    exec (.shortRetry rq k v) s = .next (s.to (if bit p.2 0 = true then tileReset k x else x)) ∧
    exec (.islandRst rq k v) s = .next (s.to (if bit p.2 0 = true then tileReset k x else x))) ∧
  (∀ (s : State) (rq : Rq) (v : Word) (p : Engine × Nat) (n : Nat) (x : Engine), Reaches rq Reg.FLT_IRST s.eng →
    Armed rq Reg.FLT_IRST v s.eng → p = written Reg.FLT_IRST v (unlatched rq s.start) → n = bits p.2 8 0 →
    x = wrF Fd.FLT_IRST_ISLAND n p.1 →
    exec (.fltIrst rq v) s = .next (s.to (
      if 280 < n ∨ bit p.2 31 = true ∧ irstRefused p.1 n = true then note Fd.FLT_CAUSE_IRST_REFUSED p.1
      else if bit p.2 31 = false then x
      else if n < 256 then tileReset n { x with flt := { x.flt with irst := some n } }
      else islandWork n { x with flt := { x.flt with irst := some n } }))) ∧
  (∀ (s : State) (rq : Rq) (v : Word) (p : Engine × Nat), Reaches rq Reg.RFS_OVR s.eng → Armed rq Reg.RFS_OVR v s.eng →
    p = written Reg.RFS_OVR v (unlatched rq s.start) →
    exec (.forceOwner rq v) s = .next (s.to (
      if p.2 % 4 = 1 then claimAll 1 (wr Reg.RFS_OVR p.2 p.1) else if p.2 % 4 = 2 then claimAll 2 (wr Reg.RFS_OVR p.2 p.1)
      else wr Reg.RFS_OVR p.2 p.1))) ∧
  (∀ (s : State) (rq : Rq) (v : Word) (p : Engine × Nat), Reaches rq Reg.FLT_GRAVE_CLR s.eng →
    Armed rq Reg.FLT_GRAVE_CLR v s.eng → p = written Reg.FLT_GRAVE_CLR v (unlatched rq s.start) →
    exec (.graveClr rq v) s = .next (s.to (
      if bit p.2 0 = true then { p.1 with flt := { p.1.flt with graveValid := false, graveBusy := false, graveCount := 0, graveRec := {} } }
      else p.1))) ∧
  (∀ (s : State) (rq : Rq) (hi : Bool) (v : Word) (off : Nat) (p : Engine × Nat),
    off = (if hi = true then Reg.CMD_DOM_EN1 else Reg.CMD_DOM_EN0) → Reaches rq off s.eng → Armed rq off v s.eng →
    p = written off v (unlatched rq s.start) →
    exec (.domEnWrite rq hi v) s = .next (s.to (
      each (List.range 32) (fun j => setDomEn (j + 32 * ofB hi) (bit p.2 j)) p.1))) ∧
  (∀ (s : State) (rq : Rq) (v : Word) (p : Engine × Nat), Reaches rq Reg.SYS_REMAP s.eng → Armed rq Reg.SYS_REMAP v s.eng →
    p = written Reg.SYS_REMAP v (unlatched rq s.start) →
    exec (.remapWrite rq v) s = .next (s.to (
      if bit p.2 0 ≠ on p.1 Fd.SYS_REMAP_REMAP ∧ p.1.sys.mode ≠ .test then lockViol p.1 else wr Reg.SYS_REMAP p.2 p.1)))

/-- What MARCH_RUN, FLUME_PI_WRITE, PEAK_CLR, ONE_SHOT, REFSEL_WRITE, DAMSEL_WRITE, TB_PREF_WRITE, SNAP_GO, HWM_CLR, HANDOVER,
RX_CFG_WRITE, RX_HEAD_WRITE, REGISTER_WRITE and RWP_WRITE answer (R55, R100, R127, R129, R144, R200, R216, R240-R244, R262, R283,
R297, R307-R320, R322, R333, R364, R373, R398). A write that does not arrive, that meets LOCKOUT, or that meets a block without
power changes nothing. A virtual function's write meets its own window. A write of the physical function to its configuration
space is served, whole dwords only, and one to the MSI-X table is applied. A host write that does not enable all four bytes of
its dword is discarded and flagged. A write that reaches the fabric: at a guard address it arms the latch; where no register or a
read-only one stands it changes nothing; a mailbox register, a guarded, a persistent and a plain register are written by their
rules, and the rows of this list name the plain ones that act: a march run is refused or begins (once a brake under way is over); FLUME_PI is flagged or fetches; PEAK_CLR
clears the peak and ends or keeps the failback count; a one-shot is refused or queued; a bank whose reference changes settles
anew; a damsel pair is taken or flagged; the timebase reverts where told to; SNAP_GO asks for a snapshot where none is under way;
HWM_CLR clears the high-water mark; a change of the timing domain starts a handover; a receive ring starts over, and its head is
taken or flagged (spec/14_registers.md and the chapters of the rows; offsets from 0x10000 are the model's own, log 86).
Where the spec leaves the rest open: logs 9, 10, 12, 14, 15, 17, 43 and 86. -/
def Obligations.plainWritesAct : Prop :=
  (∀ (s : State) (rq : Rq) (off k n : Nat) (v : Word) (b : Bool), k < 16 → n < 4 → (rq = .pf → off < cfgAt) →
    ∀ p ∈ [(Instr.marchRun rq v, Reg.BKP_MARCH_CTL), (.flumePiWrite rq v, Reg.SCH_FLUME_PI), (.peakClr rq v, Reg.RFS_CTL),
        (.oneShot rq v, Reg.SNS_OS_CTL), (.refselWrite rq k v, Reg.SNS_REFSEL + 4 * k), (.damselWrite rq v, Reg.LOOP_DAMSEL),
        (.tbPrefWrite rq v, Reg.PWR_TB_CTL), (.snapGo rq v, Reg.SNAP_CTL), (.hwmClr rq v, Reg.CMD_CTL), (.handover rq v, Reg.TIM_CTL),
        (.rxCfgWrite rq n v, Reg.LRG_RX_CFG + 32 * n), (.rxHeadWrite rq n v, Reg.LRG_RX_HEAD + 32 * n),
        (.registerWrite rq off v b, off), (.rwpWrite rq off v, off)],
      reachable s.eng rq = false ∨ s.eng.sys.mode = .lockout ∨ unpowered s.eng = true ∧ millpond p.2 = false →
        exec p.1 s = .next (s.to s.start)) ∧
  (∀ (s : State) (rq : Rq) (k n : Nat) (v : Word), 16 ≤ k → 4 ≤ n →
    ∀ c ∈ [Instr.refselWrite rq k v, .rxCfgWrite rq n v, .rxHeadWrite rq n v], exec c s = .next (s.to s.start)) ∧
  (∀ (s : State) (d off : Nat) (v : Word), reachable s.eng (.vf d) = true → s.eng.sys.mode ≠ .lockout → off % 4 = 0 →
    ∀ c ∈ [Instr.registerWrite (.vf d) off v true, .rwpWrite (.vf d) off v, .guardWrite (.vf d) off v, .guardedWrite (.vf d) off v false,
        .guardedWrite (.vf d) off v true],
      exec c s = .next (s.to (
        if 0x40 ≤ off ∧ off < 0x70 then mbxWrite (16 + d) (off - 0x40) v.toNat s.start
        else if 0x800 ≤ off ∧ off < 0x900 then msixWrite d (off - 0x800) v.toNat s.start else s.start))) ∧
  (∀ (s : State) (off : Nat) (v : Word) (b : Bool), reachable s.eng .pf = true → cfgAt ≤ off →
    exec (.registerWrite .pf off v b) s = .next (s.to (if b = true ∧ off % 4 = 0 then
      cfgWrite ((off - cfgAt) / 0x1000) ((off - cfgAt) % 0x1000) v.toNat s.start else s.start))) ∧
  (∀ (s : State) (off : Nat) (v : Word), reachable s.eng .pf = true → s.eng.sys.mode ≠ .lockout → unpowered s.eng = false →
    bar4At ≤ off → off < cfgAt → off % 4 = 0 →
    exec (.registerWrite .pf off v true) s = .next (s.to (
      if off < bar4At + 0x400 then msixWrite 0 (off - bar4At) v.toNat s.start else s.start))) ∧
  (∀ (s : State) (rq : Rq) (off : Nat) (v : Word) (b : Bool), reachable s.eng rq = true → isHost rq = true →
    s.eng.sys.mode ≠ .lockout → unpowered s.eng = false → (rq = .pf → off < cfgAt) → b = false ∨ off % 4 ≠ 0 →
    exec (.registerWrite rq off v b) s = .next (s.to (note Fd.HIF_CAUSE_PARTIAL_WR s.start))) ∧
  (∀ (s : State) (rq : Rq) (off : Nat) (v : Word) (b : Bool), Reaches rq off s.eng → unpowered s.eng = true → isHost rq = true →
    b = false → exec (.registerWrite rq off v b) s = .next (s.to s.start)) ∧
  (∀ (s : State) (rq : Rq) (off m : Nat) (v : Word), Reaches rq off s.eng → guardMain off = some m →
    ∀ c ∈ [Instr.registerWrite rq off v true, .rwpWrite rq off v], exec c s = .next (s.to (armGuard (rqNum rq) m v.toNat s.start))) ∧
  (∀ (s : State) (rq : Rq) (off : Nat) (v : Word), Reaches rq off s.eng → guardMain off = none →
    regInfo off = none →
    ∀ c ∈ [Instr.registerWrite rq off v true, .rwpWrite rq off v], exec c s = .next (s.to s.start)) ∧
  (∀ (s : State) (rq : Rq) (off : Nat) (v : Word) (r : RegInfo), Reaches rq off s.eng → guardMain off = none →
    regInfo off = some r → r.kind ≠ .mbx → r.readOnly = true →
    ∀ c ∈ [Instr.registerWrite rq off v true, .rwpWrite rq off v], exec c s = .next (s.to (rsvKeep r off v.toNat s.start).1)) ∧
  (∀ (s : State) (rq : Rq) (off : Nat) (v : Word) (r : RegInfo), Reaches rq off s.eng → guardMain off = none →
    regInfo off = some r →
    ∀ c ∈ [Instr.registerWrite rq off v true, .rwpWrite rq off v],
      (r.kind = .mbx → exec c s = .next (s.to (mbxWrite (rqNum rq) (off - Reg.MBX_SEL) v.toNat s.start))) ∧
      (r.kind = .guarded → r.readOnly = false → exec c s = exec (.guardedWrite rq off v false) s) ∧
      (r.kind = .plain → r.readOnly = false → exec c s = .next (s.to (
        plainApply rq r off (rsvKeep r off v.toNat s.start).2 (rsvKeep r off v.toNat s.start).1))) ∧
      (r.kind = .nv → r.readOnly = false → exec c s = .next (s.to (
        if on s.eng Fd.NVR_LOCK_LOCK = true then lockViol s.start
        else if s.eng.nvr.busy.isSome = true then note Fd.NVR_CAUSE_BUSY_DROP s.start
        else if worn s.eng off = true then note Fd.NVR_CAUSE_WORN s.start
        else nvWrite off (written off v s.start).2 (written off v s.start).1)))) ∧
  (∀ (s : State) (rq : Rq) (v : Word) (p : Engine × Nat) (x : Engine), Reaches rq Reg.BKP_MARCH_CTL s.eng →
    p = written Reg.BKP_MARCH_CTL v s.start → x = wr Reg.BKP_MARCH_CTL (setBits p.2 0 0 (ofB (marching p.1).isSome)) p.1 →
    exec (.marchRun rq v) s = .next (s.to (if bit p.2 0 = true then marchGo x else x))) ∧
  (∀ x : Engine, (marching x).isSome = true → marchGo x = x) ∧
  (∀ x : Engine, marching x = none → x.sys.mode ≠ .test ∨ 6 < rdF x Fd.BKP_MARCH_CTL_ALGO ∨ 3 < rdF x Fd.BKP_MARCH_CTL_BACKGROUND ∨
      (on x Fd.BKP_MARCH_CTL_ACTIVE = false ∧ on x Fd.BKP_MARCH_CTL_SHADOW = false) →
    marchGo x = wrF Fd.BKP_MARCH_CTL_GO 0 (wrF Fd.BKP_MARCH_STAT_REFUSED 1 x)) ∧
  (∀ (x : Engine) (n : Nat), marching x = none → x.sys.mode = .test → rdF x Fd.BKP_MARCH_CTL_ALGO ≤ 6 → rdF x Fd.BKP_MARCH_CTL_BACKGROUND ≤ 3 →
    on x Fd.BKP_MARCH_CTL_ACTIVE = true ∨ on x Fd.BKP_MARCH_CTL_SHADOW = true →
    n = (if x.bkp.braking = true then max x.clk (x.bkp.brakeAt + 2000) else x.clk) →
    (marchGo x).bkp.march = some { ctl := rd x Reg.BKP_MARCH_CTL, bist := false, at_ := n, evs :=
      (x.bkp.tiles.filter (fun y => y.2.islandRst)).map (fun y => (n, MarchEv.reset y.1 true)) } ∧
    rd (marchGo x) Reg.BKP_MARCH_STAT = 0x40000000 ∧ rd (marchGo x) Reg.BKP_MARCH_FAIL_CNT = 0 ∧
    on (marchGo x) Fd.BKP_MARCH_FF0_VALID = false ∧ on (marchGo x) Fd.BKP_MARCH_CTL_GO = true) ∧
  (∀ (s : State) (rq : Rq) (v : Word) (p : Engine × Nat), Reaches rq Reg.SCH_FLUME_PI s.eng →
    p = written Reg.SCH_FLUME_PI v s.start → exec (.flumePiWrite rq v) s = .next (s.to (
      if (p.2 + 4294967296 - rd p.1 Reg.SCH_FLUME_CI) % 4294967296 >
          (match p.1.sch.flume with | some (_, _, n) => 2 ^ n | none => 0) ∨ posBefore p.2 (rd p.1 Reg.SCH_FLUME_PI) = true
      then note Fd.SCH_CAUSE_FLUME_BAD p.1 else flumeFetch (wr Reg.SCH_FLUME_PI p.2 p.1)))) ∧
  (∀ (s : State) (rq : Rq) (v : Word) (p : Engine × Nat) (x y : Engine), Reaches rq Reg.RFS_CTL s.eng → p = written Reg.RFS_CTL v s.start →
    x = wr Reg.RFS_CTL (setBits p.2 17 17 0) p.1 → y = (if bit p.2 17 = true then wr Reg.RFS_PEAK_AGE 0 x else x) →
    exec (.peakClr rq v) s = .next (s.to (if bit p.2 16 = true then y else { y with rfs := { y.rfs with gapless := none } }))) ∧
  (∀ (s : State) (rq : Rq) (v : Word) (p : Engine × Nat) (x y : Engine) (t : Nat), Reaches rq Reg.SNS_OS_CTL s.eng →
    hostRq rq = true → p = written Reg.SNS_OS_CTL v s.start → t = tileOf (bits p.2 14 0 / 5) →
    x = wr Reg.SNS_OS_CTL (setBits (p.2 % 4294967296) 31 31 (rdF p.1 Fd.SNS_OS_CTL_GO)) p.1 →
    y = updBank t (fun b => { b with shots := b.shots ++ [{ sensor := bits p.2 14 0, range := bit p.2 29, force := bit p.2 30,
                                                            host := true, at_ := p.1.clk }] }) x →
    exec (.oneShot rq v) s = .next (s.to (
      if bit p.2 31 = false then x
      else if on p.1 Fd.SNS_OS_STAT_BUSY = true ∨ bits p.2 14 0 > 20499 ∨ 8 ≤ (x.bank t).shots.length then
        note Fd.SNS_CAUSE_OS_REFUSED (wrF Fd.SNS_OS_STAT_REFUSED 1 x)
      else wrF Fd.SNS_OS_STAT_BUSY 1 (wrF Fd.SNS_OS_STAT_DONE 0 (wrF Fd.SNS_OS_STAT_REFUSED 0 (wrF Fd.SNS_OS_CTL_GO 1 y)))))) ∧
  (∀ (s : State) (m : Nat) (v : Word) (p : Engine × Nat) (t : Nat), Reaches (.core m) Reg.SNS_OS_CTL s.eng →
    p = written Reg.SNS_OS_CTL v s.start → t = tileOf (bits p.2 14 0 / 5) →
    exec (.oneShot (.core m) v) s = .next (s.to (
      if bit p.2 31 = false then p.1
      else if bits p.2 14 0 > 20499 ∨ 8 ≤ (p.1.bank t).shots.length then note Fd.SNS_CAUSE_OS_REFUSED p.1
      else updBank t (fun b => { b with shots := b.shots ++ [{ sensor := bits p.2 14 0, range := bit p.2 29, force := bit p.2 30,
                                                               host := false, at_ := p.1.clk }] }) p.1))) ∧
  (∀ (s : State) (rq : Rq) (k : Nat) (v : Word) (p : Engine × Nat) (ch : List Nat) (x : Engine), k < 16 →
    Reaches rq (Reg.SNS_REFSEL + 4 * k) s.eng → p = written (Reg.SNS_REFSEL + 4 * k) v s.start →
    ch = (List.range 16).filter (fun j => refOf (rd p.1 (Reg.SNS_REFSEL + 4 * k)) j != refOf p.2 j) →
    x = each ch (fun j => updBank (16 * k + j) (fun b => { b with settling := some p.1.clk, settled := false }))
      (wr (Reg.SNS_REFSEL + 4 * k) p.2 p.1) →
    exec (.refselWrite rq k v) s = .next (s.to (if ch = [] then x else note Fd.SNS_CAUSE_REF_UNSETTLED x))) ∧
  (∀ (s : State) (rq : Rq) (v : Word) (p : Engine × Nat), Reaches rq Reg.LOOP_DAMSEL s.eng → p = written Reg.LOOP_DAMSEL v s.start →
    exec (.damselWrite rq v) s = .next (s.to (
      if damselOk (bits p.2 2 0) (bits p.2 6 4) = true then wr Reg.LOOP_DAMSEL p.2 p.1 else note Fd.LOOP_CAUSE_DAMSEL_BAD p.1))) ∧
  (∀ (s : State) (rq : Rq) (v : Word) (p : Engine × Nat) (x : Engine), Reaches rq Reg.PWR_TB_CTL s.eng →
    p = written Reg.PWR_TB_CTL v s.start → x = wr Reg.PWR_TB_CTL p.2 p.1 →
    exec (.tbPrefWrite rq v) s = .next (s.to (
      if on x Fd.PWR_TB_CTL_REVERT = true ∧ on x Fd.PWR_TB_CTL_PREF ≠ x.pwr.tbB ∧ otherTb x = true
      then switchTb x else x))) ∧
  (∀ (s : State) (rq : Rq) (v : Word) (p : Engine × Nat), Reaches rq Reg.SNAP_CTL s.eng → p = written Reg.SNAP_CTL v s.start →
    exec (.snapGo rq v) s = .next (s.to (
      if bit p.2 0 = true ∧ snapBusy p.1 = false then
        { p.1 with snap := { p.1.snap with nowWait := p.1.snap.nowWait ++ [none], nowAt := tickAfter (dNs p.1) } } else p.1))) ∧
  (∀ (s : State) (rq : Rq) (v : Word) (p : Engine × Nat), Reaches rq Reg.CMD_CTL s.eng → p = written Reg.CMD_CTL v s.start →
    exec (.hwmClr rq v) s = .next (s.to (
      if bit p.2 3 = true then wrF Fd.CMD_TAG_HWM_HWM 0 (wr Reg.CMD_CTL (setBits p.2 3 3 0) p.1)
      else wr Reg.CMD_CTL (setBits p.2 3 3 0) p.1))) ∧
  (∀ (s : State) (rq : Rq) (v : Word) (p : Engine × Nat) (x : Engine), Reaches rq Reg.TIM_CTL s.eng →
    p = written Reg.TIM_CTL v s.start → x = wr Reg.TIM_CTL (setBits p.2 1 1 0) p.1 →
    exec (.handover rq v) s = .next (s.to (
      if bits p.2 0 0 = selTarget x then x else startHandover (bits p.2 0 0) (bit p.2 1) false x))) ∧
  (∀ (s : State) (rq : Rq) (n : Nat) (v : Word) (p : Engine × Nat), n < 4 → Reaches rq (Reg.LRG_RX_CFG + 32 * n) s.eng →
    p = written (Reg.LRG_RX_CFG + 32 * n) v s.start →
    exec (.rxCfgWrite rq n v) s = .next (s.to (rxAbandon n (setFilled n 0 (wr (Reg.LRG_RX_TAIL + 32 * n) 0
      (wr (Reg.LRG_RX_HEAD + 32 * n) 0 (wr (Reg.LRG_RX_CFG + 32 * n) p.2 p.1))))))) ∧
  (∀ (s : State) (rq : Rq) (n : Nat) (v : Word) (p : Engine × Nat) (h sz : Nat), n < 4 → Reaches rq (Reg.LRG_RX_HEAD + 32 * n) s.eng →
    p = written (Reg.LRG_RX_HEAD + 32 * n) v s.start → h = bits p.2 15 0 → sz = rxSize p.1 n →
    exec (.rxHeadWrite rq n v) s = .next (s.to (
      if h ≥ sz ∨ ringDist sz (rxTail p.1 n) h < ringDist sz (rxTail p.1 n) (rxHead p.1 n) then note Fd.LRG_CAUSE_HEAD_BAD p.1
      else wr (Reg.LRG_RX_HEAD + 32 * n) p.2 p.1)))

/-- Apertures and tiles (R3, R37): tile `t` serves the ports of its 4 × 4 block of the grid, and the four corner tiles a station
aperture in slot 16; every aperture lies in exactly one slot of one tile, and the tile's list names it there
(spec/03_phase_backplane.md). -/
def Obligations.tileMap : Prop :=
  (∀ t p, t < 256 → p < 4096 → (tileOf p = t ↔
    4 * (t / 16) ≤ p / 64 ∧ p / 64 ≤ 4 * (t / 16) + 3 ∧ 4 * (t % 16) ≤ p % 64 ∧ p % 64 ≤ 4 * (t % 16) + 3)) ∧
  (∀ ap, ap < 4100 → tileOf ap < 256 ∧ slotOf ap ≤ 16 ∧ (tileAps (tileOf ap))[slotOf ap]? = some ap) ∧
  (∀ t k ap, t < 256 → (tileAps t)[k]? = some ap → ap < 4100 ∧ tileOf ap = t ∧ slotOf ap = k) ∧
  (∀ t, t < 256 → (tileAps t).length = if t = 0 ∨ t = 15 ∨ t = 240 ∨ t = 255 then 17 else 16)

/-- Record indices (R63): the index of a direction lies below 16,805,900 and the park index of an aperture above it and below
16,810,000; each index names one direction or one park record, and its source aperture is read back from it
(spec/04_phase_synthesis.md). -/
def Obligations.recordIndex : Prop :=
  (∀ a b, a < 4100 → b < 4100 → a ≠ b → aimIndex a b < 16805900 ∧ indexSource (aimIndex a b) = a) ∧
  (∀ a, a < 4100 → 16805900 ≤ parkIndex a ∧ parkIndex a < numRecords ∧ indexSource (parkIndex a) = a) ∧
  (∀ a b c d, a < 4100 → b < 4100 → c < 4100 → d < 4100 → a ≠ b → c ≠ d → aimIndex a b = aimIndex c d → a = c ∧ b = d) ∧
  (∀ i, i < 16805900 → ∃ a b, a < 4100 ∧ b < 4100 ∧ a ≠ b ∧ aimIndex a b = i) ∧
  (∀ i, 16805900 ≤ i → i < numRecords → ∃ a, a < 4100 ∧ parkIndex a = i)

/-- A survey's rounds (R83): each of the 4,091 rounds pairs the 4,092 ordinary ports, two different ones in each of its 2,046
circuits, and over the rounds every unordered pair of ordinary ports is a circuit exactly once (spec/04_phase_synthesis.md). -/
def Obligations.surveyRounds : Prop :=
  (∀ k, k < 4091 → (roundPairs k).length = 2046 ∧
    ∀ p ∈ roundPairs k, ordinary p.1 = true ∧ ordinary p.2 = true ∧ p.1 ≠ p.2) ∧
  (∀ k p, k < 4091 → ordinary p = true → ∃ q, (p, q) ∈ roundPairs k ∨ (q, p) ∈ roundPairs k) ∧
  (∀ a b, ordinary a = true → ordinary b = true → a ≠ b →
    ∃ k, k < 4091 ∧ ((a, b) ∈ roundPairs k ∨ (b, a) ∈ roundPairs k) ∧
      ∀ j, j < 4091 → ((a, b) ∈ roundPairs j ∨ (b, a) ∈ roundPairs j) → j = k)

/-- The boundaries of a schedule (R192): the tick of exact offset `E` is the origin and ten times the one number `n` to which
E / 10 ns rounds, half up; it lies within 5 ns of the exact time, and no later offset has an earlier tick
(spec/09_schedules.md). Offsets are in 2⁻²⁴ ns: 10 ns are 167,772,160 of them. -/
def Obligations.boundaryRounding : Prop :=
  (∀ base E n, boundaryTick base E = base + 10 * n ↔ (2 * n) * 167772160 ≤ 2 * E + 167772160 ∧ 2 * E < (2 * n + 1) * 167772160) ∧
  (∀ base E, 16777216 * (boundaryTick base E - base) ≤ E + 5 * 16777216 ∧ E ≤ 16777216 * (boundaryTick base E - base) + 5 * 16777216) ∧
  (∀ base E F, E ≤ F → boundaryTick base E ≤ boundaryTick base F)

/-- Where a 10-bit field points (R191): in table mode at an index of the table; in stream mode at the one position `q` with
q mod 1024 equal to the field and r − 511 ≤ q ≤ r + 512, positions counted modulo 2³² (spec/09_schedules.md). -/
def Obligations.fieldPositions : Prop :=
  (∀ (e : Engine) (r f : Nat), e.sch.stream = false → f < 1024 → resolveField e r f = f) ∧
  (∀ (e : Engine) (r f : Nat), e.sch.stream = true → f < 1024 → r < 4294967296 →
    resolveField e r f < 4294967296 ∧ resolveField e r f % 1024 = f ∧
    (resolveField e r f + 4294967296 + 511 - r) % 4294967296 ≤ 1023 ∧
    ∀ q, q < 4294967296 → q % 1024 = f → (q + 4294967296 + 511 - r) % 4294967296 ≤ 1023 → q = resolveField e r f)

/-- Three copies (R313): a write sets every copy of its register and of no other; a read gives the value on which two copies agree
and, where all three differ, bit by bit the value two of them hold (spec/14_registers.md; the model keeps copies of every
register, log 5). -/
def Obligations.copiesVote : Prop :=
  (∀ (e : Engine) (off v : Nat), raw (wr off v e) off = v % 4294967296 ∧ copy1 (wr off v e) off = v % 4294967296 ∧
    copy2 (wr off v e) off = v % 4294967296 ∧ rd (wr off v e) off = v % 4294967296) ∧
  (∀ (e : Engine) (off o v : Nat), off ≠ o → raw (wr off v e) o = raw e o ∧ rd (wr off v e) o = rd e o) ∧
  (∀ (e : Engine) (off : Nat), (raw e off = copy1 e off → rd e off = raw e off) ∧ (raw e off = copy2 e off → rd e off = raw e off) ∧
    (copy1 e off = copy2 e off → rd e off = copy1 e off)) ∧
  (∀ (e : Engine) (off i : Nat), (rd e off).testBit i =
    ((raw e off).testBit i && (copy1 e off).testBit i || (raw e off).testBit i && (copy2 e off).testBit i ||
      (copy1 e off).testBit i && (copy2 e off).testBit i))

/-- An event (R331, R338, R341): it sets its sticky bit, and of every other register it changes at most FLT_CAUSE and the
counters FLT_EVENT_CNT and FLT_HIST_OVF_CNT; of the engine's other parts it changes at most the attention tree, the fault
collector and what it signals. An event below class SEVERE with room in the queue counts once in FLT_EVENT_CNT and changes
FLT_CAUSE in nothing but a sticky bit of its own (spec/15_faults_attention.md). -/
def Obligations.eventFrame : Prop :=
  (∀ (c : Fld) (inst detail : Nat) (e : Engine), Unchanged [.regs, .trip1, .trip2, .reach, .flt, .hif, .out] e (noteD c inst detail e)) ∧
  (∀ (c : Fld) (inst detail o : Nat) (e : Engine), o ≠ c.off → o ≠ Reg.FLT_CAUSE → o ≠ Reg.FLT_EVENT_CNT → o ≠ Reg.FLT_HIST_OVF_CNT →
    rd (noteD c inst detail e) o = rd e o) ∧
  (∀ (c : Fld) (inst detail : Nat) (e : Engine), c.lo < 32 → c.off ≠ Reg.FLT_EVENT_CNT → c.off ≠ Reg.FLT_HIST_OVF_CNT →
    bit (rd (noteD c inst detail e) c.off) c.lo = true ∧
    ∀ k, bit (rd e c.off) k = true → k < 32 → bit (rd (noteD c inst detail e) c.off) k = true) ∧
  (∀ (c : Fld) (inst detail : Nat) (e : Engine), classOf (blockNo c.off) c.lo < 3 → e.flt.hist.length < 32 →
    c.off ≠ Reg.FLT_EVENT_CNT → c.off ≠ Reg.FLT_HIST_OVF_CNT →
    rd (noteD c inst detail e) Reg.FLT_EVENT_CNT = (rd e Reg.FLT_EVENT_CNT + 1) % 4294967296 ∧
    rd (noteD c inst detail e) Reg.FLT_HIST_OVF_CNT = rd e Reg.FLT_HIST_OVF_CNT ∧
    (c.off ≠ Reg.FLT_CAUSE → rd (noteD c inst detail e) Reg.FLT_CAUSE = rd e Reg.FLT_CAUSE))

/-- R339: with 32 records in the queue, the record of a new event that is entered (its class is at least LOG_MIN and it does not
coalesce) pushes out the oldest, the queue still holding 32; FLT_HIST_OVF_CNT counts it, HIST_OVF is set, and HIST_OVF adds no
record but one more event to FLT_EVENT_CNT. HIST_OVF itself, which is never entered, is left out. Records are kept newest first, by the clock that
orders and coalesces them (the model's choice, log 63). -/
def Obligations.historyPushesOut : Prop :=
  ∀ (c : Fld) (inst detail : Nat) (e : Engine) (r h : Rec) (l : List Rec), e.flt.hist = h :: l → (h :: l).length = 32 →
    r = mkRec e false (blockNo c.off) inst c.lo (classOf (blockNo c.off) c.lo) detail →
    min (rdF e Fd.FLT_CTL_LOG_MIN) 4 ≤ r.cls →
    ¬(on e Fd.FLT_CTL_COALESCE_EN = true ∧ r.cls ≤ 1 ∧ h.block = r.block ∧ h.inst = r.inst ∧ h.code = r.code ∧ r.clk ≤ h.clk + 1000000) →
    ¬(c.off = Reg.FLT_CAUSE ∧ c.lo = 1) → c.off ≠ Reg.FLT_CTL → c.off ≠ Reg.FLT_EVENT_CNT → c.off ≠ Reg.FLT_HIST_OVF_CNT →
    (noteD c inst detail e).flt.hist = (insertRec r (h :: l)).take 32 ∧
    (noteD c inst detail e).flt.hist.length = 32 ∧
    (h.clk ≠ r.clk → (noteD c inst detail e).flt.hist = r :: (h :: l).dropLast) ∧
    rd (noteD c inst detail e) Reg.FLT_HIST_OVF_CNT = (rd e Reg.FLT_HIST_OVF_CNT + 1) % 4294967296 ∧
    rd (noteD c inst detail e) Reg.FLT_EVENT_CNT = (rd e Reg.FLT_EVENT_CNT + 2) % 4294967296 ∧
    on (noteD c inst detail e) Fd.FLT_CAUSE_HIST_OVF = true

/-- R403: a tap sample with OVR in range H (MISSING and RANGE 0, OVR 1) adds one to its port's run count, a valid sample without OVR
sets it to zero, any other leaves it, and no other port's count moves; OVERPOWER is raised when the count reaches 200 and at no
other sample, and LIVE_OVERPOWER reads 1 while a count is 200 or more. -/
def Obligations.overpowerRuns : Prop :=
  (∀ (p : Nat) (ws : List Nat) (e : Engine),
    Tbl.get (fun _ => 0) (ws.foldl (fun e w => overpower p w e) e).flt.runs p = ws.foldl (fun n w =>
      if bit w 31 = false ∧ bit w 30 = true ∧ bit w 27 = false then n + 1
      else if bit w 31 = false ∧ bit w 30 = false ∧ bit w 28 = false then 0 else n) (Tbl.get (fun _ => 0) e.flt.runs p) ∧
    ∀ q, q ≠ p → Tbl.get (fun _ => 0) (ws.foldl (fun e w => overpower p w e) e).flt.runs q = Tbl.get (fun _ => 0) e.flt.runs q) ∧
  (∀ (p w : Nat) (e : Engine), ¬(bit w 31 = false ∧ bit w 30 = true ∧ bit w 27 = false ∧ Tbl.get (fun _ => 0) e.flt.runs p = 199) →
    ∀ o, rd (overpower p w e) o = rd e o) ∧
  (∀ (p w : Nat) (e : Engine), bit w 31 = false → bit w 30 = true → bit w 27 = false → Tbl.get (fun _ => 0) e.flt.runs p = 199 →
    on (overpower p w e) Fd.FLT_CAUSE_OVERPOWER = true ∧
    (e.flt.hist.length < 32 → rd (overpower p w e) Reg.FLT_EVENT_CNT = (rd e Reg.FLT_EVENT_CNT + 1) % 4294967296)) ∧
  (∀ e : Engine, bit (liveNow e Reg.FLT_CAUSE) 19 = true ↔ ∃ x ∈ e.flt.runs, 200 ≤ x.2)

/-- R312: a write to a guarded main address is applied only if its requester's latch is armed for that address, holds the
complement of the word and was armed no more than 1 ms earlier; every such write disarms the latch; a discarded one leaves the
register and every register but the flag and its log unchanged, sets GUARD_ERR, counts in REG_GUARD_CNT and records its offset,
requester and reason: 5 for an 8-byte write, 1 with no latch, 3 for another register's latch, 4 past 1 ms, 2 for a wrong word. -/
def Obligations.guardDecides : Prop :=
  ∀ (s : State) (rq : Rq) (off : Nat) (v : Word) (r : RegInfo) (eight : Bool), Reaches rq off s.eng → guardMain off = none →
    regInfo off = some r → r.kind = .guarded → r.readOnly = false → locked s.eng off = false →
    (∀ p, eight = false → Armed rq off v s.eng → p = written off v (unlatched rq s.start) →
      exec (.guardedWrite rq off v eight) s = .next (s.to (guardedApply rq off p.2 p.1)) ∧
      latchOf (guardedApply rq off p.2 p.1) (rqNum rq) = none) ∧
    (∀ why, ((eight = true ∧ why = 5) ∨ (eight = false ∧ latchOf s.eng (rqNum rq) = none ∧ why = 1) ∨
        (eight = false ∧ ∃ x, latchOf s.eng (rqNum rq) = some x ∧
          ((x.main ≠ off ∧ why = 3) ∨ (x.main = off ∧ x.at_ + 1000000 < s.eng.clk ∧ why = 4) ∨
           (x.main = off ∧ s.eng.clk ≤ x.at_ + 1000000 ∧ x.word ≠ ~~~ v ∧ why = 2)))) →
      Goes (.guardedWrite rq off v eight) s (fun t => latchOf t (rqNum rq) = none ∧ rd t off = rd s.eng off ∧
        (∀ o, o ∉ [Reg.REG_CAUSE, Reg.REG_GUARD_CNT, Reg.REG_GUARD_LAST, Reg.FLT_CAUSE, Reg.FLT_EVENT_CNT, Reg.FLT_HIST_OVF_CNT] →
          rd t o = rd s.eng o) ∧
        on t Fd.REG_CAUSE_GUARD_ERR = true ∧ rd t Reg.REG_GUARD_CNT = (rd s.eng Reg.REG_GUARD_CNT + 1) % 4294967296 ∧
        rd t Reg.REG_GUARD_LAST = (why <<< 28 + (rqNum rq % 16) <<< 24 + off % 65536) % 4294967296 ∧
        Unchanged [.regs, .trip1, .trip2, .reach, .guards, .flt, .hif, .out] s.eng t))

/-- The reserved bits of a write (R314): outside TEST the word that is applied has the register's own reserved bits, whatever was
written there; a write that would change them (in a W1C or W1S register, one that has a 1 there) sets RSV_CHANGED and counts in
REG_RSV_CNT, any other changes nothing by itself; in TEST the reserved bits take the written value (the model's reading, log 10, unsafe). A W1C or W1S register's
reserved bits in TEST are a free value (spec/14_registers.md; the model's choice, log 3). -/
def Obligations.reservedKept : Prop :=
  (∀ (r : RegInfo) (off v i : Nat) (e : Engine), e.sys.mode ≠ .test → i < 32 → v < 4294967296 →
    (rsvKeep r off v e).2.testBit i = if r.rsv.testBit i = true then (rd e off).testBit i else v.testBit i) ∧
  (∀ (r : RegInfo) (off v : Nat) (e : Engine), rsvChange r (rd e off) v = 0 → (rsvKeep r off v e).1 = e) ∧
  (∀ (r : RegInfo) (off v : Nat) (e : Engine), rsvChange r (rd e off) v ≠ 0 → e.sys.mode ≠ .test →
    on (rsvKeep r off v e).1 Fd.REG_CAUSE_RSV_CHANGED = true ∧
    rd (rsvKeep r off v e).1 Reg.REG_RSV_CNT = (rd e Reg.REG_RSV_CNT + 1) % 4294967296 ∧
    ∀ o, o ∉ [Reg.REG_CAUSE, Reg.REG_RSV_CNT, Reg.FLT_CAUSE, Reg.FLT_EVENT_CNT, Reg.FLT_HIST_OVF_CNT] → rd (rsvKeep r off v e).1 o = rd e o) ∧
  (∀ (r : RegInfo) (off v i : Nat) (e : Engine), r.isW1 = false → e.sys.mode = .test → i < 32 → r.rsv.testBit i = true →
    v < 4294967296 → (rd (rsvKeep r off v e).1 off).testBit i = v.testBit i ∧ (rsvKeep r off v e).2.testBit i = v.testBit i)

/-- Host memory (R242, R247): a write of bytes changes the bytes it covers and no other, each reads back, and the canonical form is
kept; a write over translated parts changes no byte outside them (spec/11_host_interface.md; what a byte that nothing has
written reads as is the model's choice, log 6). -/
def Obligations.hostMemoryWrites : Prop :=
  (∀ (a : Nat) (l : List Byte) (e : Engine) (x : Nat), rdByte (wrBytes a l e) x =
    if a ≤ x ∧ x < a + l.length then l.getD (x - a) 0 else rdByte e x) ∧
  (∀ (a : Nat) (l : List Byte) (e : Engine), rdBytes (wrBytes a l e) a l.length = l) ∧
  (∀ (a : Nat) (l : List Byte) (e : Engine), Memory.wf e.hostMem = true → Memory.wf (wrBytes a l e).hostMem = true) ∧
  (∀ (parts : List (Nat × Nat)) (l : List Byte) (e : Engine) (x : Nat), (∀ p ∈ parts, ¬(p.1 ≤ x ∧ x < p.1 + p.2)) →
    rdByte (writeRun parts l e) x = rdByte e x) ∧
  (∀ (a n b m : Nat) (l : List Byte) (e : Engine), l.length = n + m → a + n ≤ b ∨ b + m ≤ a →
    readRun (writeRun [(a, n), (b, m)] l e) [(a, n), (b, m)] = l)

/-- A completion holds its command's tag until it is posted (R218): outside LOCKOUT a command of that hopper and tag still in
flight after it is done, and its completion waits in its hopper; one of a ring or of a hopper that is disabled is in flight no
more. Every command still in flight was in flight before with its wait, its ports and its acceptance, and no domain entry
changes; in LOCKOUT no completion is posted and nothing changes (R333) (spec/10_command_protocol.md). -/
def Obligations.completionFreesTag : Prop :=
  (∀ (cx : Cx) (st r : Nat) (e : Engine), e.sys.mode ≠ .lockout → ∀ j ∈ (complete cx st r e).cmd.inflight, j.cx = cx →
    j.done = true ∧ ∃ h ∈ ((complete cx st r e).hop cx.hopper).held, h.cx = cx ∧ h.own = true) ∧
  (∀ (cx : Cx) (st r : Nat) (e : Engine), e.sys.mode ≠ .lockout → isRing cx.hopper = true ∨ (e.hop cx.hopper).enabled = false →
    ∀ j ∈ (complete cx st r e).cmd.inflight, j.cx ≠ cx) ∧
  (∀ (cx : Cx) (st r : Nat) (e : Engine), ∀ j ∈ (complete cx st r e).cmd.inflight,
    ∃ i ∈ e.cmd.inflight, i.cx = j.cx ∧ i.wait = j.wait ∧ i.ports = j.ports ∧ i.accepted = j.accepted) ∧
  (∀ (cx : Cx) (st r : Nat) (e : Engine), (complete cx st r e).cmd.domains = e.cmd.domains) ∧
  (∀ (cx : Cx) (st r : Nat) (e : Engine), e.sys.mode = .lockout → complete cx st r e = e)

/-- The order of a command's checks (R404): a command whose way is clear is taken in; in a mode that is not one of its own it
completes WRONG_MODE, with a reserved field that is not zero BAD_PARAM, and only then does its own part decide
(spec/10_command_protocol.md). -/
def Obligations.checksInOrder : Prop :=
  (∀ (cx : Cx) (i : CmdInfo) (rsv : Nat) (ports : Engine → List Nat) (body : Engine → Engine) (e : Engine),
    Clear cx { i with modes := execModes } (ports e) e →
    runCmd i cx rsv ports body e =
      (if e.sys.mode ∉ i.modes then complete cx stWrongMode 0 (accepted cx i.opcode (ports e) e)
       else if rsv ≠ 0 then complete cx stBadParam 0 (accepted cx i.opcode (ports e) e)
       else body (accepted cx i.opcode (ports e) e))) ∧
  (∀ (cx : Cx) (i : CmdInfo) (rsv : Nat) (ports : Engine → List Nat) (body : Engine → Engine) (e : Engine),
    executing e cx = false → runCmd i cx rsv ports body e = e)

/-- The classes (R331, R332, R333): raising an event of class NOTE, MINOR or MAJOR does nothing but tell it: of a MAJOR one each source applies the
park or the freeze of its own scope (R334, R335), in the row that meets it; a SEVERE event, where the
engine runs and no shutdown is under way, leads to SAFE, and a GRAVE event from every powered mode to LOCKOUT; a SEVERE event sets
FLT_CAUSE.SEVERE and a GRAVE one FLT_CAUSE.GRAVE, each asserts SMB_ALERT_N, and the first GRAVE event is persisted, its record valid from the event on (log 57)
(spec/15_faults_attention.md). -/
def Obligations.severeAndGrave : Prop :=
  (∀ (c : Fld) (i d : Nat) (e : Engine), classOf (blockNo c.off) c.lo < 3 → raiseD c i d e = noteD c i d e) ∧
  (∀ (c : Fld) (i d : Nat) (e : Engine), classOf (blockNo c.off) c.lo = 3 → e.sys.mode ∉ [.off, .lockout, .cooldown, .boot] →
    e.thm.coolPend = none → (raiseD c i d e).sys.mode = .safe) ∧
  (∀ (c : Fld) (i d : Nat) (e : Engine), classOf (blockNo c.off) c.lo = 4 → e.sys.mode ≠ .off → (raiseD c i d e).sys.mode = .lockout) ∧
  (∀ (c : Fld) (i d : Nat) (e : Engine), classOf (blockNo c.off) c.lo = 3 →
    on (noteD c i d e) Fd.FLT_CAUSE_SEVERE = true ∧ (noteD c i d e).flt.smbAlert = true) ∧
  (∀ (c : Fld) (i d : Nat) (e : Engine), classOf (blockNo c.off) c.lo = 4 → e.flt.graveValid = false →
    on (noteD c i d e) Fd.FLT_CAUSE_GRAVE = true ∧ (noteD c i d e).flt.smbAlert = true ∧ (noteD c i d e).flt.graveValid = true ∧
    (noteD c i d e).flt.graveRec = mkRec e false (blockNo c.off) i c.lo 4 d)

/-- In LOCKOUT every register write through any requester is ignored and doorbells are ignored (R333): each of these commands
leaves the engine as it is, the ten mailbox rows and the SMBus's writes among them, of which one without a mandatory PEC is still NACKed (spec/15_faults_attention.md). A configuration access of the physical function, which is no register
write, is served (the model's choice, log 86): its offsets are left out. -/
def Obligations.lockoutIgnoresWrites : Prop :=
  ∀ (s : State) (rq : Rq) (v : Word) (off n : Nat) (b : Bool), s.eng.sys.mode = .lockout → (rq = .pf → off < cfgAt) → n < 256 →
    exec (.registerWrite rq off v b) s = .next (s.to s.start) ∧ exec (.guardWrite rq off v) s = .next (s.to s.start) ∧
    exec (.guardedWrite rq off v b) s = .next (s.to s.start) ∧ exec (.rwpWrite rq off v) s = .next (s.to s.start) ∧
    exec (.spanWrite rq v) s = .next (s.to s.start) ∧ exec (.marchRun rq v) s = .next (s.to s.start) ∧
    exec (.shortRetry rq n v) s = .next (s.to s.start) ∧ exec (.islandRst rq n v) s = .next (s.to s.start) ∧
    exec (.fltIrst rq v) s = .next (s.to s.start) ∧ exec (.flumePiWrite rq v) s = .next (s.to s.start) ∧
    exec (.forceOwner rq v) s = .next (s.to s.start) ∧ exec (.peakClr rq v) s = .next (s.to s.start) ∧
    exec (.oneShot rq v) s = .next (s.to s.start) ∧ exec (.refselWrite rq n v) s = .next (s.to s.start) ∧
    exec (.damselWrite rq v) s = .next (s.to s.start) ∧ exec (.tbPrefWrite rq v) s = .next (s.to s.start) ∧
    exec (.graveClr rq v) s = .next (s.to s.start) ∧ exec (.snapGo rq v) s = .next (s.to s.start) ∧
    exec (.domEnWrite rq b v) s = .next (s.to s.start) ∧ exec (.hwmClr rq v) s = .next (s.to s.start) ∧
    exec (.remapWrite rq v) s = .next (s.to s.start) ∧ exec (.handover rq v) s = .next (s.to s.start) ∧
    exec (.rxCfgWrite rq n v) s = .next (s.to s.start) ∧ exec (.rxHeadWrite rq n v) s = .next (s.to s.start) ∧
    exec (.holdExit rq) s = .next (s.to s.start) ∧ exec (.wake rq) s = .next (s.to s.start) ∧
    exec (.sqDoorbell off n v b) s = .next (s.to s.start) ∧ exec (.cqDoorbell off n v b) s = .next (s.to s.start) ∧
    (∀ (w : Bool) (i : Nat) (d : List Word), ∀ c ∈ [Instr.time, .timeSlot, .timeSet, .tsq, .xactEpoch, .xactMapEpoch, .dmaFault, .snapInfo,
      .snapReg, .cntPreset], exec (c rq w i d) s = .next (s.to s.start)) ∧
    (∀ pec : Option Bool, exec (.regData (some v) pec) s = .next (s.to (
      if smbOn s.eng = true ∧ pec = none ∧ pecMust s.eng = true then emit .smbNack s.start else s.start)) ∧
      (bits off 1 0 = 0 → exec (.regAddr (some off) pec) s = exec (.regData (some v) pec) s))
end

