-- ==== Sys2Proof/Laws/Table.lean ====
section
/-! SUPPORT. What reading a sparse table after writing it gives, and that every table operation keeps the canonical form. -/

namespace Sys2Proof.Machine

theorem Tbl.get_ins_same {α : Type} (d : Nat → α) (t : Tbl α) (k : Nat) (v : α) : Tbl.get d (Tbl.ins t k v) k = v := by
  induction t with
  | nil => simp [Tbl.ins, Tbl.get]
  | cons p t ih =>
    obtain ⟨k', v'⟩ := p
    simp only [Tbl.ins]
    split
    · simp [Tbl.get]
    · split
      · simp [Tbl.get]
      · rename_i h1 h2
        simp [Tbl.get, ih, show ¬ k' = k from fun h => h2 h.symm]

theorem Tbl.get_ins_ne {α : Type} (d : Nat → α) (t : Tbl α) (k j : Nat) (v : α) (h : k ≠ j) :
    Tbl.get d (Tbl.ins t k v) j = Tbl.get d t j := by
  induction t with
  | nil => simp [Tbl.ins, Tbl.get, h]
  | cons p t ih =>
    obtain ⟨k', v'⟩ := p
    simp only [Tbl.ins]
    split
    · simp [Tbl.get, h]
    · split
      · rename_i h2
        subst h2
        simp [Tbl.get, h]
      · simp [Tbl.get, ih]

theorem Tbl.get_del_ne {α : Type} (d : Nat → α) (t : Tbl α) (k j : Nat) (h : k ≠ j) :
    Tbl.get d (Tbl.del t k) j = Tbl.get d t j := by
  induction t with
  | nil => rfl
  | cons p t ih =>
    obtain ⟨k', v'⟩ := p
    simp only [Tbl.del] at ih ⊢
    by_cases hk : k' = k
    · subst hk
      simp [Tbl.get, h, ih]
    · simp [Tbl.get, hk, ih]

theorem Tbl.get_del_same {α : Type} (d : Nat → α) (t : Tbl α) (k : Nat) : Tbl.get d (Tbl.del t k) k = d k := by
  induction t with
  | nil => rfl
  | cons p t ih =>
    obtain ⟨k', v'⟩ := p
    simp only [Tbl.del] at ih ⊢
    by_cases hk : k' = k
    · subst hk
      simpa using ih
    · simp [Tbl.get, hk, ih]

/-- A written value is read back. -/
@[simp] theorem Tbl.get_put_same {α : Type} [DecidableEq α] (d : Nat → α) (t : Tbl α) (k : Nat) (v : α) :
    Tbl.get d (Tbl.put d t k v) k = v := by
  unfold Tbl.put
  split
  · rename_i h
    rw [Tbl.get_del_same, h]
  · rw [Tbl.get_ins_same]

/-- A write leaves every other key alone. -/
theorem Tbl.get_put_ne {α : Type} [DecidableEq α] (d : Nat → α) (t : Tbl α) (k j : Nat) (v : α) (h : k ≠ j) :
    Tbl.get d (Tbl.put d t k v) j = Tbl.get d t j := by
  unfold Tbl.put
  split
  · rw [Tbl.get_del_ne _ _ _ _ h]
  · rw [Tbl.get_ins_ne _ _ _ _ _ h]

@[simp] theorem Tbl.get_upd_same {α : Type} [DecidableEq α] (d : Nat → α) (t : Tbl α) (k : Nat) (f : α → α) :
    Tbl.get d (Tbl.upd d t k f) k = f (Tbl.get d t k) := by simp [Tbl.upd]

theorem Tbl.get_upd_ne {α : Type} [DecidableEq α] (d : Nat → α) (t : Tbl α) (k j : Nat) (f : α → α) (h : k ≠ j) :
    Tbl.get d (Tbl.upd d t k f) j = Tbl.get d t j := Tbl.get_put_ne d t k j _ h

-- the canonical form ----------------------------------------------------------------------------------------------------------------

theorem Tbl.above_iff {α : Type} (k : Nat) (t : Tbl α) : Tbl.above k t = true ↔ ∀ p ∈ t, k < p.1 := by
  simp [Tbl.above]

theorem Tbl.above_ins {α : Type} (k j : Nat) (v : α) (t : Tbl α) (h : Tbl.above k t = true) (hj : k < j) :
    Tbl.above k (Tbl.ins t j v) = true := by
  induction t with
  | nil => simp [Tbl.ins, Tbl.above, hj]
  | cons p t ih =>
    obtain ⟨k', v'⟩ := p
    simp only [Tbl.above, List.all_cons, Bool.and_eq_true, decide_eq_true_eq] at h ih
    simp only [Tbl.ins]
    split
    · simpa [Tbl.above, hj] using h
    · split
      · simpa [Tbl.above, hj] using h.2
      · have := ih h.2
        simp only [Tbl.above, List.all_cons, Bool.and_eq_true, decide_eq_true_eq]
        exact ⟨h.1, this⟩

theorem Tbl.above_le {α : Type} (k j : Nat) (t : Tbl α) (h : Tbl.above k t = true) (hj : j ≤ k) : Tbl.above j t = true := by
  rw [Tbl.above_iff] at *
  intro p hp
  exact Nat.lt_of_le_of_lt hj (h p hp)

theorem Tbl.rising_ins {α : Type} (t : Tbl α) (k : Nat) (v : α) (h : Tbl.rising t = true) : Tbl.rising (Tbl.ins t k v) = true := by
  induction t with
  | nil => simp [Tbl.ins, Tbl.rising, Tbl.above]
  | cons p t ih =>
    obtain ⟨k', v'⟩ := p
    simp only [Tbl.rising, Bool.and_eq_true] at h
    simp only [Tbl.ins]
    split
    · rename_i hk
      simp only [Tbl.rising, Bool.and_eq_true]
      refine ⟨?_, h.1, h.2⟩
      have := Tbl.above_le k' k t h.1 (Nat.le_of_lt hk)
      simp only [Tbl.above, List.all_cons, Bool.and_eq_true, decide_eq_true_eq] at this ⊢
      exact ⟨hk, this⟩
    · split
      · rename_i hk
        subst hk
        simp [Tbl.rising, h.1, h.2]
      · rename_i h1 h2
        simp only [Tbl.rising, Bool.and_eq_true]
        exact ⟨Tbl.above_ins k' k v t h.1 (by omega), ih h.2⟩

theorem Tbl.rising_filter {α : Type} (t : Tbl α) (p : Nat × α → Bool) (h : Tbl.rising t = true) :
    Tbl.rising (t.filter p) = true := by
  induction t with
  | nil => rfl
  | cons q t ih =>
    simp only [Tbl.rising, Bool.and_eq_true] at h
    have hf := ih h.2
    simp only [List.filter_cons]
    split
    · simp only [Tbl.rising, Bool.and_eq_true]
      refine ⟨?_, hf⟩
      rw [Tbl.above_iff] at *
      intro x hx
      exact h.1 x (List.mem_of_mem_filter hx)
    · exact hf

/-- Keeping some entries keeps the canonical form. -/
theorem Tbl.wf_filter {α : Type} [DecidableEq α] (d : Nat → α) (t : Tbl α) (p : Nat × α → Bool) (h : Tbl.wf d t = true) :
    Tbl.wf d (t.filter p) = true := by
  simp only [Tbl.wf, Bool.and_eq_true] at *
  refine ⟨Tbl.rising_filter t p h.1, ?_⟩
  rw [List.all_eq_true] at *
  intro x hx
  exact h.2 x (List.mem_of_mem_filter hx)

theorem Tbl.wf_del {α : Type} [DecidableEq α] (d : Nat → α) (t : Tbl α) (k : Nat) (h : Tbl.wf d t = true) :
    Tbl.wf d (Tbl.del t k) = true := Tbl.wf_filter d t _ h

theorem Tbl.mem_ins {α : Type} (t : Tbl α) (k : Nat) (v : α) (x : Nat × α) (h : x ∈ Tbl.ins t k v) : x = (k, v) ∨ x ∈ t := by
  induction t with
  | nil => simpa [Tbl.ins] using h
  | cons p t ih =>
    obtain ⟨k', v'⟩ := p
    simp only [Tbl.ins] at h
    split at h
    · simpa using h
    · split at h
      · simp only [List.mem_cons] at h ⊢
        rcases h with h | h
        · exact Or.inl h
        · exact Or.inr (Or.inr h)
      · simp only [List.mem_cons] at h ⊢
        rcases h with h | h
        · exact Or.inr (Or.inl h)
        · rcases ih h with h | h
          · exact Or.inl h
          · exact Or.inr (Or.inr h)

/-- A write keeps the canonical form. -/
theorem Tbl.wf_put {α : Type} [DecidableEq α] (d : Nat → α) (t : Tbl α) (k : Nat) (v : α) (h : Tbl.wf d t = true) :
    Tbl.wf d (Tbl.put d t k v) = true := by
  unfold Tbl.put
  split
  · exact Tbl.wf_del d t k h
  · rename_i hv
    simp only [Tbl.wf, Bool.and_eq_true] at *
    refine ⟨Tbl.rising_ins t k v h.1, ?_⟩
    rw [List.all_eq_true] at *
    intro x hx
    rcases Tbl.mem_ins t k v x hx with rfl | hx
    · simpa using hv
    · exact h.2 x hx

theorem Tbl.wf_upd {α : Type} [DecidableEq α] (d : Nat → α) (t : Tbl α) (k : Nat) (f : α → α) (h : Tbl.wf d t = true) :
    Tbl.wf d (Tbl.upd d t k f) = true := Tbl.wf_put d t k _ h

end Sys2Proof.Machine
end

