-- ==== Sys2Proof/Laws/Moves.lean ====
section
/-! SUPPORT. What an operation on the engine can do, said once for each: `Moves w a b` says that `b`, reached from `a`, is `a` in
every part but those whose bit the mask `w` has, and that it keeps what every effect keeps. One lemma `moves_f` per operation `f`
of Machine/<Module>.lean stands in Laws/Moves<Module>.lean; a later proof cites it and does not unfold `f`. -/

namespace Sys2Proof.Machine

/-- The bit of a part in a mask. -/
def Part.num : Part → Nat
  | .clk => 0 | .freeCtr => 1 | .regs => 2 | .trip1 => 3 | .trip2 => 4 | .reach => 5 | .guards => 6 | .mbx => 7 | .snap => 8
  | .nvr => 9 | .flt => 10 | .sys => 11 | .thm => 12 | .pwr => 13 | .tim => 14 | .pins => 15 | .cmd => 16 | .dma => 17
  | .hif => 18 | .xact => 19 | .bkp => 20 | .syn => 21 | .rfs => 22 | .sns => 23 | .loop => 24 | .sch => 25 | .lrg => 26
  | .hostMem => 27 | .out => 28

/-- `b` is `a` in every part that has no bit in `w`. -/
def Frame (w : Nat) (a b : Engine) : Prop := ∀ p : Part, w.testBit p.num = false → same p a b

/-- What every effect keeps: the band fuse, the wear counters (which never fall), the canonical forms of host memory and of the
register file, and the bounds of the history and timestamp queues (R317, R339, R299). -/
structure Keeps (a b : Engine) : Prop where
  band : b.sys.bandCB = a.sys.bandCB
  wear : ∀ k, Tbl.get (fun _ => 0) a.nvr.wear k ≤ Tbl.get (fun _ => 0) b.nvr.wear k
  mem : Memory.wf a.hostMem = true → Memory.wf b.hostMem = true
  regs : Tbl.wf resetVal a.regs = true → Tbl.wf resetVal b.regs = true
  hist : a.flt.hist.length ≤ 32 → b.flt.hist.length ≤ 32
  tsq : a.tim.tsq.length ≤ 64 → b.tim.tsq.length ≤ 64

/-- An effect within the parts of `w`. -/
structure Moves (w : Nat) (a b : Engine) : Prop where
  frame : Frame w a b
  keeps : Keeps a b

theorem same.refl (p : Part) (a : Engine) : same p a a := by cases p <;> rfl

theorem same.trans {p : Part} {a b c : Engine} (h : same p a b) (g : same p b c) : same p a c := by
  cases p <;> exact Eq.trans g h

theorem Keeps.refl (a : Engine) : Keeps a a := ⟨rfl, fun _ => Nat.le_refl _, id, id, id, id⟩

theorem Keeps.trans {a b c : Engine} (h : Keeps a b) (g : Keeps b c) : Keeps a c :=
  ⟨g.band.trans h.band, fun k => Nat.le_trans (h.wear k) (g.wear k), g.mem ∘ h.mem, g.regs ∘ h.regs, g.hist ∘ h.hist,
   g.tsq ∘ h.tsq⟩

/-- Nothing of what every effect keeps has changed. -/
theorem Keeps.of_eq {a b : Engine} (hs : b.sys.bandCB = a.sys.bandCB) (hn : b.nvr.wear = a.nvr.wear) (hm : b.hostMem = a.hostMem)
    (hr : b.regs = a.regs) (hh : b.flt.hist = a.flt.hist) (ht : b.tim.tsq = a.tim.tsq) : Keeps a b :=
  ⟨hs, fun k => by rw [hn], by rw [hm]; exact id, by rw [hr]; exact id, by rw [hh]; exact id, by rw [ht]; exact id⟩

theorem Moves.refl (w : Nat) (a : Engine) : Moves w a a := ⟨fun _ _ => same.refl _ _, Keeps.refl a⟩

/-- Parts outside the larger mask are outside the smaller. -/
theorem mask_sub {k w i : Nat} (hw : k ||| w = w) (hp : w.testBit i = false) : k.testBit i = false := by
  rw [← hw, Nat.testBit_or] at hp
  exact (Bool.or_eq_false_iff.mp hp).1

theorem subMask {k w m : Nat} (hw : k ||| w = w) (h : m ||| k = k) : m ||| w = w := by
  rw [← hw, ← Nat.lor_assoc, h]

/-- After an effect within `w`, another within `w`. -/
theorem Moves.then {k w : Nat} {a e b : Engine} (h : Moves k e b) (hw : k ||| w = w) (h0 : Moves w a e) : Moves w a b :=
  ⟨fun p hp => (h0.frame p hp).trans (h.frame p (mask_sub hw hp)), h0.keeps.trans h.keeps⟩

/-- A part that an effect does not have is as before. -/
theorem Moves.part {w : Nat} {a b : Engine} (h : Moves w a b) (p : Part) (hp : w.testBit p.num = false) : same p a b := h.frame p hp

/-- An effect gives what a list of parts says. -/
theorem Moves.unchanged {w : Nat} {a b : Engine} (h : Moves w a b) (l : List Part)
    (hl : everyPart.all (fun p => l.contains p || !w.testBit p.num) = true) : Unchanged l a b := by
  intro p hp
  refine h.frame p ?_
  have hm : p ∈ everyPart := by cases p <;> decide
  have := List.all_eq_true.mp hl p hm
  simpa [hp] using this

-- one part written ------------------------------------------------------------------------------------------------------------------

theorem Moves.put {m w : Nat} {a e b : Engine} (hw : m ||| w = w) (hf : ∀ p : Part, m.testBit p.num = false → same p e b)
    (hk : Keeps e b) (h : Moves w a e) : Moves w a b := Moves.then ⟨hf, hk⟩ hw h

theorem moves_clk {w : Nat} {a e : Engine} {x : Nat} (hw : 1 ||| w = w) (h : Moves w a e) :
    Moves w a { e with clk := x } :=
  Moves.put (e := e) hw (by intro p hp; cases p <;> first | rfl | exact absurd hp (by decide))
    ⟨rfl, fun _ => Nat.le_refl _, id, id, id, id⟩ h

theorem moves_freeCtr {w : Nat} {a e : Engine} {x : Nat} (hw : 2 ||| w = w) (h : Moves w a e) :
    Moves w a { e with freeCtr := x } :=
  Moves.put (e := e) hw (by intro p hp; cases p <;> first | rfl | exact absurd hp (by decide))
    ⟨rfl, fun _ => Nat.le_refl _, id, id, id, id⟩ h

theorem moves_regs {w : Nat} {a e : Engine} {x : Tbl Word} (hw : 4 ||| w = w) (hx : Tbl.wf resetVal e.regs = true → Tbl.wf resetVal x = true) (h : Moves w a e) :
    Moves w a { e with regs := x } :=
  Moves.put (e := e) hw (by intro p hp; cases p <;> first | rfl | exact absurd hp (by decide))
    ⟨rfl, fun _ => Nat.le_refl _, id, hx, id, id⟩ h

theorem moves_trip1 {w : Nat} {a e : Engine} {x : Tbl Word} (hw : 8 ||| w = w) (h : Moves w a e) :
    Moves w a { e with trip1 := x } :=
  Moves.put (e := e) hw (by intro p hp; cases p <;> first | rfl | exact absurd hp (by decide))
    ⟨rfl, fun _ => Nat.le_refl _, id, id, id, id⟩ h

theorem moves_trip2 {w : Nat} {a e : Engine} {x : Tbl Word} (hw : 16 ||| w = w) (h : Moves w a e) :
    Moves w a { e with trip2 := x } :=
  Moves.put (e := e) hw (by intro p hp; cases p <;> first | rfl | exact absurd hp (by decide))
    ⟨rfl, fun _ => Nat.le_refl _, id, id, id, id⟩ h

theorem moves_reach {w : Nat} {a e : Engine} {x : Tbl Word} (hw : 32 ||| w = w) (h : Moves w a e) :
    Moves w a { e with reach := x } :=
  Moves.put (e := e) hw (by intro p hp; cases p <;> first | rfl | exact absurd hp (by decide))
    ⟨rfl, fun _ => Nat.le_refl _, id, id, id, id⟩ h

theorem moves_guards {w : Nat} {a e : Engine} {x : Tbl Latch} (hw : 64 ||| w = w) (h : Moves w a e) :
    Moves w a { e with guards := x } :=
  Moves.put (e := e) hw (by intro p hp; cases p <;> first | rfl | exact absurd hp (by decide))
    ⟨rfl, fun _ => Nat.le_refl _, id, id, id, id⟩ h

theorem moves_mbx {w : Nat} {a e : Engine} {x : Tbl Mbx} (hw : 128 ||| w = w) (h : Moves w a e) :
    Moves w a { e with mbx := x } :=
  Moves.put (e := e) hw (by intro p hp; cases p <;> first | rfl | exact absurd hp (by decide))
    ⟨rfl, fun _ => Nat.le_refl _, id, id, id, id⟩ h

theorem moves_snap {w : Nat} {a e : Engine} {x : SnapSt} (hw : 256 ||| w = w) (h : Moves w a e) :
    Moves w a { e with snap := x } :=
  Moves.put (e := e) hw (by intro p hp; cases p <;> first | rfl | exact absurd hp (by decide))
    ⟨rfl, fun _ => Nat.le_refl _, id, id, id, id⟩ h

theorem moves_nvr {w : Nat} {a e : Engine} {x : NvrSt} (hw : 512 ||| w = w) (hx : ∀ k, Tbl.get (fun _ => 0) e.nvr.wear k ≤ Tbl.get (fun _ => 0) x.wear k) (h : Moves w a e) :
    Moves w a { e with nvr := x } :=
  Moves.put (e := e) hw (by intro p hp; cases p <;> first | rfl | exact absurd hp (by decide))
    ⟨rfl, hx, id, id, id, id⟩ h

theorem moves_flt {w : Nat} {a e : Engine} {x : FltSt} (hw : 1024 ||| w = w) (hx : e.flt.hist.length ≤ 32 → x.hist.length ≤ 32) (h : Moves w a e) :
    Moves w a { e with flt := x } :=
  Moves.put (e := e) hw (by intro p hp; cases p <;> first | rfl | exact absurd hp (by decide))
    ⟨rfl, fun _ => Nat.le_refl _, id, id, hx, id⟩ h

theorem moves_sys {w : Nat} {a e : Engine} {x : SysSt} (hw : 2048 ||| w = w) (hx : x.bandCB = e.sys.bandCB) (h : Moves w a e) :
    Moves w a { e with sys := x } :=
  Moves.put (e := e) hw (by intro p hp; cases p <;> first | rfl | exact absurd hp (by decide))
    ⟨hx, fun _ => Nat.le_refl _, id, id, id, id⟩ h

theorem moves_thm {w : Nat} {a e : Engine} {x : ThmSt} (hw : 4096 ||| w = w) (h : Moves w a e) :
    Moves w a { e with thm := x } :=
  Moves.put (e := e) hw (by intro p hp; cases p <;> first | rfl | exact absurd hp (by decide))
    ⟨rfl, fun _ => Nat.le_refl _, id, id, id, id⟩ h

theorem moves_pwr {w : Nat} {a e : Engine} {x : PwrSt} (hw : 8192 ||| w = w) (h : Moves w a e) :
    Moves w a { e with pwr := x } :=
  Moves.put (e := e) hw (by intro p hp; cases p <;> first | rfl | exact absurd hp (by decide))
    ⟨rfl, fun _ => Nat.le_refl _, id, id, id, id⟩ h

theorem moves_tim {w : Nat} {a e : Engine} {x : TimSt} (hw : 16384 ||| w = w) (hx : e.tim.tsq.length ≤ 64 → x.tsq.length ≤ 64) (h : Moves w a e) :
    Moves w a { e with tim := x } :=
  Moves.put (e := e) hw (by intro p hp; cases p <;> first | rfl | exact absurd hp (by decide))
    ⟨rfl, fun _ => Nat.le_refl _, id, id, id, hx⟩ h

theorem moves_pins {w : Nat} {a e : Engine} {x : PinSt} (hw : 32768 ||| w = w) (h : Moves w a e) :
    Moves w a { e with pins := x } :=
  Moves.put (e := e) hw (by intro p hp; cases p <;> first | rfl | exact absurd hp (by decide))
    ⟨rfl, fun _ => Nat.le_refl _, id, id, id, id⟩ h

theorem moves_cmd {w : Nat} {a e : Engine} {x : CmdSt} (hw : 65536 ||| w = w) (h : Moves w a e) :
    Moves w a { e with cmd := x } :=
  Moves.put (e := e) hw (by intro p hp; cases p <;> first | rfl | exact absurd hp (by decide))
    ⟨rfl, fun _ => Nat.le_refl _, id, id, id, id⟩ h

theorem moves_dma {w : Nat} {a e : Engine} {x : DmaSt} (hw : 131072 ||| w = w) (h : Moves w a e) :
    Moves w a { e with dma := x } :=
  Moves.put (e := e) hw (by intro p hp; cases p <;> first | rfl | exact absurd hp (by decide))
    ⟨rfl, fun _ => Nat.le_refl _, id, id, id, id⟩ h

theorem moves_hif {w : Nat} {a e : Engine} {x : HifSt} (hw : 262144 ||| w = w) (h : Moves w a e) :
    Moves w a { e with hif := x } :=
  Moves.put (e := e) hw (by intro p hp; cases p <;> first | rfl | exact absurd hp (by decide))
    ⟨rfl, fun _ => Nat.le_refl _, id, id, id, id⟩ h

theorem moves_xact {w : Nat} {a e : Engine} {x : XactSt} (hw : 524288 ||| w = w) (h : Moves w a e) :
    Moves w a { e with xact := x } :=
  Moves.put (e := e) hw (by intro p hp; cases p <;> first | rfl | exact absurd hp (by decide))
    ⟨rfl, fun _ => Nat.le_refl _, id, id, id, id⟩ h

theorem moves_bkp {w : Nat} {a e : Engine} {x : BkpSt} (hw : 1048576 ||| w = w) (h : Moves w a e) :
    Moves w a { e with bkp := x } :=
  Moves.put (e := e) hw (by intro p hp; cases p <;> first | rfl | exact absurd hp (by decide))
    ⟨rfl, fun _ => Nat.le_refl _, id, id, id, id⟩ h

theorem moves_syn {w : Nat} {a e : Engine} {x : SynSt} (hw : 2097152 ||| w = w) (h : Moves w a e) :
    Moves w a { e with syn := x } :=
  Moves.put (e := e) hw (by intro p hp; cases p <;> first | rfl | exact absurd hp (by decide))
    ⟨rfl, fun _ => Nat.le_refl _, id, id, id, id⟩ h

theorem moves_rfs {w : Nat} {a e : Engine} {x : RfsSt} (hw : 4194304 ||| w = w) (h : Moves w a e) :
    Moves w a { e with rfs := x } :=
  Moves.put (e := e) hw (by intro p hp; cases p <;> first | rfl | exact absurd hp (by decide))
    ⟨rfl, fun _ => Nat.le_refl _, id, id, id, id⟩ h

theorem moves_sns {w : Nat} {a e : Engine} {x : SnsSt} (hw : 8388608 ||| w = w) (h : Moves w a e) :
    Moves w a { e with sns := x } :=
  Moves.put (e := e) hw (by intro p hp; cases p <;> first | rfl | exact absurd hp (by decide))
    ⟨rfl, fun _ => Nat.le_refl _, id, id, id, id⟩ h

theorem moves_loop {w : Nat} {a e : Engine} {x : LoopSt} (hw : 16777216 ||| w = w) (h : Moves w a e) :
    Moves w a { e with loop := x } :=
  Moves.put (e := e) hw (by intro p hp; cases p <;> first | rfl | exact absurd hp (by decide))
    ⟨rfl, fun _ => Nat.le_refl _, id, id, id, id⟩ h

theorem moves_sch {w : Nat} {a e : Engine} {x : SchSt} (hw : 33554432 ||| w = w) (h : Moves w a e) :
    Moves w a { e with sch := x } :=
  Moves.put (e := e) hw (by intro p hp; cases p <;> first | rfl | exact absurd hp (by decide))
    ⟨rfl, fun _ => Nat.le_refl _, id, id, id, id⟩ h

theorem moves_lrg {w : Nat} {a e : Engine} {x : LrgSt} (hw : 67108864 ||| w = w) (h : Moves w a e) :
    Moves w a { e with lrg := x } :=
  Moves.put (e := e) hw (by intro p hp; cases p <;> first | rfl | exact absurd hp (by decide))
    ⟨rfl, fun _ => Nat.le_refl _, id, id, id, id⟩ h

theorem moves_hostMem {w : Nat} {a e : Engine} {x : Tbl Byte} (hw : 134217728 ||| w = w) (hx : Memory.wf e.hostMem = true → Memory.wf x = true) (h : Moves w a e) :
    Moves w a { e with hostMem := x } :=
  Moves.put (e := e) hw (by intro p hp; cases p <;> first | rfl | exact absurd hp (by decide))
    ⟨rfl, fun _ => Nat.le_refl _, hx, id, id, id⟩ h

theorem moves_out {w : Nat} {a e : Engine} {x : List OutEv} (hw : 268435456 ||| w = w) (h : Moves w a e) :
    Moves w a { e with out := x } :=
  Moves.put (e := e) hw (by intro p hp; cases p <;> first | rfl | exact absurd hp (by decide))
    ⟨rfl, fun _ => Nat.le_refl _, id, id, id, id⟩ h

-- several parts written at once ------------------------------------------------------------------------------------------------------

theorem moves_eng_clk {m w : Nat} {a e : Engine}
    {c_clk : Nat} {c_freeCtr : Nat} {c_regs : Tbl Word} {c_trip1 : Tbl Word} {c_trip2 : Tbl Word} {c_reach : Tbl Word}
    {c_guards : Tbl Latch} {c_mbx : Tbl Mbx} {c_snap : SnapSt} {c_nvr : NvrSt} {c_flt : FltSt} {c_sys : SysSt} {c_thm :
    ThmSt} {c_pwr : PwrSt} {c_tim : TimSt} {c_pins : PinSt} {c_cmd : CmdSt} {c_dma : DmaSt} {c_hif : HifSt} {c_xact :
    XactSt} {c_bkp : BkpSt} {c_syn : SynSt} {c_rfs : RfsSt} {c_sns : SnsSt} {c_loop : LoopSt} {c_sch : SchSt} {c_lrg :
    LrgSt} {c_hostMem : Tbl Byte} {c_out : List OutEv}
    (_ : c_clk = e.clk) (hw : m ||| w = w)
    (hf : ∀ p : Part, m.testBit p.num = false → same p e
      ⟨c_clk, c_freeCtr, c_regs, c_trip1, c_trip2, c_reach, c_guards, c_mbx, c_snap, c_nvr, c_flt, c_sys, c_thm, c_pwr,
      c_tim, c_pins, c_cmd, c_dma, c_hif, c_xact, c_bkp, c_syn, c_rfs, c_sns, c_loop, c_sch, c_lrg, c_hostMem, c_out⟩)
    (hs : c_sys.bandCB = e.sys.bandCB) (hn : c_nvr.wear = e.nvr.wear) (hm : c_hostMem = e.hostMem) (hr : c_regs = e.regs)
    (hh : c_flt.hist = e.flt.hist) (ht : c_tim.tsq = e.tim.tsq) (h : Moves w a e) :
    Moves w a
      ⟨c_clk, c_freeCtr, c_regs, c_trip1, c_trip2, c_reach, c_guards, c_mbx, c_snap, c_nvr, c_flt, c_sys, c_thm, c_pwr,
      c_tim, c_pins, c_cmd, c_dma, c_hif, c_xact, c_bkp, c_syn, c_rfs, c_sns, c_loop, c_sch, c_lrg, c_hostMem, c_out⟩ :=
  Moves.put hw hf (Keeps.of_eq hs hn hm hr hh ht) h

theorem moves_eng_hostMem {m w : Nat} {a e : Engine}
    {c_clk : Nat} {c_freeCtr : Nat} {c_regs : Tbl Word} {c_trip1 : Tbl Word} {c_trip2 : Tbl Word} {c_reach : Tbl Word}
    {c_guards : Tbl Latch} {c_mbx : Tbl Mbx} {c_snap : SnapSt} {c_nvr : NvrSt} {c_flt : FltSt} {c_sys : SysSt} {c_thm :
    ThmSt} {c_pwr : PwrSt} {c_tim : TimSt} {c_pins : PinSt} {c_cmd : CmdSt} {c_dma : DmaSt} {c_hif : HifSt} {c_xact :
    XactSt} {c_bkp : BkpSt} {c_syn : SynSt} {c_rfs : RfsSt} {c_sns : SnsSt} {c_loop : LoopSt} {c_sch : SchSt} {c_lrg :
    LrgSt} {c_hostMem : Tbl Byte} {c_out : List OutEv}
    (_ : c_hostMem = e.hostMem) (hw : m ||| w = w)
    (hf : ∀ p : Part, m.testBit p.num = false → same p e
      ⟨c_clk, c_freeCtr, c_regs, c_trip1, c_trip2, c_reach, c_guards, c_mbx, c_snap, c_nvr, c_flt, c_sys, c_thm, c_pwr,
      c_tim, c_pins, c_cmd, c_dma, c_hif, c_xact, c_bkp, c_syn, c_rfs, c_sns, c_loop, c_sch, c_lrg, c_hostMem, c_out⟩)
    (hs : c_sys.bandCB = e.sys.bandCB) (hn : c_nvr.wear = e.nvr.wear) (hm : c_hostMem = e.hostMem) (hr : c_regs = e.regs)
    (hh : c_flt.hist = e.flt.hist) (ht : c_tim.tsq = e.tim.tsq) (h : Moves w a e) :
    Moves w a
      ⟨c_clk, c_freeCtr, c_regs, c_trip1, c_trip2, c_reach, c_guards, c_mbx, c_snap, c_nvr, c_flt, c_sys, c_thm, c_pwr,
      c_tim, c_pins, c_cmd, c_dma, c_hif, c_xact, c_bkp, c_syn, c_rfs, c_sns, c_loop, c_sch, c_lrg, c_hostMem, c_out⟩ :=
  Moves.put hw hf (Keeps.of_eq hs hn hm hr hh ht) h

-- what operations are built from ---------------------------------------------------------------------------------------------------------

theorem moves_ite {w : Nat} {a x y : Engine} {c : Prop} [Decidable c] (hx : Moves w a x) (hy : Moves w a y) :
    Moves w a (if c then x else y) := by split <;> assumption

theorem moves_ite1 {w : Nat} {β : Type} {a : Engine} {x y : Engine × β} {c : Prop} [Decidable c] (hx : Moves w a x.1)
    (hy : Moves w a y.1) : Moves w a (if c then x else y).1 := by split <;> assumption

theorem moves_each {w : Nat} {α : Type} {a : Engine} (l : List α) (f : α → Engine → Engine) (e : Engine)
    (hf : ∀ x y, Moves w y (f x y)) (h : Moves w a e) : Moves w a (each l f e) := by
  unfold each
  induction l generalizing e with
  | nil => exact h
  | cons x l ih => exact ih _ ((hf x e).then (Nat.or_self w) h)

theorem moves_foldl {w : Nat} {α : Type} {a : Engine} (l : List α) (f : Engine → α → Engine) (e : Engine)
    (hf : ∀ y x, Moves w y (f y x)) (h : Moves w a e) : Moves w a (l.foldl f e) := by
  induction l generalizing e with
  | nil => exact h
  | cons x l ih => exact ih _ ((hf e x).then (Nat.or_self w) h)

theorem moves_foldl1 {w : Nat} {α β : Type} {a : Engine} (l : List α) (f : Engine × β → α → Engine × β) (p : Engine × β)
    (hf : ∀ q x, Moves w q.1 (f q x).1) (h : Moves w a p.1) : Moves w a (l.foldl f p).1 := by
  induction l generalizing p with
  | nil => exact h
  | cons x l ih => exact ih _ ((hf p x).then (Nat.or_self w) h)

theorem moves_whenE {w : Nat} {a e : Engine} (b : Bool) (f : Engine → Engine) (hf : ∀ y, Moves w y (f y)) (h : Moves w a e) :
    Moves w a (whenE b f e) := by
  unfold whenE
  split
  · exact (hf e).then (Nat.or_self w) h
  · exact h

/-- Every engine an optional answer holds is within `w`. -/
def MovesO (w : Nat) (a : Engine) (o : Option Engine) : Prop := ∀ e, o = some e → Moves w a e

/-- Both engines an either-or answer can hold are within `w`. -/
def MovesS {β : Type} (w : Nat) (a : Engine) (o : Engine ⊕ Engine × β) : Prop :=
  (∀ e, o = .inl e → Moves w a e) ∧ ∀ e r, o = .inr (e, r) → Moves w a e

theorem movesO_none {w : Nat} {a : Engine} : MovesO w a none := fun _ h => by cases h

theorem movesO_some {w : Nat} {a e : Engine} (h : Moves w a e) : MovesO w a (some e) := fun _ q => by cases q; exact h

theorem movesS_inl {w : Nat} {β : Type} {a e : Engine} (h : Moves w a e) : MovesS (β := β) w a (.inl e) :=
  ⟨fun _ q => (by cases q; exact h), fun _ _ q => by cases q⟩

theorem movesS_inr {w : Nat} {β : Type} {a e : Engine} {r : β} (h : Moves w a e) : MovesS w a (.inr (e, r)) :=
  ⟨fun _ q => (by cases q), fun _ _ q => by cases q; exact h⟩

theorem MovesO.then {k w : Nat} {a e : Engine} {o : Option Engine} (h : MovesO k e o) (hw : k ||| w = w) (h0 : Moves w a e) :
    MovesO w a o := fun y q => (h y q).then hw h0

theorem MovesS.then {β : Type} {k w : Nat} {a e : Engine} {o : Engine ⊕ Engine × β} (h : MovesS k e o) (hw : k ||| w = w)
    (h0 : Moves w a e) : MovesS w a o := ⟨fun y q => (h.1 y q).then hw h0, fun y r q => (h.2 y r q).then hw h0⟩

theorem moves_getD {w : Nat} {a d : Engine} {o : Option Engine} (h : MovesO w a o) (k : Moves w a d) : Moves w a (o.getD d) := by
  cases o with
  | none => exact k
  | some x => exact h x rfl

theorem moves_mk1 {w : Nat} {β : Type} {a x : Engine} {y : β} (h : Moves w a x) : Moves w a (x, y).1 := h

/-- A named engine is within `w`; then so is what is made of it. -/
theorem moves_cut {w : Nat} {a y b : Engine} (h : Moves w a y) (k : Moves w a y → Moves w a b) : Moves w a b := k h

theorem movesO_cut {w : Nat} {a b : Engine} {y : Option Engine} (h : MovesO w a y) (k : MovesO w a y → Moves w a b) :
    Moves w a b := k h

theorem moves_cutG {w : Nat} {a y : Engine} {P : Prop} (h : Moves w a y) (k : Moves w a y → P) : P := k h

theorem moves_pairEq {w : Nat} {β : Type} {a e : Engine} {p : Engine × β} {r : β} {P : Prop} (q : p = (e, r))
    (h : Moves w a p.1) (k : Moves w a e → P) : P := k (by rw [q] at h; exact h)

theorem moves_pair {w : Nat} {β : Type} {a e b : Engine} {p : Engine × β} {r : β} (q : p = (e, r))
    (h : Moves w a p.1) (k : Moves w a e → Moves w a b) : Moves w a b := moves_pairEq q h k

theorem moves_someEq {w : Nat} {a e : Engine} {p : Option Engine} {P : Prop} (q : p = some e) (h : MovesO w a p)
    (k : Moves w a e → P) : P := k (h _ q)

theorem moves_some {w : Nat} {a e b : Engine} {p : Option Engine} (q : p = some e) (h : MovesO w a p)
    (k : Moves w a e → Moves w a b) : Moves w a b := moves_someEq q h k

theorem moves_inlEq {w : Nat} {β : Type} {a e : Engine} {p : Engine ⊕ Engine × β} {P : Prop} (q : p = .inl e) (h : MovesS w a p)
    (k : Moves w a e → P) : P := k (h.1 _ q)

theorem moves_inrEq {w : Nat} {β : Type} {a e : Engine} {r : β} {p : Engine ⊕ Engine × β} {P : Prop} (q : p = .inr (e, r))
    (h : MovesS w a p) (k : Moves w a e → P) : P := k (h.2 _ _ q)

theorem moves_inl {w : Nat} {β : Type} {a e b : Engine} {p : Engine ⊕ Engine × β} (q : p = .inl e) (h : MovesS w a p)
    (k : Moves w a e → Moves w a b) : Moves w a b := moves_inlEq q h k

theorem moves_inr {w : Nat} {β : Type} {a e b : Engine} {r : β} {p : Engine ⊕ Engine × β} (q : p = .inr (e, r))
    (h : MovesS w a p) (k : Moves w a e → Moves w a b) : Moves w a b := moves_inrEq q h k

-- registers and memory ---------------------------------------------------------------------------------------------------------------

theorem wf_putBytes (l : List Byte) (x : Nat) (m : Tbl Byte) (h : Memory.wf m = true) : Memory.wf (putBytes x l m) = true := by
  induction l generalizing x m with
  | nil => exact h
  | cons b t ih => exact ih _ _ (Tbl.wf_put _ _ _ _ h)

theorem moves_wr {off v : Nat} {e : Engine} : Moves 28 e (wr off v e) :=
  ⟨by intro p hp; cases p <;> first | rfl | exact absurd hp (by decide),
   ⟨rfl, fun _ => Nat.le_refl _, id, fun hw => Tbl.wf_put _ _ _ _ hw, id, id⟩⟩

theorem moves_wrBytes {x : Nat} {l : List Byte} {e : Engine} : Moves 134217728 e (wrBytes x l e) :=
  ⟨by intro p hp; cases p <;> first | rfl | exact absurd hp (by decide),
   ⟨rfl, fun _ => Nat.le_refl _, fun hw => wf_putBytes _ _ _ hw, id, id, id⟩⟩

-- meanings -----------------------------------------------------------------------------------------------------------------------------

/-- A meaning answers a next state, reached by an effect within `w`. -/
def Acts (w : Nat) (o : Host.Outcome State Fault Refusal) (s : State) : Prop :=
  ∃ f : Engine → Engine, o = .next (s.run f) ∧ ∀ e, Moves w e (f e)

/-- The mask of a list of parts. -/
def partMask (l : List Part) : Nat := l.foldl (fun m p => m ||| 2 ^ p.num) 0

theorem Acts.within {k w : Nat} {o : Host.Outcome State Fault Refusal} {s : State} (h : Acts k o s) (hw : k ||| w = w) :
    Acts w o s := by
  obtain ⟨f, ho, hf⟩ := h
  exact ⟨f, ho, fun e => (hf e).then hw (Moves.refl _ _)⟩

/-- The effect is within the parts of a list. -/
theorem Acts.parts {k : Nat} {l : List Part} {o : Host.Outcome State Fault Refusal} {s : State} (h : Acts k o s) (m : Nat)
    (hm : partMask l = m) (hk : k ||| m = m) : Acts (partMask l) o s := h.within (by rw [hm]; exact hk)

theorem Acts.mk {m : Nat} {f : Engine → Engine} {s : State} (h : ∀ e, Moves m e (f e)) : Acts m (.next (s.run f)) s := ⟨f, rfl, h⟩

end Sys2Proof.Machine
end

