-- ==== Sys2Proof/Laws/MovesOps.lean ====
section
/-! SUPPORT. What each operation of Machine/Ops.lean can do (`moves_f`). -/

namespace Sys2Proof.Machine

theorem moves_wrF {x0 x1 e} : Moves 28 e (wrF x0 x1 e) := by
  unfold wrF
  exact (moves_wr).then (by decide) <| Moves.refl _ _

theorem moves_addC {x0 x1 e} : Moves 28 e (addC x0 x1 e) := by
  unfold addC
  exact (moves_wr).then (by decide) <| Moves.refl _ _

theorem moves_inc {x0 e} : Moves 28 e (inc x0 e) := by
  unfold inc
  exact (moves_addC).then (by decide) <| Moves.refl _ _

theorem moves_satC {x0 x1 e} : Moves 28 e (satC x0 x1 e) := by
  unfold satC
  exact (moves_wr).then (by decide) <| Moves.refl _ _

theorem moves_updHop {x0 x1 e} : Moves 65536 e (updHop x0 x1 e) := by
  unfold updHop
  exact moves_cmd (by decide) <| Moves.refl _ _

theorem moves_updDom {x0 x1 e} : Moves 65536 e (updDom x0 x1 e) := by
  unfold updDom
  exact moves_cmd (by decide) <| Moves.refl _ _

theorem moves_updAper {x0 x1 e} : Moves 1048576 e (updAper x0 x1 e) := by
  unfold updAper
  exact moves_bkp (by decide) <| Moves.refl _ _

theorem moves_allApers {x0 e} : Moves 1048576 e (allApers x0 e) := by
  unfold allApers
  exact moves_bkp (by decide) <| Moves.refl _ _

theorem moves_updTile {x0 x1 e} : Moves 1048576 e (updTile x0 x1 e) := by
  unfold updTile
  exact moves_bkp (by decide) <| Moves.refl _ _

theorem moves_updPort {x0 x1 e} : Moves 524288 e (updPort x0 x1 e) := by
  unfold updPort
  exact moves_xact (by decide) <| Moves.refl _ _

theorem moves_updSens {x0 x1 e} : Moves 8388608 e (updSens x0 x1 e) := by
  unfold updSens
  exact moves_sns (by decide) <| Moves.refl _ _

theorem moves_updBank {x0 x1 e} : Moves 8388608 e (updBank x0 x1 e) := by
  unfold updBank
  exact moves_sns (by decide) <| Moves.refl _ _

theorem moves_updLoop {x0 x1 e} : Moves 16777216 e (updLoop x0 x1 e) := by
  unfold updLoop
  exact moves_loop (by decide) <| Moves.refl _ _

theorem moves_allLoops {x0 e} : Moves 16777216 e (allLoops x0 e) := by
  unfold allLoops
  exact moves_loop (by decide) <| Moves.refl _ _

theorem moves_updSlot {x0 x1 e} : Moves 33554432 e (updSlot x0 x1 e) := by
  unfold updSlot
  exact moves_sch (by decide) <| Moves.refl _ _

theorem moves_updSensor {x0 x1 e} : Moves 4096 e (updSensor x0 x1 e) := by
  unfold updSensor
  exact moves_thm (by decide) <| Moves.refl _ _

theorem moves_emit {x0 e} : Moves 268435456 e (emit x0 e) := by
  unfold emit
  exact moves_out (by decide) <| Moves.refl _ _

theorem moves_useFree {e} : Moves 2 e (useFree e) := by
  unfold useFree
  exact moves_freeCtr (by decide) <| Moves.refl _ _

theorem moves_signalMsix {x0 x1 e} : Moves 268697600 e (signalMsix x0 x1 e) := by
  unfold signalMsix
  refine moves_ite ?_ ?_
  · exact (moves_emit).then (by decide) <| Moves.refl _ _
  refine moves_ite ?_ ?_
  · exact Moves.refl _ _
  exact moves_hif (by decide) <| Moves.refl _ _

end Sys2Proof.Machine
end

