-- ==== Sys2Proof/Laws/MovesFlags.lean ====
section
/-! SUPPORT. What each operation of Machine/Flags.lean can do (`moves_f`). -/

namespace Sys2Proof.Machine

theorem moves_atnRise {x0 e} : Moves 268698624 e (atnRise x0 e) := by
  unfold atnRise
  extract_lets +onlyGivenNames y0
  clear_value y0
  refine moves_ite ?_ ?_
  · exact Moves.refl _ _
  refine moves_ite ?_ ?_
  · exact Moves.refl _ _
  refine moves_ite ?_ ?_
  · exact moves_flt (by decide) id <| Moves.refl _ _
  exact (moves_signalMsix).then (by decide) <| moves_flt (by decide) id <| Moves.refl _ _

theorem moves_withAttn {w : Nat} {f0 e} (hw : 268698624 ||| w = w) (hf0 : ∀ e, Moves w e (f0 e)) :
    Moves w e (withAttn f0 e) := by
  unfold withAttn
  exact (moves_atnRise).then (subMask hw (by decide)) <| (hf0 _).then (Nat.or_self _) <| Moves.refl _ _

theorem moves_setCause {x0 x1 e} : Moves 268698684 e (setCause x0 x1 e) := by
  unfold setCause
  refine (moves_withAttn (by decide) (fun e0 => ?_)).then (Nat.or_self _) ?_
  · extract_lets +onlyGivenNames y1
    refine moves_cut (y := y1) ?_ fun h2 => ?_
    · unfold y1
      exact (moves_wr).then (by decide) <| Moves.refl _ _
    clear_value y1
    refine moves_ite ?_ ?_
    · exact moves_reach (by decide) <| h2
    exact h2
  exact Moves.refl _ _

theorem moves_clearCause {x0 x1 e} : Moves 60 e (clearCause x0 x1 e) := by
  unfold clearCause
  extract_lets +onlyGivenNames y0
  refine moves_cut (y := y0) ?_ fun h1 => ?_
  · unfold y0
    exact (moves_wr).then (by decide) <| Moves.refl _ _
  clear_value y0
  exact moves_reach (by decide) <| h1

theorem moves_setLive {x0 x1 e} : Moves 28 e (setLive x0 x1 e) := by
  unfold setLive
  exact (moves_wrF).then (by decide) <| Moves.refl _ _

theorem moves_logEvent {x0 e} : Moves 268698684 e (logEvent x0 e) := by
  unfold logEvent
  refine moves_ite (Moves.refl _ _) ?_
  split
  · rename_i r t hq
    refine moves_ite ?_ ?_
    · exact moves_flt (by decide) (fun hl => by simpa [hq] using hl) <| Moves.refl _ _
    · have h1 : Moves 268698684 e { e with flt := { e.flt with hist := (insertRec x0 e.flt.hist).take 32 } } :=
        moves_flt (by decide) (fun _ => List.length_take_le _ _) <| Moves.refl _ _
      exact moves_ite h1 ((moves_setCause).then (by decide) <| (moves_inc).then (by decide) <| (moves_inc).then (by decide) h1)
  · exact moves_flt (by decide) (fun _ => by simp) <| Moves.refl _ _


theorem moves_persistGrave {x0 e} : Moves 1024 e (persistGrave x0 e) := by
  unfold persistGrave
  refine moves_ite ?_ ?_
  · exact moves_flt (by decide) id <| Moves.refl _ _
  exact moves_flt (by decide) id <| Moves.refl _ _

theorem moves_noteRec {x0 x1 e} : Moves 268698684 e (noteRec x0 x1 e) := by
  unfold noteRec
  extract_lets +onlyGivenNames y0
  refine moves_cut (y := y0) ?_ fun h1 => ?_
  · unfold y0
    exact (moves_setCause).then (by decide) <| Moves.refl _ _
  clear_value y0
  extract_lets +onlyGivenNames y2
  refine moves_cut (y := y2) ?_ fun h3 => ?_
  · unfold y2
    exact (moves_logEvent).then (by decide) <| (moves_inc).then (by decide) <| h1
  clear_value y2
  extract_lets +onlyGivenNames y4
  refine moves_cut (y := y4) ?_ fun h5 => ?_
  · unfold y4
    refine moves_ite ?_ ?_
    · exact (moves_persistGrave).then (by decide) <| (moves_setCause).then (by decide) <| h3
    refine moves_ite ?_ ?_
    · exact (moves_setCause).then (by decide) <| h3
    exact h3
  clear_value y4
  refine moves_ite ?_ ?_
  · exact moves_flt (by decide) id <| h5
  exact h5

theorem moves_noteD {x0 x1 x2 e} : Moves 268698684 e (noteD x0 x1 x2 e) := by
  unfold noteD
  extract_lets +onlyGivenNames y0
  clear_value y0
  exact (moves_noteRec).then (by decide) <| Moves.refl _ _

theorem moves_note {x0 e} : Moves 268698684 e (note x0 e) := by
  unfold note
  exact (moves_noteD).then (by decide) <| Moves.refl _ _

theorem moves_noteTile {x0 x1 x2 e} : Moves 268698684 e (noteTile x0 x1 x2 e) := by
  unfold noteTile
  exact (moves_noteD).then (by decide) <| Moves.refl _ _

theorem moves_mark {x0 e} : Moves 268698684 e (mark x0 e) := by
  unfold mark
  exact (moves_setCause).then (by decide) <| Moves.refl _ _

end Sys2Proof.Machine
end

