-- ==== Sys2Proof/Laws/Ops.lean ====
section
/-! SUPPORT. What reading a register gives after a write: `rd_wr_same`, `rd_wr_ne`, and the same for fields and counters. -/

namespace Sys2Proof.Machine

theorem wd_toNat (v : Nat) : (wd v).toNat = v % 4294967296 := by simp [wd, BitVec.toNat_ofNat]

theorem majority_self (x : Nat) : majority x x x = x := by
  unfold majority
  simp [Nat.and_self, Nat.or_self]

/-- A lookup depends on its default at the key alone. -/
theorem Tbl.get_congr {α : Type} (d d' : Nat → α) (t : Tbl α) (k : Nat) (h : d k = d' k) : Tbl.get d t k = Tbl.get d' t k := by
  induction t with
  | nil => exact h
  | cons x t ih => simp only [Tbl.get, ih]

/-- Reading a register depends on its three copies alone. -/
theorem rd_congr {a b : Engine} (h : b.regs = a.regs) (h1 : b.trip1 = a.trip1) (h2 : b.trip2 = a.trip2) (o : Nat) :
    rd b o = rd a o := by
  simp only [rd, raw, copy1, copy2, h, h1, h2]

@[simp] theorem rd_wr_same (o v : Nat) (e : Engine) : rd (wr o v e) o = v % 4294967296 := by
  have hr : raw (wr o v e) o = v % 4294967296 := by simp [raw, wr, wd_toNat]
  have h1 : copy1 (wr o v e) o = v % 4294967296 := by
    show (Tbl.get _ (Tbl.del e.trip1 o) o).toNat = _
    rw [Tbl.get_del_same, hr, wd_toNat, Nat.mod_mod]
  have h2 : copy2 (wr o v e) o = v % 4294967296 := by
    show (Tbl.get _ (Tbl.del e.trip2 o) o).toNat = _
    rw [Tbl.get_del_same, hr, wd_toNat, Nat.mod_mod]
  rw [rd, hr, h1, h2, vote, majority_self]

theorem raw_wr_ne (o p v : Nat) (e : Engine) (h : o ≠ p) : raw (wr o v e) p = raw e p := by
  simp only [raw, wr, Tbl.get_put_ne _ _ _ _ _ h]

theorem rd_wr_ne (o p v : Nat) (e : Engine) (h : o ≠ p) : rd (wr o v e) p = rd e p := by
  have hr := raw_wr_ne o p v e h
  have h1 : copy1 (wr o v e) p = copy1 e p := by
    show (Tbl.get _ (Tbl.del e.trip1 o) p).toNat = _
    rw [Tbl.get_del_ne _ _ _ _ h]
    exact congrArg BitVec.toNat (Tbl.get_congr _ _ _ _ (congrArg wd hr))
  have h2 : copy2 (wr o v e) p = copy2 e p := by
    show (Tbl.get _ (Tbl.del e.trip2 o) p).toNat = _
    rw [Tbl.get_del_ne _ _ _ _ h]
    exact congrArg BitVec.toNat (Tbl.get_congr _ _ _ _ (congrArg wd hr))
  rw [rd, rd, hr, h1, h2]

/-- Every stored word is a 32-bit number. -/
theorem rd_lt (e : Engine) (o : Nat) : rd e o < 4294967296 := by
  have h : raw e o < 2 ^ 32 := BitVec.isLt _
  have h1 : copy1 e o < 2 ^ 32 := BitVec.isLt _
  have h2 : copy2 e o < 2 ^ 32 := BitVec.isLt _
  exact Nat.or_lt_two_pow (Nat.or_lt_two_pow (Nat.and_lt_two_pow _ h1) (Nat.and_lt_two_pow _ h2)) (Nat.and_lt_two_pow _ h2)

-- fields ----------------------------------------------------------------------------------------------------------------------------

theorem bits_lt (x hi lo : Nat) : bits x hi lo < 2 ^ (hi + 1 - lo) := Nat.mod_lt _ (Nat.two_pow_pos _)

/-- A field of a changed word. -/
theorem bits_setBits (x hi lo v : Nat) (h : lo ≤ hi) : bits (setBits x hi lo v) hi lo = v % 2 ^ (hi + 1 - lo) := by
  have e1 : setBits x hi lo v = (x >>> (hi + 1) * 2 ^ (hi + 1 - lo) + v % 2 ^ (hi + 1 - lo)) * 2 ^ lo + x % 2 ^ lo := by
    simp only [setBits, Nat.shiftLeft_eq]
    have hp : (2 : Nat) ^ (hi + 1) = 2 ^ (hi + 1 - lo) * 2 ^ lo := by rw [← Nat.pow_add]; congr 1; omega
    rw [Nat.add_mul, Nat.mul_assoc, ← hp]
  rw [bits, e1, Nat.shiftRight_eq_div_pow, Nat.mul_comm _ (2 ^ lo), Nat.mul_add_div (Nat.two_pow_pos _),
    Nat.div_eq_of_lt (Nat.mod_lt _ (Nat.two_pow_pos _)), Nat.add_zero, Nat.mul_comm (x >>> (hi + 1)), Nat.mul_add_mod,
    Nat.mod_mod]

theorem setBits_lt (x hi lo v : Nat) (hx : x < 4294967296) (h : lo ≤ hi) (hh : hi < 32) : setBits x hi lo v < 4294967296 := by
  have hm : v % 2 ^ (hi + 1 - lo) < 2 ^ (hi + 1 - lo) := Nat.mod_lt _ (Nat.two_pow_pos _)
  have hl : x % 2 ^ lo < 2 ^ lo := Nat.mod_lt _ (Nat.two_pow_pos _)
  have hq : x >>> (hi + 1) < 2 ^ (31 - hi) := by
    rw [Nat.shiftRight_eq_div_pow, Nat.div_lt_iff_lt_mul (Nat.two_pow_pos _), ← Nat.pow_add]
    have : 31 - hi + (hi + 1) = 32 := by omega
    rw [this]; exact hx
  simp only [setBits, Nat.shiftLeft_eq]
  have a1 : (v % 2 ^ (hi + 1 - lo)) * 2 ^ lo + x % 2 ^ lo < 2 ^ (hi + 1) := by
    have : 2 ^ (hi + 1) = 2 ^ (hi + 1 - lo) * 2 ^ lo := by rw [← Nat.pow_add]; congr 1; omega
    rw [this]
    calc v % 2 ^ (hi + 1 - lo) * 2 ^ lo + x % 2 ^ lo < v % 2 ^ (hi + 1 - lo) * 2 ^ lo + 2 ^ lo := by omega
      _ = (v % 2 ^ (hi + 1 - lo) + 1) * 2 ^ lo := by ring
      _ ≤ 2 ^ (hi + 1 - lo) * 2 ^ lo := Nat.mul_le_mul_right _ hm
  have a2 : (4294967296 : Nat) = 2 ^ (31 - hi) * 2 ^ (hi + 1) := by
    rw [← Nat.pow_add]
    have : 31 - hi + (hi + 1) = 32 := by omega
    rw [this]
  rw [a2, Nat.add_assoc]
  calc x >>> (hi + 1) * 2 ^ (hi + 1) + (v % 2 ^ (hi + 1 - lo) * 2 ^ lo + x % 2 ^ lo)
      < x >>> (hi + 1) * 2 ^ (hi + 1) + 2 ^ (hi + 1) := by omega
    _ = (x >>> (hi + 1) + 1) * 2 ^ (hi + 1) := by ring
    _ ≤ 2 ^ (31 - hi) * 2 ^ (hi + 1) := Nat.mul_le_mul_right _ hq

/-- A field just written. -/
theorem rdF_wrF_same (f : Fld) (v : Nat) (e : Engine) (h : f.lo ≤ f.hi) (hh : f.hi < 32) :
    rdF (wrF f v e) f = v % 2 ^ (f.hi + 1 - f.lo) := by
  rw [rdF, wrF, rd_wr_same, Nat.mod_eq_of_lt (setBits_lt _ _ _ _ (rd_lt e f.off) h hh), bits_setBits _ _ _ _ h]

theorem rd_wrF_ne (f : Fld) (v o : Nat) (e : Engine) (h : f.off ≠ o) : rd (wrF f v e) o = rd e o := rd_wr_ne _ _ _ _ h

theorem rdF_wrF_ne (f g : Fld) (v : Nat) (e : Engine) (h : f.off ≠ g.off) : rdF (wrF f v e) g = rdF e g := by
  rw [rdF, rd_wrF_ne _ _ _ _ h, ← rdF]

-- counters -----------------------------------------------------------------------------------------------------------------------------

@[simp] theorem rd_inc_same (o : Nat) (e : Engine) : rd (inc o e) o = (rd e o + 1) % 4294967296 := rd_wr_same _ _ _

theorem rd_inc_ne (o p : Nat) (e : Engine) (h : o ≠ p) : rd (inc o e) p = rd e p := rd_wr_ne _ _ _ _ h

theorem rd_addC_ne (o n p : Nat) (e : Engine) (h : o ≠ p) : rd (addC o n e) p = rd e p := rd_wr_ne _ _ _ _ h

end Sys2Proof.Machine
end

