-- ==== Sys2Proof/Laws/Flags.lean ====
section
/-! SUPPORT. What an event does to the registers: its sticky bit, FLT_CAUSE and the two counters of the fault block, and
nothing else. -/

namespace Sys2Proof.Machine

/-- A frame without the registers leaves every register. -/
theorem Frame.rd {w : Nat} {a b : Engine} (h : Frame w a b) (h2 : w.testBit 2 = false) (h3 : w.testBit 3 = false)
    (h4 : w.testBit 4 = false) (o : Nat) : rd b o = rd a o := rd_congr (h .regs h2) (h .trip1 h3) (h .trip2 h4) o

theorem rd_atnRise (n : Nat) (e : Engine) (o : Nat) : rd (atnRise n e) o = rd e o :=
  (moves_atnRise).frame.rd rfl rfl rfl o

theorem rd_withAttn (f : Engine → Engine) (e : Engine) (o : Nat) : rd (withAttn f e) o = rd (f e) o := rd_atnRise _ _ _

theorem rd_setReach (e : Engine) (r : Tbl Word) (o : Nat) : rd { e with reach := r } o = rd e o := rd_congr rfl rfl rfl o

theorem rd_setCause (off code : Nat) (e : Engine) (o : Nat) : rd (setCause off code e) o = rd (wr off (rd e off ||| (1 <<< code)) e) o := by
  rw [setCause, rd_withAttn]
  dsimp only
  split
  · exact rd_setReach _ _ _
  · rfl

@[simp] theorem rd_setCause_same (off code : Nat) (e : Engine) :
    rd (setCause off code e) off = (rd e off ||| (1 <<< code)) % 4294967296 := by rw [rd_setCause, rd_wr_same]

theorem rd_setCause_ne (off code : Nat) (e : Engine) (o : Nat) (h : off ≠ o) : rd (setCause off code e) o = rd e o := by
  rw [rd_setCause, rd_wr_ne _ _ _ _ h]

theorem rd_setFlt (e : Engine) (x : FltSt) (o : Nat) : rd { e with flt := x } o = rd e o := rd_congr rfl rfl rfl o

/-- The history counters and FLT_CAUSE: the registers an event may change beside its own cause. -/
def faultRegs : List Nat := [Reg.FLT_CAUSE, Reg.FLT_EVENT_CNT, Reg.FLT_HIST_OVF_CNT]

theorem rd_logEvent (r : Rec) (e : Engine) (o : Nat) (h : o ∉ faultRegs) : rd (logEvent r e) o = rd e o := by
  simp only [faultRegs, List.mem_cons, List.not_mem_nil, or_false, not_or] at h
  obtain ⟨h1, h2, h3⟩ := h
  unfold logEvent
  split
  · rfl
  · split
    · split
      · exact rd_setFlt _ _ _
      · dsimp only
        split
        · exact rd_setFlt _ _ _
        · rw [rd_setCause_ne _ _ _ _ (Ne.symm h1), rd_inc_ne _ _ _ (Ne.symm h2), rd_inc_ne _ _ _ (Ne.symm h3)]
          exact rd_setFlt _ _ _
    · exact rd_setFlt _ _ _

theorem rd_persistGrave (r : Rec) (e : Engine) (o : Nat) : rd (persistGrave r e) o = rd e o :=
  (moves_persistGrave).frame.rd rfl rfl rfl o

/-- An event changes no register but its cause register and the fault block's own. -/
theorem rd_noteRec (r : Rec) (off : Nat) (e : Engine) (o : Nat) (h : o ∉ faultRegs) :
    rd (noteRec r off e) o = rd (setCause off r.code e) o := by
  have h' := h
  simp only [faultRegs, List.mem_cons, List.not_mem_nil, or_false, not_or] at h'
  obtain ⟨h1, h2, h3⟩ := h'
  have hl : rd (logEvent r (inc Reg.FLT_EVENT_CNT (setCause off r.code e))) o = rd (setCause off r.code e) o := by
    rw [rd_logEvent _ _ _ h, rd_inc_ne _ _ _ (Ne.symm h2)]
  unfold noteRec
  dsimp only
  have hm : rd (if r.cls = 4 then persistGrave r (setCause Reg.FLT_CAUSE 7 (logEvent r (inc Reg.FLT_EVENT_CNT (setCause off r.code e))))
           else if r.cls = 3 then setCause Reg.FLT_CAUSE 6 (logEvent r (inc Reg.FLT_EVENT_CNT (setCause off r.code e)))
           else logEvent r (inc Reg.FLT_EVENT_CNT (setCause off r.code e))) o = rd (setCause off r.code e) o := by
    split
    · rw [rd_persistGrave, rd_setCause_ne _ _ _ _ (Ne.symm h1), hl]
    · split
      · rw [rd_setCause_ne _ _ _ _ (Ne.symm h1), hl]
      · exact hl
  split
  · rw [← hm]; exact rd_setFlt _ _ _
  · exact hm

theorem rd_noteD_ne (c : Fld) (i d : Nat) (e : Engine) (o : Nat) (h : o ∉ faultRegs) (hc : c.off ≠ o) :
    rd (noteD c i d e) o = rd e o := by
  rw [noteD, rd_noteRec _ _ _ _ h, rd_setCause_ne _ _ _ _ hc]

theorem rd_note_ne (c : Fld) (e : Engine) (o : Nat) (h : o ∉ faultRegs) (hc : c.off ≠ o) : rd (note c e) o = rd e o :=
  rd_noteD_ne c 0 0 e o h hc

/-- An event sets its sticky bit (R331). -/
theorem rd_noteD_same (c : Fld) (i d : Nat) (e : Engine) (h : c.off ∉ faultRegs) :
    rd (noteD c i d e) c.off = (rd e c.off ||| (1 <<< c.lo)) % 4294967296 := by
  rw [noteD, rd_noteRec _ _ _ _ h]
  exact rd_setCause_same _ _ _

theorem rd_note_same (c : Fld) (e : Engine) (h : c.off ∉ faultRegs) :
    rd (note c e) c.off = (rd e c.off ||| (1 <<< c.lo)) % 4294967296 := rd_noteD_same c 0 0 e h

/-- A word with a bit just set. -/
theorem bit_or (x k : Nat) (h : k < 32) : bit ((x ||| (1 <<< k)) % 4294967296) k = true := by
  have h0 : (4294967296 : Nat) = 2 ^ 32 := rfl
  have h1 : Nat.testBit ((x ||| (1 <<< k)) % 2 ^ 32) k = true := by
    rw [Nat.testBit_mod_two_pow, Nat.testBit_or, Nat.one_shiftLeft, Nat.testBit_two_pow_self]
    simp [h]
  rw [h0, bit]
  rw [Nat.testBit_eq_decide_div_mod_eq] at h1
  simp only [decide_eq_true_eq] at h1
  rw [Nat.shiftRight_eq_div_pow, h1]
  rfl

/-- An event's sticky bit reads 1 after it. -/
theorem bit_note (c : Fld) (e : Engine) (h : c.off ∉ faultRegs) (hl : c.lo < 32) : bit (rd (note c e) c.off) c.lo = true := by
  rw [rd_note_same c e h]
  exact bit_or _ _ hl

end Sys2Proof.Machine
end

