-- ==== Sys2Proof/Laws/MovesDma.lean ====
section
/-! SUPPORT. What each operation of Machine/Dma.lean can do (`moves_f`). -/

namespace Sys2Proof.Machine

theorem moves_tcInsert {x0 e} : Moves 131072 e (tcInsert x0 e) := by
  unfold tcInsert
  extract_lets +onlyGivenNames y0 y1 y2
  clear_value y0 y1 y2
  exact moves_dma (by decide) <| Moves.refl _ _

theorem moves_tcTouch {x0 e} : Moves 131072 e (tcTouch x0 e) := by
  unfold tcTouch
  exact moves_dma (by decide) <| Moves.refl _ _

theorem moves_translate {x0 x1 x2 e} : Moves 131100 e (translate x0 x1 x2 e).1 := by
  unfold translate
  refine moves_ite1 ?_ ?_
  · exact moves_mk1 <| Moves.refl _ _
  split
  · rename_i z0 z1 z2
    exact moves_mk1 <| (moves_tcTouch).then (by decide) <| Moves.refl _ _
  · rename_i z3 z4
    extract_lets +onlyGivenNames y5
    refine moves_cut (y := y5) ?_ fun h6 => ?_
    · unfold y5
      exact (moves_inc).then (by decide) <| Moves.refl _ _
    clear_value y5
    split
    · rename_i z7 z8 z9 z10
      exact moves_mk1 <| h6
    · rename_i z11 z12 z13 z14 z15 z16
      split
      · rename_i z17 z18 z19
        exact moves_mk1 <| h6
      · rename_i z20 z21
        exact moves_mk1 <| (moves_tcInsert).then (by decide) <| h6

theorem moves_eccMeets {x0 e} : Moves 131072 e (eccMeets x0 e) := by
  unfold eccMeets
  split
  · rename_i z0 z1
    exact moves_dma (by decide) <| Moves.refl _ _
  · rename_i z2 z3
    exact Moves.refl _ _

theorem moves_translateRun {x0 x1 x2 x3 e} : Moves 131100 e (translateRun x0 x1 x2 x3 e).1 := by
  unfold translateRun
  extract_lets +onlyGivenNames y0
  clear_value y0
  split
  · rename_i z1 z2 z3 z4
    refine moves_pair z4 ?_ fun h5 => ?_
    · exact (moves_translate).then (by decide) <| Moves.refl _ _
    exact moves_mk1 <| h5
  · rename_i z6 z7 z8 z9
    refine moves_pair z9 ?_ fun h10 => ?_
    · exact (moves_translate).then (by decide) <| Moves.refl _ _
    refine moves_ite1 ?_ ?_
    · exact moves_mk1 <| h10
    split
    · rename_i z11 z12 z13 z14
      refine moves_pair z14 ?_ fun h15 => ?_
      · exact (moves_translate).then (by decide) <| h10
      exact moves_mk1 <| h15
    · rename_i z16 z17 z18 z19
      refine moves_pair z19 ?_ fun h20 => ?_
      · exact (moves_translate).then (by decide) <| h10
      exact moves_mk1 <| h20

theorem moves_writeRun {x0 x1 e} : Moves 134217728 e (writeRun x0 x1 e) := by
  induction x0 generalizing x1 e
  · rw [writeRun]
    exact Moves.refl _ _
  · rename_i m0 m1 ih
    rw [writeRun]
    exact ih.then (Nat.or_self _) <| (moves_wrBytes).then (by decide) <| Moves.refl _ _

theorem moves_moveRun {x0 x1 x2 x3 x4 e} : Moves 131100 e (moveRun x0 x1 x2 x3 x4 e).1 := by
  unfold moveRun
  refine moves_ite1 ?_ ?_
  · exact moves_mk1 <| Moves.refl _ _
  split
  · rename_i z0 z1 z2 z3
    refine moves_pair z3 ?_ fun h4 => ?_
    · exact (moves_translateRun).then (by decide) <| Moves.refl _ _
    exact moves_mk1 <| h4
  · rename_i z5 z6 z7 z8
    refine moves_pair z8 ?_ fun h9 => ?_
    · exact (moves_translateRun).then (by decide) <| Moves.refl _ _
    refine moves_ite1 ?_ ?_
    · exact moves_mk1 <| (moves_inc).then (by decide) <| h9
    refine moves_ite1 ?_ ?_
    · exact moves_mk1 <| h9
    exact moves_mk1 <| h9

theorem moves_tcFlush {e} : Moves 131100 e (tcFlush e) := by
  unfold tcFlush
  exact (moves_inc).then (by decide) <| moves_dma (by decide) <| Moves.refl _ _

theorem moves_tcDropDom {x0 e} : Moves 131072 e (tcDropDom x0 e) := by
  unfold tcDropDom
  exact moves_dma (by decide) <| Moves.refl _ _

theorem moves_openStream {x0 x1 x2 x3 x4 x5 x6 x7 e} : Moves 131072 e (openStream x0 x1 x2 x3 x4 x5 x6 x7 e) := by
  unfold openStream
  exact moves_dma (by decide) <| Moves.refl _ _

theorem moves_openCmd {x0 x1 x2 x3 x4 x5 e} : Moves 131072 e (openCmd x0 x1 x2 x3 x4 x5 e) := by
  unfold openCmd
  exact (moves_openStream).then (by decide) <| Moves.refl _ _

theorem moves_updStream {x0 x1 e} : Moves 131072 e (updStream x0 x1 e) := by
  unfold updStream
  exact moves_dma (by decide) <| Moves.refl _ _

theorem moves_dropStream {x0 e} : Moves 131072 e (dropStream x0 e) := by
  unfold dropStream
  exact moves_dma (by decide) <| Moves.refl _ _

theorem moves_haltStream {x0 x1 x2 e} : MovesO 268829756 e (haltStream x0 x1 x2 e) := by
  unfold haltStream
  split
  · rename_i z0 z1 z2 z3 z4 z5
    extract_lets +onlyGivenNames y6 y7
    clear_value y6 y7
    extract_lets +onlyGivenNames y8
    refine moves_cutG (w := 268829756) (a := e) (y := y8) ?_ fun h9 => ?_
    · unfold y8
      exact (moves_updStream).then (by decide) <| Moves.refl _ _
    clear_value y8
    extract_lets +onlyGivenNames y10
    clear_value y10
    extract_lets +onlyGivenNames y11
    refine moves_cutG (w := 268829756) (a := e) (y := y11) ?_ fun h12 => ?_
    · unfold y11
      exact moves_dma (by decide) <| h9
    clear_value y11
    extract_lets +onlyGivenNames y13
    refine moves_cutG (w := 268829756) (a := e) (y := y13) ?_ fun h14 => ?_
    · unfold y13
      exact (moves_inc).then (by decide) <| (moves_note).then (by decide) <| h12
    clear_value y13
    refine movesO_some <| ?_
    refine moves_ite ?_ ?_
    · exact (moves_note).then (by decide) <| h14
    exact h14
  · rename_i z15 z16 z17
    exact movesO_none

theorem moves_takeLink {x0 e} : Moves 131100 e (takeLink x0 e) := by
  unfold takeLink
  refine moves_ite ?_ ?_
  · exact (moves_inc).then (by decide) <| moves_dma (by decide) <| Moves.refl _ _
  exact Moves.refl _ _

theorem moves_sqTurn {e} : Moves 131072 e (sqTurn e) := by
  unfold sqTurn
  exact moves_dma (by decide) <| Moves.refl _ _

end Sys2Proof.Machine
end

