-- ==== Sys2Proof/Laws/MovesCmd.lean ====
section
/-! SUPPORT. What each operation of Machine/Cmd.lean can do (`moves_f`). -/

namespace Sys2Proof.Machine

theorem moves_setRos {x0 x1 x2 x3 x4 e} : Moves 67108864 e (setRos x0 x1 x2 x3 x4 e) := by
  unfold setRos
  extract_lets +onlyGivenNames y0
  clear_value y0
  exact moves_lrg (by decide) <| Moves.refl _ _

theorem moves_signalHopper {x0 e} : Moves 268764220 e (signalHopper x0 e) := by
  unfold signalHopper
  extract_lets +onlyGivenNames y0 y1
  clear_value y0 y1
  refine moves_ite ?_ ?_
  · exact Moves.refl _ _
  refine moves_ite ?_ ?_
  · exact (moves_note).then (by decide) <| (moves_inc).then (by decide) <| Moves.refl _ _
  refine moves_ite ?_ ?_
  · exact (moves_updHop).then (by decide) <| Moves.refl _ _
  exact (moves_signalMsix).then (by decide) <| (moves_updHop).then (by decide) <| Moves.refl _ _

theorem moves_countPosted {x0 e} : Moves 65564 e (countPosted x0 e) := by
  unfold countPosted
  exact (moves_inc).then (by decide) <| (moves_updHop).then (by decide) <| Moves.refl _ _

theorem moves_cqDrop {e} : Moves 268698684 e (cqDrop e) := by
  unfold cqDrop
  exact (moves_note).then (by decide) <| (moves_inc).then (by decide) <| Moves.refl _ _

theorem moves_release {x0 e} : Moves 65536 e (release x0 e) := by
  unfold release
  exact moves_cmd (by decide) <| Moves.refl _ _

theorem moves_Held_free {x0 e} : Moves 65536 e (Held.free x0 e) := by
  unfold Held.free
  refine moves_ite ?_ ?_
  · exact (moves_release).then (by decide) <| Moves.refl _ _
  exact Moves.refl _ _

theorem moves_orphanHopper {x0 e} : Moves 268895292 e (orphanHopper x0 e) := by
  unfold orphanHopper
  extract_lets +onlyGivenNames y0 y1 y2
  clear_value y0 y1 y2
  refine moves_each _ _ _ (fun x3 e4 => ?_) ?_
  · exact (moves_cqDrop).then (by decide) <| (moves_Held_free).then (by decide) <| Moves.refl _ _
  exact (moves_updHop).then (by decide) <| moves_eng_clk (m := 196608) rfl (by decide) (by intro p hp; cases p <;> first | rfl | exact absurd hp (by decide)) rfl rfl rfl rfl rfl rfl <| Moves.refl _ _

theorem moves_disableHopper {x0 e} : Moves 268895292 e (disableHopper x0 e) := by
  unfold disableHopper
  exact (moves_orphanHopper).then (by decide) <| (moves_updHop).then (by decide) <| Moves.refl _ _

theorem moves_endCq {x0 e} : Moves 268895292 e (endCq x0 e) := by
  unfold endCq
  exact (moves_disableHopper).then (by decide) <| Moves.refl _ _

theorem moves_postOne {x0 e} : MovesO 403113020 e (postOne x0 e) := by
  unfold postOne
  extract_lets +onlyGivenNames y0
  clear_value y0
  split
  · rename_i z1 z2
    exact movesO_some <| Moves.refl _ _
  · rename_i z3 z4 z5 z6
    split
    · rename_i z7 z8 z9 z10
      refine moves_pairEq (w := 403113020) (a := e) z10 ?_ fun h11 => ?_
      · exact (moves_moveRun).then (by decide) <| (moves_takeLink).then (by decide) <| Moves.refl _ _
      extract_lets +onlyGivenNames y12
      refine moves_cutG (w := 403113020) (a := e) (y := y12) ?_ fun h13 => ?_
      · unfold y12
        exact (moves_writeRun).then (by decide) <| h11
      clear_value y12
      extract_lets +onlyGivenNames y14
      clear_value y14
      extract_lets +onlyGivenNames y15
      refine moves_cutG (w := 403113020) (a := e) (y := y15) ?_ fun h16 => ?_
      · unfold y15
        exact (moves_updHop).then (by decide) <| h13
      clear_value y15
      exact movesO_some <| (moves_signalHopper).then (by decide) <| (moves_countPosted).then (by decide) <| (moves_Held_free).then (by decide) <| h16
    · rename_i z17 z18 z19 z20 z21
      refine moves_pairEq (w := 403113020) (a := e) z21 ?_ fun h22 => ?_
      · exact (moves_moveRun).then (by decide) <| (moves_takeLink).then (by decide) <| Moves.refl _ _
      extract_lets +onlyGivenNames y23
      clear_value y23
      extract_lets +onlyGivenNames y24
      refine moves_cutG (w := 403113020) (a := e) (y := y24) ?_ fun h25 => ?_
      · unfold y24
        exact (moves_openStream).then (by decide) <| h22
      clear_value y24
      split
      · rename_i z26 z27 z28
        refine moves_someEq (w := 403113020) (a := e) z28 ?_ fun h29 => ?_
        · exact (moves_haltStream).then (by decide) <| h25
        exact movesO_some <| h29
      · rename_i z30 z31
        exact movesO_some <| (moves_endCq).then (by decide) <| (moves_note).then (by decide) <| (moves_dropStream).then (by decide) <| h25

theorem moves_flushHeld {x0 e} : Moves 403113020 e (flushHeld x0 e) := by
  unfold flushHeld
  refine moves_foldl _ _ _ (fun e1 x0 => ?_) ?_
  · refine moves_ite ?_ ?_
    · exact Moves.refl _ _
    refine moves_getD ?_ ?_
    · exact (moves_postOne).then (by decide) <| Moves.refl _ _
    exact Moves.refl _ _
  exact Moves.refl _ _

theorem moves_queueFrame {x0 x1 e} : Moves 67108864 e (queueFrame x0 x1 e) := by
  unfold queueFrame
  extract_lets +onlyGivenNames y0
  clear_value y0
  exact moves_lrg (by decide) <| Moves.refl _ _

theorem moves_ringComplete {x0 x1 x2 x3 x4 e} : Moves 67174428 e (ringComplete x0 x1 x2 x3 x4 e) := by
  unfold ringComplete
  refine moves_ite ?_ ?_
  · exact (moves_inc).then (by decide) <| Moves.refl _ _
  extract_lets +onlyGivenNames y0
  clear_value y0
  exact (moves_countPosted).then (by decide) <| (moves_queueFrame).then (by decide) <| Moves.refl _ _

theorem moves_deliver {x0 x1 x2 x3 x4 x5 e} : Moves 470221884 e (deliver x0 x1 x2 x3 x4 x5 e) := by
  unfold deliver
  extract_lets +onlyGivenNames y0
  clear_value y0
  split
  · rename_i z1 z2
    exact (moves_ringComplete).then (by decide) <| (moves_Held_free).then (by decide) <| Moves.refl _ _
  · rename_i z3
    refine moves_ite ?_ ?_
    · exact (moves_inc).then (by decide) <| (moves_Held_free).then (by decide) <| Moves.refl _ _
    refine moves_ite ?_ ?_
    · exact (moves_cqDrop).then (by decide) <| (moves_Held_free).then (by decide) <| Moves.refl _ _
    exact (moves_flushHeld).then (by decide) <| (moves_updHop).then (by decide) <| Moves.refl _ _

theorem moves_updInfl {x0 x1 e} : Moves 65536 e (updInfl x0 x1 e) := by
  unfold updInfl
  exact moves_cmd (by decide) <| Moves.refl _ _

theorem moves_complete {x0 x1 x2 e} : Moves 470221884 e (complete x0 x1 x2 e) := by
  unfold complete
  refine moves_ite ?_ ?_
  · exact Moves.refl _ _
  split
  · rename_i z0 z1
    exact (moves_deliver).then (by decide) <| Moves.refl _ _
  · rename_i z2 z3 z4
    refine moves_ite ?_ ?_
    · exact (moves_cqDrop).then (by decide) <| (moves_release).then (by decide) <| Moves.refl _ _
    exact (moves_deliver).then (by decide) <| (moves_updInfl).then (by decide) <| Moves.refl _ _

theorem moves_countAccept {x0 e} : Moves 65564 e (countAccept x0 e) := by
  unfold countAccept
  extract_lets +onlyGivenNames y0
  clear_value y0
  extract_lets +onlyGivenNames y1
  refine moves_cut (y := y1) ?_ fun h2 => ?_
  · unfold y1
    exact moves_cmd (by decide) <| Moves.refl _ _
  clear_value y1
  exact (moves_inc).then (by decide) <| (moves_updHop).then (by decide) <| h2

theorem moves_holdTag {x0 e} : Moves 65564 e (holdTag x0 e) := by
  unfold holdTag
  extract_lets +onlyGivenNames y0
  clear_value y0
  extract_lets +onlyGivenNames y1
  refine moves_cut (y := y1) ?_ fun h2 => ?_
  · unfold y1
    exact moves_cmd (by decide) <| Moves.refl _ _
  clear_value y1
  extract_lets +onlyGivenNames y3
  clear_value y3
  refine moves_ite ?_ ?_
  · exact (moves_wrF).then (by decide) <| h2
  exact h2

theorem moves_takeIn {x0 x1 x2 x3 e} : Moves 65564 e (takeIn x0 x1 x2 x3 e) := by
  unfold takeIn
  split
  · rename_i z0 z1
    extract_lets +onlyGivenNames y2
    refine moves_cut (y := y2) ?_ fun h3 => ?_
    · unfold y2
      exact (moves_holdTag).then (by decide) <| Moves.refl _ _
    clear_value y2
    refine moves_ite ?_ ?_
    · exact (moves_countAccept).then (by decide) <| h3
    exact h3
  · rename_i z4 z5 z6
    refine moves_ite ?_ ?_
    · exact Moves.refl _ _
    extract_lets +onlyGivenNames y7
    clear_value y7
    exact (moves_countAccept).then (by decide) <| moves_cmd (by decide) <| Moves.refl _ _

theorem moves_runCmd {w : Nat} {x0 x1 x2 x3 f4 e} (hw : 470221884 ||| w = w) (hf4 : ∀ e, Moves w e (f4 e)) :
    Moves w e (runCmd x0 x1 x2 x3 f4 e) := by
  unfold runCmd
  refine moves_ite ?_ ?_
  · exact Moves.refl _ _
  split
  · rename_i z0 z1 z2 z3
    exact (moves_complete).then (subMask hw (by decide)) <| (moves_note).then (subMask hw (by decide)) <| (moves_inc).then (subMask hw (by decide)) <| Moves.refl _ _
  · rename_i z4 z5
    extract_lets +onlyGivenNames y6
    refine moves_cut (y := y6) ?_ fun h7 => ?_
    · unfold y6
      exact (moves_takeIn).then (subMask hw (by decide)) <| Moves.refl _ _
    clear_value y6
    refine moves_ite ?_ ?_
    · exact h7
    refine moves_ite ?_ ?_
    · exact (moves_complete).then (subMask hw (by decide)) <| h7
    refine moves_ite ?_ ?_
    · exact (moves_complete).then (subMask hw (by decide)) <| h7
    exact (hf4 _).then (Nat.or_self _) <| h7

theorem moves_refuse {x0 x1 x2 x3 x4 x5 e} : Moves 470221884 e (refuse x0 x1 x2 x3 x4 x5 e) := by
  unfold refuse
  exact (moves_deliver).then (by decide) <| (moves_note).then (by decide) <| (moves_inc).then (by decide) <| Moves.refl _ _

theorem moves_arriveAs {w : Nat} {x0 x1 f2 e} (hw : 470221884 ||| w = w) (hf2 : ∀ e, Moves w e (f2 e)) :
    Moves w e (arriveAs x0 x1 f2 e) := by
  unfold arriveAs
  extract_lets +onlyGivenNames y0
  clear_value y0
  refine moves_ite ?_ ?_
  · exact Moves.refl _ _
  refine moves_ite ?_ ?_
  · exact (moves_refuse).then (subMask hw (by decide)) <| Moves.refl _ _
  refine moves_ite ?_ ?_
  · exact (moves_refuse).then (subMask hw (by decide)) <| Moves.refl _ _
  refine moves_ite ?_ ?_
  · exact (moves_refuse).then (subMask hw (by decide)) <| Moves.refl _ _
  exact (hf2 _).then (Nat.or_self _) <| Moves.refl _ _

theorem moves_arrive {w : Nat} {x0 f1 e} (hw : 470221884 ||| w = w) (hf1 : ∀ e, Moves w e (f1 e)) :
    Moves w e (arrive x0 f1 e) := by
  unfold arrive
  refine (moves_arriveAs (subMask hw (by decide)) (fun e0 => ?_)).then (Nat.or_self _) ?_
  · exact (hf1 _).then (Nat.or_self _) <| Moves.refl _ _
  exact Moves.refl _ _

theorem moves_arriveT {w : Nat} {x0 f1 e} (hw : 470221884 ||| w = w) (hf1 : ∀ e, Moves w e (f1 e)) :
    Moves w e (arriveT x0 f1 e) := by
  unfold arriveT
  refine (moves_arriveAs (subMask hw (by decide)) (fun e0 => ?_)).then (Nat.or_self _) ?_
  · exact (hf1 _).then (Nat.or_self _) <| Moves.refl _ _
  exact Moves.refl _ _

end Sys2Proof.Machine
end

