-- ==== Sys2Proof/Laws/MovesLib.lean ====
section
/-! SUPPORT. What each operation of Machine/Lib.lean can do (`moves_f`). -/

namespace Sys2Proof.Machine

theorem moves_putEff {x0 x1 e} : Moves 2097152 e (putEff x0 x1 e) := by
  unfold putEff
  exact moves_syn (by decide) <| Moves.refl _ _

theorem moves_aimCrc {e} : Moves 268698684 e (aimCrc e) := by
  unfold aimCrc
  exact (moves_note).then (by decide) <| (moves_inc).then (by decide) <| Moves.refl _ _

theorem moves_ownRec {x0 x1 e} : Moves 268698684 e (ownRec x0 x1 e).1 := by
  unfold ownRec
  extract_lets +onlyGivenNames y0
  clear_value y0
  split
  · rename_i z1 z2
    exact moves_mk1 <| Moves.refl _ _
  · rename_i z3 z4
    exact moves_mk1 <| (moves_aimCrc).then (by decide) <| Moves.refl _ _
  · rename_i z5 z6
    exact moves_mk1 <| Moves.refl _ _

end Sys2Proof.Machine
end

