-- ==== Sys2Proof/Laws/MovesTxn.lean ====
section
/-! SUPPORT. What each operation of Machine/Txn.lean can do (`moves_f`). -/

namespace Sys2Proof.Machine

theorem moves_setPair {x0 x1 x2 x3 e} : Moves 524288 e (setPair x0 x1 x2 x3 e) := by
  unfold setPair
  extract_lets +onlyGivenNames y0
  clear_value y0
  exact moves_xact (by decide) <| Moves.refl _ _

theorem moves_mapStep {w : Nat} {f0 e} (hw : 524288 ||| w = w) (hf0 : ∀ e, Moves w e (f0 e)) :
    Moves w e (mapStep f0 e) := by
  unfold mapStep
  extract_lets +onlyGivenNames y0
  clear_value y0
  extract_lets +onlyGivenNames y1
  refine moves_cut (y := y1) ?_ fun h2 => ?_
  · unfold y1
    exact (hf0 _).then (Nat.or_self _) <| Moves.refl _ _
  clear_value y1
  exact moves_xact (subMask hw (by decide)) <| h2

theorem moves_mapDefer {e} : Moves 268698684 e (mapDefer e) := by
  unfold mapDefer
  exact (moves_note).then (by decide) <| (moves_inc).then (by decide) <| Moves.refl _ _

theorem moves_advanceEpoch {x0 e} : Moves 269227068 e (advanceEpoch x0 e) := by
  unfold advanceEpoch
  extract_lets +onlyGivenNames y0
  refine moves_cut (y := y0) ?_ fun h1 => ?_
  · unfold y0
    refine moves_whenE _ _ (fun e2 => ?_) ?_
    · exact (moves_mapDefer).then (by decide) <| Moves.refl _ _
    exact Moves.refl _ _
  clear_value y0
  extract_lets +onlyGivenNames y3
  clear_value y3
  extract_lets +onlyGivenNames y4
  refine moves_cut (y := y4) ?_ fun h5 => ?_
  · unfold y4
    exact moves_xact (by decide) <| h1
  clear_value y4
  refine moves_ite ?_ ?_
  · exact h5
  exact moves_thm (by decide) <| h5

theorem moves_completeAt {x0 x1 x2 x3 e} : Moves 470746172 e (completeAt x0 x1 x2 x3 e) := by
  unfold completeAt
  refine moves_ite ?_ ?_
  · exact (moves_complete).then (by decide) <| Moves.refl _ _
  exact moves_xact (by decide) <| Moves.refl _ _

theorem moves_publish {e} : Moves 470746172 e (publish e) := by
  unfold publish
  extract_lets +onlyGivenNames y0 y1
  clear_value y0 y1
  extract_lets +onlyGivenNames y2
  refine moves_cut (y := y2) ?_ fun h3 => ?_
  · unfold y2
    exact moves_xact (by decide) <| Moves.refl _ _
  clear_value y2
  refine moves_each _ _ _ (fun x4 e5 => ?_) ?_
  · exact (moves_complete).then (by decide) <| Moves.refl _ _
  exact h3

theorem moves_releasePin {x0 e} : Moves 470746172 e (releasePin x0 e) := by
  unfold releasePin
  refine moves_ite ?_ ?_
  · extract_lets +onlyGivenNames y0
    clear_value y0
    extract_lets +onlyGivenNames y1
    refine moves_cut (y := y1) ?_ fun h2 => ?_
    · unfold y1
      exact moves_xact (by decide) <| Moves.refl _ _
    clear_value y1
    refine moves_ite ?_ ?_
    · exact (moves_publish).then (by decide) <| h2
    exact h2
  exact Moves.refl _ _

theorem moves_updTxn {x0 x1 e} : Moves 524288 e (updTxn x0 x1 e) := by
  unfold updTxn
  exact moves_xact (by decide) <| Moves.refl _ _

theorem moves_openTxn {x0 x1 x2 e} : Moves 524288 e (openTxn x0 x1 x2 e) := by
  unfold openTxn
  extract_lets +onlyGivenNames y0 y1 y2
  clear_value y0 y1 y2
  extract_lets +onlyGivenNames y3
  refine moves_cut (y := y3) ?_ fun h4 => ?_
  · unfold y3
    exact moves_xact (by decide) <| Moves.refl _ _
  clear_value y3
  refine moves_each _ _ _ (fun x5 e6 => ?_) ?_
  · exact (moves_updPort).then (by decide) <| Moves.refl _ _
  exact h4

theorem moves_updJob {x0 x1 e} : Moves 524288 e (updJob x0 x1 e) := by
  unfold updJob
  exact moves_xact (by decide) <| Moves.refl _ _

theorem moves_disarm {x0 e} : Moves 1048576 e (disarm x0 e) := by
  unfold disarm
  exact (moves_updAper).then (by decide) <| Moves.refl _ _

theorem moves_dropPass {x0 e} : Moves 1048576 e (dropPass x0 e) := by
  unfold dropPass
  exact (moves_updAper).then (by decide) <| Moves.refl _ _

theorem moves_dropJob {x0 e} : Moves 1572864 e (dropJob x0 e) := by
  unfold dropJob
  split
  · rename_i z0 z1
    exact Moves.refl _ _
  · rename_i z2 z3 z4
    extract_lets +onlyGivenNames y5
    refine moves_cut (y := y5) ?_ fun h6 => ?_
    · unfold y5
      refine moves_ite ?_ ?_
      · exact Moves.refl _ _
      refine moves_each _ _ _ (fun x7 e8 => ?_) ?_
      · exact (moves_disarm).then (by decide) <| Moves.refl _ _
      exact Moves.refl _ _
    clear_value y5
    exact moves_xact (by decide) <| h6

theorem moves_addJob {x0 e} : Moves 524288 e (addJob x0 e) := by
  unfold addJob
  exact moves_xact (by decide) <| Moves.refl _ _

theorem moves_addNow {x0 x1 x2 x3 x4 x5 e} : Moves 524288 e (addNow x0 x1 x2 x3 x4 x5 e) := by
  unfold addNow
  extract_lets +onlyGivenNames y0
  clear_value y0
  exact (moves_addJob).then (by decide) <| Moves.refl _ _

theorem moves_ownRecs {x0 e} : Moves 268698684 e (ownRecs x0 e).1 := by
  unfold ownRecs
  extract_lets +onlyGivenNames y0
  refine moves_cut (y := y0.1) ?_ fun h1 => ?_
  · unfold y0
    refine moves_foldl1 _ _ _ (fun e3 x2 => ?_) ?_
    · extract_lets +onlyGivenNames y4
      refine moves_cut (y := y4.1) ?_ fun h5 => ?_
      · unfold y4
        exact (moves_ownRec).then (by decide) <| Moves.refl _ _
      clear_value y4
      exact moves_mk1 <| h5
    exact moves_mk1 <| Moves.refl _ _
  clear_value y0
  exact moves_mk1 <| h1

theorem moves_closeTxn {x0 e} : Moves 1572864 e (closeTxn x0 e) := by
  unfold closeTxn
  extract_lets +onlyGivenNames y0
  refine moves_cut (y := y0) ?_ fun h1 => ?_
  · unfold y0
    split
    · rename_i z2 z3 z4
      exact (moves_dropJob).then (by decide) <| Moves.refl _ _
    · rename_i z5 z6
      exact Moves.refl _ _
  clear_value y0
  extract_lets +onlyGivenNames y7
  clear_value y7
  extract_lets +onlyGivenNames y8
  refine moves_cut (y := y8) ?_ fun h9 => ?_
  · unfold y8
    exact moves_xact (by decide) <| h1
  clear_value y8
  refine moves_each _ _ _ (fun x10 e11 => ?_) ?_
  · refine moves_each _ _ _ (fun x12 e13 => ?_) ?_
    · exact (moves_updPort).then (by decide) <| Moves.refl _ _
    exact Moves.refl _ _
  exact h9

theorem moves_openRestore {x0 x1 e} : Moves 528384 e (openRestore x0 x1 e) := by
  unfold openRestore
  extract_lets +onlyGivenNames y0
  refine moves_cut (y := y0) ?_ fun h1 => ?_
  · unfold y0
    exact (moves_openTxn).then (by decide) <| Moves.refl _ _
  clear_value y0
  extract_lets +onlyGivenNames y2
  clear_value y2
  extract_lets +onlyGivenNames y3
  refine moves_cut (y := y3) ?_ fun h4 => ?_
  · unfold y3
    exact (moves_updTxn).then (by decide) <| h1
  clear_value y3
  exact moves_thm (by decide) <| h4

theorem moves_restoreFailed {x0 x1 x2 e} : Moves 270277692 e (restoreFailed x0 x1 x2 e) := by
  unfold restoreFailed
  extract_lets +onlyGivenNames y0
  clear_value y0
  extract_lets +onlyGivenNames y1
  refine moves_cut (y := y1) ?_ fun h2 => ?_
  · unfold y1
    refine moves_each _ _ _ (fun x3 e4 => ?_) ?_
    · exact (moves_dropJob).then (by decide) <| Moves.refl _ _
    exact Moves.refl _ _
  clear_value y1
  refine moves_ite ?_ ?_
  · exact (moves_openRestore).then (by decide) <| h2
  extract_lets +onlyGivenNames y5
  clear_value y5
  extract_lets +onlyGivenNames y6
  refine moves_cut (y := y6) ?_ fun h7 => ?_
  · unfold y6
    exact moves_thm (by decide) <| h2
  clear_value y6
  extract_lets +onlyGivenNames y8
  refine moves_cut (y := y8) ?_ fun h9 => ?_
  · unfold y8
    exact (moves_note).then (by decide) <| h7
  clear_value y8
  refine moves_ite ?_ ?_
  · exact moves_sys (by decide) rfl <| h9
  exact h9

theorem moves_failTxn {x0 x1 x2 e} : Moves 471800892 e (failTxn x0 x1 x2 e) := by
  unfold failTxn
  split
  · rename_i z0 z1
    exact Moves.refl _ _
  · rename_i z2 z3 z4
    extract_lets +onlyGivenNames y5
    clear_value y5
    extract_lets +onlyGivenNames y6
    refine moves_cut (y := y6) ?_ fun h7 => ?_
    · unfold y6
      exact (moves_closeTxn).then (by decide) <| Moves.refl _ _
    clear_value y6
    extract_lets +onlyGivenNames y8
    refine moves_cut (y := y8) ?_ fun h9 => ?_
    · unfold y8
      refine moves_ite ?_ ?_
      · exact (moves_inc).then (by decide) <| h7
      exact (moves_inc).then (by decide) <| h7
    clear_value y8
    extract_lets +onlyGivenNames y10
    refine moves_cut (y := y10) ?_ fun h11 => ?_
    · unfold y10
      refine moves_ite ?_ ?_
      · exact h9
      exact (moves_note).then (by decide) <| h9
    clear_value y10
    extract_lets +onlyGivenNames y12
    refine moves_cut (y := y12) ?_ fun h13 => ?_
    · unfold y12
      refine moves_ite ?_ ?_
      · exact (moves_note).then (by decide) <| h11
      refine moves_ite ?_ ?_
      · exact (moves_note).then (by decide) <| h11
      refine moves_ite ?_ ?_
      · exact (moves_note).then (by decide) <| h11
      exact h11
    clear_value y12
    extract_lets +onlyGivenNames y14
    refine moves_cut (y := y14) ?_ fun h15 => ?_
    · unfold y14
      refine moves_ite ?_ ?_
      · exact (moves_restoreFailed).then (by decide) <| h13
      exact h13
    clear_value y14
    split
    · rename_i z16 z17 z18
      refine moves_ite ?_ ?_
      · exact h15
      refine moves_ite ?_ ?_
      · exact (moves_release).then (by decide) <| h15
      exact (moves_complete).then (by decide) <| h15
    · rename_i z19 z20
      exact h15

theorem moves_failAll {x0 x1 e} : Moves 471800892 e (failAll x0 x1 e) := by
  unfold failAll
  refine moves_each _ _ _ (fun x0 e1 => ?_) ?_
  · exact (moves_failTxn).then (by decide) <| Moves.refl _ _
  exact Moves.refl _ _

end Sys2Proof.Machine
end

