-- ==== Sys2Proof/Laws/Cmd.lean ====
section
/-! SUPPORT. A Keseuk command whose way is clear does its own part at once: `arriveAs_clear`. -/

namespace Sys2Proof.Machine

theorem Goes.of {c : Instr} {s : State} {P : Engine → Prop} {f : Engine → Engine} (h : exec c s = .next (s.run f))
    (hp : P (f s.start)) : Goes c s P := ⟨_, h, rfl, hp⟩

@[simp] theorem State.to_eng (s : State) (e : Engine) : (s.to e).eng = e := rfl

@[simp] theorem State.to_pending (s : State) (e : Engine) : (s.to e).pending = s.pending := rfl

theorem State.run_to (f : Engine → Engine) (s : State) : s.run f = s.to (f s.start) := rfl

theorem Goes.to {c : Instr} {s : State} {P : Engine → Prop} {e : Engine} (h : exec c s = .next (s.to e)) (hp : P e) : Goes c s P :=
  ⟨_, h, rfl, hp⟩

theorem infl_none {cx : Cx} {e : Engine} (h : ∀ j ∈ e.cmd.inflight, ¬(j.cx.hopper = cx.hopper ∧ j.cx.tag = cx.tag)) :
    e.infl cx = none := by
  unfold Engine.infl
  rw [List.find?_eq_none]
  intro j hj hx
  have : j.cx = cx := by simpa using hx
  exact h j hj (by rw [this]; exact ⟨rfl, rfl⟩)

/-- What a command that is taken in becomes: in flight, accepted after every command before it (R180, R217). -/
def inflOf (cx : Cx) (op : Nat) (ports : List Nat) (e : Engine) : Infl :=
  { cx := cx, opcode := op, ports := ports, accepted := true, at_ := dNs e, sub := e.cmd.subs, order := e.cmd.accepts,
    sqHead := (e.hop cx.hopper).sqHead }

/-- The commands in flight after a command is taken in. -/
theorem accepted_inflight {cx : Cx} {op : Nat} {ports : List Nat} {e : Engine} (h : e.infl cx = none) :
    (accepted cx op ports e).cmd.inflight =
      e.cmd.inflight ++ [inflOf cx op ports e] := by
  unfold accepted takeIn
  rw [h]
  simp only [if_true, countAccept, holdTag]
  simp [updHop, inc, addC, wr, wrF, inflOf]
  try split
  all_goals first | rfl | simp [updHop, inc, addC, wr, wrF, inflOf, Engine.hop, dNs]

theorem accepted_frame (cx : Cx) (op : Nat) (ports : List Nat) (e : Engine) :
    Frame (65564) e (accepted cx op ports e) := (moves_takeIn).frame

/-- The ports of a park's circuits depend on the pairs alone. -/
theorem scope_congr {x e : Engine} (h : x.xact = e.xact) (k : MajorPark) : k.scope x = k.scope e := by
  have hx : ∀ p, x.pair p = e.pair p := fun p => by
    unfold Engine.pair
    rw [h]
  simp only [MajorPark.scope, hx]

/-- A command none of whose ports a park of a MAJOR event has does not wait for one (R334). -/
theorem behindPark_free {e : Engine} {i : Infl} (h : ∀ k ∈ e.flt.parks, ∀ p ∈ i.ports, p ∉ k.scope e) : behindPark e i = false := by
  unfold behindPark
  rw [Bool.and_eq_false_iff]
  right
  rw [List.any_eq_false]
  intro k hk hh
  simp only [Bool.and_eq_true, List.any_eq_true, decide_eq_true_eq] at hh
  obtain ⟨_, p, hp, hq⟩ := hh
  exact h k hk p hp hq

/-- No park of a MAJOR event holds a port of a command whose ports no such park has. -/
theorem behindPark_clear {cx : Cx} {op : Nat} {ports : List Nat} {e : Engine}
    (h : ∀ k ∈ e.flt.parks, ∀ p ∈ k.scope e, p ∉ ports) :
    behindPark (accepted cx op ports e) (inflOf cx op ports e) = false :=
  behindPark_free fun k hk p hp hq =>
    h k (by rwa [show (accepted cx op ports e).flt = e.flt from accepted_frame cx op ports e .flt rfl] at hk) p
      (by rwa [scope_congr (accepted_frame cx op ports e .xact rfl)] at hq) hp

/-- The checks of a command taken in, in their order: the mode, the reserved fields, its own part (R404). -/
theorem runCmd_order {cx : Cx} {i : CmdInfo} {rsv : Nat} {ports : Engine → List Nat} {e : Engine} (body : Engine → Engine)
    (h : Clear cx { i with modes := execModes } (ports e) e) :
    runCmd i cx rsv ports body e =
      (if e.sys.mode ∉ i.modes then complete cx stWrongMode 0 (accepted cx i.opcode (ports e) e)
       else if rsv ≠ 0 then complete cx stBadParam 0 (accepted cx i.opcode (ports e) e)
       else body (accepted cx i.opcode (ports e) e)) := by
  have hn := infl_none h.tag
  have hx : executing e cx = true := by simp [executing, inMode, h.exec]
  have hr : headerRefusal i cx = none := by
    unfold headerRefusal
    have h1 := h.operator
    have h2 := h.host
    cases ho : i.operator <;> cases hm : i.hostMem <;> simp_all
  have hw : mustWait (accepted cx i.opcode (ports e) e)
      (((accepted cx i.opcode (ports e) e).infl cx).getD { cx := cx, opcode := i.opcode }) = false := by
    have hi := accepted_inflight (op := i.opcode) (ports := ports e) hn
    have hne : ∀ j ∈ e.cmd.inflight, (j.cx != cx) = true := by
      intro j hj
      have := h.tag j hj
      rw [bne_iff_ne]
      intro hc
      exact this (by rw [hc]; exact ⟨rfl, rfl⟩)
    have hf : (accepted cx i.opcode (ports e) e).infl cx =
        some (inflOf cx i.opcode (ports e) e) := by
      unfold Engine.infl at hn ⊢
      rw [hi, List.find?_append, hn]
      simp [inflOf]
    rw [hf]
    unfold mustWait inflBefore
    have hc : (inflOf cx i.opcode (ports e) e).cx = cx := rfl
    have hp : (inflOf cx i.opcode (ports e) e).ports = ports e := rfl
    rw [Option.getD_some, hc, hp, show (inflOf cx i.opcode (ports e) e).accepted = true from rfl, hi, List.takeWhile_append_of_pos (by simpa using hne)]
    rw [List.takeWhile_cons_of_neg (by simp [inflOf]), List.append_nil]
    simp only [Bool.not_true, Bool.and_false, Bool.false_and, Bool.or_false, Bool.or_eq_false_iff]
    refine ⟨?_, behindPark_clear h.parked⟩
    rw [List.any_eq_false]
    intro j hj hh
    simp only [List.any_eq_true, decide_eq_true_eq, Bool.and_eq_true] at hh
    obtain ⟨_, p, hp, hq⟩ := hh
    exact h.free j hj p hp hq
  have hm : modeOk (accepted cx i.opcode (ports e) e) i = decide (e.sys.mode ∈ i.modes) := by
    have hs : (accepted cx i.opcode (ports e) e).sys = e.sys := (accepted_frame cx i.opcode (ports e) e) .sys rfl
    unfold modeOk inMode
    rw [hs]
    have : e.sys.mode ≠ .hold := by
      intro hh
      have := h.exec
      rw [hh] at this
      revert this; decide
    rw [if_neg this]
  unfold runCmd
  rw [hx, hn]
  simp only [Bool.not_true, Bool.false_eq_true, if_false, Option.isNone_none, if_true, hr]
  have ha : takeIn cx i.opcode (ports e) true e = accepted cx i.opcode (ports e) e := rfl
  rw [ha, hw, hm]
  simp

/-- A clear command does its own part. -/
theorem runCmd_clear {cx : Cx} {i : CmdInfo} {rsv : Nat} {ports : Engine → List Nat} {e : Engine} (body : Engine → Engine)
    (h : Clear cx i (ports e) e) :
    runCmd i cx rsv ports body e =
      (if rsv ≠ 0 then complete cx stBadParam 0 (accepted cx i.opcode (ports e) e)
       else body (accepted cx i.opcode (ports e) e)) := by
  rw [runCmd_order body ⟨h.exec, h.exec, h.dom, h.operator, h.host, h.tag, h.loose, h.free, h.parked, h.first⟩, if_neg (by simpa using h.mode)]

/-- A command whose packet is in order goes on to its checks. -/
theorem arriveAs_go {op : Bool} {cx : Cx} {i : CmdInfo} {ports : List Nat} {e : Engine} (go : Engine → Engine)
    (h : Clear cx i ports e) (ho : op = true → i.operator = true) : arriveAs op cx go e = go e := by
  have hx : executing e cx = true := by simp [executing, inMode, h.exec]
  have ht : e.cmd.inflight.any (fun j => j.cx.hopper == cx.hopper && j.cx.tag == cx.tag) = false := by
    rw [List.any_eq_false]
    intro j hj
    have := h.tag j hj
    simpa using this
  have hl : tagTaken cx e = false := by unfold tagTaken; rw [ht, h.loose]; rfl
  unfold arriveAs
  rw [hx, h.dom, hl]
  have hd : ¬(op = true ∧ cx.domain ≠ 0) := fun hh => hh.2 (h.operator (ho hh.1))
  simp only [Bool.not_true, Bool.false_eq_true, if_false, ne_eq, not_true_eq_false, hd]

/-- A command that arrives with its way clear does its own part. -/
theorem arriveAs_clear {op : Bool} {cx : Cx} {i : CmdInfo} {rsv : Nat} {ports : Engine → List Nat} {e : Engine}
    (body : Engine → Engine) (h : Clear cx i (ports e) e) (ho : op = true → i.operator = true) :
    arriveAs op cx (runCmd i cx rsv ports body) e =
      (if rsv ≠ 0 then complete cx stBadParam 0 (accepted cx i.opcode (ports e) e)
       else body (accepted cx i.opcode (ports e) e)) := by
  rw [arriveAs_go _ h ho, runCmd_clear body h]

@[simp] theorem accepted_clk (cx : Cx) (op : Nat) (ps : List Nat) (e : Engine) : (accepted cx op ps e).clk = e.clk :=
  accepted_frame cx op ps e .clk rfl

@[simp] theorem accepted_freeCtr (cx : Cx) (op : Nat) (ps : List Nat) (e : Engine) : (accepted cx op ps e).freeCtr = e.freeCtr :=
  accepted_frame cx op ps e .freeCtr rfl

@[simp] theorem accepted_reach (cx : Cx) (op : Nat) (ps : List Nat) (e : Engine) : (accepted cx op ps e).reach = e.reach :=
  accepted_frame cx op ps e .reach rfl

@[simp] theorem accepted_guards (cx : Cx) (op : Nat) (ps : List Nat) (e : Engine) : (accepted cx op ps e).guards = e.guards :=
  accepted_frame cx op ps e .guards rfl

@[simp] theorem accepted_mbx (cx : Cx) (op : Nat) (ps : List Nat) (e : Engine) : (accepted cx op ps e).mbx = e.mbx :=
  accepted_frame cx op ps e .mbx rfl

@[simp] theorem accepted_snap (cx : Cx) (op : Nat) (ps : List Nat) (e : Engine) : (accepted cx op ps e).snap = e.snap :=
  accepted_frame cx op ps e .snap rfl

@[simp] theorem accepted_nvr (cx : Cx) (op : Nat) (ps : List Nat) (e : Engine) : (accepted cx op ps e).nvr = e.nvr :=
  accepted_frame cx op ps e .nvr rfl

@[simp] theorem accepted_flt (cx : Cx) (op : Nat) (ps : List Nat) (e : Engine) : (accepted cx op ps e).flt = e.flt :=
  accepted_frame cx op ps e .flt rfl

@[simp] theorem accepted_sys (cx : Cx) (op : Nat) (ps : List Nat) (e : Engine) : (accepted cx op ps e).sys = e.sys :=
  accepted_frame cx op ps e .sys rfl

@[simp] theorem accepted_thm (cx : Cx) (op : Nat) (ps : List Nat) (e : Engine) : (accepted cx op ps e).thm = e.thm :=
  accepted_frame cx op ps e .thm rfl

@[simp] theorem accepted_pwr (cx : Cx) (op : Nat) (ps : List Nat) (e : Engine) : (accepted cx op ps e).pwr = e.pwr :=
  accepted_frame cx op ps e .pwr rfl

@[simp] theorem accepted_tim (cx : Cx) (op : Nat) (ps : List Nat) (e : Engine) : (accepted cx op ps e).tim = e.tim :=
  accepted_frame cx op ps e .tim rfl

@[simp] theorem accepted_pins (cx : Cx) (op : Nat) (ps : List Nat) (e : Engine) : (accepted cx op ps e).pins = e.pins :=
  accepted_frame cx op ps e .pins rfl

@[simp] theorem accepted_dma (cx : Cx) (op : Nat) (ps : List Nat) (e : Engine) : (accepted cx op ps e).dma = e.dma :=
  accepted_frame cx op ps e .dma rfl

@[simp] theorem accepted_hif (cx : Cx) (op : Nat) (ps : List Nat) (e : Engine) : (accepted cx op ps e).hif = e.hif :=
  accepted_frame cx op ps e .hif rfl

@[simp] theorem accepted_xact (cx : Cx) (op : Nat) (ps : List Nat) (e : Engine) : (accepted cx op ps e).xact = e.xact :=
  accepted_frame cx op ps e .xact rfl

@[simp] theorem accepted_bkp (cx : Cx) (op : Nat) (ps : List Nat) (e : Engine) : (accepted cx op ps e).bkp = e.bkp :=
  accepted_frame cx op ps e .bkp rfl

@[simp] theorem accepted_syn (cx : Cx) (op : Nat) (ps : List Nat) (e : Engine) : (accepted cx op ps e).syn = e.syn :=
  accepted_frame cx op ps e .syn rfl

@[simp] theorem accepted_rfs (cx : Cx) (op : Nat) (ps : List Nat) (e : Engine) : (accepted cx op ps e).rfs = e.rfs :=
  accepted_frame cx op ps e .rfs rfl

@[simp] theorem accepted_sns (cx : Cx) (op : Nat) (ps : List Nat) (e : Engine) : (accepted cx op ps e).sns = e.sns :=
  accepted_frame cx op ps e .sns rfl

@[simp] theorem accepted_loop (cx : Cx) (op : Nat) (ps : List Nat) (e : Engine) : (accepted cx op ps e).loop = e.loop :=
  accepted_frame cx op ps e .loop rfl

@[simp] theorem accepted_sch (cx : Cx) (op : Nat) (ps : List Nat) (e : Engine) : (accepted cx op ps e).sch = e.sch :=
  accepted_frame cx op ps e .sch rfl

@[simp] theorem accepted_lrg (cx : Cx) (op : Nat) (ps : List Nat) (e : Engine) : (accepted cx op ps e).lrg = e.lrg :=
  accepted_frame cx op ps e .lrg rfl

@[simp] theorem accepted_hostMem (cx : Cx) (op : Nat) (ps : List Nat) (e : Engine) : (accepted cx op ps e).hostMem = e.hostMem :=
  accepted_frame cx op ps e .hostMem rfl

@[simp] theorem accepted_out (cx : Cx) (op : Nat) (ps : List Nat) (e : Engine) : (accepted cx op ps e).out = e.out :=
  accepted_frame cx op ps e .out rfl

/-- Of the registers a command that is taken in touches CMD_ACCEPT_CNT and CMD_TAG_HWM alone. -/
theorem rd_accepted (cx : Cx) (op : Nat) (ps : List Nat) (e : Engine) (o : Nat) (h1 : Reg.CMD_ACCEPT_CNT ≠ o)
    (h2 : Fd.CMD_TAG_HWM_HWM.off ≠ o) : rd (accepted cx op ps e) o = rd e o := by
  have hh : ∀ (i : Infl) (e : Engine), rd (holdTag i e) o = rd e o := by
    intro i e
    unfold holdTag
    dsimp only
    split
    · rw [rd_wrF_ne _ _ _ _ h2]
      exact rd_congr rfl rfl rfl o
    · exact rd_congr rfl rfl rfl o
  have hc : ∀ (q : Nat) (e : Engine), rd (countAccept q e) o = rd e o := by
    intro q e
    unfold countAccept
    rw [rd_inc_ne _ _ _ h1]
    exact rd_congr rfl rfl rfl o
  unfold accepted takeIn
  split
  · rw [if_pos rfl, hc, hh]
  · split
    · rfl
    · rw [hc]
      exact rd_congr rfl rfl rfl o

/-- A command of the engine's that arrives with its way clear: what `exec` answers. -/
theorem exec_clear {c : Instr} {s : State} {op : Bool} {cx : Cx} {i : CmdInfo} {rsv : Nat} {ports : Engine → List Nat}
    {body : Engine → Engine} {a : Engine} (hx : exec c s = .next (s.run (arriveAs op cx (runCmd i cx rsv ports body))))
    (h : Clear cx i (ports s.start) s.start) (ho : op = true → i.operator = true)
    (ha : a = accepted cx i.opcode (ports s.start) s.start) :
    exec c s = .next (s.to (if rsv ≠ 0 then complete cx stBadParam 0 a else body a)) := by
  rw [hx, ha]
  exact congrArg (fun e => Host.Outcome.next (s.to e)) (arriveAs_clear body h ho)

/-- The same with the reserved fields 0. -/
theorem exec_clear0 {c : Instr} {s : State} {op : Bool} {cx : Cx} {i : CmdInfo} {rsv : Nat} {ports : Engine → List Nat}
    {body : Engine → Engine} {a : Engine} (hx : exec c s = .next (s.run (arriveAs op cx (runCmd i cx rsv ports body))))
    (h : Clear cx i (ports s.start) s.start) (ho : op = true → i.operator = true)
    (ha : a = accepted cx i.opcode (ports s.start) s.start) (h0 : rsv = 0) : exec c s = .next (s.to (body a)) := by
  rw [exec_clear hx h ho ha, if_neg (by simp [h0])]

theorem accepted_infl {cx : Cx} {op : Nat} {ports : List Nat} {e : Engine} (h : e.infl cx = none) :
    (accepted cx op ports e).infl cx =
      some (inflOf cx op ports e) := by
  have hi := accepted_inflight (op := op) (ports := ports) h
  unfold Engine.infl at h ⊢
  rw [hi, List.find?_append, h]
  simp [inflOf]

end Sys2Proof.Machine
end

