-- ==== Sys2Proof/Laws/MovesClock.lean ====
section
/-! SUPPORT. What each operation of Machine/Clock.lean can do (`moves_f`). -/

namespace Sys2Proof.Machine

theorem TimSt.run_zero (ramp : Int) (clk n : Nat) (t : TimSt) : TimSt.run ramp 0 clk n t = t.after n := rfl

theorem TimSt.run_succ (ramp : Int) (k clk n : Nat) (t : TimSt) :
    TimSt.run ramp (k + 1) clk n t = TimSt.runMs ramp (TimSt.run ramp k) clk n t := rfl

@[simp] theorem TimSt.after_tsq (n : Nat) (t : TimSt) : (t.after n).tsq = t.tsq := rfl

@[simp] theorem TimSt.hoStep_tsq (ramp : Int) (h : Handover) (t : TimSt) : (t.hoStep ramp h).tsq = t.tsq := rfl

theorem TimSt.runEnd_tsq (ramp : Int) (f : Nat → Nat → TimSt → TimSt) (hf : ∀ c n t, (f c n t).tsq = t.tsq)
    (m clk n : Nat) (h : Handover) (t u : TimSt) (hu : u.tsq = t.tsq) :
    (if n < m then u else f (clk + m) (n - m) ((t.after m).hoStep ramp h)).tsq = t.tsq := by
  split
  · exact hu
  · rw [hf]; rfl

theorem TimSt.runMs_tsq (ramp : Int) (f : Nat → Nat → TimSt → TimSt) (hf : ∀ c n t, (f c n t).tsq = t.tsq) (clk n : Nat)
    (t : TimSt) : (TimSt.runMs ramp f clk n t).tsq = t.tsq := by
  unfold TimSt.runMs
  split
  · rfl
  · exact TimSt.runEnd_tsq _ _ hf _ _ _ _ _ _ rfl

/-- The passing of time keeps the queue of timestamps. -/
theorem TimSt.run_tsq (ramp : Int) (k clk n : Nat) (t : TimSt) : (TimSt.run ramp k clk n t).tsq = t.tsq := by
  induction k generalizing clk n t with
  | zero => rfl
  | succ k ih => rw [TimSt.run_succ]; exact TimSt.runMs_tsq _ _ ih _ _ _

theorem TimSt.undefer_tsq (t : TimSt) : t.undefer.tsq = t.tsq := by
  unfold TimSt.undefer
  split
  · rfl
  · dsimp only
    split <;> rfl

theorem TimSt.passed_tsq (ramp : Int) (clk n : Nat) (t : TimSt) : (t.passed ramp clk n).tsq = t.tsq := by
  unfold TimSt.passed
  split
  · exact TimSt.run_tsq _ _ _ _ _
  · dsimp only
    split
    · exact TimSt.run_tsq _ _ _ _ _
    · rw [TimSt.run_tsq, TimSt.undefer_tsq, TimSt.run_tsq]

theorem moves_pass {x0 e} : Moves 16385 e (pass x0 e) := by
  refine ⟨by intro p hp; cases p <;> first | rfl | exact absurd hp (by decide), rfl, fun _ => Nat.le_refl _, id, id, id, fun hl => ?_⟩
  show (if unpowered e = true then e.tim else _).tsq.length ≤ 64
  split
  · exact hl
  · rw [TimSt.passed_tsq]; exact hl


theorem moves_waitClk {x0 e} : Moves 16385 e (waitClk x0 e) := by
  unfold waitClk
  refine moves_ite ?_ ?_
  · exact (moves_pass).then (by decide) <| Moves.refl _ _
  exact Moves.refl _ _

theorem moves_waitDIn {x0 x1 e} : Moves 16385 e (waitDIn x0 x1 e) := by
  induction x0 generalizing x1 e
  · rw [waitDIn]
    refine moves_ite ?_ ?_
    · exact (moves_pass).then (by decide) <| Moves.refl _ _
    exact Moves.refl _ _
  · rename_i m0 ih
    rw [waitDIn]
    refine moves_ite ?_ ?_
    · split
      · rename_i z2 z3
        exact (moves_pass).then (by decide) <| Moves.refl _ _
      · rename_i z4 z5 z6
        refine moves_ite ?_ ?_
        · exact (moves_pass).then (by decide) <| Moves.refl _ _
        exact ih.then (Nat.or_self _) <| (moves_pass).then (by decide) <| Moves.refl _ _
    exact Moves.refl _ _

theorem moves_waitD {x0 e} : Moves 16385 e (waitD x0 e) := by
  unfold waitD
  exact (moves_waitDIn).then (by decide) <| Moves.refl _ _

end Sys2Proof.Machine
end

