-- ==== Sys2Proof/Laws/MovesMarch.lean ====
section
/-! SUPPORT. What each operation of Machine/March.lean can do (`moves_f`). -/

namespace Sys2Proof.Machine

theorem moves_haltMarch {x0 e} : Moves 1048576 e (haltMarch x0 e) := by
  unfold haltMarch
  exact moves_bkp (by decide) <| Moves.refl _ _

theorem moves_marchEv {x0 x1 e} : Moves 1048576 e (marchEv x0 x1 e) := by
  unfold marchEv
  split
  · rename_i z0 z1 z2
    exact moves_bkp (by decide) <| Moves.refl _ _
  · rename_i z3 z4
    exact Moves.refl _ _

end Sys2Proof.Machine
end

