-- ==== Sys2Proof/Laws/MovesPlayer.lean ====
section
/-! SUPPORT. What each operation of Machine/Player.lean can do (`moves_f`). -/

namespace Sys2Proof.Machine

theorem moves_parkNow {x0 x1 e} : MovesO 269222972 e (parkNow x0 x1 e) := by
  unfold parkNow
  extract_lets +onlyGivenNames y0
  clear_value y0
  split
  · rename_i z1
    exact movesO_none
  · rename_i z2
    extract_lets +onlyGivenNames y3
    refine moves_cutG (w := 269222972) (a := e) (y := y3.1) ?_ fun h4 => ?_
    · unfold y3
      exact (moves_ownRecs).then (by decide) <| Moves.refl _ _
    clear_value y3
    exact movesO_some <| (moves_addNow).then (by decide) <| h4

theorem moves_endPlayerCmds {e} : Moves 504300604 e (endPlayerCmds e) := by
  unfold endPlayerCmds
  extract_lets +onlyGivenNames y0
  clear_value y0
  extract_lets +onlyGivenNames y1
  refine moves_cut (y := y1) ?_ fun h2 => ?_
  · unfold y1
    exact moves_sch (by decide) <| Moves.refl _ _
  clear_value y1
  extract_lets +onlyGivenNames y3
  refine moves_cut (y := y3) ?_ fun h4 => ?_
  · unfold y3
    split
    · rename_i z5 z6 z7
      exact (moves_completeAt).then (by decide) <| h2
    · rename_i z8 z9 z10 z11 z12
      exact (moves_complete).then (by decide) <| h2
    · rename_i z13 z14
      exact h2
  clear_value y3
  extract_lets +onlyGivenNames y15
  refine moves_cut (y := y15) ?_ fun h16 => ?_
  · unfold y15
    split
    · rename_i z17 z18 z19 z20
      exact (moves_complete).then (by decide) <| h4
    · rename_i z21 z22
      exact h4
  clear_value y15
  extract_lets +onlyGivenNames y23
  refine moves_cut (y := y23) ?_ fun h24 => ?_
  · unfold y23
    split
    · rename_i z25 z26 z27 z28 z29
      exact (moves_complete).then (by decide) <| h16
    · rename_i z30 z31
      exact h16
  clear_value y23
  extract_lets +onlyGivenNames y32
  refine moves_cut (y := y32) ?_ fun h33 => ?_
  · unfold y32
    split
    · rename_i z34 z35 z36
      split
      · rename_i z37 z38 z39
        exact (moves_complete).then (by decide) <| h24
      · rename_i z40 z41
        exact h24
    · rename_i z42 z43
      exact h24
  clear_value y32
  extract_lets +onlyGivenNames y44
  refine moves_cut (y := y44) ?_ fun h45 => ?_
  · unfold y44
    refine moves_each _ _ _ (fun x46 e47 => ?_) ?_
    · split
      · rename_i z48 z49 z50
        exact (moves_complete).then (by decide) <| Moves.refl _ _
      · rename_i z51 z52
        exact Moves.refl _ _
    exact h33
  clear_value y44
  split
  · rename_i z53 z54 z55 z56 z57
    extract_lets +onlyGivenNames y58
    refine moves_cut (y := y58) ?_ fun h59 => ?_
    · unfold y58
      refine moves_each _ _ _ (fun x60 e61 => ?_) ?_
      · exact (moves_dropStream).then (by decide) <| Moves.refl _ _
      exact h45
    clear_value y58
    exact (moves_complete).then (by decide) <| h59
  · rename_i z62 z63
    exact h45

theorem moves_stopNow {x0 e} : Moves 505349180 e (stopNow x0 e) := by
  unfold stopNow
  refine moves_ite ?_ ?_
  · exact Moves.refl _ _
  extract_lets +onlyGivenNames y0
  refine moves_cut (y := y0) ?_ fun h1 => ?_
  · unfold y0
    refine moves_each _ _ _ (fun x2 e3 => ?_) ?_
    · exact (moves_dropJob).then (by decide) <| Moves.refl _ _
    exact Moves.refl _ _
  clear_value y0
  extract_lets +onlyGivenNames y4
  refine moves_cut (y := y4) ?_ fun h5 => ?_
  · unfold y4
    exact (moves_setLive).then (by decide) <| (moves_endPlayerCmds).then (by decide) <| h1
  clear_value y4
  exact (moves_note).then (by decide) <| moves_sch (by decide) <| h5

theorem moves_makeRoom {x0 x1 e} : Moves 33554432 e (makeRoom x0 x1 e) := by
  induction x1 generalizing x0 e
  · rw [makeRoom]
    exact Moves.refl _ _
  · rename_i m0 ih
    rw [makeRoom]
    refine moves_ite ?_ ?_
    · exact Moves.refl _ _
    split
    · rename_i z2 z3 z4
      exact ih.then (Nat.or_self _) <| moves_sch (by decide) <| Moves.refl _ _
    · rename_i z5 z6
      exact Moves.refl _ _

theorem moves_flumeFetch {e} : Moves 131072 e (flumeFetch e) := by
  unfold flumeFetch
  split
  · rename_i z0 z1
    exact Moves.refl _ _
  · rename_i z2 z3 z4 z5 z6
    extract_lets +onlyGivenNames y7 y8 y9
    clear_value y7 y8 y9
    refine moves_ite ?_ ?_
    · exact Moves.refl _ _
    exact (moves_openCmd).then (by decide) <| Moves.refl _ _

theorem moves_learn {e} : Moves 33554460 e (learn e) := by
  unfold learn
  split
  · rename_i z0 z1
    exact Moves.refl _ _
  · rename_i z2 z3 z4
    refine moves_ite ?_ ?_
    · exact Moves.refl _ _
    extract_lets +onlyGivenNames y5 y6
    clear_value y5 y6
    extract_lets +onlyGivenNames y7
    refine moves_cut (y := y7) ?_ fun h8 => ?_
    · unfold y7
      refine moves_each _ _ _ (fun x9 e10 => ?_) ?_
      · extract_lets +onlyGivenNames y11 y12
        clear_value y11 y12
        exact (moves_updSlot).then (by decide) <| Moves.refl _ _
      exact Moves.refl _ _
    clear_value y7
    exact (moves_addC).then (by decide) <| h8

theorem moves_beginVisit {x0 x1 e} : Moves 33554432 e (beginVisit x0 x1 e) := by
  unfold beginVisit
  extract_lets +onlyGivenNames y0
  refine moves_cut (y := y0) ?_ fun h1 => ?_
  · unfold y0
    exact (moves_updSlot).then (by decide) <| Moves.refl _ _
  clear_value y0
  exact moves_sch (by decide) <| h1

theorem moves_finishStop {x0 x1 e} : Moves 470746172 e (finishStop x0 x1 e) := by
  unfold finishStop
  split
  · rename_i z0 z1 z2
    refine moves_some z2 ?_ fun h3 => ?_
    · split
      · rename_i z4
        exact (moves_parkNow).then (by decide) <| Moves.refl _ _
      · rename_i z5
        exact movesO_none
    exact h3
  · rename_i z6 z7
    exact (moves_completeAt).then (by decide) <| Moves.refl _ _

theorem moves_stopAfterBoundary {e} : Moves 505349180 e (stopAfterBoundary e) := by
  unfold stopAfterBoundary
  split
  · rename_i z0 z1
    exact Moves.refl _ _
  · rename_i z2 z3 z4
    refine moves_ite ?_ ?_
    · exact Moves.refl _ _
    extract_lets +onlyGivenNames y5 y6
    clear_value y5 y6
    extract_lets +onlyGivenNames y7
    refine moves_cut (y := y7) ?_ fun h8 => ?_
    · unfold y7
      exact (moves_stopNow).then (by decide) <| moves_sch (by decide) <| Moves.refl _ _
    clear_value y7
    split
    · rename_i z9 z10 z11
      exact (moves_finishStop).then (by decide) <| h8
    · rename_i z12
      exact h8

theorem moves_enterBoundary {x0 x1 e} : Moves 505349180 e (enterBoundary x0 x1 e) := by
  unfold enterBoundary
  extract_lets +onlyGivenNames y0
  clear_value y0
  extract_lets +onlyGivenNames y1
  refine moves_cut (y := y1) ?_ fun h2 => ?_
  · unfold y1
    exact moves_sch (by decide) <| Moves.refl _ _
  clear_value y1
  refine moves_ite ?_ ?_
  · exact (moves_stopNow).then (by decide) <| h2
  extract_lets +onlyGivenNames y3 y4
  clear_value y3 y4
  extract_lets +onlyGivenNames y5
  refine moves_cut (y := y5) ?_ fun h6 => ?_
  · unfold y5
    refine moves_ite ?_ ?_
    · exact (moves_beginVisit).then (by decide) <| h2
    exact h2
  clear_value y5
  extract_lets +onlyGivenNames y7 y8 y9 y10
  clear_value y7 y8 y9 y10
  extract_lets +onlyGivenNames y11
  refine moves_cut (y := y11) ?_ fun h12 => ?_
  · unfold y11
    exact (moves_inc).then (by decide) <| moves_sch (by decide) <| h6
  clear_value y11
  extract_lets +onlyGivenNames y13
  refine moves_cut (y := y13) ?_ fun h14 => ?_
  · unfold y13
    split
    · rename_i z15 z16 z17 z18
      exact (moves_completeAt).then (by decide) <| h12
    · rename_i z19
      exact h12
  clear_value y13
  extract_lets +onlyGivenNames y20
  refine moves_cut (y := y20) ?_ fun h21 => ?_
  · unfold y20
    split
    · rename_i z22 z23 z24
      exact (moves_completeAt).then (by decide) <| h14
    · rename_i z25 z26
      exact h14
  clear_value y20
  exact (moves_flumeFetch).then (by decide) <| (moves_stopAfterBoundary).then (by decide) <| h21

theorem moves_quietEnter {x0 e} : Moves 505349180 e (quietEnter x0 e) := by
  unfold quietEnter
  extract_lets +onlyGivenNames y0
  clear_value y0
  refine (moves_enterBoundary).then (by decide) <| ?_
  refine moves_ite ?_ ?_
  · exact (moves_learn).then (by decide) <| Moves.refl _ _
  exact Moves.refl _ _

theorem moves_passQuiet {x0 x1 e} : Moves 505365565 e (passQuiet x0 x1 e) := by
  induction x1 generalizing x0 e
  · rw [passQuiet]
    exact Moves.refl _ _
  · rename_i m0 ih
    rw [passQuiet]
    split
    · rename_i z2 z3 z4
      exact ih.then (Nat.or_self _) <| (moves_quietEnter).then (by decide) <| (moves_waitD).then (by decide) <| Moves.refl _ _
    · rename_i z5 z6
      exact Moves.refl _ _

theorem moves_passPast {x0 e} : Moves 505349180 e (passPast x0 e) := by
  induction x0 generalizing e
  · rw [passPast]
    exact Moves.refl _ _
  · rename_i m0 ih
    rw [passPast]
    split
    · rename_i z2 z3 z4
      exact ih.then (Nat.or_self _) <| (moves_quietEnter).then (by decide) <| Moves.refl _ _
    · rename_i z5 z6
      exact Moves.refl _ _

theorem moves_passDue {e} : Moves 505349180 e (passDue e) := by
  unfold passDue
  exact (moves_passPast).then (by decide) <| Moves.refl _ _

theorem moves_stopPlayer {x0 e} : Moves 505349180 e (stopPlayer x0 e) := by
  unfold stopPlayer
  extract_lets +onlyGivenNames y0
  refine moves_cut (y := y0) ?_ fun h1 => ?_
  · unfold y0
    exact (moves_passDue).then (by decide) <| Moves.refl _ _
  clear_value y0
  refine moves_ite ?_ ?_
  · refine moves_ite ?_ ?_
    · exact (moves_endPlayerCmds).then (by decide) <| h1
    exact h1
  refine moves_ite ?_ ?_
  · exact moves_sch (by decide) <| h1
  exact (moves_stopNow).then (by decide) <| h1

end Sys2Proof.Machine
end

