-- ==== Sys2Proof/Laws/MovesHalt.lean ====
section
/-! SUPPORT. What each operation of Machine/Halt.lean can do (`moves_f`). -/

namespace Sys2Proof.Machine

theorem moves_surveyOver {x0 e} : Moves 270795836 e (surveyOver x0 e) := by
  unfold surveyOver
  extract_lets +onlyGivenNames y0
  clear_value y0
  extract_lets +onlyGivenNames y1
  refine moves_cut (y := y1) ?_ fun h2 => ?_
  · unfold y1
    exact moves_syn (by decide) <| Moves.refl _ _
  clear_value y1
  exact (moves_note).then (by decide) <| (moves_wrF).then (by decide) <| (moves_wrF).then (by decide) <| h2

theorem moves_loseSurvey {x0 e} : Moves 473891900 e (loseSurvey x0 e) := by
  unfold loseSurvey
  split
  · rename_i z0 z1
    exact Moves.refl _ _
  · rename_i z2 z3 z4
    extract_lets +onlyGivenNames y5
    refine moves_cut (y := y5) ?_ fun h6 => ?_
    · unfold y5
      exact (moves_surveyOver).then (by decide) <| Moves.refl _ _
    clear_value y5
    extract_lets +onlyGivenNames y7
    refine moves_cut (y := y7) ?_ fun h8 => ?_
    · unfold y7
      refine moves_each _ _ _ (fun x9 e10 => ?_) ?_
      · exact (moves_dropJob).then (by decide) <| Moves.refl _ _
      exact h6
    clear_value y7
    exact (moves_complete).then (by decide) <| h8

theorem moves_endSurvey {x0 e} : Moves 473891900 e (endSurvey x0 e) := by
  unfold endSurvey
  refine moves_ite ?_ ?_
  · exact (moves_loseSurvey).then (by decide) <| Moves.refl _ _
  split
  · rename_i z0 z1
    exact Moves.refl _ _
  · rename_i z2 z3 z4
    exact (moves_complete).then (by decide) <| (moves_surveyOver).then (by decide) <| Moves.refl _ _

theorem moves_loseCalSensor {x0 e} : Moves 478610492 e (loseCalSensor x0 e) := by
  unfold loseCalSensor
  split
  · rename_i z0 z1
    exact Moves.refl _ _
  · rename_i z2 z3 z4
    exact (moves_note).then (by decide) <| (moves_complete).then (by decide) <| moves_sns (by decide) <| Moves.refl _ _

theorem moves_endCalSensor {e} : Moves 478610492 e (endCalSensor e) := by
  unfold endCalSensor
  exact (moves_loseCalSensor).then (by decide) <| Moves.refl _ _

theorem moves_notAwaiting {x0 e} : Moves 524288 e (notAwaiting x0 e) := by
  unfold notAwaiting
  refine moves_each _ _ _ (fun x0 e1 => ?_) ?_
  · exact (moves_updPort).then (by decide) <| Moves.refl _ _
  exact Moves.refl _ _

theorem moves_endJob {x0 e} : Moves 1572864 e (endJob x0 e) := by
  unfold endJob
  extract_lets +onlyGivenNames y0
  refine moves_cut (y := y0) ?_ fun h1 => ?_
  · unfold y0
    exact (moves_dropJob).then (by decide) <| Moves.refl _ _
  clear_value y0
  refine moves_ite ?_ ?_
  · exact (moves_notAwaiting).then (by decide) <| h1
  exact h1

theorem moves_loseJob {x0 e} : Moves 471794748 e (loseJob x0 e) := by
  unfold loseJob
  extract_lets +onlyGivenNames y0
  refine moves_cut (y := y0) ?_ fun h1 => ?_
  · unfold y0
    exact (moves_endJob).then (by decide) <| Moves.refl _ _
  clear_value y0
  split
  · rename_i z2 z3 z4 z5 z6 z7
    exact (moves_completeAt).then (by decide) <| h1
  · rename_i z8 z9 z10 z11 z12
    exact (moves_complete).then (by decide) <| h1
  · rename_i z13 z14 z15
    exact h1

theorem moves_zeroShadows {e} : Moves 1048576 e (zeroShadows e) := by
  unfold zeroShadows
  exact (moves_allApers).then (by decide) <| Moves.refl _ _

theorem moves_loopsOff {x0 e} : Moves 16777216 e (loopsOff x0 e) := by
  unfold loopsOff
  exact (moves_allLoops).then (by decide) <| Moves.refl _ _

theorem moves_stopMarch {e} : Moves 1048604 e (stopMarch e) := by
  unfold stopMarch
  split
  · rename_i z0 z1 z2
    exact (moves_wrF).then (by decide) <| (moves_wr).then (by decide) <| (moves_haltMarch).then (by decide) <| Moves.refl _ _
  · rename_i z3 z4
    exact Moves.refl _ _

theorem moves_brakeStop {x0 e} : Moves 532618300 e (brakeStop x0 e) := by
  unfold brakeStop
  extract_lets +onlyGivenNames y0
  refine moves_cut (y := y0) ?_ fun h1 => ?_
  · unfold y0
    refine moves_ite ?_ ?_
    · refine moves_each _ _ _ (fun x2 e3 => ?_) ?_
      · exact (moves_failTxn).then (by decide) <| Moves.refl _ _
      exact Moves.refl _ _
    refine moves_each _ _ _ (fun x4 e5 => ?_) ?_
    · exact (moves_failTxn).then (by decide) <| Moves.refl _ _
    exact Moves.refl _ _
  clear_value y0
  extract_lets +onlyGivenNames y6
  refine moves_cut (y := y6) ?_ fun h7 => ?_
  · unfold y6
    refine moves_each _ _ _ (fun x8 e9 => ?_) ?_
    · split
      · rename_i z10 z11 z12
        exact Moves.refl _ _
      · rename_i z13 z14
        exact Moves.refl _ _
      · rename_i z15 z16 z17
        exact (moves_loseJob).then (by decide) <| Moves.refl _ _
    exact h1
  clear_value y6
  exact (moves_loopsOff).then (by decide) <| (moves_zeroShadows).then (by decide) <| (moves_stopMarch).then (by decide) <| (moves_endCalSensor).then (by decide) <| (moves_endSurvey).then (by decide) <| (moves_stopPlayer).then (by decide) <| h7

theorem moves_brakeStart {x0 e} : Moves 532618300 e (brakeStart x0 e) := by
  unfold brakeStart
  refine (moves_brakeStop).then (by decide) <| ?_
  refine moves_ite ?_ ?_
  · exact Moves.refl _ _
  exact moves_bkp (by decide) <| Moves.refl _ _

theorem moves_releaseDue {e} : Moves 1048576 e (releaseDue e) := by
  unfold releaseDue
  refine moves_ite ?_ ?_
  · exact moves_bkp (by decide) <| Moves.refl _ _
  exact Moves.refl _ _

theorem moves_brakeOn {x0 e} : Moves 532618300 e (brakeOn x0 e) := by
  unfold brakeOn
  extract_lets +onlyGivenNames y0
  refine moves_cut (y := y0) ?_ fun h1 => ?_
  · unfold y0
    exact (moves_releaseDue).then (by decide) <| Moves.refl _ _
  clear_value y0
  exact (moves_brakeStart).then (by decide) <| moves_bkp (by decide) <| h1

theorem moves_brakeOff {x0 e} : Moves 1048576 e (brakeOff x0 e) := by
  unfold brakeOff
  exact moves_bkp (by decide) <| Moves.refl _ _

end Sys2Proof.Machine
end

