-- ==== Sys2Proof/Laws/MovesArray.lean ====
section
/-! SUPPORT. What each operation of Machine/Array.lean can do (`moves_f`). -/

namespace Sys2Proof.Machine

theorem moves_detach {e} : Moves 67108864 e (detach e) := by
  unfold detach
  exact moves_lrg (by decide) <| Moves.refl _ _

theorem moves_updStation {e} : Moves 67108864 e (updStation e) := by
  unfold updStation
  extract_lets +onlyGivenNames y0
  clear_value y0
  refine moves_ite ?_ ?_
  · extract_lets +onlyGivenNames y1
    clear_value y1
    exact moves_lrg (by decide) <| Moves.refl _ _
  refine moves_ite ?_ ?_
  · exact (moves_detach).then (by decide) <| Moves.refl _ _
  exact Moves.refl _ _

theorem moves_portSluiced {x0 e} : Moves 524288 e (portSluiced x0 e) := by
  unfold portSluiced
  refine moves_ite ?_ ?_
  · exact (moves_updPort).then (by decide) <| Moves.refl _ _
  exact Moves.refl _ _

theorem moves_copyAper {x0 e} : Moves 18350080 e (copyAper x0 e) := by
  unfold copyAper
  extract_lets +onlyGivenNames y0 y1 y2 y3
  clear_value y0 y1 y2 y3
  extract_lets +onlyGivenNames y4
  refine moves_cut (y := y4) ?_ fun h5 => ?_
  · unfold y4
    exact (moves_updAper).then (by decide) <| Moves.refl _ _
  clear_value y4
  extract_lets +onlyGivenNames y6
  clear_value y6
  extract_lets +onlyGivenNames y7
  refine moves_cut (y := y7) ?_ fun h8 => ?_
  · unfold y7
    exact (moves_updLoop).then (by decide) <| h5
  clear_value y7
  exact (moves_portSluiced).then (by decide) <| h8

end Sys2Proof.Machine
end

