-- ==== Sys2Proof/Laws/MovesReactions.lean ====
section
/-! SUPPORT. What each operation of Machine/Reactions.lean can do (`moves_f`). -/

namespace Sys2Proof.Machine

theorem moves_leaveTest {e} : Moves 28 e (leaveTest e) := by
  unfold leaveTest
  exact (moves_wrF).then (by decide) <| (moves_wrF).then (by decide) <| (moves_wrF).then (by decide) <| Moves.refl _ _

theorem moves_toMode {x0 e} : Moves 335809596 e (toMode x0 e) := by
  unfold toMode
  extract_lets +onlyGivenNames y0
  clear_value y0
  extract_lets +onlyGivenNames y1
  refine moves_cut (y := y1) ?_ fun h2 => ?_
  · unfold y1
    refine moves_ite ?_ ?_
    · exact (moves_leaveTest).then (by decide) <| Moves.refl _ _
    exact Moves.refl _ _
  clear_value y1
  extract_lets +onlyGivenNames y3
  extract_lets +onlyGivenNames y4
  refine moves_cut (y := y4) ?_ fun h5 => ?_
  · unfold y4
    exact moves_sys (by decide) rfl <| h2
  clear_value y4
  exact (moves_updStation).then (by decide) <| (moves_note).then (by decide) <| (moves_inc).then (by decide) <| h5

theorem moves_loseSetMode {e} : Moves 471272508 e (loseSetMode e) := by
  unfold loseSetMode
  split
  · rename_i z0 z1
    exact Moves.refl _ _
  · rename_i z2 z3 z4
    extract_lets +onlyGivenNames y5
    extract_lets +onlyGivenNames y6
    refine moves_cut (y := y6) ?_ fun h7 => ?_
    · unfold y6
      exact moves_sys (by decide) rfl <| Moves.refl _ _
    clear_value y6
    extract_lets +onlyGivenNames y8
    refine moves_cut (y := y8) ?_ fun h9 => ?_
    · unfold y8
      refine moves_ite ?_ ?_
      · exact (moves_brakeOff).then (by decide) <| h7
      exact h7
    clear_value y8
    refine moves_ite ?_ ?_
    · exact h9
    exact (moves_complete).then (by decide) <| h9

theorem moves_endWork {e} : Moves 515834940 e (endWork e) := by
  unfold endWork
  exact (moves_endCalSensor).then (by decide) <| (moves_endSurvey).then (by decide) <| (moves_stopPlayer).then (by decide) <| Moves.refl _ _

theorem moves_enterHold {e} : Moves 520035388 e (enterHold e) := by
  unfold enterHold
  extract_lets +onlyGivenNames y0
  refine moves_cut (y := y0) ?_ fun h1 => ?_
  · unfold y0
    exact (moves_failAll).then (by decide) <| Moves.refl _ _
  clear_value y0
  extract_lets +onlyGivenNames y2
  refine moves_cut (y := y2) ?_ fun h3 => ?_
  · unfold y2
    refine moves_each _ _ _ (fun x4 e5 => ?_) ?_
    · exact (moves_loseJob).then (by decide) <| Moves.refl _ _
    exact h1
  clear_value y2
  extract_lets +onlyGivenNames y6
  refine moves_cut (y := y6) ?_ fun h7 => ?_
  · unfold y6
    exact (moves_endWork).then (by decide) <| h3
  clear_value y6
  extract_lets +onlyGivenNames y8
  refine moves_cut (y := y8) ?_ fun h9 => ?_
  · unfold y8
    exact (moves_toMode).then (by decide) <| h7
  clear_value y8
  exact moves_rfs (by decide) <| h9

theorem moves_resumeHold {e} : Moves 419890236 e (resumeHold e) := by
  unfold resumeHold
  extract_lets +onlyGivenNames y0
  refine moves_cut (y := y0) ?_ fun h1 => ?_
  · unfold y0
    exact (moves_allLoops).then (by decide) <| Moves.refl _ _
  clear_value y0
  refine moves_each _ _ _ (fun x2 e3 => ?_) ?_
  · exact (moves_flushHeld).then (by decide) <| Moves.refl _ _
  exact h1

theorem moves_exitHold {x0 x1 e} : Moves 491195452 e (exitHold x0 x1 e) := by
  unfold exitHold
  extract_lets +onlyGivenNames y0
  refine moves_cut (y := y0) ?_ fun h1 => ?_
  · unfold y0
    exact (moves_wrF).then (by decide) <| (moves_wrF).then (by decide) <| (moves_wrF).then (by decide) <| Moves.refl _ _
  clear_value y0
  extract_lets +onlyGivenNames y2
  clear_value y2
  extract_lets +onlyGivenNames y3
  refine moves_cut (y := y3) ?_ fun h4 => ?_
  · unfold y3
    exact moves_rfs (by decide) <| h1
  clear_value y3
  extract_lets +onlyGivenNames y5
  refine moves_cut (y := y5) ?_ fun h6 => ?_
  · unfold y5
    exact (moves_note).then (by decide) <| (moves_toMode).then (by decide) <| h4
  clear_value y5
  refine moves_ite ?_ ?_
  · exact h6
  exact (moves_resumeHold).then (by decide) <| h6

theorem moves_brakeEpoch {x0 e} : Moves 269227068 e (brakeEpoch x0 e) := by
  unfold brakeEpoch
  extract_lets +onlyGivenNames y0
  clear_value y0
  extract_lets +onlyGivenNames y1
  refine moves_cut (y := y1) ?_ fun h2 => ?_
  · unfold y1
    refine moves_each _ _ _ (fun x3 e4 => ?_) ?_
    · exact (moves_setPair).then (by decide) <| Moves.refl _ _
    exact Moves.refl _ _
  clear_value y1
  refine (moves_advanceEpoch).then (by decide) <| moves_each _ _ _ (fun x5 e6 => ?_) ?_
  · exact (moves_setPair).then (by decide) <| Moves.refl _ _
  exact h2

theorem moves_zeroArray {x0 e} : Moves 1572864 e (zeroArray x0 e) := by
  unfold zeroArray
  extract_lets +onlyGivenNames y0
  clear_value y0
  extract_lets +onlyGivenNames y1
  refine moves_cut (y := y1) ?_ fun h2 => ?_
  · unfold y1
    refine moves_each _ _ _ (fun x3 e4 => ?_) ?_
    · exact (moves_updTile).then (by decide) <| Moves.refl _ _
    exact Moves.refl _ _
  clear_value y1
  extract_lets +onlyGivenNames y5
  clear_value y5
  extract_lets +onlyGivenNames y6
  refine moves_cut (y := y6) ?_ fun h7 => ?_
  · unfold y6
    exact (moves_allApers).then (by decide) <| h2
  clear_value y6
  extract_lets +onlyGivenNames y8
  refine moves_cut (y := y8) ?_ fun h9 => ?_
  · unfold y8
    refine moves_each _ _ _ (fun x10 e11 => ?_) ?_
    · exact (moves_portSluiced).then (by decide) <| Moves.refl _ _
    exact h7
  clear_value y8
  extract_lets +onlyGivenNames y12
  clear_value y12
  exact moves_bkp (by decide) <| h9

theorem moves_cancelSpan {e} : Moves 488578108 e (cancelSpan e) := by
  unfold cancelSpan
  split
  · rename_i z0 z1
    exact Moves.refl _ _
  · rename_i z2 z3 z4
    refine moves_ite ?_ ?_
    · exact Moves.refl _ _
    extract_lets +onlyGivenNames y5
    refine moves_cut (y := y5) ?_ fun h6 => ?_
    · unfold y5
      refine moves_each _ _ _ (fun x7 e8 => ?_) ?_
      · exact (moves_dropJob).then (by decide) <| Moves.refl _ _
      exact Moves.refl _ _
    clear_value y5
    extract_lets +onlyGivenNames y9
    refine moves_cut (y := y9) ?_ fun h10 => ?_
    · unfold y9
      refine moves_each _ _ _ (fun x11 e12 => ?_) ?_
      · exact (moves_failTxn).then (by decide) <| Moves.refl _ _
      exact h6
    clear_value y9
    extract_lets +onlyGivenNames y13
    refine moves_cut (y := y13) ?_ fun h14 => ?_
    · unfold y13
      exact (moves_loopsOff).then (by decide) <| (moves_zeroShadows).then (by decide) <| h10
    clear_value y13
    refine moves_ite ?_ ?_
    · exact moves_bkp (by decide) <| h14
    refine moves_ite ?_ ?_
    · exact (moves_brakeOff).then (by decide) <| (moves_brakeEpoch).then (by decide) <| moves_bkp (by decide) <| h14
    exact moves_bkp (by decide) <| h14

theorem moves_trigger {x0 e} : Moves 532618300 e (trigger x0 e) := by
  unfold trigger
  refine moves_ite ?_ ?_
  · exact Moves.refl _ _
  extract_lets +onlyGivenNames y0
  refine moves_cut (y := y0) ?_ fun h1 => ?_
  · unfold y0
    refine moves_ite ?_ ?_
    · exact Moves.refl _ _
    exact (moves_cancelSpan).then (by decide) <| Moves.refl _ _
  clear_value y0
  extract_lets +onlyGivenNames y2
  refine moves_cut (y := y2) ?_ fun h3 => ?_
  · unfold y2
    exact (moves_brakeOn).then (by decide) <| h1
  clear_value y2
  extract_lets +onlyGivenNames y4
  clear_value y4
  refine moves_ite ?_ ?_
  · exact h3
  refine moves_ite ?_ ?_
  · exact (moves_mark).then (by decide) <| h3
  exact (moves_note).then (by decide) <| h3

theorem moves_leaveEnd {e} : Moves 470223932 e (leaveEnd e) := by
  unfold leaveEnd
  split
  · rename_i z0 z1
    exact Moves.refl _ _
  · rename_i z2 z3 z4 z5
    extract_lets +onlyGivenNames y6
    clear_value y6
    exact (moves_complete).then (by decide) <| moves_sys (by decide) rfl <| Moves.refl _ _

theorem moves_enterSafe {e} : Moves 536812604 e (enterSafe e) := by
  unfold enterSafe
  refine moves_ite ?_ ?_
  · exact Moves.refl _ _
  refine moves_ite ?_ ?_
  · exact moves_sys (by decide) rfl <| Moves.refl _ _
  refine moves_ite ?_ ?_
  · exact Moves.refl _ _
  refine moves_ite ?_ ?_
  · exact (moves_trigger).then (by decide) <| moves_sys (by decide) rfl <| Moves.refl _ _
  extract_lets +onlyGivenNames y0
  refine moves_cut (y := y0) ?_ fun h1 => ?_
  · unfold y0
    exact (moves_endWork).then (by decide) <| (moves_trigger).then (by decide) <| (moves_leaveEnd).then (by decide) <| Moves.refl _ _
  clear_value y0
  extract_lets +onlyGivenNames y2
  refine moves_cut (y := y2) ?_ fun h3 => ?_
  · unfold y2
    refine moves_ite ?_ ?_
    · exact (moves_exitHold).then (by decide) <| h1
    exact (moves_toMode).then (by decide) <| h1
  clear_value y2
  exact (moves_loseSetMode).then (by decide) <| h3

theorem moves_enterLockout {e} : Moves 536812604 e (enterLockout e) := by
  unfold enterLockout
  refine moves_ite ?_ ?_
  · exact Moves.refl _ _
  extract_lets +onlyGivenNames y0
  refine moves_cut (y := y0) ?_ fun h1 => ?_
  · unfold y0
    exact (moves_trigger).then (by decide) <| Moves.refl _ _
  clear_value y0
  extract_lets +onlyGivenNames y2
  refine moves_cut (y := y2) ?_ fun h3 => ?_
  · unfold y2
    refine moves_ite ?_ ?_
    · exact (moves_exitHold).then (by decide) <| h1
    exact (moves_toMode).then (by decide) <| h1
  clear_value y2
  extract_lets +onlyGivenNames y4
  refine moves_cut (y := y4) ?_ fun h5 => ?_
  · unfold y4
    exact (moves_loseSetMode).then (by decide) <| (moves_endWork).then (by decide) <| h3
  clear_value y4
  exact (moves_loopsOff).then (by decide) <| moves_thm (by decide) <| h5

theorem moves_react {x0 e} : Moves 536812604 e (react x0 e) := by
  unfold react
  refine moves_ite ?_ ?_
  · exact (moves_enterLockout).then (by decide) <| Moves.refl _ _
  refine moves_ite ?_ ?_
  · exact (moves_enterSafe).then (by decide) <| Moves.refl _ _
  exact Moves.refl _ _

theorem moves_raiseD {x0 x1 x2 e} : Moves 536812604 e (raiseD x0 x1 x2 e) := by
  unfold raiseD
  exact (moves_react).then (by decide) <| (moves_noteD).then (by decide) <| Moves.refl _ _

theorem moves_raise {x0 e} : Moves 536812604 e (raise x0 e) := by
  unfold raise
  exact (moves_raiseD).then (by decide) <| Moves.refl _ _

theorem moves_pinBrake {e} : Moves 536812604 e (pinBrake e) := by
  unfold pinBrake
  refine moves_ite ?_ ?_
  · exact Moves.refl _ _
  exact (moves_raise).then (by decide) <| (moves_trigger).then (by decide) <| Moves.refl _ _

theorem moves_wantPark {x0 e} : Moves 1024 e (wantPark x0 e) := by
  unfold wantPark
  refine moves_ite ?_ ?_
  · exact moves_flt (by decide) id <| Moves.refl _ _
  exact Moves.refl _ _

theorem moves_freezeTile {x0 e} : Moves 488578108 e (freezeTile x0 e) := by
  unfold freezeTile
  refine moves_ite ?_ ?_
  · exact Moves.refl _ _
  extract_lets +onlyGivenNames y0
  refine moves_cut (y := y0) ?_ fun h1 => ?_
  · unfold y0
    exact (moves_updTile).then (by decide) <| (moves_inc).then (by decide) <| Moves.refl _ _
  clear_value y0
  extract_lets +onlyGivenNames y2
  refine moves_cut (y := y2) ?_ fun h3 => ?_
  · unfold y2
    refine moves_each _ _ _ (fun x4 e5 => ?_) ?_
    · exact (moves_dropPass).then (by decide) <| (moves_disarm).then (by decide) <| Moves.refl _ _
    exact h1
  clear_value y2
  extract_lets +onlyGivenNames y6
  refine moves_cut (y := y6) ?_ fun h7 => ?_
  · unfold y6
    refine moves_each _ _ _ (fun x8 e9 => ?_) ?_
    · exact (moves_updLoop).then (by decide) <| Moves.refl _ _
    exact h3
  clear_value y6
  exact (moves_failAll).then (by decide) <| h7

theorem moves_freezeEvent {x0 e} : Moves 488578108 e (freezeEvent x0 e) := by
  unfold freezeEvent
  exact (moves_freezeTile).then (by decide) <| (moves_mark).then (by decide) <| (moves_noteTile).then (by decide) <| Moves.refl _ _

theorem moves_resetSpan {e} : Moves 28 e (resetSpan e) := by
  unfold resetSpan
  exact (moves_wrF).then (by decide) <| (moves_wrF).then (by decide) <| Moves.refl _ _

theorem moves_resetEngine {x0 x1 e} : Moves 134176252 e (resetEngine x0 x1 e) := by
  unfold resetEngine
  extract_lets +onlyGivenNames y0 y1 y2 y3
  clear_value y0 y1 y2 y3
  extract_lets +onlyGivenNames y4
  refine moves_cut (y := y4) ?_ fun h5 => ?_
  · unfold y4
    exact Moves.put (m := 134176252) (e := e) (by decide) (by intro p hp; cases p <;> first | rfl | exact absurd hp (by decide)) ⟨rfl, fun _ => Nat.le_refl _, id, (Tbl.wf_filter _ _ _), id, (fun _ => Nat.zero_le _)⟩ <| Moves.refl _ _
  clear_value y4
  exact (moves_resetSpan).then (by decide) <| h5

theorem moves_darkArray {e} : Moves 1048576 e (darkArray e) := by
  unfold darkArray
  extract_lets +onlyGivenNames y0
  clear_value y0
  exact moves_bkp (by decide) <| Moves.refl _ _

theorem moves_porEngine {x0 x1 e} : Moves 134217725 e (porEngine x0 x1 e) := by
  unfold porEngine
  extract_lets +onlyGivenNames y0
  clear_value y0
  exact (moves_resetSpan).then (by decide) <| Moves.put (m := 134217725) (e := e) (by decide) (by intro p hp; cases p <;> first | rfl | exact absurd hp (by decide)) ⟨rfl, fun _ => Nat.le_refl _, id, (Tbl.wf_filter _ _ _), (fun _ => Nat.zero_le _), (fun _ => Nat.zero_le _)⟩ <| Moves.refl _ _

end Sys2Proof.Machine
end

