-- ==== Sys2Proof/Laws/MovesModes.lean ====
section
/-! SUPPORT. What each operation of Machine/Modes.lean can do (`moves_f`). -/

namespace Sys2Proof.Machine

theorem moves_entryNow {e} : Moves 269222972 e (entryNow e) := by
  unfold entryNow
  extract_lets +onlyGivenNames y0
  clear_value y0
  extract_lets +onlyGivenNames y1
  refine moves_cut (y := y1.1) ?_ fun h2 => ?_
  · unfold y1
    exact (moves_ownRecs).then (by decide) <| Moves.refl _ _
  clear_value y1
  exact (moves_addNow).then (by decide) <| h2

theorem moves_setModeDone {x0 e} : Moves 470223932 e (setModeDone x0 e) := by
  unfold setModeDone
  exact (moves_complete).then (by decide) <| moves_sys (by decide) rfl <| Moves.refl _ _

theorem moves_waitMode {x0 x1 e} : Moves 2048 e (waitMode x0 x1 e) := by
  unfold waitMode
  exact moves_sys (by decide) rfl <| Moves.refl _ _

theorem moves_sleepDone {e} : Moves 335834172 e (sleepDone e) := by
  unfold sleepDone
  split
  · rename_i z0 z1
    exact Moves.refl _ _
  · rename_i z2 z3 z4
    refine moves_ite ?_ ?_
    · extract_lets +onlyGivenNames y5
      extract_lets +onlyGivenNames y6
      refine moves_cut (y := y6) ?_ fun h7 => ?_
      · unfold y6
        exact (moves_toMode).then (by decide) <| moves_sys (by decide) rfl <| Moves.refl _ _
      clear_value y6
      exact Moves.put (m := 24576) (e := y6) (by decide) (by intro p hp; cases p <;> first | rfl | exact absurd hp (by decide)) ⟨rfl, fun _ => Nat.le_refl _, id, id, id, (fun _ => Nat.zero_le _)⟩ <| h7
    exact Moves.refl _ _

theorem moves_enterSleep {x0 e} : Moves 470248508 e (enterSleep x0 e) := by
  unfold enterSleep
  extract_lets +onlyGivenNames y0
  refine moves_cut (y := y0) ?_ fun h1 => ?_
  · unfold y0
    exact (moves_complete).then (by decide) <| (moves_waitMode).then (by decide) <| Moves.refl _ _
  clear_value y0
  refine (moves_sleepDone).then (by decide) <| moves_each _ _ _ (fun x2 e3 => ?_) ?_
  · exact (moves_complete).then (by decide) <| Moves.refl _ _
  exact h1

theorem moves_goSleep {x0 e} : Moves 532642876 e (goSleep x0 e) := by
  unfold goSleep
  extract_lets +onlyGivenNames y0
  refine moves_cut (y := y0) ?_ fun h1 => ?_
  · unfold y0
    exact (moves_trigger).then (by decide) <| (moves_waitMode).then (by decide) <| (moves_endWork).then (by decide) <| Moves.refl _ _
  clear_value y0
  refine moves_ite ?_ ?_
  · exact h1
  exact (moves_enterSleep).then (by decide) <| h1

theorem moves_goMode {x0 e} : Moves 536837180 e (goMode x0 e) := by
  unfold goMode
  refine moves_ite ?_ ?_
  · exact (moves_waitMode).then (by decide) <| Moves.refl _ _
  refine moves_ite ?_ ?_
  · exact (moves_waitMode).then (by decide) <| (moves_entryNow).then (by decide) <| Moves.refl _ _
  refine moves_ite ?_ ?_
  · exact (moves_goSleep).then (by decide) <| Moves.refl _ _
  extract_lets +onlyGivenNames y0
  extract_lets +onlyGivenNames y1
  refine moves_cut (y := y1) ?_ fun h2 => ?_
  · unfold y1
    exact (moves_failAll).then (by decide) <| moves_sys (by decide) rfl <| Moves.refl _ _
  clear_value y1
  refine moves_ite ?_ ?_
  · exact (moves_complete).then (by decide) <| h2
  refine moves_ite ?_ ?_
  · exact (moves_enterHold).then (by decide) <| (moves_complete).then (by decide) <| h2
  extract_lets +onlyGivenNames y3
  refine moves_cut (y := y3) ?_ fun h4 => ?_
  · unfold y3
    exact (moves_endWork).then (by decide) <| h2
  clear_value y3
  extract_lets +onlyGivenNames y5
  clear_value y5
  extract_lets +onlyGivenNames y6
  refine moves_cut (y := y6) ?_ fun h7 => ?_
  · unfold y6
    exact (moves_setModeDone).then (by decide) <| (moves_toMode).then (by decide) <| h4
  clear_value y6
  refine moves_ite ?_ ?_
  · refine moves_getD ?_ ?_
    · exact (moves_parkNow).then (by decide) <| h7
    exact h7
  exact h7

theorem moves_setModeBody {x0 x1 e} : Moves 536837180 e (setModeBody x0 x1 e) := by
  unfold setModeBody
  split
  · rename_i z0 z1
    exact (moves_complete).then (by decide) <| Moves.refl _ _
  · rename_i z2 z3 z4
    refine moves_ite ?_ ?_
    · exact (moves_complete).then (by decide) <| Moves.refl _ _
    refine moves_ite ?_ ?_
    · exact (moves_complete).then (by decide) <| Moves.refl _ _
    refine moves_ite ?_ ?_
    · exact (moves_complete).then (by decide) <| Moves.refl _ _
    extract_lets +onlyGivenNames y5
    clear_value y5
    extract_lets +onlyGivenNames y6
    refine moves_cut (y := y6) ?_ fun h7 => ?_
    · unfold y6
      refine moves_ite ?_ ?_
      · exact (moves_exitHold).then (by decide) <| Moves.refl _ _
      exact Moves.refl _ _
    clear_value y6
    refine moves_ite ?_ ?_
    · exact (moves_complete).then (by decide) <| h7
    refine moves_ite ?_ ?_
    · exact (moves_complete).then (by decide) <| h7
    refine moves_ite ?_ ?_
    · exact (moves_complete).then (by decide) <| h7
    exact (moves_goMode).then (by decide) <| h7

theorem moves_resumeSetMode {e} : Moves 536837180 e (resumeSetMode e) := by
  unfold resumeSetMode
  split
  · rename_i z0 z1 z2
    refine moves_ite ?_ ?_
    · exact (moves_goMode).then (by decide) <| moves_sys (by decide) rfl <| Moves.refl _ _
    exact Moves.refl _ _
  · rename_i z3 z4
    exact Moves.refl _ _

theorem moves_goSetMode {x0 x1 e} : Moves 536837180 e (goSetMode x0 x1 e) := by
  unfold goSetMode
  refine (moves_runCmd (by decide) (fun e0 => ?_)).then (Nat.or_self _) ?_
  · exact (moves_setModeBody).then (by decide) <| Moves.refl _ _
  exact Moves.refl _ _

theorem acts_execSetMode {x0 x1 x2} : Acts 536837180 (execSetMode x0 x1 x2) x2 := by
  unfold execSetMode
  refine Acts.mk fun e => ?_
  refine (moves_arrive (by decide) (fun e0 => ?_)).then (Nat.or_self _) ?_
  · exact (moves_goSetMode).then (by decide) <| Moves.refl _ _
  exact Moves.refl _ _

theorem moves_bootFail {x0 e} : Moves 2048 e (bootFail x0 e) := by
  unfold bootFail
  exact moves_sys (by decide) rfl <| Moves.refl _ _

theorem moves_authenticate {e} : Moves 268700732 e (authenticate e) := by
  unfold authenticate
  extract_lets +onlyGivenNames y0
  clear_value y0
  split
  · rename_i z1 z2 z3 z4
    exact moves_sys (by decide) rfl <| Moves.refl _ _
  · rename_i z5 z6 z7 z8 z9
    exact (moves_note).then (by decide) <| moves_sys (by decide) rfl <| Moves.refl _ _
  · rename_i z10 z11 z12 z13
    exact (moves_bootFail).then (by decide) <| Moves.refl _ _

theorem moves_beginBoot {e} : Moves 536820796 e (beginBoot e) := by
  unfold beginBoot
  extract_lets +onlyGivenNames y0
  extract_lets +onlyGivenNames y1
  clear_value y1
  extract_lets +onlyGivenNames y2
  refine moves_cut (y := y2) ?_ fun h3 => ?_
  · unfold y2
    exact moves_eng_clk (m := 10240) rfl (by decide) (by intro p hp; cases p <;> first | rfl | exact absurd hp (by decide)) rfl rfl rfl rfl rfl rfl <| Moves.refl _ _
  clear_value y2
  refine moves_ite ?_ ?_
  · exact (moves_pinBrake).then (by decide) <| h3
  exact h3

theorem moves_bootGate {e} : Moves 10240 e (bootGate e) := by
  unfold bootGate
  refine moves_ite ?_ ?_
  · exact Moves.refl _ _
  extract_lets +onlyGivenNames y0
  clear_value y0
  exact moves_eng_clk (m := 10240) rfl (by decide) (by intro p hp; cases p <;> first | rfl | exact absurd hp (by decide)) rfl rfl rfl rfl rfl rfl <| Moves.refl _ _

theorem moves_tilesInit {e} : Moves 9437184 e (tilesInit e) := by
  unfold tilesInit
  refine moves_ite ?_ ?_
  · exact Moves.refl _ _
  extract_lets +onlyGivenNames y0
  refine moves_cut (y := y0) ?_ fun h1 => ?_
  · unfold y0
    exact (moves_darkArray).then (by decide) <| Moves.refl _ _
  clear_value y0
  extract_lets +onlyGivenNames y2
  clear_value y2
  exact moves_eng_clk (m := 9437184) rfl (by decide) (by intro p hp; cases p <;> first | rfl | exact absurd hp (by decide)) rfl rfl rfl rfl rfl rfl <| h1

theorem moves_bootStages {e} : Moves 278137916 e (bootStages e) := by
  unfold bootStages
  extract_lets +onlyGivenNames y0 y1 y2
  clear_value y0 y1 y2
  extract_lets +onlyGivenNames y3
  extract_lets +onlyGivenNames y4
  refine moves_cut (y := y4) ?_ fun h5 => ?_
  · unfold y4
    refine moves_whenE _ _ (fun e6 => ?_) ?_
    · exact (moves_authenticate).then (by decide) <| Moves.refl _ _
    exact moves_sys (by decide) rfl <| Moves.refl _ _
  clear_value y4
  refine moves_ite ?_ ?_
  · exact h5
  extract_lets +onlyGivenNames y7
  refine moves_cut (y := y7) ?_ fun h8 => ?_
  · unfold y7
    refine moves_whenE _ _ (fun e9 => ?_) ?_
    · exact (moves_wrF).then (by decide) <| Moves.refl _ _
    refine moves_whenE _ _ (fun e10 => ?_) ?_
    · exact (moves_tilesInit).then (by decide) <| Moves.refl _ _
    exact h5
  clear_value y7
  refine moves_ite ?_ ?_
  · exact (moves_bootFail).then (by decide) <| h8
  exact h8

theorem moves_bootTick {e} : Moves 278146108 e (bootTick e) := by
  unfold bootTick
  refine moves_ite ?_ ?_
  · exact Moves.refl _ _
  extract_lets +onlyGivenNames y0
  refine moves_cut (y := y0) ?_ fun h1 => ?_
  · unfold y0
    exact (moves_bootGate).then (by decide) <| Moves.refl _ _
  clear_value y0
  refine moves_ite ?_ ?_
  · exact (moves_bootStages).then (by decide) <| h1
  exact h1

theorem moves_bootTo {x0 e} : Moves 278162493 e (bootTo x0 e) := by
  unfold bootTo
  exact (moves_bootTick).then (by decide) <| (moves_waitClk).then (by decide) <| Moves.refl _ _

theorem moves_wakeNow {e} : Moves 536837628 e (wakeNow e) := by
  unfold wakeNow
  refine moves_ite ?_ ?_
  · exact (moves_beginBoot).then (by decide) <| (moves_resetEngine).then (by decide) <| (moves_darkArray).then (by decide) <| Moves.refl _ _
  exact Moves.refl _ _

theorem moves_enterCooldown {e} : Moves 536837181 e (enterCooldown e) := by
  unfold enterCooldown
  extract_lets +onlyGivenNames y0
  refine moves_cut (y := y0) ?_ fun h1 => ?_
  · unfold y0
    exact (moves_waitClk).then (by decide) <| Moves.refl _ _
  extract_lets +onlyGivenNames y2
  clear_value y2
  extract_lets +onlyGivenNames y3
  refine moves_cut (y := y3) ?_ fun h4 => ?_
  · unfold y3
    exact moves_thm (by decide) <| h1
  refine moves_ite ?_ ?_
  · exact moves_pwr (by decide) <| h4
  extract_lets +onlyGivenNames y5
  refine moves_cut (y := y5) ?_ fun h6 => ?_
  · unfold y5
    exact (moves_endWork).then (by decide) <| h4
  clear_value y5
  extract_lets +onlyGivenNames y7
  refine moves_cut (y := y7) ?_ fun h8 => ?_
  · unfold y7
    refine moves_ite ?_ ?_
    · exact (moves_exitHold).then (by decide) <| h6
    exact (moves_toMode).then (by decide) <| h6
  clear_value y7
  extract_lets +onlyGivenNames y9
  refine moves_cut (y := y9) ?_ fun h10 => ?_
  · unfold y9
    exact (moves_loseSetMode).then (by decide) <| h8
  clear_value y9
  exact Moves.put (m := 30720) (e := y9) (by decide) (by intro p hp; cases p <;> first | rfl | exact absurd hp (by decide)) ⟨rfl, fun _ => Nat.le_refl _, id, id, id, (fun _ => Nat.zero_le _)⟩ <| h10

theorem moves_loadNv {x0 e} : Moves 268698684 e (loadNv x0 e) := by
  unfold loadNv
  extract_lets +onlyGivenNames y0
  clear_value y0
  extract_lets +onlyGivenNames y1
  refine moves_cut (y := y1) ?_ fun h2 => ?_
  · unfold y1
    exact moves_regs (by decide) (Tbl.wf_filter _ _ _) <| Moves.refl _ _
  clear_value y1
  extract_lets +onlyGivenNames y3
  refine moves_cut (y := y3) ?_ fun h4 => ?_
  · unfold y3
    refine moves_each _ _ _ (fun x5 e6 => ?_) ?_
    · exact (moves_wr).then (by decide) <| Moves.refl _ _
    exact h2
  clear_value y3
  refine moves_ite ?_ ?_
  · exact h4
  exact (moves_note).then (by decide) <| h4

theorem moves_powerOnNow {x0 x1 x2 e} : Moves 536870909 e (powerOnNow x0 x1 x2 e) := by
  unfold powerOnNow
  refine moves_ite ?_ ?_
  · exact Moves.refl _ _
  exact (moves_beginBoot).then (by decide) <| (moves_loadNv).then (by decide) <| (moves_porEngine).then (by decide) <| Moves.refl _ _

theorem acts_execPowerOn {x0 x1 x2 x3} : Acts 536870909 (execPowerOn x0 x1 x2 x3) x3 := by
  unfold execPowerOn
  refine Acts.mk fun e => ?_
  exact (moves_powerOnNow).then (by decide) <| Moves.refl _ _

theorem moves_bootTimeoutNow {x0 x1 e} : Moves 278162493 e (bootTimeoutNow x0 x1 e) := by
  unfold bootTimeoutNow
  refine moves_ite ?_ ?_
  · exact Moves.refl _ _
  extract_lets +onlyGivenNames y0
  refine moves_cut (y := y0) ?_ fun h1 => ?_
  · unfold y0
    exact (moves_bootTo).then (by decide) <| (moves_bootTo).then (by decide) <| Moves.refl _ _
  clear_value y0
  refine moves_ite ?_ ?_
  · exact h1
  refine (moves_bootFail).then (by decide) <| ?_
  refine moves_ite ?_ ?_
  · exact (moves_waitClk).then (by decide) <| h1
  exact h1

theorem acts_execBootStageTimeout {x0 x1 x2} : Acts 278162493 (execBootStageTimeout x0 x1 x2) x2 := by
  unfold execBootStageTimeout
  refine Acts.mk fun e => ?_
  exact (moves_bootTimeoutNow).then (by decide) <| Moves.refl _ _

theorem moves_gateEnd {e} : Moves 10240 e (gateEnd e) := by
  unfold gateEnd
  exact moves_eng_clk (m := 10240) rfl (by decide) (by intro p hp; cases p <;> first | rfl | exact absurd hp (by decide)) rfl rfl rfl rfl rfl rfl <| Moves.refl _ _

theorem moves_gateReleaseNow {e} : Moves 26625 e (gateReleaseNow e) := by
  unfold gateReleaseNow
  refine moves_ite ?_ ?_
  · split
    · rename_i z0 z1
      exact Moves.refl _ _
    · rename_i z2 z3 z4
      exact (moves_gateEnd).then (by decide) <| (moves_waitClk).then (by decide) <| Moves.refl _ _
  exact Moves.refl _ _

theorem acts_execThermalGateRelease {x0} : Acts 26625 (execThermalGateRelease x0) x0 := by
  unfold execThermalGateRelease
  refine Acts.mk fun e => ?_
  exact (moves_gateReleaseNow).then (by decide) <| Moves.refl _ _

theorem moves_bootBuild {e} : Moves 280233020 e (bootBuild e) := by
  unfold bootBuild
  extract_lets +onlyGivenNames y0
  refine moves_cut (y := y0) ?_ fun h1 => ?_
  · unfold y0
    exact (moves_tilesInit).then (by decide) <| Moves.refl _ _
  clear_value y0
  extract_lets +onlyGivenNames y2
  clear_value y2
  extract_lets +onlyGivenNames y3
  refine moves_cut (y := y3) ?_ fun h4 => ?_
  · unfold y3
    refine moves_each _ _ _ (fun x5 e6 => ?_) ?_
    · exact (moves_aimCrc).then (by decide) <| Moves.refl _ _
    exact moves_syn (by decide) <| h1
  clear_value y3
  exact (moves_wrF).then (by decide) <| h4

theorem moves_bootDone {x0 e} : Moves 532618300 e (bootDone x0 e) := by
  unfold bootDone
  extract_lets +onlyGivenNames y0
  refine moves_cut (y := y0) ?_ fun h1 => ?_
  · unfold y0
    exact (moves_bootBuild).then (by decide) <| Moves.refl _ _
  clear_value y0
  extract_lets +onlyGivenNames y2
  clear_value y2
  extract_lets +onlyGivenNames y3
  extract_lets +onlyGivenNames y4
  refine moves_cut (y := y4) ?_ fun h5 => ?_
  · unfold y4
    exact moves_sys (by decide) rfl <| h1
  clear_value y4
  extract_lets +onlyGivenNames y6
  refine moves_cut (y := y6) ?_ fun h7 => ?_
  · unfold y6
    refine moves_ite ?_ ?_
    · exact (moves_note).then (by decide) <| h5
    exact h5
  clear_value y6
  extract_lets +onlyGivenNames y8
  refine moves_cut (y := y8) ?_ fun h9 => ?_
  · unfold y8
    exact (moves_brakeOff).then (by decide) <| (moves_note).then (by decide) <| h7
  clear_value y8
  refine moves_ite ?_ ?_
  · exact (moves_toMode).then (by decide) <| (moves_trigger).then (by decide) <| moves_sys (by decide) rfl <| h9
  refine moves_ite ?_ ?_
  · exact (moves_openRestore).then (by decide) <| (moves_toMode).then (by decide) <| h9
  exact (moves_toMode).then (by decide) <| h9

theorem moves_bootEndNow {x0 e} : Moves 532642877 e (bootEndNow x0 e) := by
  unfold bootEndNow
  refine moves_ite ?_ ?_
  · exact Moves.refl _ _
  extract_lets +onlyGivenNames y0
  refine moves_cut (y := y0) ?_ fun h1 => ?_
  · unfold y0
    exact (moves_bootTo).then (by decide) <| Moves.refl _ _
  clear_value y0
  refine moves_ite ?_ ?_
  · exact h1
  extract_lets +onlyGivenNames y2
  refine moves_cut (y := y2) ?_ fun h3 => ?_
  · unfold y2
    exact (moves_bootTo).then (by decide) <| h1
  clear_value y2
  refine moves_ite ?_ ?_
  · exact (moves_bootDone).then (by decide) <| h3
  exact h3

theorem acts_execBootEnd {x0 x1} : Acts 532642877 (execBootEnd x0 x1) x1 := by
  unfold execBootEnd
  refine Acts.mk fun e => ?_
  exact (moves_bootEndNow).then (by decide) <| Moves.refl _ _

theorem moves_rstNow {x0 e} : Moves 536870396 e (rstNow x0 e) := by
  unfold rstNow
  refine moves_ite ?_ ?_
  · exact Moves.refl _ _
  extract_lets +onlyGivenNames y0
  clear_value y0
  extract_lets +onlyGivenNames y1
  refine moves_cut (y := y1) ?_ fun h2 => ?_
  · unfold y1
    exact (moves_trigger).then (by decide) <| Moves.refl _ _
  clear_value y1
  extract_lets +onlyGivenNames y3
  refine moves_cut (y := y3) ?_ fun h4 => ?_
  · unfold y3
    refine (moves_resetEngine).then (by decide) <| ?_
    refine moves_ite ?_ ?_
    · exact (moves_darkArray).then (by decide) <| h2
    exact h2
  clear_value y3
  exact (moves_beginBoot).then (by decide) <| moves_pins (by decide) <| h4

theorem acts_execRstN {x0 x1} : Acts 536870396 (execRstN x0 x1) x1 := by
  unfold execRstN
  refine Acts.mk fun e => ?_
  exact (moves_rstNow).then (by decide) <| Moves.refl _ _

theorem moves_rstReleaseNow {e} : Moves 51201 e (rstReleaseNow e) := by
  unfold rstReleaseNow
  refine moves_ite ?_ ?_
  · extract_lets +onlyGivenNames y0
    refine moves_cut (y := y0) ?_ fun h1 => ?_
    · unfold y0
      exact (moves_waitClk).then (by decide) <| Moves.refl _ _
    clear_value y0
    exact moves_eng_clk (m := 34816) rfl (by decide) (by intro p hp; cases p <;> first | rfl | exact absurd hp (by decide)) rfl rfl rfl rfl rfl rfl <| h1
  exact Moves.refl _ _

theorem acts_execRstNRelease {x0} : Acts 51201 (execRstNRelease x0) x0 := by
  unfold execRstNRelease
  refine Acts.mk fun e => ?_
  exact (moves_rstReleaseNow).then (by decide) <| Moves.refl _ _

theorem moves_d3hotLeave {e} : Moves 536837628 e (d3hotLeave e) := by
  unfold d3hotLeave
  exact (moves_wakeNow).then (by decide) <| moves_hif (by decide) <| Moves.refl _ _

theorem acts_execD3hotToD0 {x0} : Acts 536837628 (execD3hotToD0 x0) x0 := by
  unfold execD3hotToD0
  refine Acts.mk fun e => ?_
  exact (moves_d3hotLeave).then (by decide) <| Moves.refl _ _

theorem moves_holdExitNow {e} : Moves 491195452 e (holdExitNow e) := by
  unfold holdExitNow
  refine moves_ite ?_ ?_
  · exact (moves_exitHold).then (by decide) <| Moves.refl _ _
  exact Moves.refl _ _

theorem moves_cooldownEndNow {e} : Moves 536837629 e (cooldownEndNow e) := by
  unfold cooldownEndNow
  refine moves_ite ?_ ?_
  · split
    · rename_i z0 z1
      exact Moves.refl _ _
    · rename_i z2 z3 z4
      extract_lets +onlyGivenNames y5
      refine moves_cut (y := y5) ?_ fun h6 => ?_
      · unfold y5
        exact (moves_waitClk).then (by decide) <| Moves.refl _ _
      clear_value y5
      extract_lets +onlyGivenNames y7
      clear_value y7
      extract_lets +onlyGivenNames y8
      refine moves_cut (y := y8) ?_ fun h9 => ?_
      · unfold y8
        exact (moves_wr).then (by decide) <| (moves_inc).then (by decide) <| (moves_note).then (by decide) <| h6
      clear_value y8
      exact (moves_beginBoot).then (by decide) <| (moves_resetEngine).then (by decide) <| (moves_darkArray).then (by decide) <| h9
  exact Moves.refl _ _

theorem acts_execCooldownEnd {x0} : Acts 536837629 (execCooldownEnd x0) x0 := by
  unfold execCooldownEnd
  refine Acts.mk fun e => ?_
  exact (moves_cooldownEndNow).then (by decide) <| Moves.refl _ _

theorem moves_goNop {x0 e} : Moves 470221884 e (goNop x0 e) := by
  unfold goNop
  refine (moves_runCmd (by decide) (fun e0 => ?_)).then (Nat.or_self _) ?_
  · extract_lets +onlyGivenNames y1
    clear_value y1
    exact (moves_complete).then (by decide) <| Moves.refl _ _
  exact Moves.refl _ _

theorem acts_execNop {x0 x1} : Acts 470221884 (execNop x0 x1) x1 := by
  unfold execNop
  refine Acts.mk fun e => ?_
  refine (moves_arriveT (by decide) (fun e0 => ?_)).then (Nat.or_self _) ?_
  · exact (moves_goNop).then (by decide) <| Moves.refl _ _
  exact Moves.refl _ _

theorem moves_goGetInfo {x0 x1 e} : Moves 470221884 e (goGetInfo x0 x1 e) := by
  unfold goGetInfo
  refine (moves_runCmd (by decide) (fun e0 => ?_)).then (Nat.or_self _) ?_
  · refine moves_ite ?_ ?_
    · exact (moves_complete).then (by decide) <| Moves.refl _ _
    exact (moves_complete).then (by decide) <| Moves.refl _ _
  exact Moves.refl _ _

theorem acts_execGetInfo {x0 x1 x2} : Acts 470221884 (execGetInfo x0 x1 x2) x2 := by
  unfold execGetInfo
  refine Acts.mk fun e => ?_
  refine (moves_arriveT (by decide) (fun e0 => ?_)).then (Nat.or_self _) ?_
  · exact (moves_goGetInfo).then (by decide) <| Moves.refl _ _
  exact Moves.refl _ _

theorem moves_testBrake {e} : Moves 532618300 e (testBrake e) := by
  unfold testBrake
  exact (moves_brakeOff).then (by decide) <| (moves_trigger).then (by decide) <| Moves.refl _ _

theorem moves_unstage {e} : Moves 2048 e (unstage e) := by
  unfold unstage
  exact moves_sys (by decide) rfl <| Moves.refl _ _

theorem moves_fwStageBody {x0 x1 e} : Moves 470223932 e (fwStageBody x0 x1 e) := by
  unfold fwStageBody
  refine moves_ite ?_ ?_
  · exact (moves_complete).then (by decide) <| Moves.refl _ _
  refine moves_ite ?_ ?_
  · exact (moves_complete).then (by decide) <| Moves.refl _ _
  refine moves_ite ?_ ?_
  · exact (moves_complete).then (by decide) <| Moves.refl _ _
  extract_lets +onlyGivenNames y0
  refine moves_cut (y := y0) ?_ fun h1 => ?_
  · unfold y0
    exact (moves_unstage).then (by decide) <| Moves.refl _ _
  clear_value y0
  exact (moves_openCmd).then (by decide) <| moves_sys (by decide) rfl <| h1

theorem moves_goFwStage {x0 x1 e} : Moves 470223932 e (goFwStage x0 x1 e) := by
  unfold goFwStage
  refine (moves_runCmd (by decide) (fun e0 => ?_)).then (Nat.or_self _) ?_
  · exact (moves_fwStageBody).then (by decide) <| Moves.refl _ _
  exact Moves.refl _ _

theorem acts_execFwStage {x0 x1 x2} : Acts 470223932 (execFwStage x0 x1 x2) x2 := by
  unfold execFwStage
  refine Acts.mk fun e => ?_
  refine (moves_arrive (by decide) (fun e0 => ?_)).then (Nat.or_self _) ?_
  · exact (moves_goFwStage).then (by decide) <| Moves.refl _ _
  exact Moves.refl _ _

theorem moves_fwStagedNow {x0 e} : Moves 470223934 e (fwStagedNow x0 e) := by
  unfold fwStagedNow
  split
  · rename_i z0 z1
    exact Moves.refl _ _
  · rename_i z2 z3 z4 z5
    extract_lets +onlyGivenNames y6
    extract_lets +onlyGivenNames y7
    refine moves_cut (y := y7) ?_ fun h8 => ?_
    · unfold y7
      exact moves_sys (by decide) rfl <| Moves.refl _ _
    clear_value y7
    split
    · rename_i z9 z10
      extract_lets +onlyGivenNames y11
      clear_value y11
      extract_lets +onlyGivenNames y12
      refine moves_cut (y := y12) ?_ fun h13 => ?_
      · unfold y12
        exact (moves_useFree).then (by decide) <| (moves_useFree).then (by decide) <| h8
      clear_value y12
      extract_lets +onlyGivenNames y14
      extract_lets +onlyGivenNames y15
      refine moves_cut (y := y15) ?_ fun h16 => ?_
      · unfold y15
        exact moves_sys (by decide) rfl <| h13
      clear_value y15
      exact (moves_complete).then (by decide) <| (moves_note).then (by decide) <| h16
    · rename_i z17
      exact (moves_complete).then (by decide) <| (moves_unstage).then (by decide) <| h8
    · rename_i z18
      exact (moves_complete).then (by decide) <| (moves_unstage).then (by decide) <| h8
    · rename_i z19
      exact (moves_complete).then (by decide) <| (moves_unstage).then (by decide) <| h8

theorem acts_execFwStaged {x0 x1} : Acts 470223934 (execFwStaged x0 x1) x1 := by
  unfold execFwStaged
  refine Acts.mk fun e => ?_
  exact (moves_fwStagedNow).then (by decide) <| Moves.refl _ _

theorem moves_markActive {e} : Moves 2048 e (markActive e) := by
  unfold markActive
  exact moves_sys (by decide) rfl <| Moves.refl _ _

theorem moves_fwActivateBody {x0 x1 e} : Moves 520035388 e (fwActivateBody x0 x1 e) := by
  unfold fwActivateBody
  refine moves_ite ?_ ?_
  · exact (moves_complete).then (by decide) <| Moves.refl _ _
  refine moves_ite ?_ ?_
  · exact (moves_complete).then (by decide) <| Moves.refl _ _
  refine moves_ite ?_ ?_
  · exact (moves_complete).then (by decide) <| (moves_note).then (by decide) <| (moves_markActive).then (by decide) <| Moves.refl _ _
  extract_lets +onlyGivenNames y0
  clear_value y0
  extract_lets +onlyGivenNames y1
  extract_lets +onlyGivenNames y2
  refine moves_cut (y := y2) ?_ fun h3 => ?_
  · unfold y2
    exact moves_sys (by decide) rfl <| Moves.refl _ _
  clear_value y2
  extract_lets +onlyGivenNames y4
  refine moves_cut (y := y4) ?_ fun h5 => ?_
  · unfold y4
    exact (moves_wr).then (by decide) <| (moves_wrF).then (by decide) <| (moves_markActive).then (by decide) <| h3
  clear_value y4
  refine moves_ite ?_ ?_
  · exact (moves_enterHold).then (by decide) <| h5
  exact h5

theorem moves_goFwActivate {x0 x1 e} : Moves 520035388 e (goFwActivate x0 x1 e) := by
  unfold goFwActivate
  refine moves_ite ?_ ?_
  · exact (moves_updInfl).then (by decide) <| (moves_takeIn).then (by decide) <| Moves.refl _ _
  refine (moves_runCmd (by decide) (fun e0 => ?_)).then (Nat.or_self _) ?_
  · exact (moves_fwActivateBody).then (by decide) <| (moves_updInfl).then (by decide) <| Moves.refl _ _
  exact Moves.refl _ _

theorem acts_execFwActivate {x0 x1 x2} : Acts 520035388 (execFwActivate x0 x1 x2) x2 := by
  unfold execFwActivate
  refine Acts.mk fun e => ?_
  refine (moves_arrive (by decide) (fun e0 => ?_)).then (Nat.or_self _) ?_
  · exact (moves_goFwActivate).then (by decide) <| Moves.refl _ _
  exact Moves.refl _ _

theorem moves_fwActivatedNow {x0 e} : Moves 491195452 e (fwActivatedNow x0 e) := by
  unfold fwActivatedNow
  split
  · rename_i z0 z1
    exact Moves.refl _ _
  · rename_i z2 z3 z4
    extract_lets +onlyGivenNames y5
    extract_lets +onlyGivenNames y6
    refine moves_cut (y := y6) ?_ fun h7 => ?_
    · unfold y6
      exact (moves_wrF).then (by decide) <| moves_sys (by decide) rfl <| Moves.refl _ _
    clear_value y6
    extract_lets +onlyGivenNames y8
    refine moves_cut (y := y8) ?_ fun h9 => ?_
    · unfold y8
      refine moves_ite ?_ ?_
      · exact (moves_holdExitNow).then (by decide) <| h7
      exact h7
    clear_value y8
    refine moves_ite ?_ ?_
    · extract_lets +onlyGivenNames y10
      clear_value y10
      exact (moves_complete).then (by decide) <| (moves_note).then (by decide) <| moves_sys (by decide) rfl <| h9
    exact (moves_complete).then (by decide) <| (moves_note).then (by decide) <| moves_sys (by decide) rfl <| h9

theorem acts_execFwActivated {x0 x1} : Acts 491195452 (execFwActivated x0 x1) x1 := by
  unfold execFwActivated
  refine Acts.mk fun e => ?_
  exact (moves_fwActivatedNow).then (by decide) <| Moves.refl _ _

theorem moves_dropAlert {e} : Moves 1024 e (dropAlert e) := by
  unfold dropAlert
  refine moves_ite ?_ ?_
  · exact moves_flt (by decide) id <| Moves.refl _ _
  exact Moves.refl _ _

theorem moves_clearAllCauses {e} : Moves 1084 e (clearAllCauses e) := by
  unfold clearAllCauses
  extract_lets +onlyGivenNames y0
  refine moves_cut (y := y0) ?_ fun h1 => ?_
  · unfold y0
    refine moves_each _ _ _ (fun x2 e3 => ?_) ?_
    · split
      · rename_i z4 z5 z6
        exact (moves_clearCause).then (by decide) <| Moves.refl _ _
      · rename_i z7 z8
        exact Moves.refl _ _
    exact Moves.refl _ _
  clear_value y0
  extract_lets +onlyGivenNames y9
  clear_value y9
  refine (moves_dropAlert).then (by decide) <| moves_each _ _ _ (fun x10 e11 => ?_) ?_
  · exact (moves_clearCause).then (by decide) <| Moves.refl _ _
  exact h1

theorem moves_faultClearBody {x0 x1 e} : Moves 471272508 e (faultClearBody x0 x1 e) := by
  unfold faultClearBody
  refine moves_ite ?_ ?_
  · exact (moves_complete).then (by decide) <| Moves.refl _ _
  extract_lets +onlyGivenNames y0
  refine moves_cut (y := y0) ?_ fun h1 => ?_
  · unfold y0
    refine moves_whenE _ _ (fun e2 => ?_) ?_
    · exact (moves_clearAllCauses).then (by decide) <| Moves.refl _ _
    exact Moves.refl _ _
  clear_value y0
  extract_lets +onlyGivenNames y3
  refine moves_cut (y := y3) ?_ fun h4 => ?_
  · unfold y3
    refine moves_whenE _ _ (fun e5 => ?_) ?_
    · exact (moves_wr).then (by decide) <| moves_flt (by decide) (fun _ => by simp) <| Moves.refl _ _
    exact h1
  clear_value y3
  refine moves_ite ?_ ?_
  · refine moves_ite ?_ ?_
    · exact (moves_complete).then (by decide) <| h4
    extract_lets +onlyGivenNames y6
    refine moves_cut (y := y6) ?_ fun h7 => ?_
    · unfold y6
      exact (moves_toMode).then (by decide) <| (moves_brakeOff).then (by decide) <| h4
    clear_value y6
    exact moves_sys (by decide) rfl <| h7
  refine moves_ite ?_ ?_
  · exact (moves_complete).then (by decide) <| h4
  exact (moves_complete).then (by decide) <| h4

theorem moves_goFaultClear {x0 x1 e} : Moves 471272508 e (goFaultClear x0 x1 e) := by
  unfold goFaultClear
  refine (moves_runCmd (by decide) (fun e0 => ?_)).then (Nat.or_self _) ?_
  · exact (moves_faultClearBody).then (by decide) <| Moves.refl _ _
  exact Moves.refl _ _

theorem acts_execFaultClear {x0 x1 x2} : Acts 471272508 (execFaultClear x0 x1 x2) x2 := by
  unfold execFaultClear
  refine Acts.mk fun e => ?_
  refine (moves_arrive (by decide) (fun e0 => ?_)).then (Nat.or_self _) ?_
  · exact (moves_goFaultClear).then (by decide) <| Moves.refl _ _
  exact Moves.refl _ _

end Sys2Proof.Machine
end

