-- ==== Sys2Proof/Laws/Modes.lean ====
section
/-! SUPPORT. The mode after the operations that change it or could: transitions, HOLD, SAFE, LOCKOUT, triggers and failed
transactions. -/

namespace Sys2Proof.Machine

@[simp] theorem updStation_sys (e) : (updStation e).sys = e.sys := (moves_updStation).part .sys rfl
@[simp] theorem note_sys (x0 e) : (note x0 e).sys = e.sys := (moves_note).part .sys rfl
@[simp] theorem noteD_sys (x0 x1 x2 e) : (noteD x0 x1 x2 e).sys = e.sys := (moves_noteD).part .sys rfl
@[simp] theorem complete_sys (x0 x1 x2 e) : (complete x0 x1 x2 e).sys = e.sys := (moves_complete).part .sys rfl
@[simp] theorem mark_sys (x0 e) : (mark x0 e).sys = e.sys := (moves_mark).part .sys rfl
@[simp] theorem endWork_sys (e) : (endWork e).sys = e.sys := (moves_endWork).part .sys rfl
@[simp] theorem inc_sys (x0 e) : (inc x0 e).sys = e.sys := (moves_inc).part .sys rfl
@[simp] theorem wr_sys : ∀ x0 x1 (e : Engine), (wr x0 x1 e).sys = e.sys := fun x0 x1 e => (moves_wr).part .sys rfl
@[simp] theorem wrF_sys (x0 x1 e) : (wrF x0 x1 e).sys = e.sys := (moves_wrF).part .sys rfl
@[simp] theorem resumeHold_sys (e) : (resumeHold e).sys = e.sys := (moves_resumeHold).part .sys rfl
@[simp] theorem dropJob_sys (x0 e) : (dropJob x0 e).sys = e.sys := (moves_dropJob).part .sys rfl
@[simp] theorem closeTxn_sys (x0 e) : (closeTxn x0 e).sys = e.sys := (moves_closeTxn).part .sys rfl
@[simp] theorem openRestore_sys (x0 x1 e) : (openRestore x0 x1 e).sys = e.sys := (moves_openRestore).part .sys rfl
@[simp] theorem release_sys (x0 e) : (release x0 e).sys = e.sys := (moves_release).part .sys rfl
@[simp] theorem leaveTest_sys (e) : (leaveTest e).sys = e.sys := (moves_leaveTest).part .sys rfl
@[simp] theorem loseJob_sys (x0 e) : (loseJob x0 e).sys = e.sys := (moves_loseJob).part .sys rfl
@[simp] theorem disarm_sys (x0 e) : (disarm x0 e).sys = e.sys := (moves_disarm).part .sys rfl
@[simp] theorem stopPlayer_sys (x0 e) : (stopPlayer x0 e).sys = e.sys := (moves_stopPlayer).part .sys rfl
@[simp] theorem endSurvey_sys (x0 e) : (endSurvey x0 e).sys = e.sys := (moves_endSurvey).part .sys rfl
@[simp] theorem endCalSensor_sys (e) : (endCalSensor e).sys = e.sys := (moves_endCalSensor).part .sys rfl
@[simp] theorem endPlayerCmds_sys (e) : (endPlayerCmds e).sys = e.sys := (moves_endPlayerCmds).part .sys rfl
@[simp] theorem loopsOff_sys (x0 e) : (loopsOff x0 e).sys = e.sys := (moves_loopsOff).part .sys rfl
@[simp] theorem zeroShadows_sys (e) : (zeroShadows e).sys = e.sys := (moves_zeroShadows).part .sys rfl
@[simp] theorem brakeEpoch_sys (x0 e) : (brakeEpoch x0 e).sys = e.sys := (moves_brakeEpoch).part .sys rfl
@[simp] theorem stopMarch_sys (e) : (stopMarch e).sys = e.sys := (moves_stopMarch).part .sys rfl
@[simp] theorem releaseDue_sys (e) : (releaseDue e).sys = e.sys := (moves_releaseDue).part .sys rfl
@[simp] theorem brakeOff_sys (x0 e) : (brakeOff x0 e).sys = e.sys := (moves_brakeOff).part .sys rfl

@[simp] theorem toMode_mode (m : Mode) (e : Engine) : (toMode m e).sys.mode = m := by
  unfold toMode
  rw [updStation_sys, note_sys]
  rfl

@[simp] theorem toMode_prev (m : Mode) (e : Engine) : (toMode m e).sys.prev = e.sys.mode := by
  unfold toMode
  simp only [updStation_sys, note_sys, inc_sys]
  split <;> simp

@[simp] theorem toMode_setMode (m : Mode) (e : Engine) : (toMode m e).sys.setMode = e.sys.setMode := by
  unfold toMode
  simp only [updStation_sys, note_sys, inc_sys]
  split <;> simp

@[simp] theorem loseSetMode_mode (e : Engine) : (loseSetMode e).sys.mode = e.sys.mode := by
  unfold loseSetMode
  split
  · rfl
  · dsimp only
    split <;> split <;> simp

@[simp] theorem exitHold_mode (c : Nat) (m : Mode) (e : Engine) : (exitHold c m e).sys.mode = m := by
  unfold exitHold
  split <;> simp

theorem each_mode {α : Type} (l : List α) (f : α → Engine → Engine) (hf : ∀ x e, (f x e).sys.mode = e.sys.mode) (e : Engine) :
    (each l f e).sys.mode = e.sys.mode := by
  unfold each
  induction l generalizing e with
  | nil => rfl
  | cons x l ih => exact (ih _).trans (hf x e)

theorem each_sys {α : Type} (l : List α) (f : α → Engine → Engine) (hf : ∀ x e, (f x e).sys = e.sys) (e : Engine) :
    (each l f e).sys = e.sys := by
  unfold each
  induction l generalizing e with
  | nil => rfl
  | cons x l ih => exact (ih _).trans (hf x e)

theorem restoreFailed_mode (t : Txn) (c i : Nat) (e : Engine) : (restoreFailed t c i e).sys.mode = e.sys.mode := by
  unfold restoreFailed
  have h : ∀ l, (each l (fun j : Job => dropJob j.id) e).sys = e.sys := fun l => each_sys l _ (by simp) e
  dsimp only
  split
  · rw [openRestore_sys, h]
  · split <;> simp [h]

@[simp] theorem failTxn_mode (id c i : Nat) (e : Engine) : (failTxn id c i e).sys.mode = e.sys.mode := by
  unfold failTxn
  split
  · rfl
  · dsimp only
    cases Txn.commit _ <;> simp [apply_ite Engine.sys, apply_ite SysSt.mode, restoreFailed_mode]

@[simp] theorem failAll_mode (p : Txn → Bool) (c : Nat) (e : Engine) : (failAll p c e).sys.mode = e.sys.mode :=
  each_mode _ _ (by simp) _

theorem each_setMode {α : Type} (l : List α) (f : α → Engine → Engine) (hf : ∀ x e, (f x e).sys.setMode = e.sys.setMode) (e : Engine) :
    (each l f e).sys.setMode = e.sys.setMode := by
  unfold each
  induction l generalizing e with
  | nil => rfl
  | cons x l ih => exact (ih _).trans (hf x e)

theorem restoreFailed_setMode (t : Txn) (c i : Nat) (e : Engine) : (restoreFailed t c i e).sys.setMode = e.sys.setMode := by
  unfold restoreFailed
  have h : ∀ l, (each l (fun j : Job => dropJob j.id) e).sys = e.sys := fun l => each_sys l _ (by simp) e
  dsimp only
  split
  · rw [openRestore_sys, h]
  · split <;> simp [h]

@[simp] theorem failTxn_setMode (id c i : Nat) (e : Engine) : (failTxn id c i e).sys.setMode = e.sys.setMode := by
  unfold failTxn
  split
  · rfl
  · dsimp only
    cases Txn.commit _ <;> simp [apply_ite Engine.sys, apply_ite SysSt.setMode, restoreFailed_setMode]

@[simp] theorem failAll_setMode (p : Txn → Bool) (c : Nat) (e : Engine) : (failAll p c e).sys.setMode = e.sys.setMode :=
  each_setMode _ _ (by simp) _

/-- A transaction that fails leaves the mode and a SET_MODE that waits. -/
def KeepsMode (f : Engine → Engine) : Prop := ∀ e, (f e).sys.mode = e.sys.mode ∧ (f e).sys.setMode = e.sys.setMode

theorem keepsMode_each {α : Type} (l : List α) (f : α → Engine → Engine) (hf : ∀ x, KeepsMode (f x)) : KeepsMode (each l f) :=
  fun e => ⟨each_mode l f (fun x e => (hf x e).1) e, each_setMode l f (fun x e => (hf x e).2) e⟩

theorem brakeStop_mode (b : Bool) : KeepsMode (brakeStop b) := by
  intro e
  unfold brakeStop
  have h1 : ∀ l c, KeepsMode (each l (fun t : Txn => failTxn t.id c 0xFFFF)) := fun l c => keepsMode_each _ _ (fun x e => by simp)
  cases b <;>
    (simp only [loopsOff_sys, zeroShadows_sys, stopMarch_sys, endCalSensor_sys, endSurvey_sys, stopPlayer_sys, if_true, if_false,
       Bool.false_eq_true]
     refine ⟨Eq.trans (keepsMode_each (α := Job) _ _ ?_ _).1 (h1 _ _ _).1, Eq.trans (keepsMode_each (α := Job) _ _ ?_ _).2 (h1 _ _ _).2⟩
     all_goals exact fun x e => by cases x.owner <;> simp)

theorem brakeStart_mode (b : Bool) : KeepsMode (brakeStart b) := by
  intro e
  unfold brakeStart
  split <;> exact brakeStop_mode _ _

theorem brakeOn_mode (b : Nat) : KeepsMode (brakeOn b) := fun e => by
  unfold brakeOn
  refine ⟨((brakeStart_mode _ _).1).trans ?_, ((brakeStart_mode _ _).2).trans ?_⟩ <;> simp

theorem cancelSpan_mode : KeepsMode cancelSpan := by
  intro e
  unfold cancelSpan
  split
  · exact ⟨rfl, rfl⟩
  · split
    · exact ⟨rfl, rfl⟩
    · have h1 : ∀ l c, KeepsMode (each l (fun t : Txn => failTxn t.id c 0xFFFF)) := fun l c => keepsMode_each _ _ (fun x e => by simp)
      have h2 : ∀ l e, (each l (fun x : Job => dropJob x.id) e).sys = e.sys := fun l e => each_sys l _ (by simp) e
      dsimp only
      repeat' split
      all_goals simp [(h1 _ _ _).1, (h1 _ _ _).2, h2]

theorem trigger_mode (b : Nat) : KeepsMode (trigger b) := by
  intro e
  unfold trigger
  split
  · exact ⟨rfl, rfl⟩
  · have h1 := brakeOn_mode b
    have h2 := cancelSpan_mode
    dsimp only
    repeat' split
    all_goals simp [(h1 _).1, (h1 _).2, (h2 _).1, (h2 _).2]

/-- SEVERE leads to SAFE from every mode in which the engine runs. -/
theorem enterSafe_mode (e : Engine) (h : e.sys.mode ∉ [.off, .lockout, .cooldown, .boot]) (hc : e.thm.coolPend = none) :
    (enterSafe e).sys.mode = .safe := by
  unfold enterSafe
  by_cases hs : e.sys.mode = .safe
  · simp [inMode, hs]
  · simp only [List.mem_cons, List.not_mem_nil, or_false, not_or] at h
    rw [if_neg (by simp [inMode, h, hs]), if_neg h.2.2.1, if_neg (by simp [hc]), if_neg h.2.2.2]
    rw [loseSetMode_mode]
    split <;> simp

/-- GRAVE leads to LOCKOUT. -/
theorem enterLockout_mode (e : Engine) (h : e.sys.mode ≠ .off) : (enterLockout e).sys.mode = .lockout := by
  unfold enterLockout
  by_cases hs : e.sys.mode = .lockout
  · simp [inMode, hs]
  · rw [if_neg (by simp [inMode, h, hs])]
    simp only [loopsOff_sys, loseSetMode_mode, endWork_sys]
    split <;> simp

end Sys2Proof.Machine
end

