-- ==== Sys2Proof/Laws/Complete.lean ====
section
/-! SUPPORT. What a completion leaves in flight, and when nothing follows from it: `complete_less`, `settle_quiet`. -/

namespace Sys2Proof.Machine

/-- Every command in flight in `b` is one of `a`, as it was but for the fate of its completion. -/
def Less (a b : Engine) : Prop :=
  ∀ j ∈ b.cmd.inflight, ∃ i ∈ a.cmd.inflight, i.cx = j.cx ∧ i.wait = j.wait ∧ i.ports = j.ports ∧ i.accepted = j.accepted

theorem Less.refl (a : Engine) : Less a a := fun j hj => ⟨j, hj, rfl, rfl, rfl, rfl⟩

theorem Less.trans {a b c : Engine} (h : Less a b) (g : Less b c) : Less a c := by
  intro j hj
  obtain ⟨i, hi, h1, h2, h3, h4⟩ := g j hj
  obtain ⟨k, hk, g1, g2, g3, g4⟩ := h i hi
  exact ⟨k, hk, g1.trans h1, g2.trans h2, g3.trans h3, g4.trans h4⟩

theorem Less.of_inflight {a b : Engine} (h : b.cmd.inflight = a.cmd.inflight) : Less a b := by
  intro j hj
  rw [h] at hj
  exact ⟨j, hj, rfl, rfl, rfl, rfl⟩

theorem Less.of_cmd {a b : Engine} (h : b.cmd = a.cmd) : Less a b := Less.of_inflight (by rw [h])

theorem less_foldl {α : Type} (l : List α) (f : Engine → α → Engine) (hf : ∀ e x, Less e (f e x)) (e : Engine) :
    Less e (l.foldl f e) := by
  induction l generalizing e with
  | nil => exact Less.refl e
  | cons x l ih => exact (hf e x).trans (ih _)

@[simp] theorem inc_cmd (x0 e) : (inc x0 e).cmd = e.cmd := (moves_inc).part .cmd rfl
@[simp] theorem note_cmd (x0 e) : (note x0 e).cmd = e.cmd := (moves_note).part .cmd rfl
@[simp] theorem cqDrop_cmd (e) : (cqDrop e).cmd = e.cmd := (moves_cqDrop).part .cmd rfl
@[simp] theorem moveRun_cmd (x0 x1 x2 x3 x4 e) : (moveRun x0 x1 x2 x3 x4 e).1.cmd = e.cmd := (moves_moveRun).part .cmd rfl
@[simp] theorem moveRun_xact (x0 x1 x2 x3 x4 e) : (moveRun x0 x1 x2 x3 x4 e).1.xact = e.xact := (moves_moveRun).part .xact rfl
@[simp] theorem writeRun_cmd (x0 x1 e) : (writeRun x0 x1 e).cmd = e.cmd := (moves_writeRun).part .cmd rfl
@[simp] theorem openStream_cmd (x0 x1 x2 x3 x4 x5 x6 x7 e) : (openStream x0 x1 x2 x3 x4 x5 x6 x7 e).cmd = e.cmd := (moves_openStream).part .cmd rfl
@[simp] theorem dropStream_cmd (x0 e) : (dropStream x0 e).cmd = e.cmd := (moves_dropStream).part .cmd rfl
@[simp] theorem signalMsix_cmd (x0 x1 e) : (signalMsix x0 x1 e).cmd = e.cmd := (moves_signalMsix).part .cmd rfl
@[simp] theorem queueFrame_cmd (x0 x1 e) : (queueFrame x0 x1 e).cmd = e.cmd := (moves_queueFrame).part .cmd rfl
@[simp] theorem inc_xact (x0 e) : (inc x0 e).xact = e.xact := (moves_inc).part .xact rfl
@[simp] theorem complete_tim (x0 x1 x2 e) : (complete x0 x1 x2 e).tim = e.tim := (moves_complete).part .tim rfl
@[simp] theorem complete_xact (x0 x1 x2 e) : (complete x0 x1 x2 e).xact = e.xact := (moves_complete).part .xact rfl

theorem each_cmd {α : Type} (l : List α) (f : α → Engine → Engine) (hf : ∀ x e, (f x e).cmd = e.cmd) (e : Engine) :
    (each l f e).cmd = e.cmd := by
  unfold each
  induction l generalizing e with
  | nil => rfl
  | cons x l ih => exact (ih _).trans (hf x e)

theorem less_release (cx : Cx) (e : Engine) : Less e (release cx e) := fun j hj => ⟨j, (List.mem_filter.mp hj).1, rfl, rfl, rfl, rfl⟩

theorem less_free (h : Held) (e : Engine) : Less e (h.free e) := by
  unfold Held.free
  split
  · exact less_release _ _
  · exact Less.refl e

theorem less_drop (e : Engine) : Less e (cqDrop e) := Less.of_cmd (cqDrop_cmd e)

theorem less_orphanHopper (q : Nat) (e : Engine) : Less e (orphanHopper q e) := by
  unfold orphanHopper each
  refine Less.trans ?_ (less_foldl _ _ (fun x h => (less_free h x).trans (less_drop _)) _)
  intro j hj
  simp only [updHop, List.mem_map] at hj
  obtain ⟨i, hi, h⟩ := hj
  refine ⟨i, hi, ?_⟩
  subst h
  split <;> simp

theorem less_disableHopper (q : Nat) (e : Engine) : Less e (disableHopper q e) :=
  (Less.of_inflight rfl).trans (less_orphanHopper q _)

theorem less_signalHopper (q : Nat) (e : Engine) : Less e (signalHopper q e) := by
  unfold signalHopper
  dsimp only
  repeat' split
  · exact Less.refl e
  · exact Less.of_cmd (by simp)
  · exact Less.of_inflight rfl
  · exact Less.of_inflight (by simp [updHop])

theorem less_countPosted (q : Nat) (e : Engine) : Less e (countPosted q e) :=
  Less.of_inflight (by simp [countPosted, updHop])

theorem haltStream_cmd {id r l : Nat} {e x : Engine} (h : haltStream id r l e = some x) : x.cmd = e.cmd :=
  ((moves_haltStream) x h).part .cmd rfl

@[simp] theorem takeLink_cmd (x0 e) : (takeLink x0 e).cmd = e.cmd := (moves_takeLink).part .cmd rfl

theorem less_postOne {q : Nat} {e x : Engine} (h : postOne q e = some x) : Less e x := by
  unfold postOne at h
  dsimp only at h
  split at h
  · cases h; exact Less.refl e
  · split at h
    · rename_i e1 parts hm
      have h1 : e1.cmd = e.cmd := (congrArg (fun p => p.1.cmd) hm).symm.trans (by simp)
      injection h with h
      subst h
      refine Less.trans ?_ (less_signalHopper q _)
      refine Less.trans ?_ (less_countPosted q _)
      refine Less.trans ?_ (less_free _ _)
      refine Less.trans (Less.of_cmd (b := writeRun _ _ e1) ?_) (Less.of_inflight rfl)
      simp [h1]
    · rename_i e1 why l hm
      have h1 : e1.cmd = e.cmd := (congrArg (fun p => p.1.cmd) hm).symm.trans (by simp)
      split at h
      · rename_i y hy
        injection h with h
        subst h
        have := haltStream_cmd hy
        exact Less.of_cmd (by rw [this, openStream_cmd, h1])
      · injection h with h
        subst h
        refine Less.trans (Less.of_cmd (b := note _ _) ?_) (less_disableHopper q _)
        simp [h1]

theorem less_flushHeld (q : Nat) (e : Engine) : Less e (flushHeld q e) := by
  unfold flushHeld
  refine less_foldl _ _ (fun e _ => ?_) e
  split
  · exact Less.refl e
  · cases h : postOne q e with
    | none => exact Less.refl e
    | some x => exact less_postOne h

theorem less_ring (r : RingRef) (q st tag n : Nat) (e : Engine) : Less e (ringComplete r q st tag n e) := by
  unfold ringComplete
  dsimp only
  split
  · exact Less.of_cmd (by simp)
  · exact Less.trans (Less.of_cmd (by simp)) (less_countPosted _ _)

theorem less_deliver (cx : Cx) (own : Bool) (r : Option RingRef) (h st n : Nat) (e : Engine) :
    Less e (deliver cx own r h st n e) := by
  unfold deliver
  dsimp only
  split
  · refine Less.trans (less_free _ e) (less_ring _ _ _ _ _ _)
  · repeat' split
    · exact (less_free ⟨cx, own, cplHead st cx.tag h n⟩ e).trans (Less.of_cmd (by simp))
    · exact (less_free ⟨cx, own, cplHead st cx.tag h n⟩ e).trans (Less.of_cmd (by simp))
    · exact Less.trans (Less.of_inflight rfl) (less_flushHeld _ _)

/-- Once a command has completed, every other command is in flight as before. -/
theorem less_complete (cx : Cx) (st r : Nat) (e : Engine) : Less e (complete cx st r e) := by
  have hu : Less e (updInfl cx (fun x => { x with done := true }) e) := by
    intro j hj
    obtain ⟨i, hi, h⟩ := List.mem_map.mp hj
    refine ⟨i, hi, ?_⟩
    subst h
    split <;> simp
  unfold complete
  repeat' split
  · exact Less.refl e
  · exact less_deliver _ _ _ _ _ _ _
  · exact (less_release cx e).trans (less_drop _)
  · exact hu.trans (less_deliver _ _ _ _ _ _ _)

/-- Nothing follows where nothing waits. -/
theorem settle_quiet {e : Engine} (h : Quiet e) : settle e = e := by
  have h1 : e.xact.txns.filter (fun t => t.ready && t.group.isNone) = [] := by
    rw [List.filter_eq_nil_iff]
    intro t ht
    have := h.groups t ht
    cases hr : t.ready <;> cases hg : t.group <;> simp_all
  have h2 : nextWaiting e = none := by
    unfold nextWaiting
    rw [Option.bind_eq_none_iff]
    intro i hi
    exact h.tags i (List.mem_of_find?_eq_some hi)
  have h3 : ∀ n, settleN n e = e := by
    intro n
    cases n with
    | zero => rfl
    | succ n => simp [settleN, h2]
  have h4 : sleepDone (stepCheck e) = e := by
    unfold stepCheck
    rw [h.step]
    unfold sleepDone
    split
    · rfl
    · rename_i j hj
      rw [if_neg (fun hh => h.sleep j hj hh.1)]
  unfold settle retryGroups
  rw [h1]
  simp [sortBy, each, h3, h4]

theorem quiet_complete {cx : Cx} {st r : Nat} {e : Engine} (h : Quiet e) : Quiet (complete cx st r e) := by
  refine ⟨by rw [complete_xact]; exact h.groups, fun i hi => ?_, by rw [complete_tim]; exact h.step, by rw [complete_sys]; exact h.sleep⟩
  obtain ⟨j, hj, -, h2, -⟩ := less_complete cx st r e i hi
  rw [← h2]
  exact h.tags j hj

/-- The engine with these commands in flight. -/
def withInfl (l : List Infl) (e : Engine) : Engine := { e with cmd := { e.cmd with inflight := l } }

/-- The high-water mark of tags after `i` is held (R216). -/
def hwmNext (i : Infl) (e : Engine) : Engine :=
  if tagsUsed (withInfl (e.cmd.inflight ++ [i]) e) > rdF e Fd.CMD_TAG_HWM_HWM
  then wrF Fd.CMD_TAG_HWM_HWM (tagsUsed (withInfl (e.cmd.inflight ++ [i]) e)) e else e

theorem holdTag_eq (i : Infl) (e : Engine) : holdTag i e = withInfl (e.cmd.inflight ++ [i]) (hwmNext i e) := by
  unfold holdTag hwmNext withInfl
  dsimp only
  rw [show ∀ c : CmdSt, rdF { e with cmd := c } Fd.CMD_TAG_HWM_HWM = rdF e Fd.CMD_TAG_HWM_HWM from fun c => rfl]
  split <;> rfl

/-- The mark counts tags alone. -/
theorem hwmNext_congr (i j : Infl) (e : Engine) : hwmNext i e = hwmNext j e := by
  unfold hwmNext tagsUsed
  simp only [withInfl, List.length_append]
  rfl

@[simp] theorem hwmNext_cmd (i : Infl) (e : Engine) : (hwmNext i e).cmd = e.cmd := by
  unfold hwmNext
  split <;> rfl

theorem map_other {cx : Cx} {l : List Infl} (f : Infl → Infl) (h : ∀ j ∈ l, j.cx ≠ cx) :
    l.map (fun i => if i.cx = cx then f i else i) = l := by
  conv_rhs => rw [← List.map_id l]
  exact List.map_congr_left fun j hj => by simp [h j hj]

/-- What a command that names ports becomes while its ports are read. -/
def waitingOf (cx : Cx) (op : Nat) (self : Instr) (e : Engine) : Infl :=
  { inflOf cx op [] e with accepted := false, wait := some self }

/-- A command that names ports, taken in and kept until its ports are read. -/
theorem taken_waiting {cx : Cx} {op : Nat} (self : Instr) {e : Engine} (hf : e.infl cx = none) (hcx : ∀ j ∈ e.cmd.inflight, j.cx ≠ cx) :
    updInfl cx (fun x => { x with wait := some self }) (takeIn cx op [] false e) =
      withInfl (e.cmd.inflight ++ [waitingOf cx op self e]) (hwmNext (waitingOf cx op self e) e) := by
  unfold takeIn
  rw [hf]
  simp only [Bool.false_eq_true, if_false, holdTag_eq]
  simp only [updInfl, withInfl, List.map_append, map_other _ hcx, List.map_cons, List.map_nil, if_true]
  rw [hwmNext_congr _ (waitingOf cx op self e)]
  rfl

/-- The same command accepted once its ports are read, and no longer kept, is as one taken in at once. -/
theorem taken_accepted {cx : Cx} {op : Nat} {self : Instr} {ps : List Nat} {e : Engine} (hf : e.infl cx = none)
    (hcx : ∀ j ∈ e.cmd.inflight, j.cx ≠ cx) :
    takeIn cx op ps true (withInfl (e.cmd.inflight ++ [waitingOf cx op self e]) (hwmNext (waitingOf cx op self e) e)) =
      countAccept cx.hopper (withInfl (e.cmd.inflight ++ [{ inflOf cx op ps e with wait := some self }]) (hwmNext (waitingOf cx op self e) e)) := by
  have hin : (withInfl (e.cmd.inflight ++ [waitingOf cx op self e]) (hwmNext (waitingOf cx op self e) e)).infl cx =
      some (waitingOf cx op self e) := by
    unfold Engine.infl at hf ⊢
    simp only [withInfl, List.find?_append, hf]
    simp [waitingOf, inflOf]
  unfold takeIn
  rw [hin]
  have hd : ∀ i : Infl, dNs (withInfl (e.cmd.inflight ++ [i]) (hwmNext i e)) = dNs e := fun i => by
    unfold hwmNext; split <;> rfl
  simp only [waitingOf, Bool.not_true, Bool.or_self, Bool.false_eq_true, if_false]
  refine congrArg (countAccept cx.hopper) ?_
  have hfl : e.cmd.inflight.filter (fun x => x.cx != cx) = e.cmd.inflight :=
    List.filter_eq_self.mpr fun j hj => bne_iff_ne.mpr (hcx j hj)
  rw [hd]
  simp only [withInfl, List.filter_append, hfl, hwmNext_cmd]
  simp [inflOf]

/-- A command taken in at once: held, then counted. -/
theorem accepted_eq {cx : Cx} {op : Nat} {ps : List Nat} {e : Engine} (h : e.infl cx = none) :
    accepted cx op ps e =
      countAccept cx.hopper (withInfl (e.cmd.inflight ++ [inflOf cx op ps e]) (hwmNext (inflOf cx op ps e) e)) := by
  unfold accepted takeIn
  rw [h]
  exact congrArg (countAccept cx.hopper) (holdTag_eq _ e)

theorem updInfl_countAccept (cx : Cx) (f : Infl → Infl) (q : Nat) (l : List Infl) (x : Engine) :
    updInfl cx f (countAccept q (withInfl l x)) = countAccept q (withInfl (l.map (fun i => if i.cx = cx then f i else i)) x) := rfl

theorem executing_of {cx : Cx} {i : CmdInfo} {ports : List Nat} {e : Engine} (h : Clear cx i ports e) : executing e cx = true := by
  simp [executing, inMode, h.exec]

theorem Clear.others {cx : Cx} {i : CmdInfo} {ports : List Nat} {e : Engine} (h : Clear cx i ports e) :
    ∀ j ∈ e.cmd.inflight, j.cx ≠ cx := fun j hj hc => h.tag j hj (by rw [hc]; exact ⟨rfl, rfl⟩)

/-- The first check of a clear command passes (R217). -/
theorem Clear.header {cx : Cx} {i : CmdInfo} {ports : List Nat} {e : Engine} (h : Clear cx i ports e) : headerRefusal i cx = none := by
  unfold headerRefusal
  rw [if_neg, if_neg]
  · intro hh
    rw [Bool.and_eq_true] at hh
    rw [h.host hh.1] at hh
    exact Bool.false_ne_true hh.2
  · intro hh
    rw [Bool.and_eq_true] at hh
    rw [h.operator hh.1] at hh
    exact absurd hh.2 (by decide)

theorem infl_last {cx : Cx} {e x : Engine} {m : Infl} (hf : e.infl cx = none) (hm : m.cx = cx)
    (hx : x.cmd.inflight = e.cmd.inflight ++ [m]) : x.infl cx = some m := by
  unfold Engine.infl at hf ⊢
  rw [hx, List.find?_append, hf]
  simp [hm]

theorem before_last {cx : Cx} {e x : Engine} {m : Infl} (hcx : ∀ j ∈ e.cmd.inflight, j.cx ≠ cx) (hm : m.cx = cx)
    (hx : x.cmd.inflight = e.cmd.inflight ++ [m]) : inflBefore x m = e.cmd.inflight := by
  unfold inflBefore
  rw [hx, List.takeWhile_append_of_pos (fun j hj => bne_iff_ne.mpr (by rw [hm]; exact hcx j hj))]
  simp

/-- No hopper has an entry to be fetched: nothing ahead names ports. -/
theorem unfetched_none {e : Engine} {d sub : Nat} (h : ∀ x ∈ e.cmd.hoppers, x.2.ring = [] ∧ x.2.before sub = 0) :
    unfetchedAhead e d sub = false := by
  unfold unfetchedAhead
  rw [List.any_eq_false]
  intro x hx
  obtain ⟨h1, h2⟩ := h x hx
  rw [h1, h2]
  simp [namingIn]

/-- A command that names ports and finds its way clear does its own part. -/
theorem runPort_clear {cx : Cx} {i : CmdInfo} {self : Instr} {rsv : Nat} {ports : Engine → List Nat} {e : Engine}
    (body : Engine → Engine) (hn : i.opcode ∈ namingOps) (h0 : rsv = 0)
    (hp : ∀ x : Engine, x.xact = e.xact → (∀ j ∈ x.cmd.inflight, j ∈ e.cmd.inflight ∨ j.wait = some self) → ports x = ports e)
    (h : Clear cx i (ports e) e) :
    runPort i self cx rsv ports body e = body (accepted cx i.opcode (ports e) e) := by
  have hf := infl_none h.tag
  have hcx := h.others
  generalize hw : waitingOf cx i.opcode self e = w
  generalize h1 : withInfl (e.cmd.inflight ++ [w]) (hwmNext w e) = e1
  have hwc : w.cx = cx := by rw [← hw]; rfl
  have hi1 : e1.cmd.inflight = e.cmd.inflight ++ [w] := by rw [← h1]; rfl
  have hq1 : e1.cmd.hoppers = e.cmd.hoppers := by rw [← h1]; show (hwmNext w e).cmd.hoppers = _; rw [hwmNext_cmd]
  have hx1 : e1.xact = e.xact := by rw [← h1]; unfold hwmNext; split <;> rfl
  have hpe : ports e1 = ports e := hp e1 hx1 (fun j hj => by
    rw [hi1] at hj
    rcases List.mem_append.mp hj with h | h
    · exact .inl h
    · rw [List.mem_singleton] at h
      right
      rw [h, ← hw]
      rfl)
  have hfirst : notFirst e1 w = false := by
    unfold notFirst
    rw [hwc, show w.sub = e.cmd.subs by rw [← hw]; rfl, unfetched_none (by rw [hq1]; exact (h.first hn).2), Bool.or_false,
      List.any_eq_false]
    intro j hj
    rw [hi1] at hj
    rcases List.mem_append.mp hj with hj | hj
    · simp [(h.first hn).1 j hj]
    · rw [List.mem_singleton] at hj
      simp [hj, hwc]
  have hw1 : mustWait e1 w = false := by
    unfold mustWait
    rw [before_last hcx hwc hi1, hfirst, Bool.and_false, Bool.or_false, Bool.or_eq_false_iff, List.any_eq_false]
    have hwp : w.ports = [] := by rw [← hw]; rfl
    refine ⟨fun j _ => by rw [hwp]; simp, ?_⟩
    unfold behindPark
    simp [hwp]
  generalize hm : ({ inflOf cx i.opcode (ports e) e with wait := some self } : Infl) = m
  have h2 : takeIn cx i.opcode (ports e) true e1 = countAccept cx.hopper (withInfl (e.cmd.inflight ++ [m]) (hwmNext w e)) := by
    rw [← h1, ← hw, ← hm]
    exact taken_accepted hf hcx
  generalize he2 : countAccept cx.hopper (withInfl (e.cmd.inflight ++ [m]) (hwmNext w e)) = e2 at h2
  have hmc : m.cx = cx := by rw [← hm]; rfl
  have hi2 : e2.cmd.inflight = e.cmd.inflight ++ [m] := by rw [← he2]; rfl
  have hf2 : e2.flt = e.flt := by rw [← he2]; unfold hwmNext; split <;> rfl
  have hx2x : e2.xact = e.xact := by rw [← he2]; unfold hwmNext; split <;> rfl
  have hs2 : e2.sys = e.sys := by rw [← he2]; unfold hwmNext; split <;> rfl
  have hin2 := infl_last hf hmc hi2
  have ht2 : takeIn cx i.opcode (ports e2) true e2 = e2 := by
    unfold takeIn
    rw [hin2, ← hm]
    rfl
  have hw2 : mustWait e2 m = false := by
    unfold mustWait
    rw [before_last hcx hmc hi2, show m.accepted = true by rw [← hm]; rfl, show m.ports = ports e by rw [← hm]; rfl, Bool.not_true,
      Bool.and_false, Bool.false_and, Bool.or_false, Bool.or_eq_false_iff, List.any_eq_false]
    refine ⟨fun j hj hh => ?_, ?_⟩
    · simp only [List.any_eq_true, decide_eq_true_eq, Bool.and_eq_true] at hh
      obtain ⟨_, p, hp, hq⟩ := hh
      exact h.free j hj p hp hq
    · refine behindPark_free (fun k hk p hp hq => ?_)
      rw [← hm] at hp
      exact h.parked k (by rwa [hf2] at hk) p (by rwa [scope_congr hx2x] at hq) hp
  have hmo : modeOk e2 i = true := by
    unfold modeOk inMode
    rw [hs2]
    have : e.sys.mode ≠ .hold := by
      intro hh
      have := h.exec
      rw [hh] at this
      revert this; decide
    rw [if_neg this]
    simp [h.mode]
  have hx2 : executing e2 cx = true := by simp [executing, inMode, hs2, h.exec]
  have hend : updInfl cx (fun x => { x with wait := none }) e2 = accepted cx i.opcode (ports e) e := by
    rw [← he2, accepted_eq hf, hwmNext_congr (inflOf cx i.opcode (ports e) e) w e]
    rw [updInfl_countAccept, List.map_append, map_other _ hcx, List.map_cons, List.map_nil, if_pos hmc, ← hm]
    refine congrArg (fun j => countAccept cx.hopper (withInfl (e.cmd.inflight ++ [j]) (hwmNext w e))) ?_
    rfl
  unfold runPort
  dsimp only
  rw [executing_of h, hf, h.header]
  simp only [Bool.not_true, Bool.false_eq_true, if_false, Option.isSome_none, and_false]
  rw [taken_waiting self hf hcx, hw, h1, infl_last hf hwc hi1, Option.getD_some, hw1, hpe, h2]
  simp only [Bool.false_eq_true, if_false]
  unfold runCmd
  rw [hx2, hin2]
  simp only [Bool.not_true, Bool.false_eq_true, if_false, Option.isNone_some, ht2, hin2, Option.getD_some, hw2, hmo, h0, ne_eq,
    not_true_eq_false, hend]

end Sys2Proof.Machine
end

