-- ==== Sys2Proof/Laws/CplRegs.lean ====
section
/-! SUPPORT. What a completion leaves of the registers and of the domains: `cpl_complete`. -/

namespace Sys2Proof.Machine

/-- The registers a completion may touch besides those of the fault block. -/
def cplRegs : List Nat :=
  faultRegs ++ [Reg.CMD_COMPL_CNT, Reg.CMD_CQ_DROP_CNT, Reg.CMD_CAUSE, Reg.HIF_VEC_BAD_CNT, Reg.HIF_CAUSE, Reg.HIF_CPL_TO_CNT, Reg.DMA_CAUSE,
    Reg.DMA_FAULT_CNT, Reg.DMA_TC_MISS_CNT, Reg.DMA_PREEMPT_CNT, Reg.LRG_CPL_DROP_CNT]

/-- The domains are as they were, and so is every register but those a completion may touch. -/
def Cpl (a b : Engine) : Prop := b.cmd.domains = a.cmd.domains ∧ ∀ o, o ∉ cplRegs → rd b o = rd a o

theorem Cpl.refl (a : Engine) : Cpl a a := ⟨rfl, fun _ _ => rfl⟩

theorem Cpl.trans {a b c : Engine} (h : Cpl a b) (g : Cpl b c) : Cpl a c := ⟨g.1.trans h.1, fun o ho => (g.2 o ho).trans (h.2 o ho)⟩

theorem Cpl.of_regs {a b : Engine} (h : b.cmd.domains = a.cmd.domains) (h1 : b.regs = a.regs) (h2 : b.trip1 = a.trip1)
    (h3 : b.trip2 = a.trip2) : Cpl a b := ⟨h, fun o _ => rd_congr h1 h2 h3 o⟩

theorem cpl_frame {w : Nat} {a b : Engine} (h : Frame w a b) (hw : w &&& 65564 = 0) : Cpl a b := by
  have hb : ∀ p : Part, (65564 : Nat).testBit p.num = true → w.testBit p.num = false := by
    intro p hp
    have := congrArg (fun n => Nat.testBit n p.num) hw
    simp only [Nat.testBit_and, hp, Bool.and_true, Nat.zero_testBit] at this
    exact this
  have hc : b.cmd = a.cmd := h .cmd (hb .cmd rfl)
  exact Cpl.of_regs (by rw [hc]) (h .regs (hb .regs rfl)) (h .trip1 (hb .trip1 rfl)) (h .trip2 (hb .trip2 rfl))

theorem cpl_inc {o : Nat} (ho : o ∈ cplRegs) (e : Engine) : Cpl e (inc o e) :=
  ⟨by rw [inc_cmd], fun p hp => rd_inc_ne _ _ _ (fun h => hp (h ▸ ho))⟩

theorem cpl_note {c : Fld} (hc : c.off ∈ cplRegs) (e : Engine) : Cpl e (note c e) :=
  ⟨by rw [note_cmd], fun p hp => rd_note_ne _ _ _ (fun h => hp (List.mem_append_left _ h)) (fun h => hp (h ▸ hc))⟩

theorem cpl_updHop (q : Nat) (f : Hopper → Hopper) (e : Engine) : Cpl e (updHop q f e) := Cpl.of_regs rfl rfl rfl rfl

theorem cpl_cqDrop (e : Engine) : Cpl e (cqDrop e) := (cpl_inc (by decide) e).trans (cpl_note (by decide) _)

theorem cpl_each {α : Type} (l : List α) (f : α → Engine → Engine) (hf : ∀ x e, Cpl e (f x e)) (e : Engine) : Cpl e (each l f e) := by
  unfold each
  induction l generalizing e with
  | nil => exact Cpl.refl e
  | cons x l ih => exact (hf x e).trans (ih _)

theorem cpl_free (h : Held) (e : Engine) : Cpl e (h.free e) := by
  unfold Held.free
  split
  · exact Cpl.of_regs rfl rfl rfl rfl
  · exact Cpl.refl e

theorem cpl_orphanHopper (q : Nat) (e : Engine) : Cpl e (orphanHopper q e) := by
  unfold orphanHopper
  dsimp only
  refine Cpl.trans ?_ (cpl_each _ _ (fun h e => (cpl_free h e).trans (cpl_cqDrop _)) _)
  exact Cpl.of_regs rfl rfl rfl rfl

theorem cpl_takeLink (c : Nat) (e : Engine) : Cpl e (takeLink c e) := by
  unfold takeLink
  split
  · exact (Cpl.of_regs rfl rfl rfl rfl : Cpl e { e with dma := { e.dma with last := none } }).trans (cpl_inc (by decide) _)
  · exact Cpl.refl e

theorem cpl_endCq (q : Nat) (e : Engine) : Cpl e (endCq q e) := (cpl_updHop q _ e).trans (cpl_orphanHopper q _)

theorem cpl_signalHopper (q : Nat) (e : Engine) : Cpl e (signalHopper q e) := by
  unfold signalHopper
  dsimp only
  repeat' split
  · exact Cpl.refl e
  · exact (cpl_inc (o := Reg.HIF_VEC_BAD_CNT) (by decide) e).trans (cpl_note (by decide) _)
  · exact cpl_updHop q _ e
  · exact (cpl_updHop q _ e).trans (cpl_frame (moves_signalMsix).frame (by decide))

theorem cpl_countPosted (q : Nat) (e : Engine) : Cpl e (countPosted q e) := by
  unfold countPosted
  exact (cpl_updHop q _ e).trans (cpl_inc (o := Reg.CMD_COMPL_CNT) (by decide) _)

theorem cpl_writeRun (l : List (Nat × Nat)) (b : List Byte) (e : Engine) : Cpl e (writeRun l b e) :=
  cpl_frame (moves_writeRun).frame (by decide)


theorem cpl_translate (d i : Nat) (w : Bool) (e : Engine) : Cpl e (translate d i w e).1 := by
  unfold translate
  split
  · exact Cpl.refl e
  · split
    · exact cpl_frame (moves_tcTouch).frame (by decide)
    · dsimp only
      refine (cpl_inc (o := Reg.DMA_TC_MISS_CNT) (by decide) e).trans ?_
      split
      · exact Cpl.refl _
      · split
        · exact Cpl.refl _
        · exact cpl_frame (moves_tcInsert).frame (by decide)

theorem cpl_translateRun (d i n : Nat) (w : Bool) (e : Engine) : Cpl e (translateRun d i n w e).1 := by
  unfold translateRun
  dsimp only
  have h1 := cpl_translate d i w e
  split
  · rename_i e1 f h; rw [h] at h1; exact h1
  · rename_i e1 a h
    rw [h] at h1
    split
    · exact h1
    · have h2 := cpl_translate d (i + min n (4096 - i % 4096)) w e1
      split
      · rename_i e2 f h3; rw [h3] at h2; exact h1.trans h2
      · rename_i e2 f h3; rw [h3] at h2; exact h1.trans h2

theorem cpl_moveFrom (d i n : Nat) (w : Bool) (r : HostRes) {e x : Engine} (hb : Cpl e x) :
    Cpl e (match translateRun d i n w x with
      | (e, .inr f) => ((e, .inr f) : Engine × (List (Nat × Nat) ⊕ Nat × Nat))
      | (e, .inl parts) =>
        if !w ∧ r = HostRes.timeout then (inc Reg.HIF_CPL_TO_CNT e, .inr (6, 0))
        else if !w ∧ r = HostRes.hostError then (e, .inr (6, 0))
        else (e, .inl parts)).1 := by
  have h1 := hb.trans (cpl_translateRun d i n w x)
  split
  · rename_i e1 f h; rw [h] at h1; exact h1
  · rename_i e1 p h
    rw [h] at h1
    split
    · exact h1.trans (cpl_inc (by decide) _)
    · split <;> exact h1

theorem cpl_moveRun (d i n : Nat) (w : Bool) (r : HostRes) (e : Engine) : Cpl e (moveRun d i n w r e).1 := by
  unfold moveRun
  split
  · exact Cpl.refl e
  · exact cpl_moveFrom d i n w _ (Cpl.refl e)

theorem cpl_haltStream {id r l : Nat} {e x : Engine} (h : haltStream id r l e = some x) : Cpl e x := by
  unfold haltStream at h
  split at h
  · dsimp only at h
    injection h with h
    subst h
    have hb : ∀ (e : Engine) f g, Cpl e ({ updStream id f e with dma := g } : Engine) := fun _ _ _ => Cpl.of_regs rfl rfl rfl rfl
    split
    · exact ((hb _ _ _).trans ((cpl_note (by decide) _).trans (cpl_inc (by decide) _))).trans (cpl_note (by decide) _)
    · exact (hb _ _ _).trans ((cpl_note (by decide) _).trans (cpl_inc (by decide) _))
  · cases h

theorem cpl_postOne {q : Nat} {e x : Engine} (h : postOne q e = some x) : Cpl e x := by
  unfold postOne at h
  dsimp only at h
  split at h
  · cases h; exact Cpl.refl e
  · have h1 := cpl_moveRun ((hopDom e q).getD 0) ((e.hop q).cqBase + 16 * (e.hop q).cqTail) 16 true .ok (takeLink 0 e)
    split at h
    · rename_i e1 parts hm
      rw [hm] at h1
      injection h with h
      subst h
      refine (cpl_takeLink 0 e).trans (h1.trans ?_)
      exact (cpl_writeRun _ _ _).trans <| (cpl_updHop q _ _).trans ((cpl_free _ _).trans ((cpl_countPosted q _).trans (cpl_signalHopper q _)))
    · rename_i e1 why l hm
      rw [hm] at h1
      have ho : ∀ (e : Engine) k d i n w q t j, Cpl e (openStream k d i n w q t j e) := fun _ _ _ _ _ _ _ _ _ => Cpl.of_regs rfl rfl rfl rfl
      split at h
      · rename_i y hy
        injection h with h
        subst h
        exact (cpl_takeLink 0 e).trans <| h1.trans ((ho _ _ _ _ _ _ _ _ _).trans (cpl_haltStream hy))
      · injection h with h
        subst h
        refine (cpl_takeLink 0 e).trans <| h1.trans (Cpl.trans ?_ (cpl_endCq q _))
        refine Cpl.trans ?_ (cpl_note (by decide) _)
        exact Cpl.of_regs rfl rfl rfl rfl

theorem cpl_flushHeld (q : Nat) (e : Engine) : Cpl e (flushHeld q e) := by
  unfold flushHeld
  generalize List.range (e.hop q).held.length = l
  induction l generalizing e with
  | nil => exact Cpl.refl e
  | cons x l ih =>
    rw [List.foldl_cons]
    refine Cpl.trans ?_ (ih _)
    split
    · exact Cpl.refl e
    · cases h : postOne q e with
      | none => exact Cpl.refl e
      | some x => exact cpl_postOne h

theorem cpl_ring (r : RingRef) (q st tag n : Nat) (e : Engine) : Cpl e (ringComplete r q st tag n e) := by
  unfold ringComplete
  dsimp only
  split
  · exact cpl_inc (by decide) e
  · exact (Cpl.of_regs rfl rfl rfl rfl : Cpl e (queueFrame _ _ e)).trans (cpl_countPosted _ _)

theorem cpl_deliver (cx : Cx) (own : Bool) (r : Option RingRef) (h st n : Nat) (e : Engine) : Cpl e (deliver cx own r h st n e) := by
  unfold deliver
  dsimp only
  split
  · exact (cpl_free _ e).trans (cpl_ring _ _ _ _ _ _)
  · repeat' split
    · exact (cpl_free _ e).trans (cpl_inc (by decide) _)
    · exact (cpl_free _ e).trans (cpl_cqDrop _)
    · exact (cpl_updHop _ _ e).trans (cpl_flushHeld _ _)

/-- A completion leaves the domains, and every register but the counters and causes of completions. -/
theorem cpl_complete (cx : Cx) (st r : Nat) (e : Engine) : Cpl e (complete cx st r e) := by
  have hr : Cpl e (release cx e) := Cpl.of_regs rfl rfl rfl rfl
  have hu : Cpl e (updInfl cx (fun x => { x with done := true }) e) := Cpl.of_regs rfl rfl rfl rfl
  unfold complete
  repeat' split
  · exact Cpl.refl e
  · exact cpl_deliver _ _ _ _ _ _ _
  · exact hr.trans (cpl_cqDrop _)
  · exact hu.trans (cpl_deliver _ _ _ _ _ _ _)

theorem rd_complete (cx : Cx) (st r : Nat) (e : Engine) (o : Nat) (h : o ∉ cplRegs) : rd (complete cx st r e) o = rd e o :=
  (cpl_complete cx st r e).2 o h

theorem complete_domains (cx : Cx) (st r : Nat) (e : Engine) : (complete cx st r e).cmd.domains = e.cmd.domains := (cpl_complete cx st r e).1

end Sys2Proof.Machine
end

