-- ==== Sys2Proof/Laws/MovesSnapPulse.lean ====
section
/-! SUPPORT. What each operation of Machine/SnapPulse.lean can do (`moves_f`). -/

namespace Sys2Proof.Machine

theorem moves_restartViews {e} : Moves 65536 e (restartViews e) := by
  unfold restartViews
  refine moves_ite ?_ ?_
  · exact Moves.refl _ _
  exact moves_cmd (by decide) <| Moves.refl _ _

theorem moves_pulse {e} : Moves 65792 e (pulse e) := by
  unfold pulse
  extract_lets +onlyGivenNames y0 y1 y2
  clear_value y0 y1 y2
  exact (moves_restartViews).then (by decide) <| moves_snap (by decide) <| Moves.refl _ _

theorem moves_askNow {x0 e} : Moves 256 e (askNow x0 e) := by
  unfold askNow
  exact moves_snap (by decide) <| Moves.refl _ _

theorem moves_askAt {x0 x1 e} : Moves 256 e (askAt x0 x1 e) := by
  unfold askAt
  exact moves_snap (by decide) <| Moves.refl _ _

theorem moves_askAgain {e} : Moves 256 e (askAgain e) := by
  unfold askAgain
  extract_lets +onlyGivenNames y0 y1
  clear_value y0 y1
  exact moves_snap (by decide) <| Moves.refl _ _

theorem moves_snapBefore {x0 e} : Moves 82177 e (snapBefore x0 e) := by
  unfold snapBefore
  split
  · rename_i z0 z1 z2
    refine moves_ite ?_ ?_
    · exact (moves_pulse).then (by decide) <| (moves_waitD).then (by decide) <| Moves.refl _ _
    exact Moves.refl _ _
  · rename_i z3 z4
    exact Moves.refl _ _

end Sys2Proof.Machine
end

