-- ==== Sys2Proof/Laws/MovesStore.lean ====
section
/-! SUPPORT. What each operation of Machine/Store.lean can do (`moves_f`). -/

namespace Sys2Proof.Machine

theorem moves_writeRow {x0 x1 x2 e} : Moves 1048576 e (writeRow x0 x1 x2 e) := by
  unfold writeRow
  extract_lets +onlyGivenNames y0
  clear_value y0
  exact (moves_marchEv).then (by decide) <| (moves_updAper).then (by decide) <| Moves.refl _ _

theorem moves_claimAll {x0 e} : Moves 1048576 e (claimAll x0 e) := by
  unfold claimAll
  extract_lets +onlyGivenNames y0
  clear_value y0
  refine moves_each _ _ _ (fun x1 e2 => ?_) ?_
  · extract_lets +onlyGivenNames y3
    clear_value y3
    exact (moves_updTile).then (by decide) <| Moves.refl _ _
  exact Moves.refl _ _

theorem moves_endDrill {x0 x1 e} : Moves 475464764 e (endDrill x0 x1 e) := by
  unfold endDrill
  extract_lets +onlyGivenNames y0 y1
  clear_value y0 y1
  extract_lets +onlyGivenNames y2
  refine moves_cut (y := y2) ?_ fun h3 => ?_
  · unfold y2
    exact moves_rfs (by decide) <| Moves.refl _ _
  clear_value y2
  extract_lets +onlyGivenNames y4
  refine moves_cut (y := y4) ?_ fun h5 => ?_
  · unfold y4
    refine moves_ite ?_ ?_
    · exact h3
    exact (moves_claimAll).then (by decide) <| h3
  clear_value y4
  extract_lets +onlyGivenNames y6
  refine moves_cut (y := y6) ?_ fun h7 => ?_
  · unfold y6
    exact (moves_wr).then (by decide) <| h5
  clear_value y6
  extract_lets +onlyGivenNames y8
  refine moves_cut (y := y8) ?_ fun h9 => ?_
  · unfold y8
    refine moves_ite ?_ ?_
    · exact (moves_note).then (by decide) <| h7
    exact h7
  clear_value y8
  exact (moves_complete).then (by decide) <| h9

theorem moves_drillSees {x0 e} : Moves 475464764 e (drillSees x0 e) := by
  unfold drillSees
  split
  · rename_i z0 z1
    exact Moves.refl _ _
  · rename_i z2 z3 z4
    refine moves_ite ?_ ?_
    · exact (moves_endDrill).then (by decide) <| Moves.refl _ _
    exact moves_rfs (by decide) <| Moves.refl _ _

theorem moves_missRows {x0 e} : Moves 268698684 e (missRows x0 e) := by
  unfold missRows
  refine moves_each _ _ _ (fun x0 e1 => ?_) ?_
  · exact (moves_note).then (by decide) <| (moves_inc).then (by decide) <| Moves.refl _ _
  exact Moves.refl _ _

theorem moves_peakAge {x0 x1 x2 e} : Moves 475464764 e (peakAge x0 x1 x2 e) := by
  unfold peakAge
  extract_lets +onlyGivenNames y0
  refine moves_cut (y := y0) ?_ fun h1 => ?_
  · unfold y0
    exact (moves_drillSees).then (by decide) <| Moves.refl _ _
  clear_value y0
  extract_lets +onlyGivenNames y2
  clear_value y2
  refine moves_ite ?_ ?_
  · exact (moves_wrF).then (by decide) <| (moves_wrF).then (by decide) <| (moves_wrF).then (by decide) <| h1
  exact h1

theorem moves_allWritten {x0 e} : Moves 475464764 e (allWritten x0 e) := by
  unfold allWritten
  exact (moves_missRows).then (by decide) <| (moves_peakAge).then (by decide) <| Moves.refl _ _

theorem moves_sluiceAges {x0 e} : Moves 475464764 e (sluiceAges x0 e) := by
  unfold sluiceAges
  refine moves_ite ?_ ?_
  · exact Moves.refl _ _
  extract_lets +onlyGivenNames y0 y1
  clear_value y0 y1
  extract_lets +onlyGivenNames y2
  refine moves_cut (y := y2) ?_ fun h3 => ?_
  · unfold y2
    refine moves_each _ _ _ (fun x4 e5 => ?_) ?_
    · exact (moves_allWritten).then (by decide) <| Moves.refl _ _
    exact Moves.refl _ _
  clear_value y2
  refine moves_each _ _ _ (fun x6 e7 => ?_) ?_
  · extract_lets +onlyGivenNames y8
    clear_value y8
    refine moves_ite ?_ ?_
    · exact Moves.refl _ _
    extract_lets +onlyGivenNames y9
    clear_value y9
    refine moves_ite ?_ ?_
    · exact Moves.refl _ _
    extract_lets +onlyGivenNames y10
    clear_value y10
    exact (moves_missRows).then (by decide) <| (moves_peakAge).then (by decide) <| Moves.refl _ _
  exact h3

theorem moves_startPass {x0 x1 x2 x3 x4 e} : Moves 475464764 e (startPass x0 x1 x2 x3 x4 e) := by
  unfold startPass
  extract_lets +onlyGivenNames y0 y1 y2 y3 y4
  clear_value y0 y1 y2 y3 y4
  exact (moves_missRows).then (by decide) <| (moves_peakAge).then (by decide) <| (moves_updAper).then (by decide) <| Moves.refl _ _

theorem moves_repairWord {x0 x1 e} : Moves 475464764 e (repairWord x0 x1 e) := by
  unfold repairWord
  extract_lets +onlyGivenNames y0 y1 y2 y3 y4
  clear_value y0 y1 y2 y3 y4
  extract_lets +onlyGivenNames y5
  refine moves_cut (y := y5) ?_ fun h6 => ?_
  · unfold y5
    exact (moves_missRows).then (by decide) <| (moves_peakAge).then (by decide) <| Moves.refl _ _
  clear_value y5
  refine moves_ite ?_ ?_
  · exact (moves_writeRow).then (by decide) <| h6
  refine moves_ite ?_ ?_
  · exact (moves_writeRow).then (by decide) <| h6
  exact (moves_writeRow).then (by decide) <| h6

theorem moves_fsEvent {x0 x1 e} : Moves 475464764 e (fsEvent x0 x1 e) := by
  unfold fsEvent
  split
  · rename_i z0
    exact Moves.refl _ _
  · rename_i z1 z2
    refine moves_ite ?_ ?_
    · exact Moves.refl _ _
    exact (moves_inc).then (by decide) <| (moves_mark).then (by decide) <| (moves_noteTile).then (by decide) <| Moves.refl _ _
  · rename_i z3 z4
    refine moves_ite ?_ ?_
    · exact Moves.refl _ _
    exact (moves_repairWord).then (by decide) <| (moves_inc).then (by decide) <| (moves_mark).then (by decide) <| (moves_noteTile).then (by decide) <| Moves.refl _ _

theorem moves_fsEvents {x0 x1 e} : Moves 475464764 e (fsEvents x0 x1 e) := by
  unfold fsEvents
  refine moves_each _ _ _ (fun x0 e1 => ?_) ?_
  · exact (moves_fsEvent).then (by decide) <| Moves.refl _ _
  exact Moves.refl _ _

end Sys2Proof.Machine
end

