-- ==== Sys2Proof/Laws/MovesBrake.lean ====
section
/-! SUPPORT. What each operation of Machine/Brake.lean can do (`moves_f`). -/

namespace Sys2Proof.Machine

theorem moves_brakeNNow {x0 e} : Moves 536845372 e (brakeNNow x0 e) := by
  unfold brakeNNow
  refine moves_ite ?_ ?_
  · exact Moves.refl _ _
  extract_lets +onlyGivenNames y0
  clear_value y0
  extract_lets +onlyGivenNames y1
  refine moves_cut (y := y1) ?_ fun h2 => ?_
  · unfold y1
    exact moves_pins (by decide) <| Moves.refl _ _
  clear_value y1
  refine moves_ite ?_ ?_
  · exact (moves_pinBrake).then (by decide) <| h2
  exact h2

theorem acts_execBrakeN {x0 x1} : Acts 536845372 (execBrakeN x0 x1) x1 := by
  unfold execBrakeN
  refine Acts.mk fun e => ?_
  exact (moves_brakeNNow).then (by decide) <| Moves.refl _ _

theorem acts_execBrakeNRelease {x0} : Acts 1081344 (execBrakeNRelease x0) x0 := by
  unfold execBrakeNRelease
  refine Acts.mk fun e => ?_
  exact (moves_brakeOff).then (by decide) <| moves_pins (by decide) <| Moves.refl _ _

theorem moves_afterBrake {e} : Moves 536837181 e (afterBrake e) := by
  unfold afterBrake
  extract_lets +onlyGivenNames y0
  refine moves_cut (y := y0) ?_ fun h1 => ?_
  · unfold y0
    split
    · rename_i z2 z3 z4
      refine moves_ite ?_ ?_
      · exact (moves_enterSleep).then (by decide) <| Moves.refl _ _
      exact Moves.refl _ _
    · rename_i z5 z6
      exact Moves.refl _ _
  clear_value y0
  refine moves_ite ?_ ?_
  · exact (moves_enterCooldown).then (by decide) <| h1
  exact h1

theorem moves_brakeMap {x0 e} : Moves 270275644 e (brakeMap x0 e) := by
  unfold brakeMap
  split
  · rename_i z0 z1
    exact (moves_brakeEpoch).then (by decide) <| Moves.refl _ _
  · rename_i z2 z3 z4
    refine moves_ite ?_ ?_
    · exact (moves_brakeOff).then (by decide) <| (moves_brakeEpoch).then (by decide) <| moves_bkp (by decide) <| Moves.refl _ _
    exact moves_bkp (by decide) <| Moves.refl _ _

theorem moves_brakeSluice {x0 e} : Moves 475993148 e (brakeSluice x0 e) := by
  unfold brakeSluice
  extract_lets +onlyGivenNames y0
  clear_value y0
  refine (moves_updStation).then (by decide) <| (moves_mapStep (by decide) (fun e1 => ?_)).then (Nat.or_self _) ?_
  · exact (moves_brakeMap).then (by decide) <| (moves_zeroArray).then (by decide) <| (moves_sluiceAges).then (by decide) <| Moves.refl _ _
  exact (moves_inc).then (by decide) <| Moves.refl _ _

theorem moves_brakeInstant {x0 e} : Moves 82177 e (brakeInstant x0 e) := by
  unfold brakeInstant
  extract_lets +onlyGivenNames y0
  clear_value y0
  exact (moves_waitClk).then (by decide) <| (moves_snapBefore).then (by decide) <| Moves.refl _ _

theorem moves_brakeSluiceNow {e} : Moves 536837437 e (brakeSluiceNow e) := by
  unfold brakeSluiceNow
  refine moves_ite ?_ ?_
  · exact (moves_afterBrake).then (by decide) <| (moves_brakeSluice).then (by decide) <| (moves_brakeInstant).then (by decide) <| Moves.refl _ _
  exact Moves.refl _ _

theorem acts_execBrakeSluice {x0} : Acts 536837437 (execBrakeSluice x0) x0 := by
  unfold execBrakeSluice
  refine Acts.mk fun e => ?_
  exact (moves_brakeSluiceNow).then (by decide) <| Moves.refl _ _

theorem moves_brakeFailTile {x0 e} : Moves 268698684 e (brakeFailTile x0 e) := by
  unfold brakeFailTile
  exact (moves_mark).then (by decide) <| (moves_setLive).then (by decide) <| (moves_noteTile).then (by decide) <| Moves.refl _ _

theorem moves_brakeFailNow {x0 e} : Moves 536829245 e (brakeFailNow x0 e) := by
  unfold brakeFailNow
  extract_lets +onlyGivenNames y0
  clear_value y0
  refine moves_ite ?_ ?_
  · refine (moves_enterLockout).then (by decide) <| moves_each _ _ _ (fun x1 e2 => ?_) ?_
    · exact (moves_brakeFailTile).then (by decide) <| Moves.refl _ _
    exact (moves_brakeSluice).then (by decide) <| (moves_brakeInstant).then (by decide) <| Moves.refl _ _
  exact Moves.refl _ _

theorem acts_execBrakeFail {x0 x1} : Acts 536829245 (execBrakeFail x0 x1) x1 := by
  unfold execBrakeFail
  refine Acts.mk fun e => ?_
  exact (moves_brakeFailNow).then (by decide) <| Moves.refl _ _

theorem moves_settleBrake {e} : Moves 1064961 e (settleBrake e) := by
  unfold settleBrake
  refine moves_ite ?_ ?_
  · extract_lets +onlyGivenNames y0
    refine moves_cut (y := y0) ?_ fun h1 => ?_
    · unfold y0
      exact (moves_waitClk).then (by decide) <| Moves.refl _ _
    clear_value y0
    exact moves_bkp (by decide) <| h1
  exact Moves.refl _ _

theorem acts_execBrakeRelease {x0} : Acts 1064961 (execBrakeRelease x0) x0 := by
  unfold execBrakeRelease
  refine Acts.mk fun e => ?_
  exact (moves_settleBrake).then (by decide) <| Moves.refl _ _

theorem moves_spanApply {x0 x1 e} : Moves 532618300 e (spanApply x0 x1 e) := by
  unfold spanApply
  extract_lets +onlyGivenNames y0
  clear_value y0
  refine moves_ite ?_ ?_
  · exact Moves.refl _ _
  refine moves_ite ?_ ?_
  · exact (moves_note).then (by decide) <| Moves.refl _ _
  refine moves_ite ?_ ?_
  · exact (moves_note).then (by decide) <| Moves.refl _ _
  extract_lets +onlyGivenNames y1
  refine moves_cut (y := y1) ?_ fun h2 => ?_
  · unfold y1
    exact (moves_wrF).then (by decide) <| Moves.refl _ _
  clear_value y1
  refine moves_ite ?_ ?_
  · exact h2
  extract_lets +onlyGivenNames y3
  refine moves_cut (y := y3) ?_ fun h4 => ?_
  · unfold y3
    exact (moves_releaseDue).then (by decide) <| h2
  clear_value y3
  extract_lets +onlyGivenNames y5
  clear_value y5
  exact (moves_trigger).then (by decide) <| moves_bkp (by decide) <| h4

theorem moves_circuitRec {x0 x1 e} : Moves 268698684 e (circuitRec x0 x1 e).1 := by
  unfold circuitRec
  extract_lets +onlyGivenNames y0
  clear_value y0
  split
  · rename_i z1 z2
    exact moves_mk1 <| Moves.refl _ _
  · rename_i z3 z4
    exact moves_mk1 <| (moves_aimCrc).then (by decide) <| Moves.refl _ _
  · rename_i z5 z6
    exact moves_mk1 <| Moves.refl _ _

theorem moves_resynthOne {x0 e} : Moves 268698684 e (resynthOne x0 e).1 := by
  unfold resynthOne
  split
  · rename_i z0 z1 z2
    refine moves_ite1 ?_ ?_
    · extract_lets +onlyGivenNames y3
      refine moves_cut (y := y3.1) ?_ fun h4 => ?_
      · unfold y3
        exact (moves_ownRec).then (by decide) <| Moves.refl _ _
      clear_value y3
      exact moves_mk1 <| h4
    extract_lets +onlyGivenNames y5
    refine moves_cut (y := y5.1) ?_ fun h6 => ?_
    · unfold y5
      exact (moves_circuitRec).then (by decide) <| Moves.refl _ _
    clear_value y5
    extract_lets +onlyGivenNames y7
    clear_value y7
    split
    · rename_i z8 z9 z10
      refine moves_ite1 ?_ ?_
      · exact moves_mk1 <| h6
      extract_lets +onlyGivenNames y11
      refine moves_cut (y := y11.1) ?_ fun h12 => ?_
      · unfold y11
        exact (moves_ownRec).then (by decide) <| h6
      clear_value y11
      exact moves_mk1 <| h12
    · rename_i z13 z14
      extract_lets +onlyGivenNames y15
      refine moves_cut (y := y15.1) ?_ fun h16 => ?_
      · unfold y15
        exact (moves_ownRec).then (by decide) <| h6
      clear_value y15
      exact moves_mk1 <| h16
  · rename_i z17 z18
    extract_lets +onlyGivenNames y19
    refine moves_cut (y := y19.1) ?_ fun h20 => ?_
    · unfold y19
      exact (moves_ownRec).then (by decide) <| Moves.refl _ _
    clear_value y19
    exact moves_mk1 <| h20

theorem moves_resynthAll {x0 e} : Moves 268698684 e (resynthAll x0 e).1 := by
  induction x0 generalizing e
  · rw [resynthAll]
    exact moves_mk1 <| Moves.refl _ _
  · rename_i m0 m1 ih
    rw [resynthAll]
    exact moves_mk1 <| ih.then (Nat.or_self _) <| (moves_resynthOne).then (by decide) <| Moves.refl _ _

theorem moves_resynthStart {e} : Moves 270287933 e (resynthStart e) := by
  unfold resynthStart
  split
  · rename_i z0 z1
    exact Moves.refl _ _
  · rename_i z2 z3 z4
    refine moves_ite ?_ ?_
    · exact Moves.refl _ _
    extract_lets +onlyGivenNames y5
    refine moves_cut (y := y5) ?_ fun h6 => ?_
    · unfold y5
      exact (moves_brakeOff).then (by decide) <| (moves_waitClk).then (by decide) <| Moves.refl _ _
    clear_value y5
    extract_lets +onlyGivenNames y7
    clear_value y7
    extract_lets +onlyGivenNames y8
    refine moves_cut (y := y8) ?_ fun h9 => ?_
    · unfold y8
      refine moves_ite ?_ ?_
      · exact moves_bkp (by decide) <| h6
      exact h6
    clear_value y8
    extract_lets +onlyGivenNames y10
    refine moves_cut (y := y10.1) ?_ fun h11 => ?_
    · unfold y10
      exact (moves_resynthAll).then (by decide) <| h9
    clear_value y10
    extract_lets +onlyGivenNames y12
    clear_value y12
    exact (moves_addJob).then (by decide) <| h11

theorem acts_execResynthesisStart {x0} : Acts 270287933 (execResynthesisStart x0) x0 := by
  unfold execResynthesisStart
  refine Acts.mk fun e => ?_
  exact (moves_resynthStart).then (by decide) <| Moves.refl _ _

theorem moves_beginMarch {x0 x1 e} : Moves 1048604 e (beginMarch x0 x1 e) := by
  unfold beginMarch
  extract_lets +onlyGivenNames y0 y1
  clear_value y0 y1
  extract_lets +onlyGivenNames y2
  refine moves_cut (y := y2) ?_ fun h3 => ?_
  · unfold y2
    exact (moves_wr).then (by decide) <| (moves_wrF).then (by decide) <| (moves_wr).then (by decide) <| Moves.refl _ _
  clear_value y2
  exact moves_bkp (by decide) <| h3

theorem moves_marchGo {e} : Moves 1048604 e (marchGo e) := by
  unfold marchGo
  refine moves_ite ?_ ?_
  · exact Moves.refl _ _
  extract_lets +onlyGivenNames y0
  clear_value y0
  refine moves_ite ?_ ?_
  · exact (moves_wrF).then (by decide) <| (moves_wrF).then (by decide) <| Moves.refl _ _
  exact (moves_beginMarch).then (by decide) <| (moves_wrF).then (by decide) <| Moves.refl _ _

theorem moves_firstFail {x0 x1 e} : Moves 28 e (firstFail x0 x1 e) := by
  unfold firstFail
  extract_lets +onlyGivenNames y0
  clear_value y0
  exact (moves_wr).then (by decide) <| (moves_wr).then (by decide) <| Moves.refl _ _

theorem moves_addFails {x0 x1 e} : Moves 1048576 e (addFails x0 x1 e) := by
  unfold addFails
  exact (moves_updAper).then (by decide) <| Moves.refl _ _

theorem moves_marchResults {x0 x1 e} : Moves 1048606 e (marchResults x0 x1 e) := by
  unfold marchResults
  extract_lets +onlyGivenNames y0 y1 y2 y3 y4
  clear_value y0 y1 y2 y3 y4
  extract_lets +onlyGivenNames y5
  refine moves_cut (y := y5) ?_ fun h6 => ?_
  · unfold y5
    refine moves_each _ _ _ (fun x7 e8 => ?_) ?_
    · exact (moves_addFails).then (by decide) <| Moves.refl _ _
    refine moves_each _ _ _ (fun x9 e10 => ?_) ?_
    · exact (moves_addFails).then (by decide) <| Moves.refl _ _
    exact Moves.refl _ _
  clear_value y5
  extract_lets +onlyGivenNames y11
  refine moves_cut (y := y11) ?_ fun h12 => ?_
  · unfold y11
    split
    · rename_i z13 z14 z15
      exact (moves_firstFail).then (by decide) <| h6
    · rename_i z16
      exact h6
  clear_value y11
  extract_lets +onlyGivenNames y17
  refine moves_cut (y := y17) ?_ fun h18 => ?_
  · unfold y17
    refine moves_whenE _ _ (fun e19 => ?_) ?_
    · exact (moves_useFree).then (by decide) <| Moves.refl _ _
    exact h12
  clear_value y17
  exact (moves_wr).then (by decide) <| (moves_wr).then (by decide) <| h18

theorem moves_bistMarch {e} : Moves 2048 e (bistMarch e) := by
  unfold bistMarch
  refine moves_ite ?_ ?_
  · extract_lets +onlyGivenNames y0
    clear_value y0
    exact moves_sys (by decide) rfl <| Moves.refl _ _
  exact Moves.refl _ _

theorem moves_marchEndNow {x0 e} : Moves 532634687 e (marchEndNow x0 e) := by
  unfold marchEndNow
  split
  · rename_i z0 z1
    exact Moves.refl _ _
  · rename_i z2 z3 z4
    extract_lets +onlyGivenNames y5
    refine moves_cut (y := y5) ?_ fun h6 => ?_
    · unfold y5
      exact (moves_haltMarch).then (by decide) <| (moves_waitClk).then (by decide) <| Moves.refl _ _
    clear_value y5
    refine (moves_testBrake).then (by decide) <| moves_whenE _ _ (fun e7 => ?_) ?_
    · exact (moves_bistMarch).then (by decide) <| Moves.refl _ _
    exact (moves_wrF).then (by decide) <| (moves_marchResults).then (by decide) <| h6

theorem acts_execMarchEnd {x0 x1} : Acts 532634687 (execMarchEnd x0 x1) x1 := by
  unfold execMarchEnd
  refine Acts.mk fun e => ?_
  exact (moves_marchEndNow).then (by decide) <| Moves.refl _ _

theorem moves_bistGo {x0 x1 e} : Moves 1050652 e (bistGo x0 x1 e) := by
  unfold bistGo
  extract_lets +onlyGivenNames y0
  refine moves_cut (y := y0) ?_ fun h1 => ?_
  · unfold y0
    refine moves_whenE _ _ (fun e2 => ?_) ?_
    · exact (moves_beginMarch).then (by decide) <| Moves.refl _ _
    exact Moves.refl _ _
  clear_value y0
  extract_lets +onlyGivenNames y3
  clear_value y3
  exact moves_sys (by decide) rfl <| h1

theorem moves_bistBody {x0 x1 e} : Moves 471272508 e (bistBody x0 x1 e) := by
  unfold bistBody
  refine moves_ite ?_ ?_
  · exact (moves_complete).then (by decide) <| Moves.refl _ _
  refine moves_ite ?_ ?_
  · exact (moves_complete).then (by decide) <| Moves.refl _ _
  exact (moves_bistGo).then (by decide) <| Moves.refl _ _

theorem moves_goBistRun {x0 x1 e} : Moves 471272508 e (goBistRun x0 x1 e) := by
  unfold goBistRun
  refine (moves_runCmd (by decide) (fun e0 => ?_)).then (Nat.or_self _) ?_
  · exact (moves_bistBody).then (by decide) <| Moves.refl _ _
  exact Moves.refl _ _

theorem acts_execBistRun {x0 x1 x2} : Acts 471272508 (execBistRun x0 x1 x2) x2 := by
  unfold execBistRun
  refine Acts.mk fun e => ?_
  refine (moves_arrive (by decide) (fun e0 => ?_)).then (Nat.or_self _) ?_
  · exact (moves_goBistRun).then (by decide) <| Moves.refl _ _
  exact Moves.refl _ _

theorem moves_bistDone {x0 x1 x2 e} : Moves 470223932 e (bistDone x0 x1 x2 e) := by
  unfold bistDone
  extract_lets +onlyGivenNames y0
  extract_lets +onlyGivenNames y1
  refine moves_cut (y := y1) ?_ fun h2 => ?_
  · unfold y1
    exact moves_sys (by decide) rfl <| Moves.refl _ _
  clear_value y1
  extract_lets +onlyGivenNames y3
  clear_value y3
  extract_lets +onlyGivenNames y4
  refine moves_cut (y := y4) ?_ fun h5 => ?_
  · unfold y4
    refine moves_ite ?_ ?_
    · exact (moves_note).then (by decide) <| h2
    exact h2
  clear_value y4
  exact (moves_complete).then (by decide) <| h5

theorem moves_bistEndNow {x0 x1 e} : Moves 532634687 e (bistEndNow x0 x1 e) := by
  unfold bistEndNow
  split
  · rename_i z0 z1
    exact Moves.refl _ _
  · rename_i z2 z3 z4
    extract_lets +onlyGivenNames y5
    refine moves_cut (y := y5) ?_ fun h6 => ?_
    · unfold y5
      refine moves_whenE _ _ (fun e7 => ?_) ?_
      · exact (moves_marchEndNow).then (by decide) <| Moves.refl _ _
      exact Moves.refl _ _
    clear_value y5
    extract_lets +onlyGivenNames y8
    refine moves_cut (y := y8) ?_ fun h9 => ?_
    · unfold y8
      exact (moves_waitClk).then (by decide) <| h6
    clear_value y8
    exact (moves_bistDone).then (by decide) <| h9

theorem acts_execBistEnd {x0 x1 x2} : Acts 532634687 (execBistEnd x0 x1 x2) x2 := by
  unfold execBistEnd
  refine Acts.mk fun e => ?_
  exact (moves_bistEndNow).then (by decide) <| Moves.refl _ _

theorem moves_shortNow {x0 x1 e} : Moves 269747260 e (shortNow x0 x1 e) := by
  unfold shortNow
  refine moves_ite ?_ ?_
  · exact Moves.refl _ _
  extract_lets +onlyGivenNames y0
  clear_value y0
  extract_lets +onlyGivenNames y1
  refine moves_cut (y := y1) ?_ fun h2 => ?_
  · unfold y1
    exact (moves_updAper).then (by decide) <| Moves.refl _ _
  clear_value y1
  exact (moves_inc).then (by decide) <| (moves_noteTile).then (by decide) <| h2

theorem acts_execShort {x0 x1 x2} : Acts 269747260 (execShort x0 x1 x2) x2 := by
  unfold execShort
  refine Acts.mk fun e => ?_
  exact (moves_shortNow).then (by decide) <| Moves.refl _ _

theorem moves_shortRetry {x0 e} : Moves 1048576 e (shortRetry x0 e) := by
  unfold shortRetry
  refine moves_each _ _ _ (fun x0 e1 => ?_) ?_
  · exact (moves_updAper).then (by decide) <| Moves.refl _ _
  exact Moves.refl _ _

theorem moves_tileReset {x0 e} : Moves 26214428 e (tileReset x0 e) := by
  unfold tileReset
  refine moves_ite ?_ ?_
  · exact Moves.refl _ _
  extract_lets +onlyGivenNames y0
  refine moves_cut (y := y0) ?_ fun h1 => ?_
  · unfold y0
    exact (moves_marchEv).then (by decide) <| (moves_setLive).then (by decide) <| Moves.refl _ _
  clear_value y0
  extract_lets +onlyGivenNames y2
  refine moves_cut (y := y2) ?_ fun h3 => ?_
  · unfold y2
    exact (moves_updTile).then (by decide) <| h1
  clear_value y2
  refine moves_each _ _ _ (fun x4 e5 => ?_) ?_
  · extract_lets +onlyGivenNames y6
    clear_value y6
    exact (moves_updSens).then (by decide) <| (moves_updLoop).then (by decide) <| (moves_updAper).then (by decide) <| (moves_dropPass).then (by decide) <| (moves_disarm).then (by decide) <| Moves.refl _ _
  exact h3

theorem moves_tileCtlApply {x0 x1 e} : Moves 26214428 e (tileCtlApply x0 x1 e) := by
  unfold tileCtlApply
  extract_lets +onlyGivenNames y0
  refine moves_cut (y := y0) ?_ fun h1 => ?_
  · unfold y0
    refine moves_ite ?_ ?_
    · exact (moves_shortRetry).then (by decide) <| Moves.refl _ _
    exact Moves.refl _ _
  clear_value y0
  refine moves_ite ?_ ?_
  · exact (moves_tileReset).then (by decide) <| h1
  exact h1

end Sys2Proof.Machine
end

