-- ==== Sys2Proof/Laws/MovesArm.lean ====
section
/-! SUPPORT. What each operation of Machine/Arm.lean can do (`moves_f`). -/

namespace Sys2Proof.Machine

theorem moves_residueEvent {x0 e} : Moves 268698684 e (residueEvent x0 e) := by
  unfold residueEvent
  exact (moves_inc).then (by decide) <| (moves_mark).then (by decide) <| (moves_noteTile).then (by decide) <| Moves.refl _ _

theorem moves_residues {x0 x1 e} : Moves 488578108 e (residues x0 x1 e) := by
  unfold residues
  extract_lets +onlyGivenNames y0
  refine moves_cut (y := y0) ?_ fun h1 => ?_
  · unfold y0
    refine moves_each _ _ _ (fun x2 e3 => ?_) ?_
    · exact (moves_residueEvent).then (by decide) <| Moves.refl _ _
    exact Moves.refl _ _
  clear_value y0
  refine moves_ite ?_ ?_
  · exact (moves_freezeEvent).then (by decide) <| (moves_residueEvent).then (by decide) <| h1
  exact h1

theorem moves_residueAt {x0 x1 x2 e} : Moves 488594493 e (residueAt x0 x1 x2 e) := by
  unfold residueAt
  refine (moves_residues).then (by decide) <| ?_
  split
  · rename_i z0 z1 z2
    exact (moves_waitClk).then (by decide) <| Moves.refl _ _
  · rename_i z3 z4
    exact Moves.refl _ _

theorem moves_coarseArm {x0 e} : Moves 268698684 e (coarseArm x0 e) := by
  unfold coarseArm
  refine moves_ite ?_ ?_
  · exact (moves_note).then (by decide) <| (moves_inc).then (by decide) <| Moves.refl _ _
  exact Moves.refl _ _

theorem moves_armAper {x0 x1 x2 x3 x4 x5 e} : Moves 488578108 e (armAper x0 x1 x2 x3 x4 x5 e) := by
  unfold armAper
  refine moves_ite ?_ ?_
  · exact Moves.refl _ _
  extract_lets +onlyGivenNames y0 y1 y2 y3
  clear_value y0 y1 y2 y3
  extract_lets +onlyGivenNames y4
  refine moves_cut (y := y4) ?_ fun h5 => ?_
  · unfold y4
    exact (moves_updAper).then (by decide) <| (moves_coarseArm).then (by decide) <| Moves.refl _ _
  clear_value y4
  exact (moves_residues).then (by decide) <| h5

theorem moves_armNow {x0 x1 e} : Moves 488594493 e (armNow x0 x1 e) := by
  unfold armNow
  extract_lets +onlyGivenNames y0
  refine moves_cut (y := y0) ?_ fun h1 => ?_
  · unfold y0
    exact (moves_settleBrake).then (by decide) <| Moves.refl _ _
  clear_value y0
  split
  · rename_i z2 z3
    exact h1
  · rename_i z4 z5 z6
    refine moves_ite ?_ ?_
    · exact h1
    extract_lets +onlyGivenNames y7
    refine moves_cut (y := y7) ?_ fun h8 => ?_
    · unfold y7
      exact (moves_waitD).then (by decide) <| h1
    clear_value y7
    extract_lets +onlyGivenNames y9
    clear_value y9
    extract_lets +onlyGivenNames y10
    refine moves_cut (y := y10) ?_ fun h11 => ?_
    · unfold y10
      exact (moves_updJob).then (by decide) <| h8
    clear_value y10
    extract_lets +onlyGivenNames y12
    refine moves_cut (y := y12) ?_ fun h13 => ?_
    · unfold y12
      split
      · rename_i z14 z15 z16
        exact (moves_updTxn).then (by decide) <| h11
      · rename_i z17 z18
        exact h11
    clear_value y12
    refine moves_each _ _ _ (fun x19 e20 => ?_) ?_
    · exact (moves_armAper).then (by decide) <| Moves.refl _ _
    exact h13

theorem acts_execArm {x0 x1 x2} : Acts 488594493 (execArm x0 x1 x2) x2 := by
  unfold execArm
  refine Acts.mk fun e => ?_
  exact (moves_armNow).then (by decide) <| Moves.refl _ _

theorem moves_armDone {x0 e} : Moves 1064961 e (armDone x0 e) := by
  unfold armDone
  refine moves_ite ?_ ?_
  · exact (moves_updAper).then (by decide) <| (moves_waitClk).then (by decide) <| Moves.refl _ _
  exact Moves.refl _ _

theorem acts_execArmComplete {x0 x1} : Acts 1064961 (execArmComplete x0 x1) x1 := by
  unfold execArmComplete
  refine Acts.mk fun e => ?_
  exact (moves_armDone).then (by decide) <| Moves.refl _ _

theorem moves_checkNow {x0 e} : Moves 471817277 e (checkNow x0 e) := by
  unfold checkNow
  split
  · rename_i z0 z1
    exact Moves.refl _ _
  · rename_i z2 z3 z4
    split
    · rename_i z5 z6
      exact Moves.refl _ _
    · rename_i z7 z8 z9
      refine moves_ite ?_ ?_
      · exact Moves.refl _ _
      extract_lets +onlyGivenNames y10
      refine moves_cut (y := y10) ?_ fun h11 => ?_
      · unfold y10
        exact (moves_waitD).then (by decide) <| Moves.refl _ _
      clear_value y10
      extract_lets +onlyGivenNames y12
      refine moves_cut (y := y12) ?_ fun h13 => ?_
      · unfold y12
        exact (moves_updJob).then (by decide) <| h11
      clear_value y12
      split
      · rename_i z14 z15
        exact h13
      · rename_i z16 z17 z18
        refine moves_ite ?_ ?_
        · exact (moves_failTxn).then (by decide) <| h11
        refine moves_ite ?_ ?_
        · exact (moves_failTxn).then (by decide) <| h11
        exact (moves_updTxn).then (by decide) <| h13
      · rename_i z19 z20 z21
        refine moves_ite ?_ ?_
        · exact (moves_loseJob).then (by decide) <| h11
        exact h13

end Sys2Proof.Machine
end

