-- ==== Sys2Proof/Laws/MovesCalib.lean ====
section
/-! SUPPORT. What each operation of Machine/Calib.lean can do (`moves_f`). -/

namespace Sys2Proof.Machine

theorem moves_surveyPark {x0 p} : Moves 268698684 p.1 (surveyPark x0 p).1 := by
  unfold surveyPark
  refine moves_ite1 ?_ ?_
  · exact Moves.refl _ _
  extract_lets +onlyGivenNames y0
  refine moves_cut (y := y0.1) ?_ fun h1 => ?_
  · unfold y0
    exact (moves_ownRec).then (by decide) <| Moves.refl _ _
  clear_value y0
  exact moves_mk1 <| h1

theorem moves_surveyPair {p x1} : Moves 268698684 p.1 (surveyPair p x1).1 := by
  unfold surveyPair
  extract_lets +onlyGivenNames y0 y1 y2 y3
  clear_value y0 y1 y2 y3
  refine moves_ite1 ?_ ?_
  · exact moves_mk1 <| Moves.refl _ _
  extract_lets +onlyGivenNames y4
  refine moves_cut (y := y4) ?_ fun h5 => ?_
  · unfold y4
    refine moves_whenE _ _ (fun e6 => ?_) ?_
    · exact (moves_aimCrc).then (by decide) <| Moves.refl _ _
    refine moves_whenE _ _ (fun e7 => ?_) ?_
    · exact (moves_aimCrc).then (by decide) <| Moves.refl _ _
    exact Moves.refl _ _
  clear_value y4
  exact (moves_surveyPark).then (by decide) <| (moves_surveyPark).then (by decide) <| moves_mk1 <| h5

theorem moves_surveyJob {x0 x1 x2 e} : Moves 269222972 e (surveyJob x0 x1 x2 e) := by
  unfold surveyJob
  extract_lets +onlyGivenNames y0
  refine moves_cut (y := y0.1) ?_ fun h1 => ?_
  · unfold y0
    refine moves_ite1 ?_ ?_
    · refine moves_foldl1 _ _ _ (fun e3 x2 => ?_) ?_
      · refine moves_ite1 ?_ ?_
        · exact Moves.refl _ _
        extract_lets +onlyGivenNames y4
        refine moves_cut (y := y4.1) ?_ fun h5 => ?_
        · unfold y4
          exact (moves_ownRec).then (by decide) <| Moves.refl _ _
        clear_value y4
        exact moves_mk1 <| h5
      exact moves_mk1 <| Moves.refl _ _
    refine moves_foldl1 _ _ _ (fun e7 x6 => ?_) ?_
    · exact (moves_surveyPair).then (by decide) <| Moves.refl _ _
    exact moves_mk1 <| Moves.refl _ _
  clear_value y0
  exact (moves_addJob).then (by decide) <| h1

theorem moves_calSurveyBody {x0 x1 e} : Moves 472843324 e (calSurveyBody x0 x1 e) := by
  unfold calSurveyBody
  extract_lets +onlyGivenNames y0
  clear_value y0
  refine moves_ite ?_ ?_
  · exact (moves_complete).then (by decide) <| Moves.refl _ _
  refine moves_ite ?_ ?_
  · exact (moves_complete).then (by decide) <| Moves.refl _ _
  extract_lets +onlyGivenNames y1 y2
  clear_value y1 y2
  extract_lets +onlyGivenNames y3
  refine moves_cut (y := y3) ?_ fun h4 => ?_
  · unfold y3
    exact moves_syn (by decide) <| Moves.refl _ _
  clear_value y3
  extract_lets +onlyGivenNames y5
  refine moves_cut (y := y5) ?_ fun h6 => ?_
  · unfold y5
    exact (moves_wr).then (by decide) <| (moves_wr).then (by decide) <| (moves_wr).then (by decide) <| h4
  clear_value y5
  exact (moves_surveyJob).then (by decide) <| h6

theorem moves_goCalSurvey {x0 x1 e} : Moves 472843324 e (goCalSurvey x0 x1 e) := by
  unfold goCalSurvey
  refine (moves_runCmd (by decide) (fun e0 => ?_)).then (Nat.or_self _) ?_
  · exact (moves_calSurveyBody).then (by decide) <| Moves.refl _ _
  exact Moves.refl _ _

theorem acts_execCalSurvey {x0 x1 x2} : Acts 472843324 (execCalSurvey x0 x1 x2) x2 := by
  unfold execCalSurvey
  refine Acts.mk fun e => ?_
  refine (moves_arrive (by decide) (fun e0 => ?_)).then (Nat.or_self _) ?_
  · exact (moves_goCalSurvey).then (by decide) <| Moves.refl _ _
  exact Moves.refl _ _

theorem moves_storedInterp {x0 e} : Moves 268698686 e (storedInterp x0 e).1 := by
  unfold storedInterp
  extract_lets +onlyGivenNames y0 y1 y2
  clear_value y0 y1 y2
  refine moves_ite1 ?_ ?_
  · exact moves_mk1 <| Moves.refl _ _
  extract_lets +onlyGivenNames y3
  refine moves_cut (y := y3) ?_ fun h4 => ?_
  · unfold y3
    refine moves_whenE _ _ (fun e5 => ?_) ?_
    · exact (moves_aimCrc).then (by decide) <| Moves.refl _ _
    refine moves_whenE _ _ (fun e6 => ?_) ?_
    · exact (moves_aimCrc).then (by decide) <| Moves.refl _ _
    exact Moves.refl _ _
  clear_value y3
  exact moves_mk1 <| (moves_useFree).then (by decide) <| (moves_useFree).then (by decide) <| h4

theorem moves_stageDir {x0 x1 x2 x3 x4 x5 x6 x7 e} : Moves 270795838 e (stageDir x0 x1 x2 x3 x4 x5 x6 x7 e) := by
  unfold stageDir
  extract_lets +onlyGivenNames y0
  clear_value y0
  extract_lets +onlyGivenNames y1
  refine moves_cut (y := y1.1) ?_ fun h2 => ?_
  · unfold y1
    exact (moves_storedInterp).then (by decide) <| Moves.refl _ _
  clear_value y1
  extract_lets +onlyGivenNames y3
  refine moves_cut (y := y3) ?_ fun h4 => ?_
  · unfold y3
    exact h2
  clear_value y3
  extract_lets +onlyGivenNames y5 y6 y7 y8 y9 y10 y11 y12
  clear_value y5 y6 y7 y8 y9 y10 y11 y12
  exact (moves_inc).then (by decide) <| moves_syn (by decide) <| h4

theorem moves_stageOne {x0 x1 x2 x3 x4 x5 e} : Moves 270795838 e (stageOne x0 x1 x2 x3 x4 x5 e) := by
  unfold stageOne
  extract_lets +onlyGivenNames y0
  clear_value y0
  exact (moves_stageDir).then (by decide) <| Moves.refl _ _

theorem moves_stageMeas {x0 x1 e} : Moves 270795838 e (stageMeas x0 x1 e) := by
  unfold stageMeas
  split
  · rename_i z0 z1
    exact Moves.refl _ _
  · rename_i z2 z3 z4
    extract_lets +onlyGivenNames y5
    clear_value y5
    exact (moves_stageOne).then (by decide) <| Moves.refl _ _

theorem moves_stageRound {x0 e} : Moves 270795838 e (stageRound x0 e) := by
  unfold stageRound
  extract_lets +onlyGivenNames y0
  refine moves_cut (y := y0) ?_ fun h1 => ?_
  · unfold y0
    refine moves_each _ _ _ (fun x2 e3 => ?_) ?_
    · exact (moves_stageMeas).then (by decide) <| (moves_stageMeas).then (by decide) <| Moves.refl _ _
    exact Moves.refl _ _
  clear_value y0
  exact (moves_wrF).then (by decide) <| h1

theorem moves_surveySluiced {x0 x1 x2 e} : Moves 271320126 e (surveySluiced x0 x1 x2 e) := by
  unfold surveySluiced
  split
  · rename_i z0 z1
    exact Moves.refl _ _
  · rename_i z2 z3 z4
    extract_lets +onlyGivenNames y5
    refine moves_cut (y := y5) ?_ fun h6 => ?_
    · unfold y5
      refine moves_ite ?_ ?_
      · exact (moves_stageRound).then (by decide) <| Moves.refl _ _
      exact Moves.refl _ _
    clear_value y5
    split
    · rename_i z7 z8
      exact h6
    · rename_i z9 z10 z11
      refine moves_ite ?_ ?_
      · exact moves_syn (by decide) <| h6
      extract_lets +onlyGivenNames y12
      clear_value y12
      extract_lets +onlyGivenNames y13
      refine moves_cut (y := y13) ?_ fun h14 => ?_
      · unfold y13
        exact moves_syn (by decide) <| h6
      clear_value y13
      extract_lets +onlyGivenNames y15
      clear_value y15
      refine moves_ite ?_ ?_
      · exact (moves_surveyJob).then (by decide) <| h14
      exact (moves_surveyJob).then (by decide) <| h14

theorem moves_surveySample {x0 x1 x2 x3 x4 e} : Moves 2097152 e (surveySample x0 x1 x2 x3 x4 e) := by
  unfold surveySample
  split
  · rename_i z0 z1
    exact Moves.refl _ _
  · rename_i z2 z3 z4
    refine moves_ite ?_ ?_
    · exact Moves.refl _ _
    extract_lets +onlyGivenNames y5 y6
    clear_value y5 y6
    exact moves_syn (by decide) <| Moves.refl _ _

theorem moves_stageStation {x0 e} : Moves 270795838 e (stageStation x0 e) := by
  unfold stageStation
  split
  · rename_i z0 z1
    exact Moves.refl _ _
  · rename_i z2 z3 z4
    extract_lets +onlyGivenNames y5 y6
    clear_value y5 y6
    exact (moves_stageOne).then (by decide) <| Moves.refl _ _

theorem moves_surveyEndNow {x0 e} : Moves 473908287 e (surveyEndNow x0 e) := by
  unfold surveyEndNow
  split
  · rename_i z0 z1
    exact Moves.refl _ _
  · rename_i z2 z3 z4
    refine moves_ite ?_ ?_
    · exact Moves.refl _ _
    refine (moves_endSurvey).then (by decide) <| moves_each _ _ _ (fun x5 e6 => ?_) ?_
    · exact (moves_stageStation).then (by decide) <| Moves.refl _ _
    exact (moves_waitD).then (by decide) <| Moves.refl _ _

theorem acts_execSurveyEnd {x0 x1} : Acts 473908287 (execSurveyEnd x0 x1) x1 := by
  unfold execSurveyEnd
  refine Acts.mk fun e => ?_
  exact (moves_surveyEndNow).then (by decide) <| Moves.refl _ _

theorem moves_aimDone {x0 x1 x2 e} : Moves 470221884 e (aimDone x0 x1 x2 e) := by
  unfold aimDone
  exact (moves_complete).then (by decide) <| (moves_note).then (by decide) <| Moves.refl _ _

theorem moves_aimUploadBody {x0 x1 e} : Moves 472319036 e (aimUploadBody x0 x1 e) := by
  unfold aimUploadBody
  refine moves_ite ?_ ?_
  · exact (moves_aimDone).then (by decide) <| Moves.refl _ _
  refine moves_ite ?_ ?_
  · exact (moves_aimDone).then (by decide) <| Moves.refl _ _
  exact (moves_openCmd).then (by decide) <| moves_syn (by decide) <| Moves.refl _ _

theorem moves_goAimUpload {x0 x1 e} : Moves 472319036 e (goAimUpload x0 x1 e) := by
  unfold goAimUpload
  refine (moves_runCmd (by decide) (fun e0 => ?_)).then (Nat.or_self _) ?_
  · exact (moves_aimUploadBody).then (by decide) <| Moves.refl _ _
  exact Moves.refl _ _

theorem acts_execAimUpload {x0 x1 x2} : Acts 472319036 (execAimUpload x0 x1 x2) x2 := by
  unfold execAimUpload
  refine Acts.mk fun e => ?_
  refine (moves_arrive (by decide) (fun e0 => ?_)).then (Nat.or_self _) ?_
  · exact (moves_goAimUpload).then (by decide) <| Moves.refl _ _
  exact Moves.refl _ _

theorem moves_stageAim {x0 x1 x2 e} : Moves 2097152 e (stageAim x0 x1 x2 e) := by
  unfold stageAim
  extract_lets +onlyGivenNames y0
  clear_value y0
  exact moves_syn (by decide) <| Moves.refl _ _

theorem moves_aimChunk {x0 x1 x2 x3 x4 e} : Moves 472319036 e (aimChunk x0 x1 x2 x3 x4 e).1 := by
  induction x2 generalizing x0 x1 x3 x4 e
  · rw [aimChunk]
    exact moves_mk1 <| Moves.refl _ _
  · rename_i m0 ih
    rw [aimChunk]
    refine moves_ite1 ?_ ?_
    · exact ih.then (Nat.or_self _) <| (moves_stageAim).then (by decide) <| Moves.refl _ _
    exact moves_mk1 <| (moves_aimDone).then (by decide) <| Moves.refl _ _

theorem moves_discardStage {x0 e} : Moves 10485760 e (discardStage x0 e) := by
  unfold discardStage
  refine moves_ite ?_ ?_
  · exact moves_syn (by decide) <| Moves.refl _ _
  refine moves_ite ?_ ?_
  · exact moves_syn (by decide) <| Moves.refl _ _
  exact moves_sns (by decide) <| Moves.refl _ _

theorem moves_commitCal {x0 x1 e} : Moves 8388608 e (commitCal x0 x1 e) := by
  unfold commitCal
  extract_lets +onlyGivenNames y0 y1
  clear_value y0 y1
  exact moves_sns (by decide) <| Moves.refl _ _

theorem moves_commitStage {x0 e} : Moves 10485760 e (commitStage x0 e) := by
  unfold commitStage
  refine moves_ite ?_ ?_
  · split
    · rename_i z0 z1
      exact Moves.refl _ _
    · rename_i z2 z3 z4 z5
      extract_lets +onlyGivenNames y6 y7 y8 y9
      clear_value y6 y7 y8 y9
      exact moves_syn (by decide) <| Moves.refl _ _
  refine moves_ite ?_ ?_
  · extract_lets +onlyGivenNames y10 y11
    clear_value y10 y11
    exact moves_syn (by decide) <| Moves.refl _ _
  refine moves_each _ _ _ (fun x12 e13 => ?_) ?_
  · exact (moves_commitCal).then (by decide) <| Moves.refl _ _
  exact Moves.refl _ _

theorem moves_calCommitBody {x0 x1 e} : Moves 480707644 e (calCommitBody x0 x1 e) := by
  unfold calCommitBody
  refine moves_ite ?_ ?_
  · exact (moves_complete).then (by decide) <| Moves.refl _ _
  refine moves_ite ?_ ?_
  · exact (moves_complete).then (by decide) <| Moves.refl _ _
  refine moves_ite ?_ ?_
  · exact (moves_complete).then (by decide) <| Moves.refl _ _
  refine moves_ite ?_ ?_
  · exact (moves_complete).then (by decide) <| (moves_discardStage).then (by decide) <| Moves.refl _ _
  extract_lets +onlyGivenNames y0
  refine moves_cut (y := y0) ?_ fun h1 => ?_
  · unfold y0
    exact (moves_discardStage).then (by decide) <| (moves_commitStage).then (by decide) <| Moves.refl _ _
  clear_value y0
  exact (moves_complete).then (by decide) <| moves_syn (by decide) <| h1

theorem moves_goCalCommit {x0 x1 e} : Moves 480707644 e (goCalCommit x0 x1 e) := by
  unfold goCalCommit
  refine (moves_runCmd (by decide) (fun e0 => ?_)).then (Nat.or_self _) ?_
  · exact (moves_calCommitBody).then (by decide) <| Moves.refl _ _
  exact Moves.refl _ _

theorem acts_execCalCommit {x0 x1 x2} : Acts 480707644 (execCalCommit x0 x1 x2) x2 := by
  unfold execCalCommit
  refine Acts.mk fun e => ?_
  refine (moves_arrive (by decide) (fun e0 => ?_)).then (Nat.or_self _) ?_
  · exact (moves_goCalCommit).then (by decide) <| Moves.refl _ _
  exact Moves.refl _ _

theorem moves_persistDone {x0 e} : Moves 270795836 e (persistDone x0 e) := by
  unfold persistDone
  split
  · rename_i z0 z1
    exact Moves.refl _ _
  · rename_i z2 z3 z4
    extract_lets +onlyGivenNames y5 y6
    clear_value y5 y6
    refine moves_ite ?_ ?_
    · exact moves_syn (by decide) <| Moves.refl _ _
    exact (moves_note).then (by decide) <| moves_syn (by decide) <| Moves.refl _ _

theorem acts_execCalPersistDone {x0 x1} : Acts 270795836 (execCalPersistDone x0 x1) x1 := by
  unfold execCalPersistDone
  refine Acts.mk fun e => ?_
  exact (moves_persistDone).then (by decide) <| Moves.refl _ _

theorem moves_calSensorBody {x0 x1 e} : Moves 478610492 e (calSensorBody x0 x1 e) := by
  unfold calSensorBody
  extract_lets +onlyGivenNames y0
  clear_value y0
  refine moves_ite ?_ ?_
  · exact (moves_complete).then (by decide) <| Moves.refl _ _
  refine moves_ite ?_ ?_
  · exact (moves_complete).then (by decide) <| Moves.refl _ _
  refine moves_ite ?_ ?_
  · exact (moves_complete).then (by decide) <| Moves.refl _ _
  refine moves_ite ?_ ?_
  · exact (moves_complete).then (by decide) <| Moves.refl _ _
  exact moves_sns (by decide) <| Moves.refl _ _

theorem moves_goCalSensor {x0 x1 e} : Moves 478610492 e (goCalSensor x0 x1 e) := by
  unfold goCalSensor
  refine (moves_runCmd (by decide) (fun e0 => ?_)).then (Nat.or_self _) ?_
  · exact (moves_calSensorBody).then (by decide) <| Moves.refl _ _
  exact Moves.refl _ _

theorem acts_execCalSensor {x0 x1 x2} : Acts 478610492 (execCalSensor x0 x1 x2) x2 := by
  unfold execCalSensor
  refine Acts.mk fun e => ?_
  refine (moves_arrive (by decide) (fun e0 => ?_)).then (Nat.or_self _) ?_
  · exact (moves_goCalSensor).then (by decide) <| Moves.refl _ _
  exact Moves.refl _ _

theorem moves_recordCal {x0 x1 x2 e} : Moves 277087292 e (recordCal x0 x1 x2 e) := by
  unfold recordCal
  extract_lets +onlyGivenNames y0 y1 y2 y3 y4
  clear_value y0 y1 y2 y3 y4
  extract_lets +onlyGivenNames y5
  refine moves_cut (y := y5) ?_ fun h6 => ?_
  · unfold y5
    exact moves_sns (by decide) <| Moves.refl _ _
  clear_value y5
  refine moves_ite ?_ ?_
  · exact (moves_note).then (by decide) <| h6
  extract_lets +onlyGivenNames y7 y8 y9
  clear_value y7 y8 y9
  exact moves_sns (by decide) <| h6

theorem moves_calSensorEndNow {x0 e} : Moves 478626877 e (calSensorEndNow x0 e) := by
  unfold calSensorEndNow
  split
  · rename_i z0 z1
    exact Moves.refl _ _
  · rename_i z2 z3 z4
    refine moves_ite ?_ ?_
    · exact Moves.refl _ _
    extract_lets +onlyGivenNames y5
    refine moves_cut (y := y5) ?_ fun h6 => ?_
    · unfold y5
      exact (moves_waitClk).then (by decide) <| Moves.refl _ _
    clear_value y5
    extract_lets +onlyGivenNames y7 y8
    clear_value y7 y8
    extract_lets +onlyGivenNames y9
    refine moves_cut (y := y9) ?_ fun h10 => ?_
    · unfold y9
      refine moves_each _ _ _ (fun x11 e12 => ?_) ?_
      · exact (moves_recordCal).then (by decide) <| Moves.refl _ _
      exact moves_sns (by decide) <| h6
    clear_value y9
    exact (moves_note).then (by decide) <| (moves_complete).then (by decide) <| h10

theorem acts_execCalSensorEnd {x0 x1} : Acts 478626877 (execCalSensorEnd x0 x1) x1 := by
  unfold execCalSensorEnd
  refine Acts.mk fun e => ?_
  exact (moves_calSensorEndNow).then (by decide) <| Moves.refl _ _

theorem moves_runPass {x0 x1 x2 x3 x4 x5 x6 e} : Moves 492788797 e (runPass x0 x1 x2 x3 x4 x5 x6 e) := by
  unfold runPass
  extract_lets +onlyGivenNames y0
  clear_value y0
  extract_lets +onlyGivenNames y1
  refine moves_cut (y := y1) ?_ fun h2 => ?_
  · unfold y1
    exact (moves_fsEvents).then (by decide) <| Moves.refl _ _
  clear_value y1
  extract_lets +onlyGivenNames y3 y4
  clear_value y3 y4
  exact (moves_residueAt).then (by decide) <| (moves_startPass).then (by decide) <| h2

theorem moves_repark {x0 x1 x2 e} : Moves 492788797 e (repark x0 x1 x2 e) := by
  unfold repark
  refine moves_ite ?_ ?_
  · exact (moves_updAper).then (by decide) <| Moves.refl _ _
  refine moves_ite ?_ ?_
  · exact (moves_updAper).then (by decide) <| Moves.refl _ _
  exact (moves_runPass).then (by decide) <| (moves_updAper).then (by decide) <| Moves.refl _ _

theorem moves_takeRecord {x0 x1 x2 e} : Moves 492788797 e (takeRecord x0 x1 x2 e) := by
  unfold takeRecord
  extract_lets +onlyGivenNames y0
  clear_value y0
  refine moves_ite ?_ ?_
  · exact Moves.refl _ _
  refine moves_ite ?_ ?_
  · exact (moves_repark).then (by decide) <| Moves.refl _ _
  extract_lets +onlyGivenNames y1 y2
  clear_value y1 y2
  exact (moves_updLoop).then (by decide) <| (moves_updAper).then (by decide) <| Moves.refl _ _

theorem moves_rebuildNow {x0 e} : Moves 494885949 e (rebuildNow x0 e) := by
  unfold rebuildNow
  refine moves_ite ?_ ?_
  · exact Moves.refl _ _
  extract_lets +onlyGivenNames y0 y1 y2
  clear_value y0 y1 y2
  extract_lets +onlyGivenNames y3
  refine moves_cut (y := y3) ?_ fun h4 => ?_
  · unfold y3
    refine moves_whenE _ _ (fun e5 => ?_) ?_
    · exact (moves_aimCrc).then (by decide) <| Moves.refl _ _
    refine moves_whenE _ _ (fun e6 => ?_) ?_
    · exact (moves_aimCrc).then (by decide) <| Moves.refl _ _
    exact Moves.refl _ _
  clear_value y3
  extract_lets +onlyGivenNames y7 y8
  clear_value y7 y8
  extract_lets +onlyGivenNames y9
  refine moves_cut (y := y9) ?_ fun h10 => ?_
  · unfold y9
    exact (moves_putEff).then (by decide) <| moves_syn (by decide) <| h4
  clear_value y9
  exact (moves_takeRecord).then (by decide) <| h10

theorem acts_execSweeperRebuild {x0 x1} : Acts 494885949 (execSweeperRebuild x0 x1) x1 := by
  unfold execSweeperRebuild
  refine Acts.mk fun e => ?_
  exact (moves_rebuildNow).then (by decide) <| Moves.refl _ _

theorem moves_startReloads {e} : Moves 1048576 e (startReloads e) := by
  unfold startReloads
  refine moves_each _ _ _ (fun x0 e1 => ?_) ?_
  · refine moves_ite ?_ ?_
    · exact Moves.refl _ _
    exact (moves_updTile).then (by decide) <| Moves.refl _ _
  exact Moves.refl _ _

theorem moves_wantReload {x0 x1 e} : Moves 269747260 e (wantReload x0 x1 e) := by
  unfold wantReload
  refine moves_ite ?_ ?_
  · exact (moves_note).then (by decide) <| (moves_updTile).then (by decide) <| Moves.refl _ _
  exact (moves_updTile).then (by decide) <| Moves.refl _ _

theorem moves_reloadDone {x0 e} : Moves 1048576 e (reloadDone x0 e) := by
  unfold reloadDone
  split
  · rename_i z0 z1
    exact Moves.refl _ _
  · rename_i z2 z3 z4
    exact (moves_updTile).then (by decide) <| Moves.refl _ _

theorem acts_execCacheReloadDone {x0 x1} : Acts 1048576 (execCacheReloadDone x0 x1) x1 := by
  unfold execCacheReloadDone
  refine Acts.mk fun e => ?_
  exact (moves_reloadDone).then (by decide) <| (moves_startReloads).then (by decide) <| Moves.refl _ _

end Sys2Proof.Machine
end

