-- ==== Sys2Proof/Laws/MovesServo.lean ====
section
/-! SUPPORT. What each operation of Machine/Servo.lean can do (`moves_f`). -/

namespace Sys2Proof.Machine

theorem moves_updSlotT {x0 x1 e} : Moves 16384 e (updSlotT x0 x1 e) := by
  unfold updSlotT
  refine moves_ite ?_ ?_
  · exact moves_tim (by decide) id <| Moves.refl _ _
  exact moves_tim (by decide) id <| Moves.refl _ _

theorem moves_reticks {x0 x1 e} : Moves 524544 e (reticks x0 x1 e) := by
  unfold reticks
  exact moves_eng_clk (m := 524544) rfl (by decide) (by intro p hp; cases p <;> first | rfl | exact absurd hp (by decide)) rfl rfl rfl rfl rfl rfl <| Moves.refl _ _

theorem moves_dStep {x0 e} : Moves 269239612 e (dStep x0 e) := by
  unfold dStep
  extract_lets +onlyGivenNames y0 y1 y2
  clear_value y0 y1 y2
  extract_lets +onlyGivenNames y3
  extract_lets +onlyGivenNames y4
  refine moves_cut (y := y4) ?_ fun h5 => ?_
  · unfold y4
    exact (moves_reticks).then (by decide) <| (moves_note).then (by decide) <| (moves_inc).then (by decide) <| moves_tim (by decide) id <| Moves.refl _ _
  clear_value y4
  refine moves_each _ _ _ (fun x6 e7 => ?_) ?_
  · exact (moves_note).then (by decide) <| (moves_inc).then (by decide) <| Moves.refl _ _
  exact h5

theorem moves_joinSlot {x0 e} : Moves 269239612 e (joinSlot x0 e) := by
  unfold joinSlot
  extract_lets +onlyGivenNames y0 y1
  clear_value y0 y1
  extract_lets +onlyGivenNames y2
  refine moves_cut (y := y2) ?_ fun h3 => ?_
  · unfold y2
    refine moves_ite ?_ ?_
    · exact Moves.refl _ _
    exact (moves_dStep).then (by decide) <| Moves.refl _ _
  clear_value y2
  exact (moves_note).then (by decide) <| moves_tim (by decide) id <| h3

theorem moves_joinAtTick {x0 e} : Moves 269239613 e (joinAtTick x0 e) := by
  unfold joinAtTick
  extract_lets +onlyGivenNames y0
  refine moves_cut (y := y0) ?_ fun h1 => ?_
  · unfold y0
    exact (moves_waitD).then (by decide) <| Moves.refl _ _
  clear_value y0
  extract_lets +onlyGivenNames y2
  clear_value y2
  refine (moves_joinSlot).then (by decide) <| ?_
  refine moves_ite ?_ ?_
  · exact (moves_waitD).then (by decide) <| h1
  exact h1

theorem moves_startHandover {x0 x1 x2 e} : Moves 269239612 e (startHandover x0 x1 x2 e) := by
  unfold startHandover
  extract_lets +onlyGivenNames y0 y1 y2 y3
  clear_value y0 y1 y2 y3
  extract_lets +onlyGivenNames y4
  refine moves_cut (y := y4) ?_ fun h5 => ?_
  · unfold y4
    refine moves_ite ?_ ?_
    · exact Moves.refl _ _
    exact (moves_note).then (by decide) <| Moves.refl _ _
  clear_value y4
  refine moves_ite ?_ ?_
  · exact moves_tim (by decide) id <| Moves.refl _ _
  refine moves_ite ?_ ?_
  · exact moves_tim (by decide) id <| Moves.refl _ _
  refine moves_ite ?_ ?_
  · exact (moves_joinSlot).then (by decide) <| Moves.refl _ _
  exact h5

theorem moves_joinRun {x0 e} : Moves 269239613 e (joinRun x0 e) := by
  induction x0 generalizing e
  · rw [joinRun]
    exact Moves.refl _ _
  · rename_i m0 ih
    rw [joinRun]
    split
    · rename_i z2 z3
      exact Moves.refl _ _
    · rename_i z4 z5 z6
      refine moves_ite ?_ ?_
      · exact (moves_joinAtTick).then (by decide) <| Moves.refl _ _
      exact ih.then (Nat.or_self _) <| (moves_pass).then (by decide) <| Moves.refl _ _

theorem acts_execHandoverJoin {x0} : Acts 269239613 (execHandoverJoin x0) x0 := by
  unfold execHandoverJoin
  refine Acts.mk fun e => ?_
  refine moves_ite ?_ ?_
  · exact Moves.refl _ _
  exact (moves_joinRun).then (by decide) <| Moves.refl _ _

theorem moves_timCtlApply {x0 e} : Moves 269239612 e (timCtlApply x0 e) := by
  unfold timCtlApply
  extract_lets +onlyGivenNames y0
  refine moves_cut (y := y0) ?_ fun h1 => ?_
  · unfold y0
    exact (moves_wr).then (by decide) <| Moves.refl _ _
  clear_value y0
  extract_lets +onlyGivenNames y2
  clear_value y2
  refine moves_ite ?_ ?_
  · exact h1
  exact (moves_startHandover).then (by decide) <| h1

theorem moves_enterHoldover {x0 e} : Moves 269239612 e (enterHoldover x0 e) := by
  unfold enterHoldover
  extract_lets +onlyGivenNames y0
  refine moves_cut (y := y0) ?_ fun h1 => ?_
  · unfold y0
    exact (moves_updSlotT).then (by decide) <| Moves.refl _ _
  clear_value y0
  extract_lets +onlyGivenNames y2
  extract_lets +onlyGivenNames y3
  refine moves_cut (y := y3) ?_ fun h4 => ?_
  · unfold y3
    refine moves_ite ?_ ?_
    · exact moves_tim (by decide) id <| h1
    exact h1
  clear_value y3
  refine moves_ite ?_ ?_
  · exact h4
  extract_lets +onlyGivenNames y5
  refine moves_cut (y := y5) ?_ fun h6 => ?_
  · unfold y5
    exact (moves_note).then (by decide) <| h4
  clear_value y5
  extract_lets +onlyGivenNames y7
  clear_value y7
  refine moves_ite ?_ ?_
  · exact (moves_startHandover).then (by decide) <| (moves_wrF).then (by decide) <| h6
  exact h6

theorem moves_pathChange {x0 e} : Moves 269239612 e (pathChange x0 e) := by
  unfold pathChange
  refine moves_ite ?_ ?_
  · exact Moves.refl _ _
  extract_lets +onlyGivenNames y0
  clear_value y0
  extract_lets +onlyGivenNames y1
  refine moves_cut (y := y1) ?_ fun h2 => ?_
  · unfold y1
    exact (moves_note).then (by decide) <| (moves_updSlotT).then (by decide) <| Moves.refl _ _
  clear_value y1
  refine moves_ite ?_ ?_
  · exact (moves_enterHoldover).then (by decide) <| h2
  exact h2

theorem moves_pathChangeBoth {e} : Moves 269239612 e (pathChangeBoth e) := by
  unfold pathChangeBoth
  exact (moves_pathChange).then (by decide) <| (moves_pathChange).then (by decide) <| Moves.refl _ _

theorem moves_servoRun {x0 x1 e} : Moves 16384 e (servoRun x0 x1 e) := by
  unfold servoRun
  extract_lets +onlyGivenNames y0 y1 y2 y3
  clear_value y0 y1 y2 y3
  exact (moves_updSlotT).then (by decide) <| Moves.refl _ _

theorem moves_deferStep {x0 x1 e} : Moves 268715068 e (deferStep x0 x1 e) := by
  unfold deferStep
  extract_lets +onlyGivenNames y0
  refine moves_cut (y := y0) ?_ fun h1 => ?_
  · unfold y0
    refine moves_ite ?_ ?_
    · exact Moves.refl _ _
    exact (moves_note).then (by decide) <| Moves.refl _ _
  clear_value y0
  extract_lets +onlyGivenNames y2
  refine moves_cut (y := y2) ?_ fun h3 => ?_
  · unfold y2
    exact (moves_updSlotT).then (by decide) <| h1
  clear_value y2
  exact moves_tim (by decide) id <| h3

theorem moves_servoStep {x0 x1 e} : Moves 269239612 e (servoStep x0 x1 e) := by
  unfold servoStep
  extract_lets +onlyGivenNames y0
  clear_value y0
  refine moves_ite ?_ ?_
  · exact (moves_deferStep).then (by decide) <| Moves.refl _ _
  extract_lets +onlyGivenNames y1
  clear_value y1
  extract_lets +onlyGivenNames y2
  refine moves_cut (y := y2) ?_ fun h3 => ?_
  · unfold y2
    exact (moves_updSlotT).then (by decide) <| Moves.refl _ _
  clear_value y2
  refine moves_ite ?_ ?_
  · exact (moves_dStep).then (by decide) <| moves_tim (by decide) id <| h3
  exact h3

theorem moves_stepCheck {e} : Moves 269239612 e (stepCheck e) := by
  unfold stepCheck
  split
  · rename_i z0 z1 z2
    refine moves_ite ?_ ?_
    · exact Moves.refl _ _
    exact (moves_servoStep).then (by decide) <| Moves.refl _ _
  · rename_i z3 z4
    exact Moves.refl _ _

theorem moves_lockRules {x0 x1 e} : Moves 269239612 e (lockRules x0 x1 e) := by
  unfold lockRules
  extract_lets +onlyGivenNames y0 y1 y2
  clear_value y0 y1 y2
  extract_lets +onlyGivenNames y3
  refine moves_cut (y := y3) ?_ fun h4 => ?_
  · unfold y3
    exact (moves_updSlotT).then (by decide) <| Moves.refl _ _
  clear_value y3
  extract_lets +onlyGivenNames y5
  clear_value y5
  refine moves_ite ?_ ?_
  · exact (moves_note).then (by decide) <| (moves_updSlotT).then (by decide) <| moves_tim (by decide) id <| h4
  refine moves_ite ?_ ?_
  · exact (moves_enterHoldover).then (by decide) <| h4
  exact h4

theorem moves_measure {x0 x1 x2 e} : Moves 269239612 e (measure x0 x1 x2 e) := by
  unfold measure
  extract_lets +onlyGivenNames y0
  refine moves_cut (y := y0) ?_ fun h1 => ?_
  · unfold y0
    exact (moves_updSlotT).then (by decide) <| (moves_stepCheck).then (by decide) <| Moves.refl _ _
  clear_value y0
  extract_lets +onlyGivenNames y2
  clear_value y2
  refine moves_ite ?_ ?_
  · exact (moves_lockRules).then (by decide) <| (moves_servoStep).then (by decide) <| h1
  extract_lets +onlyGivenNames y3
  extract_lets +onlyGivenNames y4
  refine moves_cut (y := y4) ?_ fun h5 => ?_
  · unfold y4
    refine moves_ite ?_ ?_
    · exact moves_tim (by decide) id <| h1
    exact h1
  clear_value y4
  exact (moves_lockRules).then (by decide) <| (moves_servoRun).then (by decide) <| h5

theorem moves_domCfgApply {x0 x1 e} : Moves 16412 e (domCfgApply x0 x1 e) := by
  unfold domCfgApply
  refine moves_ite ?_ ?_
  · exact Moves.refl _ _
  extract_lets +onlyGivenNames y0
  clear_value y0
  extract_lets +onlyGivenNames y1
  refine moves_cut (y := y1) ?_ fun h2 => ?_
  · unfold y1
    exact (moves_wr).then (by decide) <| Moves.refl _ _
  clear_value y1
  extract_lets +onlyGivenNames y3
  extract_lets +onlyGivenNames y4
  refine moves_cut (y := y4) ?_ fun h5 => ?_
  · unfold y4
    refine moves_ite ?_ ?_
    · exact moves_tim (by decide) id <| h2
    exact h2
  clear_value y4
  extract_lets +onlyGivenNames y6
  clear_value y6
  refine moves_ite ?_ ?_
  · exact (moves_updSlotT).then (by decide) <| h5
  refine moves_ite ?_ ?_
  · exact (moves_updSlotT).then (by decide) <| h5
  exact h5

end Sys2Proof.Machine
end

