-- ==== Sys2Proof/Laws/MovesPower.lean ====
section
/-! SUPPORT. What each operation of Machine/Power.lean can do (`moves_f`). -/

namespace Sys2Proof.Machine

theorem moves_setFeed {x0 x1 e} : Moves 8192 e (setFeed x0 x1 e) := by
  unfold setFeed
  refine moves_ite ?_ ?_
  · exact moves_pwr (by decide) <| Moves.refl _ _
  exact moves_pwr (by decide) <| Moves.refl _ _

theorem moves_setAux {x0 x1 e} : Moves 8192 e (setAux x0 x1 e) := by
  unfold setAux
  refine moves_ite ?_ ?_
  · exact moves_pwr (by decide) <| Moves.refl _ _
  exact moves_pwr (by decide) <| Moves.refl _ _

theorem moves_goDark {x0 e} : Moves 68184064 e (goDark x0 e) := by
  unfold goDark
  extract_lets +onlyGivenNames y0
  refine moves_cut (y := y0) ?_ fun h1 => ?_
  · unfold y0
    exact (moves_detach).then (by decide) <| (moves_darkArray).then (by decide) <| Moves.refl _ _
  clear_value y0
  exact Moves.put (m := 26624) (e := y0) (by decide) (by intro p hp; cases p <;> first | rfl | exact absurd hp (by decide)) ⟨rfl, fun _ => Nat.le_refl _, id, id, id, (fun _ => Nat.zero_le _)⟩ <| h1

theorem moves_powerLossNow {e} : Moves 68184064 e (powerLossNow e) := by
  unfold powerLossNow
  refine moves_ite ?_ ?_
  · exact Moves.refl _ _
  extract_lets +onlyGivenNames y0
  refine moves_cut (y := y0) ?_ fun h1 => ?_
  · unfold y0
    exact (moves_goDark).then (by decide) <| Moves.refl _ _
  clear_value y0
  exact moves_pwr (by decide) <| h1

theorem acts_execPowerLoss {x0} : Acts 68184064 (execPowerLoss x0) x0 := by
  unfold execPowerLoss
  refine Acts.mk fun e => ?_
  exact (moves_powerLossNow).then (by decide) <| Moves.refl _ _

theorem moves_feedLossNow {x0 e} : Moves 336882748 e (feedLossNow x0 e) := by
  unfold feedLossNow
  refine moves_ite ?_ ?_
  · exact Moves.refl _ _
  extract_lets +onlyGivenNames y0
  refine moves_cut (y := y0) ?_ fun h1 => ?_
  · unfold y0
    exact (moves_setFeed).then (by decide) <| Moves.refl _ _
  clear_value y0
  refine moves_ite ?_ ?_
  · exact (moves_setLive).then (by decide) <| (moves_note).then (by decide) <| (moves_inc).then (by decide) <| h1
  exact (moves_powerLossNow).then (by decide) <| h1

theorem acts_execFeedLoss {x0 x1} : Acts 336882748 (execFeedLoss x0 x1) x1 := by
  unfold execFeedLoss
  refine Acts.mk fun e => ?_
  exact (moves_feedLossNow).then (by decide) <| Moves.refl _ _

theorem moves_restart {e} : Moves 536837628 e (restart e) := by
  unfold restart
  refine moves_ite ?_ ?_
  · exact (moves_beginBoot).then (by decide) <| (moves_resetEngine).then (by decide) <| (moves_darkArray).then (by decide) <| moves_pwr (by decide) <| Moves.refl _ _
  exact Moves.refl _ _

theorem moves_feedReturnNow {x0 e} : Moves 536837628 e (feedReturnNow x0 e) := by
  unfold feedReturnNow
  extract_lets +onlyGivenNames y0
  refine moves_cut (y := y0) ?_ fun h1 => ?_
  · unfold y0
    exact (moves_setFeed).then (by decide) <| Moves.refl _ _
  clear_value y0
  refine moves_ite ?_ ?_
  · exact h1
  extract_lets +onlyGivenNames y2
  refine moves_cut (y := y2) ?_ fun h3 => ?_
  · unfold y2
    exact (moves_setLive).then (by decide) <| h1
  clear_value y2
  extract_lets +onlyGivenNames y4
  refine moves_cut (y := y4) ?_ fun h5 => ?_
  · unfold y4
    exact (moves_brakeOff).then (by decide) <| (moves_setLive).then (by decide) <| h3
  clear_value y4
  refine moves_ite ?_ ?_
  · exact (moves_restart).then (by decide) <| h5
  exact h5

theorem acts_execFeedReturn {x0 x1} : Acts 536837628 (execFeedReturn x0 x1) x1 := by
  unfold execFeedReturn
  refine Acts.mk fun e => ?_
  exact (moves_feedReturnNow).then (by decide) <| Moves.refl _ _

theorem moves_brownoutNow {e} : Moves 536812604 e (brownoutNow e) := by
  unfold brownoutNow
  refine moves_ite ?_ ?_
  · exact Moves.refl _ _
  extract_lets +onlyGivenNames y0
  refine moves_cut (y := y0) ?_ fun h1 => ?_
  · unfold y0
    exact (moves_setLive).then (by decide) <| Moves.refl _ _
  clear_value y0
  refine moves_ite ?_ ?_
  · exact (moves_raise).then (by decide) <| h1
  extract_lets +onlyGivenNames y2
  refine moves_cut (y := y2) ?_ fun h3 => ?_
  · unfold y2
    refine moves_ite ?_ ?_
    · exact (moves_trigger).then (by decide) <| h1
    exact h1
  clear_value y2
  exact (moves_raise).then (by decide) <| (moves_inc).then (by decide) <| h3

theorem acts_execBrownout {x0} : Acts 536812604 (execBrownout x0) x0 := by
  unfold execBrownout
  refine Acts.mk fun e => ?_
  exact (moves_brownoutNow).then (by decide) <| Moves.refl _ _

theorem moves_railCollapseNow {e} : Moves 68184064 e (railCollapseNow e) := by
  unfold railCollapseNow
  refine moves_ite ?_ ?_
  · exact Moves.refl _ _
  refine moves_ite ?_ ?_
  · exact (moves_powerLossNow).then (by decide) <| Moves.refl _ _
  refine moves_ite ?_ ?_
  · exact moves_pwr (by decide) <| Moves.refl _ _
  exact (moves_goDark).then (by decide) <| Moves.refl _ _

theorem acts_execRailCollapse {x0} : Acts 68184064 (execRailCollapse x0) x0 := by
  unfold execRailCollapse
  refine Acts.mk fun e => ?_
  exact (moves_railCollapseNow).then (by decide) <| Moves.refl _ _

theorem moves_setOver {x0 x1 e} : Moves 8192 e (setOver x0 x1 e) := by
  unfold setOver
  refine moves_ite ?_ ?_
  · exact moves_pwr (by decide) <| Moves.refl _ _
  exact moves_pwr (by decide) <| Moves.refl _ _

theorem moves_overcurrentNow {x0 e} : Moves 268706876 e (overcurrentNow x0 e) := by
  unfold overcurrentNow
  refine moves_ite ?_ ?_
  · exact Moves.refl _ _
  refine (moves_setOver).then (by decide) <| moves_whenE _ _ (fun e0 => ?_) ?_
  · exact (moves_note).then (by decide) <| Moves.refl _ _
  exact Moves.refl _ _

theorem acts_execOvercurrent {x0 x1} : Acts 268706876 (execOvercurrent x0 x1) x1 := by
  unfold execOvercurrent
  refine Acts.mk fun e => ?_
  exact (moves_overcurrentNow).then (by decide) <| Moves.refl _ _

theorem acts_execRailWarn {x0} : Acts 268706876 (execRailWarn x0) x0 := by
  unfold execRailWarn
  refine Acts.mk fun e => ?_
  refine moves_ite ?_ ?_
  · exact Moves.refl _ _
  extract_lets +onlyGivenNames y0
  refine moves_cut (y := y0) ?_ fun h1 => ?_
  · unfold y0
    exact (moves_note).then (by decide) <| Moves.refl _ _
  clear_value y0
  exact moves_pwr (by decide) <| h1

theorem moves_auxLossNow {x0 e} : Moves 336882748 e (auxLossNow x0 e) := by
  unfold auxLossNow
  refine moves_ite ?_ ?_
  · exact Moves.refl _ _
  extract_lets +onlyGivenNames y0
  refine moves_cut (y := y0) ?_ fun h1 => ?_
  · unfold y0
    exact (moves_setAux).then (by decide) <| Moves.refl _ _
  clear_value y0
  refine moves_ite ?_ ?_
  · exact (moves_setLive).then (by decide) <| (moves_note).then (by decide) <| h1
  exact (moves_powerLossNow).then (by decide) <| h1

theorem acts_execAuxLoss {x0 x1} : Acts 336882748 (execAuxLoss x0 x1) x1 := by
  unfold execAuxLoss
  refine Acts.mk fun e => ?_
  exact (moves_auxLossNow).then (by decide) <| Moves.refl _ _

theorem moves_auxReturnNow {x0 e} : Moves 8220 e (auxReturnNow x0 e) := by
  unfold auxReturnNow
  extract_lets +onlyGivenNames y0
  refine moves_cut (y := y0) ?_ fun h1 => ?_
  · unfold y0
    exact (moves_setAux).then (by decide) <| Moves.refl _ _
  clear_value y0
  refine moves_ite ?_ ?_
  · exact h1
  exact (moves_setLive).then (by decide) <| h1

theorem acts_execAuxReturn {x0 x1} : Acts 8220 (execAuxReturn x0 x1) x1 := by
  unfold execAuxReturn
  refine Acts.mk fun e => ?_
  exact (moves_auxReturnNow).then (by decide) <| Moves.refl _ _

theorem moves_setRef {x0 x1 e} : Moves 8192 e (setRef x0 x1 e) := by
  unfold setRef
  extract_lets +onlyGivenNames y0
  clear_value y0
  refine moves_ite ?_ ?_
  · exact moves_pwr (by decide) <| Moves.refl _ _
  exact moves_pwr (by decide) <| Moves.refl _ _

theorem moves_switchTb {e} : Moves 269247806 e (switchTb e) := by
  unfold switchTb
  extract_lets +onlyGivenNames y0
  clear_value y0
  extract_lets +onlyGivenNames y1
  refine moves_cut (y := y1) ?_ fun h2 => ?_
  · unfold y1
    exact (moves_note).then (by decide) <| (moves_inc).then (by decide) <| moves_pwr (by decide) <| Moves.refl _ _
  clear_value y1
  refine moves_ite ?_ ?_
  · exact h2
  exact (moves_dStep).then (by decide) <| (moves_useFree).then (by decide) <| h2

theorem moves_tbCheck {e} : Moves 269247806 e (tbCheck e) := by
  unfold tbCheck
  refine moves_ite ?_ ?_
  · exact (moves_switchTb).then (by decide) <| Moves.refl _ _
  exact Moves.refl _ _

theorem moves_refclkLostNow {x0 e} : Moves 536837438 e (refclkLostNow x0 e) := by
  unfold refclkLostNow
  refine moves_ite ?_ ?_
  · exact Moves.refl _ _
  refine moves_ite ?_ ?_
  · exact (moves_setRef).then (by decide) <| Moves.refl _ _
  extract_lets +onlyGivenNames y0
  refine moves_cut (y := y0) ?_ fun h1 => ?_
  · unfold y0
    exact (moves_setRef).then (by decide) <| Moves.refl _ _
  clear_value y0
  extract_lets +onlyGivenNames y2
  refine moves_cut (y := y2) ?_ fun h3 => ?_
  · unfold y2
    exact (moves_setLive).then (by decide) <| (moves_note).then (by decide) <| h1
  clear_value y2
  extract_lets +onlyGivenNames y4
  refine moves_cut (y := y4) ?_ fun h5 => ?_
  · unfold y4
    exact (moves_tbCheck).then (by decide) <| h3
  clear_value y4
  refine moves_ite ?_ ?_
  · exact (moves_raise).then (by decide) <| (moves_setLive).then (by decide) <| h5
  exact h5

theorem acts_execRefclkLost {x0 x1} : Acts 536837438 (execRefclkLost x0 x1) x1 := by
  unfold execRefclkLost
  refine Acts.mk fun e => ?_
  exact (moves_refclkLostNow).then (by decide) <| Moves.refl _ _

theorem moves_refGoodNow {x0 e} : Moves 269247807 e (refGoodNow x0 e) := by
  unfold refGoodNow
  refine moves_ite ?_ ?_
  · exact Moves.refl _ _
  extract_lets +onlyGivenNames y0
  refine moves_cut (y := y0) ?_ fun h1 => ?_
  · unfold y0
    exact (moves_setRef).then (by decide) <| (moves_waitClk).then (by decide) <| Moves.refl _ _
  clear_value y0
  extract_lets +onlyGivenNames y2
  refine moves_cut (y := y2) ?_ fun h3 => ?_
  · unfold y2
    exact (moves_setLive).then (by decide) <| h1
  clear_value y2
  exact (moves_tbCheck).then (by decide) <| (moves_setLive).then (by decide) <| h3

theorem acts_execRefGood {x0 x1} : Acts 269247807 (execRefGood x0 x1) x1 := by
  unfold execRefGood
  refine Acts.mk fun e => ?_
  exact (moves_refGoodNow).then (by decide) <| Moves.refl _ _

theorem moves_tbRevertNow {e} : Moves 269247807 e (tbRevertNow e) := by
  unfold tbRevertNow
  extract_lets +onlyGivenNames y0
  clear_value y0
  refine moves_ite ?_ ?_
  · exact Moves.refl _ _
  exact (moves_switchTb).then (by decide) <| (moves_waitClk).then (by decide) <| Moves.refl _ _

theorem acts_execTbRevert {x0} : Acts 269247807 (execTbRevert x0) x0 := by
  unfold execTbRevert
  refine Acts.mk fun e => ?_
  exact (moves_tbRevertNow).then (by decide) <| Moves.refl _ _

theorem moves_tbCtlApply {x0 e} : Moves 269247806 e (tbCtlApply x0 e) := by
  unfold tbCtlApply
  extract_lets +onlyGivenNames y0
  refine moves_cut (y := y0) ?_ fun h1 => ?_
  · unfold y0
    exact (moves_wr).then (by decide) <| Moves.refl _ _
  clear_value y0
  extract_lets +onlyGivenNames y2
  clear_value y2
  refine moves_ite ?_ ?_
  · exact (moves_switchTb).then (by decide) <| h1
  exact h1

end Sys2Proof.Machine
end

