-- ==== Sys2Proof/Laws/MovesThermal.lean ====
section
/-! SUPPORT. What each operation of Machine/Thermal.lean can do (`moves_f`). -/

namespace Sys2Proof.Machine

theorem moves_sensorRead {x0 x1 e} : Moves 268702780 e (sensorRead x0 x1 e) := by
  unfold sensorRead
  extract_lets +onlyGivenNames y0 y1
  clear_value y0 y1
  refine moves_ite ?_ ?_
  · extract_lets +onlyGivenNames y2
    refine moves_cut (y := y2) ?_ fun h3 => ?_
    · unfold y2
      exact (moves_updSensor).then (by decide) <| Moves.refl _ _
    clear_value y2
    refine moves_ite ?_ ?_
    · exact h3
    exact (moves_noteD).then (by decide) <| (moves_inc).then (by decide) <| h3
  refine moves_ite ?_ ?_
  · exact (moves_updSensor).then (by decide) <| Moves.refl _ _
  exact (moves_updSensor).then (by decide) <| Moves.refl _ _

theorem moves_riseCheck {x0 e} : Moves 536812604 e (riseCheck x0 e) := by
  unfold riseCheck
  extract_lets +onlyGivenNames y0 y1
  clear_value y0 y1
  refine moves_ite ?_ ?_
  · extract_lets +onlyGivenNames y2 y3
    clear_value y2 y3
    extract_lets +onlyGivenNames y4
    refine moves_cut (y := y4) ?_ fun h5 => ?_
    · unfold y4
      exact (moves_updSensor).then (by decide) <| Moves.refl _ _
    clear_value y4
    refine moves_ite ?_ ?_
    · exact (moves_wantPark).then (by decide) <| (moves_raiseD).then (by decide) <| h5
    exact h5
  refine moves_ite ?_ ?_
  · exact (moves_updSensor).then (by decide) <| Moves.refl _ _
  extract_lets +onlyGivenNames y6 y7
  clear_value y6 y7
  exact (moves_updSensor).then (by decide) <| Moves.refl _ _

theorem moves_fastCheck {x0 e} : Moves 536812604 e (fastCheck x0 e) := by
  unfold fastCheck
  extract_lets +onlyGivenNames y0 y1
  clear_value y0 y1
  refine moves_ite ?_ ?_
  · extract_lets +onlyGivenNames y2
    clear_value y2
    extract_lets +onlyGivenNames y3
    refine moves_cut (y := y3) ?_ fun h4 => ?_
    · unfold y3
      exact (moves_updSensor).then (by decide) <| Moves.refl _ _
    clear_value y3
    refine moves_ite ?_ ?_
    · exact (moves_raise).then (by decide) <| h4
    exact h4
  refine moves_ite ?_ ?_
  · exact (moves_updSensor).then (by decide) <| Moves.refl _ _
  extract_lets +onlyGivenNames y5 y6
  clear_value y5 y6
  exact (moves_updSensor).then (by decide) <| Moves.refl _ _

theorem moves_holdEnds {x0 e} : Moves 491195452 e (holdEnds x0 e) := by
  unfold holdEnds
  refine moves_ite ?_ ?_
  · exact (moves_exitHold).then (by decide) <| Moves.refl _ _
  exact Moves.refl _ _

theorem moves_tileTemp {x0 e} : Moves 492244028 e (tileTemp x0 e) := by
  unfold tileTemp
  extract_lets +onlyGivenNames y0
  clear_value y0
  refine moves_ite ?_ ?_
  · exact Moves.refl _ _
  extract_lets +onlyGivenNames y1 y2
  clear_value y1 y2
  extract_lets +onlyGivenNames y3
  refine moves_cut (y := y3) ?_ fun h4 => ?_
  · unfold y3
    exact (moves_updTile).then (by decide) <| Moves.refl _ _
  clear_value y3
  refine moves_ite ?_ ?_
  · exact (moves_holdEnds).then (by decide) <| (moves_noteTile).then (by decide) <| h4
  exact h4

theorem moves_regionTemp {x0 e} : Moves 494341180 e (regionTemp x0 e) := by
  unfold regionTemp
  split
  · rename_i z0 z1
    exact Moves.refl _ _
  · rename_i z2 z3 z4
    extract_lets +onlyGivenNames y5 y6 y7
    clear_value y5 y6 y7
    extract_lets +onlyGivenNames y8
    refine moves_cut (y := y8) ?_ fun h9 => ?_
    · unfold y8
      exact moves_syn (by decide) <| Moves.refl _ _
    clear_value y8
    extract_lets +onlyGivenNames y10
    refine moves_cut (y := y10) ?_ fun h11 => ?_
    · unfold y10
      refine moves_ite ?_ ?_
      · exact (moves_note).then (by decide) <| h9
      exact h9
    clear_value y10
    refine moves_ite ?_ ?_
    · exact h11
    extract_lets +onlyGivenNames y12
    clear_value y12
    refine (moves_holdEnds).then (by decide) <| moves_each _ _ _ (fun x13 e14 => ?_) ?_
    · exact (moves_wantReload).then (by decide) <| Moves.refl _ _
    exact h11

theorem moves_warnCheck {x0 x1 e} : Moves 268702780 e (warnCheck x0 x1 e) := by
  unfold warnCheck
  extract_lets +onlyGivenNames y0
  clear_value y0
  refine moves_ite ?_ ?_
  · exact (moves_note).then (by decide) <| moves_thm (by decide) <| Moves.refl _ _
  refine moves_ite ?_ ?_
  · exact moves_thm (by decide) <| Moves.refl _ _
  exact Moves.refl _ _

theorem moves_shutdownGo {e} : Moves 536837181 e (shutdownGo e) := by
  unfold shutdownGo
  extract_lets +onlyGivenNames y0
  refine moves_cut (y := y0) ?_ fun h1 => ?_
  · unfold y0
    exact (moves_trigger).then (by decide) <| Moves.refl _ _
  clear_value y0
  refine moves_ite ?_ ?_
  · exact h1
  exact (moves_enterCooldown).then (by decide) <| h1

theorem moves_shutdown {x0 e} : Moves 536837181 e (shutdown x0 e) := by
  unfold shutdown
  extract_lets +onlyGivenNames y0
  clear_value y0
  exact (moves_shutdownGo).then (by decide) <| (moves_noteD).then (by decide) <| moves_thm (by decide) <| Moves.refl _ _

theorem moves_shutCheck {x0 x1 e} : Moves 536837181 e (shutCheck x0 x1 e) := by
  unfold shutCheck
  split
  · rename_i z0 z1
    exact Moves.refl _ _
  · rename_i z2 z3 z4
    extract_lets +onlyGivenNames y5 y6
    clear_value y5 y6
    extract_lets +onlyGivenNames y7
    refine moves_cut (y := y7) ?_ fun h8 => ?_
    · unfold y7
      exact moves_thm (by decide) <| Moves.refl _ _
    clear_value y7
    refine moves_ite ?_ ?_
    · exact h8
    refine moves_ite ?_ ?_
    · exact (moves_shutdown).then (by decide) <| h8
    refine moves_ite ?_ ?_
    · exact (moves_raiseD).then (by decide) <| h8
    exact h8

theorem moves_coolTimers {e} : Moves 6144 e (coolTimers e) := by
  unfold coolTimers
  extract_lets +onlyGivenNames y0 y1
  clear_value y0 y1
  refine moves_ite ?_ ?_
  · exact moves_thm (by decide) <| Moves.refl _ _
  refine moves_ite ?_ ?_
  · exact moves_sys (by decide) rfl <| Moves.refl _ _
  exact Moves.refl _ _

theorem moves_limits {x0 e} : Moves 536837181 e (limits x0 e) := by
  unfold limits
  split
  · rename_i z0 z1
    exact Moves.refl _ _
  · rename_i z2 z3 z4
    extract_lets +onlyGivenNames y5
    refine moves_cut (y := y5) ?_ fun h6 => ?_
    · unfold y5
      exact (moves_warnCheck).then (by decide) <| Moves.refl _ _
    clear_value y5
    extract_lets +onlyGivenNames y7
    clear_value y7
    extract_lets +onlyGivenNames y8
    refine moves_cut (y := y8) ?_ fun h9 => ?_
    · unfold y8
      exact moves_thm (by decide) <| h6
    clear_value y8
    exact (moves_coolTimers).then (by decide) <| (moves_shutCheck).then (by decide) <| h9

theorem moves_thermalNow {x0 x1 e} : Moves 536837181 e (thermalNow x0 x1 e) := by
  unfold thermalNow
  refine moves_ite ?_ ?_
  · exact Moves.refl _ _
  extract_lets +onlyGivenNames y0
  refine moves_cut (y := y0) ?_ fun h1 => ?_
  · unfold y0
    split
    · rename_i z2 z3 z4
      exact (moves_waitClk).then (by decide) <| Moves.refl _ _
    · rename_i z5 z6
      exact Moves.refl _ _
  clear_value y0
  extract_lets +onlyGivenNames y7 y8
  clear_value y7 y8
  extract_lets +onlyGivenNames y9
  refine moves_cut (y := y9) ?_ fun h10 => ?_
  · unfold y9
    exact moves_thm (by decide) <| h1
  clear_value y9
  extract_lets +onlyGivenNames y11
  clear_value y11
  extract_lets +onlyGivenNames y12
  refine moves_cut (y := y12) ?_ fun h13 => ?_
  · unfold y12
    refine moves_each _ _ _ (fun x14 e15 => ?_) ?_
    · exact (moves_sensorRead).then (by decide) <| Moves.refl _ _
    exact h10
  clear_value y12
  extract_lets +onlyGivenNames y16
  clear_value y16
  extract_lets +onlyGivenNames y17
  refine moves_cut (y := y17) ?_ fun h18 => ?_
  · unfold y17
    refine moves_each _ _ _ (fun x19 e20 => ?_) ?_
    · refine (moves_fastCheck).then (by decide) <| ?_
      refine moves_ite ?_ ?_
      · exact (moves_riseCheck).then (by decide) <| Moves.refl _ _
      exact Moves.refl _ _
    exact h13
  clear_value y17
  extract_lets +onlyGivenNames y21
  refine moves_cut (y := y21) ?_ fun h22 => ?_
  · unfold y21
    refine moves_ite ?_ ?_
    · refine moves_each _ _ _ (fun x23 e24 => ?_) ?_
      · exact (moves_tileTemp).then (by decide) <| Moves.refl _ _
      exact h18
    refine moves_ite ?_ ?_
    · refine moves_each _ _ _ (fun x25 e26 => ?_) ?_
      · exact (moves_regionTemp).then (by decide) <| Moves.refl _ _
      exact h18
    exact h18
  clear_value y21
  exact (moves_limits).then (by decide) <| h22

theorem acts_execThermalMeasurement {x0 x1 x2} : Acts 536837181 (execThermalMeasurement x0 x1 x2) x2 := by
  unfold execThermalMeasurement
  refine Acts.mk fun e => ?_
  exact (moves_thermalNow).then (by decide) <| Moves.refl _ _

end Sys2Proof.Machine
end

