-- ==== Sys2Proof/Laws/MovesXact.lean ====
section
/-! SUPPORT. What each operation of Machine/Xact.lean can do (`moves_f`). -/

namespace Sys2Proof.Machine

theorem moves_runPort {w : Nat} {x0 x1 x2 x3 x4 f5 e} (hw : 470221884 ||| w = w) (hf5 : ∀ e, Moves w e (f5 e)) :
    Moves w e (runPort x0 x1 x2 x3 x4 f5 e) := by
  unfold runPort
  extract_lets +onlyGivenNames y0
  have hy0 : ∀ y0_0, Moves w y0_0 (y0 y0_0) := by
    intro y0_0
    unfold y0
    refine (moves_runCmd (subMask hw (by decide)) (fun e1 => ?_)).then (Nat.or_self _) ?_
    · exact (hf5 _).then (Nat.or_self _) <| (moves_updInfl).then (subMask hw (by decide)) <| Moves.refl _ _
    exact Moves.refl _ _
  clear_value y0
  refine moves_ite ?_ ?_
  · exact Moves.refl _ _
  refine moves_ite ?_ ?_
  · exact (hy0 _).then (Nat.or_self _) <| Moves.refl _ _
  extract_lets +onlyGivenNames y2
  refine moves_cut (y := y2) ?_ fun h3 => ?_
  · unfold y2
    exact (moves_updInfl).then (subMask hw (by decide)) <| (moves_takeIn).then (subMask hw (by decide)) <| Moves.refl _ _
  clear_value y2
  refine moves_ite ?_ ?_
  · exact h3
  exact (hy0 _).then (Nat.or_self _) <| (moves_takeIn).then (subMask hw (by decide)) <| h3

theorem moves_pairTxnBody {x0 x1 e} : Moves 470746172 e (pairTxnBody x0 x1 e) := by
  unfold pairTxnBody
  refine moves_ite ?_ ?_
  · exact (moves_complete).then (by decide) <| Moves.refl _ _
  refine moves_ite ?_ ?_
  · exact (moves_complete).then (by decide) <| Moves.refl _ _
  extract_lets +onlyGivenNames y0
  clear_value y0
  split
  · rename_i z1 z2 z3
    exact (moves_complete).then (by decide) <| Moves.refl _ _
  · rename_i z4 z5
    extract_lets +onlyGivenNames y6 y7
    clear_value y6 y7
    exact (moves_complete).then (by decide) <| (moves_openTxn).then (by decide) <| Moves.refl _ _

theorem moves_pairTxnGo {x0 x1 e} : Moves 470746172 e (pairTxnGo x0 x1 e) := by
  unfold pairTxnGo
  refine (moves_runPort (by decide) (fun e0 => ?_)).then (Nat.or_self _) ?_
  · exact (moves_pairTxnBody).then (by decide) <| Moves.refl _ _
  exact Moves.refl _ _

theorem moves_pairTxnNow {x0 x1 e} : Moves 470746172 e (pairTxnNow x0 x1 e) := by
  unfold pairTxnNow
  refine moves_ite ?_ ?_
  · exact (moves_pairTxnGo).then (by decide) <| Moves.refl _ _
  refine moves_ite ?_ ?_
  · exact Moves.refl _ _
  extract_lets +onlyGivenNames y0 y1
  clear_value y0 y1
  refine moves_ite ?_ ?_
  · refine (moves_runCmd (by decide) (fun e2 => ?_)).then (Nat.or_self _) ?_
    · exact (moves_pairTxnBody).then (by decide) <| Moves.refl _ _
    exact Moves.refl _ _
  refine moves_ite ?_ ?_
  · exact (moves_pairTxnGo).then (by decide) <| Moves.refl _ _
  extract_lets +onlyGivenNames y3
  refine moves_cut (y := y3) ?_ fun h4 => ?_
  · unfold y3
    exact (moves_updInfl).then (by decide) <| (moves_takeIn).then (by decide) <| Moves.refl _ _
  clear_value y3
  exact (moves_openCmd).then (by decide) <| h4

theorem moves_commitTxn {x0 x1 x2 x3 x4 e} : Moves 524288 e (commitTxn x0 x1 x2 x3 x4 e) := by
  unfold commitTxn
  extract_lets +onlyGivenNames y0
  clear_value y0
  exact (moves_updTxn).then (by decide) <| Moves.refl _ _

theorem moves_pairCommitBody {x0 x1 e} : Moves 470746172 e (pairCommitBody x0 x1 e) := by
  unfold pairCommitBody
  split
  · rename_i z0 z1
    exact (moves_complete).then (by decide) <| Moves.refl _ _
  · rename_i z2 z3 z4
    refine moves_ite ?_ ?_
    · exact (moves_complete).then (by decide) <| Moves.refl _ _
    refine moves_ite ?_ ?_
    · exact (moves_complete).then (by decide) <| Moves.refl _ _
    refine moves_ite ?_ ?_
    · exact (moves_complete).then (by decide) <| Moves.refl _ _
    exact (moves_commitTxn).then (by decide) <| Moves.refl _ _

theorem moves_pairCommitGo {x0 x1 e} : Moves 470746172 e (pairCommitGo x0 x1 e) := by
  unfold pairCommitGo
  refine (moves_runPort (by decide) (fun e0 => ?_)).then (Nat.or_self _) ?_
  · exact (moves_pairCommitBody).then (by decide) <| Moves.refl _ _
  exact Moves.refl _ _

theorem moves_pairAbortBody {x0 x1 e} : Moves 471800892 e (pairAbortBody x0 x1 e) := by
  unfold pairAbortBody
  split
  · rename_i z0 z1
    exact (moves_complete).then (by decide) <| Moves.refl _ _
  · rename_i z2 z3 z4
    refine moves_ite ?_ ?_
    · exact (moves_complete).then (by decide) <| Moves.refl _ _
    exact (moves_complete).then (by decide) <| (moves_failTxn).then (by decide) <| Moves.refl _ _

theorem moves_pairAbortGo {x0 x1 e} : Moves 471800892 e (pairAbortGo x0 x1 e) := by
  unfold pairAbortGo
  refine (moves_runPort (by decide) (fun e0 => ?_)).then (Nat.or_self _) ?_
  · exact (moves_pairAbortBody).then (by decide) <| Moves.refl _ _
  exact Moves.refl _ _

theorem moves_portParkBody {x0 x1 e} : Moves 470746172 e (portParkBody x0 x1 e) := by
  unfold portParkBody
  refine moves_ite ?_ ?_
  · exact (moves_complete).then (by decide) <| Moves.refl _ _
  extract_lets +onlyGivenNames y0
  clear_value y0
  split
  · rename_i z1 z2 z3
    exact (moves_complete).then (by decide) <| Moves.refl _ _
  · rename_i z4 z5
    extract_lets +onlyGivenNames y6
    clear_value y6
    refine moves_ite ?_ ?_
    · exact (moves_completeAt).then (by decide) <| (moves_updPort).then (by decide) <| Moves.refl _ _
    extract_lets +onlyGivenNames y7
    refine moves_cut (y := y7) ?_ fun h8 => ?_
    · unfold y7
      exact (moves_openTxn).then (by decide) <| Moves.refl _ _
    clear_value y7
    exact (moves_commitTxn).then (by decide) <| h8

theorem moves_portParkGo {x0 x1 e} : Moves 470746172 e (portParkGo x0 x1 e) := by
  unfold portParkGo
  refine (moves_runPort (by decide) (fun e0 => ?_)).then (Nat.or_self _) ?_
  · exact (moves_portParkBody).then (by decide) <| Moves.refl _ _
  exact Moves.refl _ _

theorem moves_ownerSetBody {x0 x1 e} : Moves 470746172 e (ownerSetBody x0 x1 e) := by
  unfold ownerSetBody
  extract_lets +onlyGivenNames y0
  clear_value y0
  refine moves_ite ?_ ?_
  · exact (moves_complete).then (by decide) <| Moves.refl _ _
  refine moves_ite ?_ ?_
  · exact (moves_complete).then (by decide) <| Moves.refl _ _
  refine moves_ite ?_ ?_
  · exact (moves_complete).then (by decide) <| (moves_note).then (by decide) <| Moves.refl _ _
  refine moves_ite ?_ ?_
  · exact (moves_complete).then (by decide) <| Moves.refl _ _
  refine moves_ite ?_ ?_
  · exact (moves_complete).then (by decide) <| Moves.refl _ _
  refine moves_ite ?_ ?_
  · exact (moves_complete).then (by decide) <| Moves.refl _ _
  extract_lets +onlyGivenNames y1
  clear_value y1
  refine (moves_complete).then (by decide) <| moves_each _ _ _ (fun x2 e3 => ?_) ?_
  · exact (moves_updPort).then (by decide) <| Moves.refl _ _
  exact Moves.refl _ _

theorem moves_ownerSetGo {x0 x1 e} : Moves 470746172 e (ownerSetGo x0 x1 e) := by
  unfold ownerSetGo
  refine (moves_runPort (by decide) (fun e0 => ?_)).then (Nat.or_self _) ?_
  · exact (moves_ownerSetBody).then (by decide) <| Moves.refl _ _
  exact Moves.refl _ _

theorem moves_txnRec {x0 e} : Moves 268698684 e (txnRec x0 e).1 := by
  unfold txnRec
  extract_lets +onlyGivenNames y0
  clear_value y0
  refine moves_ite1 ?_ ?_
  · exact moves_mk1 <| (moves_aimCrc).then (by decide) <| Moves.refl _ _
  split
  · rename_i z1 z2
    refine moves_ite1 ?_ ?_
    · exact moves_mk1 <| Moves.refl _ _
    refine moves_ite1 ?_ ?_
    · exact moves_mk1 <| Moves.refl _ _
    exact moves_mk1 <| Moves.refl _ _
  · rename_i z3 z4
    refine moves_ite1 ?_ ?_
    · exact moves_mk1 <| Moves.refl _ _
    exact moves_mk1 <| Moves.refl _ _

theorem moves_txnRecs {x0 e} : Moves 268698684 e (txnRecs x0 e).1 := by
  induction x0 generalizing e
  · rw [txnRecs]
    exact moves_mk1 <| Moves.refl _ _
  · rename_i m0 m1 ih
    rw [txnRecs]
    split
    · rename_i z3 z4 z5 z6
      refine moves_pair z6 ?_ fun h7 => ?_
      · exact (moves_txnRec).then (by decide) <| Moves.refl _ _
      exact moves_mk1 <| h7
    · rename_i z8 z9 z10 z11
      refine moves_pair z11 ?_ fun h12 => ?_
      · exact (moves_txnRec).then (by decide) <| Moves.refl _ _
      split
      · rename_i z13 z14 z15 z16
        refine moves_pair z16 ?_ fun h17 => ?_
        · exact ih.then (Nat.or_self _) <| h12
        exact moves_mk1 <| h17
      · rename_i z18 z19 z20 z21
        refine moves_pair z21 ?_ fun h22 => ?_
        · exact ih.then (Nat.or_self _) <| h12
        exact moves_mk1 <| h22

theorem moves_fetchAll {x0 x1 e} : Moves 268698684 e (fetchAll x0 x1 e).1 := by
  induction x0 generalizing x1 e
  · rw [fetchAll]
    exact moves_mk1 <| Moves.refl _ _
  · rename_i m0 m1 ih
    rw [fetchAll]
    split
    · rename_i z3 z4 z5 z6
      refine moves_pair z6 ?_ fun h7 => ?_
      · exact (moves_txnRecs).then (by decide) <| Moves.refl _ _
      exact moves_mk1 <| h7
    · rename_i z8 z9 z10 z11
      refine moves_pair z11 ?_ fun h12 => ?_
      · exact (moves_txnRecs).then (by decide) <| Moves.refl _ _
      split
      · rename_i z13 z14 z15 z16
        refine moves_pair z16 ?_ fun h17 => ?_
        · exact ih.then (Nat.or_self _) <| h12
        exact moves_mk1 <| h17
      · rename_i z18 z19 z20 z21
        refine moves_pair z21 ?_ fun h22 => ?_
        · exact ih.then (Nat.or_self _) <| h12
        exact moves_mk1 <| h22

theorem moves_entryWith {x0 x1 x2 e} : Moves 269222972 e (entryWith x0 x1 x2 e) := by
  unfold entryWith
  extract_lets +onlyGivenNames y0
  clear_value y0
  extract_lets +onlyGivenNames y1
  refine moves_cut (y := y1.1) ?_ fun h2 => ?_
  · unfold y1
    exact (moves_ownRecs).then (by decide) <| Moves.refl _ _
  clear_value y1
  exact (moves_addJob).then (by decide) <| h2

theorem moves_tryGroup {x0 e} : Moves 470746172 e (tryGroup x0 e) := by
  unfold tryGroup
  split
  · rename_i z0 z1
    exact Moves.refl _ _
  · rename_i z2 z3 z4
    refine moves_ite ?_ ?_
    · exact Moves.refl _ _
    split
    · rename_i z5 z6
      exact Moves.refl _ _
    · rename_i z7 z8 z9
      extract_lets +onlyGivenNames y10 y11
      clear_value y10 y11
      extract_lets +onlyGivenNames y12
      refine moves_cut (y := y12) ?_ fun h13 => ?_
      · unfold y12
        exact (moves_addJob).then (by decide) <| Moves.refl _ _
      clear_value y12
      extract_lets +onlyGivenNames y14
      refine moves_cut (y := y14) ?_ fun h15 => ?_
      · unfold y14
        exact (moves_updTxn).then (by decide) <| h13
      clear_value y14
      extract_lets +onlyGivenNames y16
      refine moves_cut (y := y16) ?_ fun h17 => ?_
      · unfold y16
        refine moves_ite ?_ ?_
        · exact (moves_entryWith).then (by decide) <| h15
        exact h15
      clear_value y16
      split
      · rename_i z18 z19 z20
        refine moves_ite ?_ ?_
        · exact (moves_complete).then (by decide) <| (moves_updTxn).then (by decide) <| h17
        exact h17
      · rename_i z21 z22
        exact h17

theorem moves_retryGroups {e} : Moves 470746172 e (retryGroups e) := by
  unfold retryGroups
  refine moves_each _ _ _ (fun x0 e1 => ?_) ?_
  · exact (moves_tryGroup).then (by decide) <| Moves.refl _ _
  exact Moves.refl _ _

theorem moves_runWaiting {x0 e} : Moves 520035388 e (runWaiting x0 e) := by
  unfold runWaiting
  split
  · rename_i z0 z1 z2
    exact (moves_pairTxnGo).then (by decide) <| Moves.refl _ _
  · rename_i z3 z4 z5
    exact (moves_pairCommitGo).then (by decide) <| Moves.refl _ _
  · rename_i z6 z7 z8
    exact (moves_pairAbortGo).then (by decide) <| Moves.refl _ _
  · rename_i z9 z10 z11
    exact (moves_portParkGo).then (by decide) <| Moves.refl _ _
  · rename_i z12 z13 z14
    exact (moves_ownerSetGo).then (by decide) <| Moves.refl _ _
  · rename_i z15 z16 z17
    exact (moves_goFwActivate).then (by decide) <| Moves.refl _ _
  · rename_i z18 z19 z20 z21 z22 z23 z24
    exact Moves.refl _ _

theorem moves_settleN {x0 e} : Moves 520035388 e (settleN x0 e) := by
  induction x0 generalizing e
  · rw [settleN]
    exact Moves.refl _ _
  · rename_i m0 ih
    rw [settleN]
    split
    · rename_i z2 z3 z4
      exact ih.then (Nat.or_self _) <| (moves_runWaiting).then (by decide) <| Moves.refl _ _
    · rename_i z5 z6
      exact Moves.refl _ _

theorem moves_settle {e} : Moves 520060220 e (settle e) := by
  unfold settle
  extract_lets +onlyGivenNames y0
  refine moves_cut (y := y0) ?_ fun h1 => ?_
  · unfold y0
    exact (moves_sleepDone).then (by decide) <| (moves_stepCheck).then (by decide) <| (moves_retryGroups).then (by decide) <| Moves.refl _ _
  clear_value y0
  exact (moves_settleN).then (by decide) <| h1

theorem moves_settled {w : Nat} {f0 e} (hw : 520060220 ||| w = w) (hf0 : ∀ e, Moves w e (f0 e)) :
    Moves w e (settled f0 e) := by
  unfold settled
  exact (moves_settle).then (subMask hw (by decide)) <| (hf0 _).then (Nat.or_self _) <| Moves.refl _ _

theorem moves_goPairTxn {x0 x1 e} : Moves 520060220 e (goPairTxn x0 x1 e) := by
  unfold goPairTxn
  refine (moves_settled (by decide) (fun e0 => ?_)).then (Nat.or_self _) ?_
  · exact (moves_pairTxnNow).then (by decide) <| Moves.refl _ _
  exact Moves.refl _ _

theorem acts_execPairTxn {x0 x1 x2} : Acts 520060220 (execPairTxn x0 x1 x2) x2 := by
  unfold execPairTxn
  refine Acts.mk fun e => ?_
  refine (moves_arriveT (by decide) (fun e0 => ?_)).then (Nat.or_self _) ?_
  · exact (moves_goPairTxn).then (by decide) <| Moves.refl _ _
  exact Moves.refl _ _

theorem moves_goPairCommit {x0 x1 e} : Moves 520060220 e (goPairCommit x0 x1 e) := by
  unfold goPairCommit
  refine (moves_settled (by decide) (fun e0 => ?_)).then (Nat.or_self _) ?_
  · exact (moves_pairCommitGo).then (by decide) <| Moves.refl _ _
  exact Moves.refl _ _

theorem acts_execPairCommit {x0 x1 x2} : Acts 520060220 (execPairCommit x0 x1 x2) x2 := by
  unfold execPairCommit
  refine Acts.mk fun e => ?_
  refine (moves_arriveT (by decide) (fun e0 => ?_)).then (Nat.or_self _) ?_
  · exact (moves_goPairCommit).then (by decide) <| Moves.refl _ _
  exact Moves.refl _ _

theorem moves_goPairAbort {x0 x1 e} : Moves 520060220 e (goPairAbort x0 x1 e) := by
  unfold goPairAbort
  refine (moves_settled (by decide) (fun e0 => ?_)).then (Nat.or_self _) ?_
  · exact (moves_pairAbortGo).then (by decide) <| Moves.refl _ _
  exact Moves.refl _ _

theorem acts_execPairAbort {x0 x1 x2} : Acts 520060220 (execPairAbort x0 x1 x2) x2 := by
  unfold execPairAbort
  refine Acts.mk fun e => ?_
  refine (moves_arriveT (by decide) (fun e0 => ?_)).then (Nat.or_self _) ?_
  · exact (moves_goPairAbort).then (by decide) <| Moves.refl _ _
  exact Moves.refl _ _

theorem moves_goPortPark {x0 x1 e} : Moves 520060220 e (goPortPark x0 x1 e) := by
  unfold goPortPark
  refine (moves_settled (by decide) (fun e0 => ?_)).then (Nat.or_self _) ?_
  · exact (moves_portParkGo).then (by decide) <| Moves.refl _ _
  exact Moves.refl _ _

theorem acts_execPortPark {x0 x1 x2} : Acts 520060220 (execPortPark x0 x1 x2) x2 := by
  unfold execPortPark
  refine Acts.mk fun e => ?_
  refine (moves_arriveT (by decide) (fun e0 => ?_)).then (Nat.or_self _) ?_
  · exact (moves_goPortPark).then (by decide) <| Moves.refl _ _
  exact Moves.refl _ _

theorem moves_goOwnerSet {x0 x1 e} : Moves 520060220 e (goOwnerSet x0 x1 e) := by
  unfold goOwnerSet
  refine (moves_settled (by decide) (fun e0 => ?_)).then (Nat.or_self _) ?_
  · exact (moves_ownerSetGo).then (by decide) <| Moves.refl _ _
  exact Moves.refl _ _

theorem acts_execOwnerSet {x0 x1 x2} : Acts 520060220 (execOwnerSet x0 x1 x2) x2 := by
  unfold execOwnerSet
  refine Acts.mk fun e => ?_
  refine (moves_arrive (by decide) (fun e0 => ?_)).then (Nat.or_self _) ?_
  · exact (moves_goOwnerSet).then (by decide) <| Moves.refl _ _
  exact Moves.refl _ _

theorem moves_pairQueryBody {x0 x1 e} : Moves 470746172 e (pairQueryBody x0 x1 e) := by
  unfold pairQueryBody
  refine moves_ite ?_ ?_
  · exact (moves_completeAt).then (by decide) <| Moves.refl _ _
  refine moves_ite ?_ ?_
  · exact (moves_complete).then (by decide) <| Moves.refl _ _
  split
  · rename_i z0 z1
    exact (moves_complete).then (by decide) <| Moves.refl _ _
  · rename_i z2 z3 z4
    refine moves_ite ?_ ?_
    · exact (moves_complete).then (by decide) <| Moves.refl _ _
    extract_lets +onlyGivenNames y5 y6
    clear_value y5 y6
    exact (moves_updStream).then (by decide) <| (moves_openCmd).then (by decide) <| Moves.refl _ _

theorem moves_goPairQuery {x0 x1 e} : Moves 470746172 e (goPairQuery x0 x1 e) := by
  unfold goPairQuery
  refine (moves_runCmd (by decide) (fun e0 => ?_)).then (Nat.or_self _) ?_
  · exact (moves_pairQueryBody).then (by decide) <| Moves.refl _ _
  exact Moves.refl _ _

theorem acts_execPairQuery {x0 x1 x2} : Acts 470746172 (execPairQuery x0 x1 x2) x2 := by
  unfold execPairQuery
  refine Acts.mk fun e => ?_
  refine (moves_arriveT (by decide) (fun e0 => ?_)).then (Nat.or_self _) ?_
  · exact (moves_goPairQuery).then (by decide) <| Moves.refl _ _
  exact Moves.refl _ _

theorem moves_preparedNow {x0 x1 e} : Moves 471800892 e (preparedNow x0 x1 e) := by
  unfold preparedNow
  split
  · rename_i z0 z1
    exact Moves.refl _ _
  · rename_i z2 z3 z4
    refine moves_ite ?_ ?_
    · exact Moves.refl _ _
    refine moves_ite ?_ ?_
    · exact (moves_failTxn).then (by decide) <| Moves.refl _ _
    split
    · rename_i z5 z6 z7 z8 z9
      refine moves_pair z9 ?_ fun h10 => ?_
      · exact (moves_fetchAll).then (by decide) <| Moves.refl _ _
      exact (moves_failTxn).then (by decide) <| h10
    · rename_i z11 z12 z13 z14
      refine moves_pair z14 ?_ fun h15 => ?_
      · exact (moves_fetchAll).then (by decide) <| Moves.refl _ _
      extract_lets +onlyGivenNames y16
      clear_value y16
      refine moves_ite ?_ ?_
      · exact (moves_failTxn).then (by decide) <| h15
      exact (moves_tryGroup).then (by decide) <| (moves_updTxn).then (by decide) <| h15

theorem acts_execPrepared {x0 x1 x2} : Acts 520060220 (execPrepared x0 x1 x2) x2 := by
  unfold execPrepared
  refine Acts.mk fun e => ?_
  refine (moves_settled (by decide) (fun e0 => ?_)).then (Nat.or_self _) ?_
  · exact (moves_preparedNow).then (by decide) <| Moves.refl _ _
  exact Moves.refl _ _

theorem moves_noGroupNow {x0 e} : Moves 471817277 e (noGroupNow x0 e) := by
  unfold noGroupNow
  split
  · rename_i z0 z1
    exact Moves.refl _ _
  · rename_i z2 z3 z4
    refine moves_ite ?_ ?_
    · exact Moves.refl _ _
    refine (moves_failTxn).then (by decide) <| ?_
    refine moves_ite ?_ ?_
    · exact (moves_waitClk).then (by decide) <| Moves.refl _ _
    exact (moves_waitD).then (by decide) <| Moves.refl _ _

theorem acts_execNoGroup {x0 x1} : Acts 520060221 (execNoGroup x0 x1) x1 := by
  unfold execNoGroup
  refine Acts.mk fun e => ?_
  refine (moves_settled (by decide) (fun e0 => ?_)).then (Nat.or_self _) ?_
  · exact (moves_noGroupNow).then (by decide) <| Moves.refl _ _
  exact Moves.refl _ _

theorem moves_syncMissingNow {x0 e} : Moves 471817277 e (syncMissingNow x0 e) := by
  unfold syncMissingNow
  split
  · rename_i z0 z1
    exact Moves.refl _ _
  · rename_i z2 z3 z4
    refine moves_ite ?_ ?_
    · exact Moves.refl _ _
    exact (moves_failTxn).then (by decide) <| (moves_waitD).then (by decide) <| Moves.refl _ _

theorem moves_openTmoNow {x0 e} : Moves 471817277 e (openTmoNow x0 e) := by
  unfold openTmoNow
  split
  · rename_i z0 z1
    exact Moves.refl _ _
  · rename_i z2 z3 z4
    refine moves_ite ?_ ?_
    · exact Moves.refl _ _
    exact (moves_failTxn).then (by decide) <| (moves_waitClk).then (by decide) <| Moves.refl _ _

theorem acts_execOpenTmo {x0 x1} : Acts 520060221 (execOpenTmo x0 x1) x1 := by
  unfold execOpenTmo
  refine Acts.mk fun e => ?_
  refine (moves_settled (by decide) (fun e0 => ?_)).then (Nat.or_self _) ?_
  · exact (moves_openTmoNow).then (by decide) <| Moves.refl _ _
  exact Moves.refl _ _

theorem acts_execCheck {x0 x1} : Acts 520060221 (execCheck x0 x1) x1 := by
  unfold execCheck
  refine Acts.mk fun e => ?_
  refine (moves_settled (by decide) (fun e0 => ?_)).then (Nat.or_self _) ?_
  · exact (moves_checkNow).then (by decide) <| Moves.refl _ _
  exact Moves.refl _ _

theorem moves_fixSync {x0 e} : Moves 524288 e (fixSync x0 e) := by
  unfold fixSync
  extract_lets +onlyGivenNames y0
  clear_value y0
  refine moves_each _ _ _ (fun x1 e2 => ?_) ?_
  · extract_lets +onlyGivenNames y3
    refine moves_cut (y := y3) ?_ fun h4 => ?_
    · unfold y3
      exact (moves_updTxn).then (by decide) <| Moves.refl _ _
    clear_value y3
    split
    · rename_i z5 z6 z7
      exact (moves_updJob).then (by decide) <| h4
    · rename_i z8 z9
      exact h4
  exact Moves.refl _ _

theorem moves_publishNow {e} : Moves 470762557 e (publishNow e) := by
  unfold publishNow
  refine moves_ite ?_ ?_
  · exact Moves.refl _ _
  extract_lets +onlyGivenNames y0
  refine moves_cut (y := y0) ?_ fun h1 => ?_
  · unfold y0
    split
    · rename_i z2 z3 z4 z5
      exact (moves_waitClk).then (by decide) <| Moves.refl _ _
    · rename_i z6 z7
      exact Moves.refl _ _
  clear_value y0
  exact (moves_publish).then (by decide) <| moves_xact (by decide) <| h1

theorem acts_execMapPublish {x0} : Acts 520060221 (execMapPublish x0) x0 := by
  unfold execMapPublish
  refine Acts.mk fun e => ?_
  refine (moves_settled (by decide) (fun e0 => ?_)).then (Nat.or_self _) ?_
  · exact (moves_publishNow).then (by decide) <| Moves.refl _ _
  exact Moves.refl _ _

theorem moves_scheduleRepair {x0 e} : MovesO 302777404 e (scheduleRepair x0 e) := by
  unfold scheduleRepair
  extract_lets +onlyGivenNames y0
  clear_value y0
  split
  · rename_i z1
    exact movesO_none
  · rename_i z2
    extract_lets +onlyGivenNames y3
    refine moves_cutG (w := 302777404) (a := e) (y := y3.1) ?_ fun h4 => ?_
    · unfold y3
      exact (moves_ownRecs).then (by decide) <| Moves.refl _ _
    clear_value y3
    extract_lets +onlyGivenNames y5
    refine moves_cutG (w := 302777404) (a := e) (y := y5) ?_ fun h6 => ?_
    · unfold y5
      exact (moves_addNow).then (by decide) <| h4
    clear_value y5
    extract_lets +onlyGivenNames y7
    clear_value y7
    refine movesO_some <| ?_
    refine moves_ite ?_ ?_
    · exact moves_sch (by decide) <| h6
    exact h6

theorem moves_majorParkNow {e} : Moves 302777404 e (majorParkNow e) := by
  unfold majorParkNow
  extract_lets +onlyGivenNames y0
  extract_lets +onlyGivenNames y1
  refine moves_cut (y := y1) ?_ fun h2 => ?_
  · unfold y1
    exact moves_flt (by decide) id <| Moves.refl _ _
  clear_value y1
  split
  · rename_i z3 z4
    exact h2
  · rename_i z5 z6 z7
    extract_lets +onlyGivenNames y8
    extract_lets +onlyGivenNames y9
    refine moves_cut (y := y9) ?_ fun h10 => ?_
    · unfold y9
      exact moves_flt (by decide) id <| h2
    clear_value y9
    refine moves_ite ?_ ?_
    · exact h10
    refine moves_ite ?_ ?_
    · exact h2
    split
    · rename_i z11 z12
      exact h10
    · rename_i z13 z14 z15
      refine moves_some z15 ?_ fun h16 => ?_
      · split
        · rename_i z17
          exact (moves_scheduleRepair).then (by decide) <| h2
        · rename_i z18
          exact (moves_parkNow).then (by decide) <| h2
      extract_lets +onlyGivenNames y19
      clear_value y19
      exact moves_flt (by decide) id <| h16

theorem acts_execMajorPark {x0} : Acts 520060220 (execMajorPark x0) x0 := by
  unfold execMajorPark
  refine Acts.mk fun e => ?_
  refine (moves_settled (by decide) (fun e0 => ?_)).then (Nat.or_self _) ?_
  · exact (moves_majorParkNow).then (by decide) <| Moves.refl _ _
  exact Moves.refl _ _

end Sys2Proof.Machine
end

