-- ==== Sys2Proof/Laws/MovesFaults.lean ====
section
/-! SUPPORT. What each operation of Machine/Faults.lean can do (`moves_f`). -/

namespace Sys2Proof.Machine

theorem moves_holdMaster {x0 e} : Moves 28 e (holdMaster x0 e) := by
  unfold holdMaster
  exact (moves_wr).then (by decide) <| Moves.refl _ _

theorem moves_wireReact {x0 x1 x2 e} : Moves 536837181 e (wireReact x0 x1 x2 e) := by
  unfold wireReact
  refine moves_ite ?_ ?_
  · exact Moves.refl _ _
  refine moves_ite ?_ ?_
  · exact (moves_freezeTile).then (by decide) <| Moves.refl _ _
  refine moves_ite ?_ ?_
  · refine moves_ite ?_ ?_
    · exact (moves_holdMaster).then (by decide) <| Moves.refl _ _
    exact Moves.refl _ _
  refine moves_ite ?_ ?_
  · refine moves_ite ?_ ?_
    · extract_lets +onlyGivenNames y0
      clear_value y0
      exact (moves_shutdownGo).then (by decide) <| moves_thm (by decide) <| Moves.refl _ _
    exact Moves.refl _ _
  exact (moves_react).then (by decide) <| Moves.refl _ _

theorem moves_wireFaultNow {x0 x1 x2 e} : Moves 536837181 e (wireFaultNow x0 x1 x2 e) := by
  unfold wireFaultNow
  refine moves_ite ?_ ?_
  · exact Moves.refl _ _
  split
  · rename_i z0 z1
    exact Moves.refl _ _
  · rename_i z2 z3 z4
    extract_lets +onlyGivenNames y5
    extract_lets +onlyGivenNames y6
    refine moves_cut (y := y6) ?_ fun h7 => ?_
    · unfold y6
      exact moves_flt (by decide) id <| Moves.refl _ _
    clear_value y6
    extract_lets +onlyGivenNames y8
    refine moves_cut (y := y8) ?_ fun h9 => ?_
    · unfold y8
      exact (moves_noteRec).then (by decide) <| h7
    clear_value y8
    extract_lets +onlyGivenNames y10
    refine moves_cut (y := y10) ?_ fun h11 => ?_
    · unfold y10
      exact (moves_mark).then (by decide) <| (moves_inc).then (by decide) <| h9
    clear_value y10
    extract_lets +onlyGivenNames y12
    refine moves_cut (y := y12) ?_ fun h13 => ?_
    · unfold y12
      refine moves_ite ?_ ?_
      · split
        · rename_i z14 z15 z16
          exact (moves_mark).then (by decide) <| h11
        · rename_i z17 z18
          exact h11
      exact h11
    clear_value y12
    exact (moves_wireReact).then (by decide) <| h13

theorem moves_wireOkNow {x0 x1 x2 e} : Moves 17409 e (wireOkNow x0 x1 x2 e) := by
  unfold wireOkNow
  refine moves_ite ?_ ?_
  · exact Moves.refl _ _
  extract_lets +onlyGivenNames y0
  refine moves_cut (y := y0) ?_ fun h1 => ?_
  · unfold y0
    exact (moves_pass).then (by decide) <| Moves.refl _ _
  clear_value y0
  exact moves_flt (by decide) id <| h1

theorem acts_execWireFault {x0 x1 x2 x3} : Acts 536837181 (execWireFault x0 x1 x2 x3) x3 := by
  unfold execWireFault
  refine Acts.mk fun e => ?_
  refine moves_ite ?_ ?_
  · exact (moves_wireOkNow).then (by decide) <| Moves.refl _ _
  exact (moves_wireFaultNow).then (by decide) <| Moves.refl _ _

theorem moves_busHangNow {x0 x1 e} : Moves 536812604 e (busHangNow x0 x1 e) := by
  unfold busHangNow
  refine moves_ite ?_ ?_
  · exact Moves.refl _ _
  extract_lets +onlyGivenNames y0
  refine moves_cut (y := y0) ?_ fun h1 => ?_
  · unfold y0
    exact (moves_raiseD).then (by decide) <| Moves.refl _ _
  clear_value y0
  refine moves_ite ?_ ?_
  · exact h1
  exact (moves_holdMaster).then (by decide) <| h1

theorem acts_execBusHang {x0 x1 x2} : Acts 536812604 (execBusHang x0 x1 x2) x2 := by
  unfold execBusHang
  refine Acts.mk fun e => ?_
  exact (moves_busHangNow).then (by decide) <| Moves.refl _ _

theorem moves_hsErrNow {x0 e} : Moves 488578108 e (hsErrNow x0 e) := by
  unfold hsErrNow
  refine moves_ite ?_ ?_
  · exact Moves.refl _ _
  extract_lets +onlyGivenNames y0
  refine moves_cut (y := y0) ?_ fun h1 => ?_
  · unfold y0
    exact (moves_setLive).then (by decide) <| (moves_noteTile).then (by decide) <| Moves.refl _ _
  clear_value y0
  extract_lets +onlyGivenNames y2
  refine moves_cut (y := y2) ?_ fun h3 => ?_
  · unfold y2
    exact (moves_updTile).then (by decide) <| h1
  clear_value y2
  refine moves_ite ?_ ?_
  · exact h3
  exact (moves_freezeTile).then (by decide) <| h3

theorem acts_execHsErr {x0 x1} : Acts 536837436 (execHsErr x0 x1) x1 := by
  unfold execHsErr
  refine Acts.mk fun e => ?_
  refine (moves_settled (by decide) (fun e0 => ?_)).then (Nat.or_self _) ?_
  · exact (moves_hsErrNow).then (by decide) <| Moves.refl _ _
  exact Moves.refl _ _

theorem acts_execGravePersist {x0 x1} : Acts 268698684 (execGravePersist x0 x1) x1 := by
  unfold execGravePersist
  refine Acts.mk fun e => ?_
  refine moves_ite ?_ ?_
  · exact Moves.refl _ _
  extract_lets +onlyGivenNames y0
  extract_lets +onlyGivenNames y1
  refine moves_cut (y := y1) ?_ fun h2 => ?_
  · unfold y1
    exact moves_flt (by decide) id <| Moves.refl _ _
  clear_value y1
  refine moves_ite ?_ ?_
  · exact h2
  exact (moves_note).then (by decide) <| h2

theorem moves_graveClrApply {x0 e} : Moves 1024 e (graveClrApply x0 e) := by
  unfold graveClrApply
  refine moves_ite ?_ ?_
  · exact moves_flt (by decide) id <| Moves.refl _ _
  exact Moves.refl _ _

theorem acts_execAtnHoldoffEnd {x0} : Acts 268715009 (execAtnHoldoffEnd x0) x0 := by
  unfold execAtnHoldoffEnd
  refine Acts.mk fun e => ?_
  refine moves_ite ?_ ?_
  · exact Moves.refl _ _
  extract_lets +onlyGivenNames y0
  refine moves_cut (y := y0) ?_ fun h1 => ?_
  · unfold y0
    exact (moves_waitClk).then (by decide) <| Moves.refl _ _
  clear_value y0
  extract_lets +onlyGivenNames y2
  extract_lets +onlyGivenNames y3
  refine moves_cut (y := y3) ?_ fun h4 => ?_
  · unfold y3
    exact moves_flt (by decide) id <| h1
  clear_value y3
  refine moves_ite ?_ ?_
  · exact (moves_signalMsix).then (by decide) <| h4
  exact h4

theorem moves_dropSetMode {e} : Moves 471796796 e (dropSetMode e) := by
  unfold dropSetMode
  split
  · rename_i z0 z1
    exact Moves.refl _ _
  · rename_i z2 z3 z4
    extract_lets +onlyGivenNames y5
    extract_lets +onlyGivenNames y6
    refine moves_cut (y := y6) ?_ fun h7 => ?_
    · unfold y6
      exact moves_sys (by decide) rfl <| Moves.refl _ _
    clear_value y6
    extract_lets +onlyGivenNames y8
    refine moves_cut (y := y8) ?_ fun h9 => ?_
    · unfold y8
      refine moves_ite ?_ ?_
      · exact (moves_brakeOff).then (by decide) <| h7
      exact h7
    clear_value y8
    extract_lets +onlyGivenNames y10
    refine moves_cut (y := y10) ?_ fun h11 => ?_
    · unfold y10
      refine moves_each _ _ _ (fun x12 e13 => ?_) ?_
      · exact (moves_dropJob).then (by decide) <| Moves.refl _ _
      exact h9
    clear_value y10
    refine moves_ite ?_ ?_
    · exact h11
    exact (moves_complete).then (by decide) <| h11

theorem moves_dropBist {e} : Moves 470223932 e (dropBist e) := by
  unfold dropBist
  split
  · rename_i z0 z1
    exact Moves.refl _ _
  · rename_i z2 z3 z4
    exact (moves_complete).then (by decide) <| moves_sys (by decide) rfl <| Moves.refl _ _

theorem moves_dropStage {e} : Moves 470223932 e (dropStage e) := by
  unfold dropStage
  split
  · rename_i z0 z1
    exact Moves.refl _ _
  · rename_i z2 z3 z4 z5
    exact (moves_complete).then (by decide) <| (moves_unstage).then (by decide) <| moves_sys (by decide) rfl <| Moves.refl _ _

theorem moves_coreWork {e} : Moves 482282556 e (coreWork e) := by
  unfold coreWork
  exact (moves_dropStage).then (by decide) <| (moves_dropBist).then (by decide) <| (moves_dropSetMode).then (by decide) <| (moves_loseCalSensor).then (by decide) <| (moves_loseSurvey).then (by decide) <| Moves.refl _ _

theorem moves_islandWork {x0 e} : Moves 520051772 e (islandWork x0 e) := by
  unfold islandWork
  split
  · rename_i z0
    exact moves_dma (by decide) <| Moves.refl _ _
  · rename_i z1
    refine moves_each _ _ _ (fun x2 e3 => ?_) ?_
    · exact (moves_complete).then (by decide) <| Moves.refl _ _
    exact Moves.refl _ _
  · rename_i z4
    extract_lets +onlyGivenNames y5
    refine moves_cut (y := y5) ?_ fun h6 => ?_
    · unfold y5
      refine moves_each _ _ _ (fun x7 e8 => ?_) ?_
      · extract_lets +onlyGivenNames y9
        refine moves_cut (y := y9) ?_ fun h10 => ?_
        · unfold y9
          exact (moves_endJob).then (by decide) <| Moves.refl _ _
        clear_value y9
        split
        · rename_i z11 z12 z13
          exact (moves_complete).then (by decide) <| h10
        · rename_i z14 z15
          exact h10
      exact Moves.refl _ _
    clear_value y5
    exact (moves_failAll).then (by decide) <| h6
  · rename_i z16
    extract_lets +onlyGivenNames y17
    clear_value y17
    extract_lets +onlyGivenNames y18
    refine moves_cut (y := y18) ?_ fun h19 => ?_
    · unfold y18
      exact moves_sch (by decide) <| Moves.refl _ _
    clear_value y18
    extract_lets +onlyGivenNames y20
    refine moves_cut (y := y20) ?_ fun h21 => ?_
    · unfold y20
      split
      · rename_i z22 z23 z24 z25
        exact (moves_complete).then (by decide) <| h19
      · rename_i z26 z27
        exact h19
    clear_value y20
    extract_lets +onlyGivenNames y28
    refine moves_cut (y := y28) ?_ fun h29 => ?_
    · unfold y28
      split
      · rename_i z30 z31 z32 z33 z34
        exact (moves_complete).then (by decide) <| h21
      · rename_i z35 z36
        exact h21
    clear_value y28
    exact (moves_stopNow).then (by decide) <| h29
  · rename_i z37
    extract_lets +onlyGivenNames y38
    refine moves_cut (y := y38) ?_ fun h39 => ?_
    · unfold y38
      refine moves_whenE _ _ (fun e40 => ?_) ?_
      · exact (moves_note).then (by decide) <| Moves.refl _ _
      exact Moves.refl _ _
    clear_value y38
    exact moves_rfs (by decide) <| h39
  · rename_i z41
    extract_lets +onlyGivenNames y42
    refine moves_cut (y := y42) ?_ fun h43 => ?_
    · unfold y42
      refine moves_whenE _ _ (fun e44 => ?_) ?_
      · exact (moves_note).then (by decide) <| Moves.refl _ _
      exact Moves.refl _ _
    clear_value y42
    exact moves_rfs (by decide) <| h43
  · rename_i z45
    exact moves_tim (by decide) (fun _ => by simp) <| Moves.refl _ _
  · rename_i z46
    exact moves_lrg (by decide) <| Moves.refl _ _
  · rename_i z47
    exact moves_lrg (by decide) <| Moves.refl _ _
  · rename_i z48
    exact moves_lrg (by decide) <| Moves.refl _ _
  · rename_i z49
    exact (moves_coreWork).then (by decide) <| Moves.refl _ _
  · rename_i z50
    exact (moves_coreWork).then (by decide) <| Moves.refl _ _
  · rename_i z51
    exact (moves_coreWork).then (by decide) <| Moves.refl _ _
  · rename_i z52
    exact (moves_coreWork).then (by decide) <| Moves.refl _ _
  · rename_i z53 z54 z55 z56 z57 z58 z59 z60 z61 z62 z63 z64 z65 z66 z67
    exact Moves.refl _ _

theorem moves_irstApply {x0 e} : Moves 536828988 e (irstApply x0 e) := by
  unfold irstApply
  extract_lets +onlyGivenNames y0
  clear_value y0
  refine moves_ite ?_ ?_
  · exact (moves_note).then (by decide) <| Moves.refl _ _
  refine moves_ite ?_ ?_
  · exact (moves_wrF).then (by decide) <| Moves.refl _ _
  extract_lets +onlyGivenNames y1
  refine moves_cut (y := y1) ?_ fun h2 => ?_
  · unfold y1
    exact (moves_wrF).then (by decide) <| Moves.refl _ _
  clear_value y1
  extract_lets +onlyGivenNames y3
  extract_lets +onlyGivenNames y4
  refine moves_cut (y := y4) ?_ fun h5 => ?_
  · unfold y4
    exact moves_flt (by decide) id <| h2
  clear_value y4
  refine moves_ite ?_ ?_
  · exact (moves_tileReset).then (by decide) <| h5
  exact (moves_islandWork).then (by decide) <| h5

theorem moves_releaseMaster {x0 e} : Moves 28 e (releaseMaster x0 e) := by
  unfold releaseMaster
  exact (moves_wr).then (by decide) <| Moves.refl _ _

theorem moves_irstEndNow {e} : Moves 407856446 e (irstEndNow e) := by
  unfold irstEndNow
  split
  · rename_i z0 z1
    exact Moves.refl _ _
  · rename_i z2 z3 z4
    refine moves_ite ?_ ?_
    · exact Moves.refl _ _
    extract_lets +onlyGivenNames y5
    extract_lets +onlyGivenNames y6
    refine moves_cut (y := y6) ?_ fun h7 => ?_
    · unfold y6
      exact moves_flt (by decide) id <| Moves.refl _ _
    clear_value y6
    extract_lets +onlyGivenNames y8
    refine moves_cut (y := y8) ?_ fun h9 => ?_
    · unfold y8
      split
      · rename_i z10 z11 z12
        exact (moves_releaseMaster).then (by decide) <| h7
      · rename_i z13 z14
        exact h7
    clear_value y8
    refine moves_ite ?_ ?_
    · exact moves_rfs (by decide) <| h9
    refine moves_ite ?_ ?_
    · exact moves_rfs (by decide) <| h9
    refine moves_ite ?_ ?_
    · refine moves_each _ _ _ (fun x15 e16 => ?_) ?_
      · exact (moves_flushHeld).then (by decide) <| Moves.refl _ _
      exact h9
    refine moves_ite ?_ ?_
    · exact (moves_tbCheck).then (by decide) <| h9
    exact h9

theorem acts_execIrstEnd {x0} : Acts 407856446 (execIrstEnd x0) x0 := by
  unfold execIrstEnd
  refine Acts.mk fun e => ?_
  exact (moves_irstEndNow).then (by decide) <| Moves.refl _ _

end Sys2Proof.Machine
end

