-- ==== Sys2Proof/Laws/MovesHopper.lean ====
section
/-! SUPPORT. What each operation of Machine/Hopper.lean can do (`moves_f`). -/

namespace Sys2Proof.Machine

theorem moves_dbBad {e} : Moves 268698684 e (dbBad e) := by
  unfold dbBad
  exact (moves_note).then (by decide) <| (moves_inc).then (by decide) <| Moves.refl _ _

theorem moves_domainOffCheck {x0 e} : Moves 268698684 e (domainOffCheck x0 e) := by
  unfold domainOffCheck
  split
  · rename_i z0 z1 z2
    refine moves_ite ?_ ?_
    · exact Moves.refl _ _
    exact (moves_note).then (by decide) <| Moves.refl _ _
  · rename_i z3 z4
    exact Moves.refl _ _

theorem moves_sqTailPut {x0 x1 e} : Moves 268764220 e (sqTailPut x0 x1 e) := by
  unfold sqTailPut
  extract_lets +onlyGivenNames y0
  clear_value y0
  refine moves_ite ?_ ?_
  · exact (moves_dbBad).then (by decide) <| Moves.refl _ _
  extract_lets +onlyGivenNames y1 y2 y3 y4
  clear_value y1 y2 y3 y4
  extract_lets +onlyGivenNames y5
  refine moves_cut (y := y5) ?_ fun h6 => ?_
  · unfold y5
    exact moves_cmd (by decide) <| Moves.refl _ _
  clear_value y5
  exact (moves_domainOffCheck).then (by decide) <| (moves_updHop).then (by decide) <| h6

theorem moves_cqHeadPut {x0 x1 e} : Moves 268764220 e (cqHeadPut x0 x1 e) := by
  unfold cqHeadPut
  extract_lets +onlyGivenNames y0
  clear_value y0
  refine moves_ite ?_ ?_
  · exact (moves_dbBad).then (by decide) <| Moves.refl _ _
  exact (moves_domainOffCheck).then (by decide) <| (moves_updHop).then (by decide) <| Moves.refl _ _

theorem moves_doorbell {w : Nat} {x0 x1 x2 x3 f4 e} (hw : 268698684 ||| w = w) (hf4 : ∀ y0 y1 e, Moves w e (f4 y0 y1 e)) :
    Moves w e (doorbell x0 x1 x2 x3 f4 e) := by
  unfold doorbell
  refine moves_ite ?_ ?_
  · exact Moves.refl _ _
  extract_lets +onlyGivenNames y0
  refine moves_cut (y := y0) ?_ fun h1 => ?_
  · unfold y0
    exact (moves_inc).then (subMask hw (by decide)) <| Moves.refl _ _
  clear_value y0
  split
  · rename_i z2 z3
    exact (moves_dbBad).then (subMask hw (by decide)) <| h1
  · rename_i z4 z5 z6
    refine moves_ite ?_ ?_
    · exact (hf4 _ _ _).then (Nat.or_self _) <| h1
    exact (moves_dbBad).then (subMask hw (by decide)) <| h1

theorem acts_execSqDoorbell {x0 x1 x2 x3 x4} : Acts 268764220 (execSqDoorbell x0 x1 x2 x3 x4) x4 := by
  unfold execSqDoorbell
  refine Acts.mk fun e => ?_
  refine (moves_doorbell (by decide) (fun e0 e1 e2 => ?_)).then (Nat.or_self _) ?_
  · exact (moves_sqTailPut).then (by decide) <| Moves.refl _ _
  exact Moves.refl _ _

theorem acts_execCqDoorbell {x0 x1 x2 x3 x4} : Acts 268764220 (execCqDoorbell x0 x1 x2 x3 x4) x4 := by
  unfold execCqDoorbell
  refine Acts.mk fun e => ?_
  refine (moves_doorbell (by decide) (fun e0 e1 e2 => ?_)).then (Nat.or_self _) ?_
  · exact (moves_cqHeadPut).then (by decide) <| Moves.refl _ _
  exact Moves.refl _ _

theorem moves_catchUp {e} : Moves 65536 e (catchUp e) := by
  unfold catchUp
  extract_lets +onlyGivenNames y0 y1
  clear_value y0 y1
  refine moves_ite ?_ ?_
  · exact moves_cmd (by decide) <| Moves.refl _ _
  extract_lets +onlyGivenNames y2
  clear_value y2
  exact moves_cmd (by decide) <| Moves.refl _ _

theorem moves_nextUs {e} : Moves 16385 e (nextUs e) := by
  unfold nextUs
  refine moves_ite ?_ ?_
  · exact (moves_waitD).then (by decide) <| Moves.refl _ _
  exact Moves.refl _ _

theorem acts_execPolicerRefill {x0} : Acts 81921 (execPolicerRefill x0) x0 := by
  unfold execPolicerRefill
  refine Acts.mk fun e => ?_
  refine moves_whenE _ _ (fun e0 => ?_) ?_
  · exact (moves_catchUp).then (by decide) <| (moves_nextUs).then (by decide) <| Moves.refl _ _
  exact Moves.refl _ _

theorem acts_execShaperSlot {x0} : Acts 81921 (execShaperSlot x0) x0 := by
  unfold execShaperSlot
  refine Acts.mk fun e => ?_
  refine moves_whenE _ _ (fun e0 => ?_) ?_
  · exact (moves_catchUp).then (by decide) <| (moves_nextUs).then (by decide) <| Moves.refl _ _
  exact Moves.refl _ _

theorem moves_signalLater {x0 e} : Moves 268763136 e (signalLater x0 e) := by
  unfold signalLater
  extract_lets +onlyGivenNames y0
  clear_value y0
  refine moves_ite ?_ ?_
  · exact Moves.refl _ _
  extract_lets +onlyGivenNames y1
  clear_value y1
  extract_lets +onlyGivenNames y2
  refine moves_cut (y := y2) ?_ fun h3 => ?_
  · unfold y2
    exact (moves_updHop).then (by decide) <| Moves.refl _ _
  clear_value y2
  refine moves_ite ?_ ?_
  · exact h3
  exact (moves_signalMsix).then (by decide) <| h3

theorem moves_signalNow {e} : Moves 268779521 e (signalNow e) := by
  unfold signalNow
  split
  · rename_i z0 z1
    exact Moves.refl _ _
  · rename_i z2 z3 z4 z5
    extract_lets +onlyGivenNames y6
    refine moves_cut (y := y6) ?_ fun h7 => ?_
    · unfold y6
      exact (moves_waitD).then (by decide) <| Moves.refl _ _
    clear_value y6
    refine moves_each _ _ _ (fun x8 e9 => ?_) ?_
    · exact (moves_signalLater).then (by decide) <| Moves.refl _ _
    exact h7

theorem acts_execCompletionSignal {x0} : Acts 268779521 (execCompletionSignal x0) x0 := by
  unfold execCompletionSignal
  refine Acts.mk fun e => ?_
  refine moves_whenE _ _ (fun e0 => ?_) ?_
  · exact (moves_signalNow).then (by decide) <| Moves.refl _ _
  exact Moves.refl _ _

theorem moves_sampleNow {e} : Moves 81921 e (sampleNow e) := by
  unfold sampleNow
  extract_lets +onlyGivenNames y0
  refine moves_cut (y := y0) ?_ fun h1 => ?_
  · unfold y0
    refine moves_ite ?_ ?_
    · exact (moves_waitD).then (by decide) <| Moves.refl _ _
    exact Moves.refl _ _
  clear_value y0
  extract_lets +onlyGivenNames y2 y3
  clear_value y2 y3
  extract_lets +onlyGivenNames y4
  refine moves_cut (y := y4) ?_ fun h5 => ?_
  · unfold y4
    exact moves_cmd (by decide) <| h1
  clear_value y4
  refine moves_ite ?_ ?_
  · refine moves_each _ _ _ (fun x6 e7 => ?_) ?_
    · exact (moves_updHop).then (by decide) <| Moves.refl _ _
    exact h5
  exact h5

theorem acts_execHopperSample {x0} : Acts 81921 (execHopperSample x0) x0 := by
  unfold execHopperSample
  refine Acts.mk fun e => ?_
  refine moves_whenE _ _ (fun e0 => ?_) ?_
  · exact (moves_sampleNow).then (by decide) <| Moves.refl _ _
  exact Moves.refl _ _

theorem moves_closePosted {x0 e} : Moves 471800892 e (closePosted x0 e) := by
  unfold closePosted
  extract_lets +onlyGivenNames y0
  clear_value y0
  extract_lets +onlyGivenNames y1
  refine moves_cut (y := y1) ?_ fun h2 => ?_
  · unfold y1
    exact (moves_failTxn).then (by decide) <| (moves_updTxn).then (by decide) <| Moves.refl _ _
  clear_value y1
  split
  · rename_i z3 z4
    exact (moves_complete).then (by decide) <| h2
  · rename_i z5
    exact h2

theorem moves_domainOff {x0 e} : Moves 471800892 e (domainOff x0 e) := by
  unfold domainOff
  refine moves_each _ _ _ (fun x0 e1 => ?_) ?_
  · exact (moves_closePosted).then (by decide) <| Moves.refl _ _
  exact Moves.refl _ _

theorem moves_setDomEn {x0 x1 e} : Moves 471800892 e (setDomEn x0 x1 e) := by
  unfold setDomEn
  refine moves_ite ?_ ?_
  · exact Moves.refl _ _
  extract_lets +onlyGivenNames y0 y1
  clear_value y0 y1
  extract_lets +onlyGivenNames y2
  refine moves_cut (y := y2) ?_ fun h3 => ?_
  · unfold y2
    exact (moves_wr).then (by decide) <| Moves.refl _ _
  clear_value y2
  refine moves_ite ?_ ?_
  · exact (moves_domainOff).then (by decide) <| h3
  exact h3

theorem moves_domEnApply {x0 x1 e} : Moves 471800892 e (domEnApply x0 x1 e) := by
  unfold domEnApply
  refine moves_each _ _ _ (fun x0 e1 => ?_) ?_
  · exact (moves_setDomEn).then (by decide) <| Moves.refl _ _
  exact Moves.refl _ _

theorem moves_domainCfgBody {x0 x1 e} : Moves 471800892 e (domainCfgBody x0 x1 e) := by
  unfold domainCfgBody
  refine moves_ite ?_ ?_
  · exact (moves_complete).then (by decide) <| Moves.refl _ _
  refine moves_ite ?_ ?_
  · exact (moves_complete).then (by decide) <| Moves.refl _ _
  refine moves_ite ?_ ?_
  · exact (moves_complete).then (by decide) <| Moves.refl _ _
  refine moves_ite ?_ ?_
  · exact (moves_complete).then (by decide) <| Moves.refl _ _
  refine moves_ite ?_ ?_
  · exact (moves_complete).then (by decide) <| Moves.refl _ _
  extract_lets +onlyGivenNames y0
  refine moves_cut (y := y0) ?_ fun h1 => ?_
  · unfold y0
    exact (moves_updDom).then (by decide) <| Moves.refl _ _
  clear_value y0
  exact (moves_complete).then (by decide) <| (moves_setDomEn).then (by decide) <| h1

theorem moves_goDomainCfg {x0 x1 e} : Moves 520060220 e (goDomainCfg x0 x1 e) := by
  unfold goDomainCfg
  refine (moves_settled (by decide) (fun e0 => ?_)).then (Nat.or_self _) ?_
  · refine (moves_runCmd (by decide) (fun e1 => ?_)).then (Nat.or_self _) ?_
    · exact (moves_domainCfgBody).then (by decide) <| Moves.refl _ _
    exact Moves.refl _ _
  exact Moves.refl _ _

theorem acts_execDomainCfg {x0 x1 x2} : Acts 520060220 (execDomainCfg x0 x1 x2) x2 := by
  unfold execDomainCfg
  refine Acts.mk fun e => ?_
  refine (moves_arrive (by decide) (fun e0 => ?_)).then (Nat.or_self _) ?_
  · exact (moves_goDomainCfg).then (by decide) <| Moves.refl _ _
  exact Moves.refl _ _

theorem moves_policerSetBody {x0 x1 e} : Moves 470221884 e (policerSetBody x0 x1 e) := by
  unfold policerSetBody
  refine moves_ite ?_ ?_
  · exact (moves_complete).then (by decide) <| Moves.refl _ _
  refine moves_ite ?_ ?_
  · exact (moves_complete).then (by decide) <| Moves.refl _ _
  refine (moves_complete).then (by decide) <| moves_each _ _ _ (fun x0 e1 => ?_) ?_
  · exact (moves_updHop).then (by decide) <| Moves.refl _ _
  exact (moves_catchUp).then (by decide) <| Moves.refl _ _

theorem moves_goPolicerSet {x0 x1 e} : Moves 470221884 e (goPolicerSet x0 x1 e) := by
  unfold goPolicerSet
  refine (moves_runCmd (by decide) (fun e0 => ?_)).then (Nat.or_self _) ?_
  · exact (moves_policerSetBody).then (by decide) <| Moves.refl _ _
  exact Moves.refl _ _

theorem acts_execPolicerSet {x0 x1 x2} : Acts 470221884 (execPolicerSet x0 x1 x2) x2 := by
  unfold execPolicerSet
  refine Acts.mk fun e => ?_
  refine (moves_arrive (by decide) (fun e0 => ?_)).then (Nat.or_self _) ?_
  · exact (moves_goPolicerSet).then (by decide) <| Moves.refl _ _
  exact Moves.refl _ _

end Sys2Proof.Machine
end

