-- ==== Sys2Proof/Laws/MovesRing.lean ====
section
/-! SUPPORT. What each operation of Machine/Ring.lean can do (`moves_f`). -/

namespace Sys2Proof.Machine

theorem moves_updRing {x0 x1 e} : Moves 67108864 e (updRing x0 x1 e) := by
  unfold updRing
  refine moves_ite ?_ ?_
  · exact moves_lrg (by decide) <| Moves.refl _ _
  exact moves_lrg (by decide) <| Moves.refl _ _

theorem moves_startTx {x0 x1 x2 e} : Moves 335544350 e (startTx x0 x1 x2 e) := by
  unfold startTx
  extract_lets +onlyGivenNames y0
  clear_value y0
  extract_lets +onlyGivenNames y1
  refine moves_cut (y := y1) ?_ fun h2 => ?_
  · unfold y1
    exact (moves_updRing).then (by decide) <| Moves.refl _ _
  clear_value y1
  split
  · rename_i z3 z4
    exact (moves_emit).then (by decide) <| h2
  · rename_i z5 z6 z7
    extract_lets +onlyGivenNames y8
    clear_value y8
    exact (moves_emit).then (by decide) <| (moves_inc).then (by decide) <| (moves_useFree).then (by decide) <| h2

theorem moves_putOut {x0 x1 e} : Moves 67108864 e (putOut x0 x1 e) := by
  unfold putOut
  exact (moves_updRing).then (by decide) <| Moves.refl _ _

theorem moves_shapeCatch {e} : Moves 67108864 e (shapeCatch e) := by
  unfold shapeCatch
  extract_lets +onlyGivenNames y0 y1
  clear_value y0 y1
  refine moves_ite ?_ ?_
  · exact Moves.refl _ _
  exact moves_lrg (by decide) <| Moves.refl _ _

theorem moves_charge {x0 x1 e} : Moves 67108864 e (charge x0 x1 e) := by
  unfold charge
  refine moves_ite ?_ ?_
  · exact Moves.refl _ _
  extract_lets +onlyGivenNames y0
  clear_value y0
  exact moves_lrg (by decide) <| Moves.refl _ _

theorem moves_pnAdvance {x0 e} : Moves 335807548 e (pnAdvance x0 e) := by
  unfold pnAdvance
  extract_lets +onlyGivenNames y0
  clear_value y0
  extract_lets +onlyGivenNames y1
  refine moves_cut (y := y1) ?_ fun h2 => ?_
  · unfold y1
    exact (moves_setRos).then (by decide) <| Moves.refl _ _
  clear_value y1
  refine moves_ite ?_ ?_
  · exact (moves_note).then (by decide) <| h2
  refine moves_ite ?_ ?_
  · exact (moves_note).then (by decide) <| moves_lrg (by decide) <| h2
  exact h2

theorem moves_tsqPrune {e} : Moves 16384 e (tsqPrune e) := by
  unfold tsqPrune
  extract_lets +onlyGivenNames y0
  clear_value y0
  exact moves_tim (by decide) (fun h => Nat.le_trans (List.length_filter_le _ _) h) <| Moves.refl _ _

theorem moves_tsqPut {x0 e} : Moves 268715068 e (tsqPut x0 e) := by
  unfold tsqPut
  extract_lets +onlyGivenNames y t
  have h : Moves 268715068 e y := (moves_tsqPrune).then (by decide) <| Moves.refl _ _
  clear_value y t
  split
  · rename_i hl
    exact moves_tim (by decide) (fun _ => by simpa using hl) h
  · exact (moves_note).then (by decide) <| (moves_inc).then (by decide) <| moves_tim (by decide) id h


theorem moves_sendHead {x0 x1 x2 x3 e} : Moves 335823934 e (sendHead x0 x1 x2 x3 e) := by
  unfold sendHead
  split
  · rename_i z0 z1
    exact Moves.refl _ _
  · rename_i z2 z3 z4 z5
    extract_lets +onlyGivenNames y6
    clear_value y6
    extract_lets +onlyGivenNames y7
    refine moves_cut (y := y7) ?_ fun h8 => ?_
    · unfold y7
      exact moves_lrg (by decide) <| Moves.refl _ _
    clear_value y7
    extract_lets +onlyGivenNames y9
    clear_value y9
    split
    · rename_i z10 z11
      extract_lets +onlyGivenNames y12
      refine moves_cut (y := y12) ?_ fun h13 => ?_
      · unfold y12
        exact (moves_charge).then (by decide) <| (moves_inc).then (by decide) <| (moves_startTx).then (by decide) <| h8
      clear_value y12
      split
      · rename_i z14 z15 z16
        exact (moves_tsqPut).then (by decide) <| h13
      · rename_i z17 z18
        exact h13
    · rename_i z19 z20 z21
      refine moves_ite ?_ ?_
      · refine moves_whenE _ _ (fun e22 => ?_) ?_
        · exact (moves_inc).then (by decide) <| Moves.refl _ _
        exact h8
      extract_lets +onlyGivenNames y23
      clear_value y23
      exact (moves_charge).then (by decide) <| (moves_inc).then (by decide) <| (moves_pnAdvance).then (by decide) <| (moves_startTx).then (by decide) <| h8

theorem moves_passToken {x0 e} : Moves 67108892 e (passToken x0 e) := by
  unfold passToken
  split
  · rename_i z0 z1
    exact Moves.refl _ _
  · rename_i z2 z3 z4
    extract_lets +onlyGivenNames y5
    refine moves_cut (y := y5) ?_ fun h6 => ?_
    · unfold y5
      exact (moves_updRing).then (by decide) <| Moves.refl _ _
    clear_value y5
    refine moves_ite ?_ ?_
    · exact (moves_putOut).then (by decide) <| h6
    exact (moves_inc).then (by decide) <| (moves_putOut).then (by decide) <| h6

theorem moves_serve {x0 x1 x2 x3 e} : Moves 335823934 e (serve x0 x1 x2 x3 e) := by
  unfold serve
  split
  · rename_i z0 z1
    exact (moves_passToken).then (by decide) <| Moves.refl _ _
  · rename_i z2 z3 z4
    exact (moves_sendHead).then (by decide) <| (moves_updRing).then (by decide) <| Moves.refl _ _

theorem moves_txNext {x0 x1 e} : MovesO 335823934 e (txNext x0 x1 e) := by
  unfold txNext
  split
  · rename_i z0 z1 z2 z3
    exact movesO_some <| (moves_startTx).then (by decide) <| (moves_updRing).then (by decide) <| Moves.refl _ _
  · rename_i z4 z5
    extract_lets +onlyGivenNames y6
    refine moves_cutG (w := 335823934) (a := e) (y := y6) ?_ fun h7 => ?_
    · unfold y6
      exact (moves_shapeCatch).then (by decide) <| Moves.refl _ _
    clear_value y6
    split
    · rename_i z8
      split
      · rename_i z9 z10 z11
        exact movesO_some <| (moves_sendHead).then (by decide) <| h7
      · rename_i z12 z13
        exact movesO_none
    · rename_i z14
      split
      · rename_i z15 z16 z17
        exact movesO_some <| (moves_serve).then (by decide) <| h7
      · rename_i z18 z19
        exact movesO_none

theorem moves_txRun {x0 x1 e} : Moves 335823934 e (txRun x0 x1 e) := by
  induction x1 generalizing x0 e
  · rw [txRun]
    exact Moves.refl _ _
  · rename_i m0 ih
    rw [txRun]
    split
    · rename_i z2 z3
      split
      · rename_i z4 z5 z6
        refine moves_some z6 ?_ fun h7 => ?_
        · exact (moves_txNext).then (by decide) <| Moves.refl _ _
        exact ih.then (Nat.or_self _) <| h7
      · rename_i z8 z9
        exact Moves.refl _ _
    · rename_i z10 z11 z12
      refine moves_ite ?_ ?_
      · exact Moves.refl _ _
      extract_lets +onlyGivenNames y13
      refine moves_cut (y := y13) ?_ fun h14 => ?_
      · unfold y13
        exact (moves_updRing).then (by decide) <| Moves.refl _ _
      clear_value y13
      refine ih.then (Nat.or_self _) <| ?_
      refine moves_getD ?_ ?_
      · exact (moves_txNext).then (by decide) <| h14
      exact h14

theorem moves_ringRun {e} : Moves 335823934 e (ringRun e) := by
  unfold ringRun
  extract_lets +onlyGivenNames y0
  clear_value y0
  exact (moves_txRun).then (by decide) <| (moves_txRun).then (by decide) <| Moves.refl _ _

theorem moves_transitRoom {x0 x1 x2 e} : Moves 335823935 e (transitRoom x0 x1 x2 e) := by
  induction x2 generalizing x0 x1 e
  · rw [transitRoom]
    exact Moves.refl _ _
  · rename_i m0 ih
    rw [transitRoom]
    refine moves_ite ?_ ?_
    · exact Moves.refl _ _
    exact ih.then (Nat.or_self _) <| (moves_ringRun).then (by decide) <| (moves_waitClk).then (by decide) <| Moves.refl _ _

theorem moves_relay {x0 x1 e} : Moves 335823935 e (relay x0 x1 e) := by
  unfold relay
  extract_lets +onlyGivenNames y0
  refine moves_cut (y := y0) ?_ fun h1 => ?_
  · unfold y0
    exact (moves_transitRoom).then (by decide) <| (moves_ringRun).then (by decide) <| Moves.refl _ _
  clear_value y0
  exact (moves_ringRun).then (by decide) <| (moves_putOut).then (by decide) <| h1

theorem moves_sendOut {x0 x1 e} : Moves 335823935 e (sendOut x0 x1 e) := by
  unfold sendOut
  exact (moves_relay).then (by decide) <| Moves.refl _ _

theorem moves_forwardFrame {x0 x1 e} : Moves 335823935 e (forwardFrame x0 x1 e) := by
  unfold forwardFrame
  exact (moves_inc).then (by decide) <| (moves_sendOut).then (by decide) <| Moves.refl _ _

theorem moves_forwardData {x0 x1 x2 e} : Moves 335823935 e (forwardData x0 x1 x2 e) := by
  unfold forwardData
  extract_lets +onlyGivenNames y0
  clear_value y0
  exact (moves_inc).then (by decide) <| (moves_relay).then (by decide) <| Moves.refl _ _

theorem moves_tokenIn {x0 x1 e} : Moves 335823935 e (tokenIn x0 x1 e) := by
  unfold tokenIn
  refine moves_ite ?_ ?_
  · exact (moves_forwardFrame).then (by decide) <| Moves.refl _ _
  refine moves_ite ?_ ?_
  · exact Moves.refl _ _
  extract_lets +onlyGivenNames y0 y1
  clear_value y0 y1
  extract_lets +onlyGivenNames y2
  refine moves_cut (y := y2) ?_ fun h3 => ?_
  · unfold y2
    exact moves_lrg (by decide) <| Moves.refl _ _
  clear_value y2
  extract_lets +onlyGivenNames y4
  refine moves_cut (y := y4) ?_ fun h5 => ?_
  · unfold y4
    exact (moves_updRing).then (by decide) <| h3
  clear_value y4
  exact (moves_ringRun).then (by decide) <| h5

theorem moves_holdOut {x0 x1 e} : Moves 335823935 e (holdOut x0 x1 e) := by
  induction x1 generalizing x0 e
  · rw [holdOut]
    exact Moves.refl _ _
  · rename_i m0 ih
    rw [holdOut]
    refine moves_ite ?_ ?_
    · exact Moves.refl _ _
    exact ih.then (Nat.or_self _) <| (moves_ringRun).then (by decide) <| (moves_waitClk).then (by decide) <| Moves.refl _ _

theorem moves_tokenHoldEnd {x0 e} : Moves 335823935 e (tokenHoldEnd x0 e) := by
  unfold tokenHoldEnd
  exact (moves_holdOut).then (by decide) <| (moves_ringRun).then (by decide) <| Moves.refl _ _

theorem acts_execTokenHoldEnd {x0 x1} : Acts 335823935 (execTokenHoldEnd x0 x1) x1 := by
  unfold execTokenHoldEnd
  refine Acts.mk fun e => ?_
  exact (moves_tokenHoldEnd).then (by decide) <| Moves.refl _ _

theorem moves_shaperRefill {e} : Moves 335823935 e (shaperRefill e) := by
  unfold shaperRefill
  refine (moves_ringRun).then (by decide) <| (moves_shapeCatch).then (by decide) <| ?_
  refine moves_ite ?_ ?_
  · exact (moves_waitClk).then (by decide) <| Moves.refl _ _
  exact Moves.refl _ _

theorem acts_execShaperRefill {x0} : Acts 335823935 (execShaperRefill x0) x0 := by
  unfold execShaperRefill
  refine Acts.mk fun e => ?_
  refine moves_whenE _ _ (fun e0 => ?_) ?_
  · exact (moves_shaperRefill).then (by decide) <| Moves.refl _ _
  exact Moves.refl _ _

theorem moves_sendClaim {x0 e} : Moves 335823935 e (sendClaim x0 e) := by
  unfold sendClaim
  exact (moves_sendOut).then (by decide) <| Moves.refl _ _

theorem moves_awaitToken {e} : Moves 67108864 e (awaitToken e) := by
  unfold awaitToken
  exact moves_lrg (by decide) <| Moves.refl _ _

theorem moves_endClaim {x0 x1 e} : Moves 67108864 e (endClaim x0 x1 e) := by
  unfold endClaim
  extract_lets +onlyGivenNames y0
  have hy0 : ∀ y0_0 y0_1, Moves 67108864 y0_1 (y0 y0_0 y0_1) := by
    intro y0_0 y0_1
    unfold y0
    extract_lets +onlyGivenNames y1
    clear_value y1
    refine moves_ite ?_ ?_
    · exact (moves_updRing).then (by decide) <| Moves.refl _ _
    exact Moves.refl _ _
  clear_value y0
  refine moves_whenE _ _ (fun e2 => ?_) ?_
  · exact (hy0 _ _).then (Nat.or_self _) <| Moves.refl _ _
  exact (hy0 _ _).then (Nat.or_self _) <| Moves.refl _ _

theorem moves_startClaim {x0 e} : Moves 336348479 e (startClaim x0 e) := by
  unfold startClaim
  refine moves_ite ?_ ?_
  · exact Moves.refl _ _
  extract_lets +onlyGivenNames y0
  refine moves_cut (y := y0) ?_ fun h1 => ?_
  · unfold y0
    exact (moves_awaitToken).then (by decide) <| Moves.refl _ _
  clear_value y0
  extract_lets +onlyGivenNames y2
  refine moves_cut (y := y2) ?_ fun h3 => ?_
  · unfold y2
    exact (moves_updRing).then (by decide) <| h1
  clear_value y2
  exact (moves_pathChangeBoth).then (by decide) <| (moves_sendClaim).then (by decide) <| (moves_note).then (by decide) <| (moves_inc).then (by decide) <| (moves_useFree).then (by decide) <| h3

theorem moves_ownClaim {x0 e} : Moves 336348479 e (ownClaim x0 e) := by
  unfold ownClaim
  refine moves_ite ?_ ?_
  · exact Moves.refl _ _
  exact (moves_startClaim).then (by decide) <| Moves.refl _ _

theorem moves_claimWon {x0 x1 e} : Moves 335823934 e (claimWon x0 x1 e) := by
  unfold claimWon
  extract_lets +onlyGivenNames y0
  refine moves_cut (y := y0) ?_ fun h1 => ?_
  · unfold y0
    exact (moves_awaitToken).then (by decide) <| (moves_endClaim).then (by decide) <| Moves.refl _ _
  clear_value y0
  extract_lets +onlyGivenNames y2 y3
  clear_value y2 y3
  exact (moves_ringRun).then (by decide) <| (moves_passToken).then (by decide) <| (moves_updRing).then (by decide) <| h1

theorem moves_dupFound {x0 e} : Moves 335807548 e (dupFound x0 e) := by
  unfold dupFound
  exact (moves_endClaim).then (by decide) <| (moves_note).then (by decide) <| moves_lrg (by decide) <| Moves.refl _ _

theorem moves_ownClaimIn {x0 x1 e} : Moves 335823934 e (ownClaimIn x0 x1 e) := by
  unfold ownClaimIn
  extract_lets +onlyGivenNames y0
  clear_value y0
  refine moves_ite ?_ ?_
  · exact (moves_claimWon).then (by decide) <| Moves.refl _ _
  refine moves_ite ?_ ?_
  · exact (moves_claimWon).then (by decide) <| Moves.refl _ _
  refine moves_ite ?_ ?_
  · exact Moves.refl _ _
  exact (moves_dupFound).then (by decide) <| Moves.refl _ _

theorem moves_claimIn {x0 x1 e} : Moves 336348479 e (claimIn x0 x1 e) := by
  unfold claimIn
  refine moves_ite ?_ ?_
  · exact (moves_forwardFrame).then (by decide) <| Moves.refl _ _
  refine moves_ite ?_ ?_
  · extract_lets +onlyGivenNames y0
    refine moves_cut (y := y0) ?_ fun h1 => ?_
    · unfold y0
      exact (moves_awaitToken).then (by decide) <| (moves_endClaim).then (by decide) <| Moves.refl _ _
    clear_value y0
    refine moves_ite ?_ ?_
    · exact h1
    exact (moves_forwardFrame).then (by decide) <| h1
  refine moves_ite ?_ ?_
  · refine moves_ite ?_ ?_
    · exact (moves_sendClaim).then (by decide) <| Moves.refl _ _
    exact (moves_startClaim).then (by decide) <| Moves.refl _ _
  exact (moves_ownClaimIn).then (by decide) <| Moves.refl _ _

theorem moves_trtExpiry {x0 e} : Moves 336348479 e (trtExpiry x0 e) := by
  unfold trtExpiry
  extract_lets +onlyGivenNames y0
  clear_value y0
  refine moves_ite ?_ ?_
  · exact Moves.refl _ _
  exact (moves_startClaim).then (by decide) <| (moves_waitClk).then (by decide) <| Moves.refl _ _

theorem acts_execTrtExpiry {x0 x1} : Acts 336348479 (execTrtExpiry x0 x1) x1 := by
  unfold execTrtExpiry
  refine Acts.mk fun e => ?_
  exact (moves_trtExpiry).then (by decide) <| Moves.refl _ _

theorem moves_claimTimeout {x0 e} : Moves 336348479 e (claimTimeout x0 e) := by
  unfold claimTimeout
  extract_lets +onlyGivenNames y0
  clear_value y0
  refine moves_ite ?_ ?_
  · exact Moves.refl _ _
  exact (moves_startClaim).then (by decide) <| (moves_waitClk).then (by decide) <| Moves.refl _ _

theorem acts_execClaimTimeout {x0 x1} : Acts 336348479 (execClaimTimeout x0 x1) x1 := by
  unfold execClaimTimeout
  refine Acts.mk fun e => ?_
  exact (moves_claimTimeout).then (by decide) <| Moves.refl _ _

theorem moves_sendHellos {e} : Moves 335823935 e (sendHellos e) := by
  unfold sendHellos
  extract_lets +onlyGivenNames y0
  clear_value y0
  exact (moves_sendOut).then (by decide) <| (moves_sendOut).then (by decide) <| Moves.refl _ _

theorem moves_helloSendNow {e} : Moves 335823935 e (helloSendNow e) := by
  unfold helloSendNow
  refine moves_ite ?_ ?_
  · exact Moves.refl _ _
  extract_lets +onlyGivenNames y0
  refine moves_cut (y := y0) ?_ fun h1 => ?_
  · unfold y0
    exact (moves_waitClk).then (by decide) <| Moves.refl _ _
  clear_value y0
  exact (moves_sendHellos).then (by decide) <| moves_lrg (by decide) <| h1

theorem acts_execHelloSend {x0} : Acts 335823935 (execHelloSend x0) x0 := by
  unfold execHelloSend
  refine Acts.mk fun e => ?_
  exact (moves_helloSendNow).then (by decide) <| Moves.refl _ _

theorem moves_wrapRing {x0 e} : Moves 336348479 e (wrapRing x0 e) := by
  unfold wrapRing
  refine moves_ite ?_ ?_
  · exact Moves.refl _ _
  extract_lets +onlyGivenNames y0
  refine moves_cut (y := y0) ?_ fun h1 => ?_
  · unfold y0
    exact (moves_updRing).then (by decide) <| Moves.refl _ _
  clear_value y0
  exact (moves_ownClaim).then (by decide) <| (moves_pathChangeBoth).then (by decide) <| (moves_note).then (by decide) <| (moves_inc).then (by decide) <| h1

theorem moves_tryUnwrap {x0 e} : Moves 336348479 e (tryUnwrap x0 e) := by
  unfold tryUnwrap
  extract_lets +onlyGivenNames y0
  clear_value y0
  refine moves_ite ?_ ?_
  · exact (moves_ownClaim).then (by decide) <| (moves_ownClaim).then (by decide) <| (moves_note).then (by decide) <| (moves_updRing).then (by decide) <| Moves.refl _ _
  exact Moves.refl _ _

theorem moves_helloIn {x0 x1 x2 e} : Moves 336348479 e (helloIn x0 x1 x2 e) := by
  unfold helloIn
  refine moves_ite ?_ ?_
  · exact Moves.refl _ _
  extract_lets +onlyGivenNames y0
  clear_value y0
  extract_lets +onlyGivenNames y1
  refine moves_cut (y := y1) ?_ fun h2 => ?_
  · unfold y1
    exact (moves_updRing).then (by decide) <| Moves.refl _ _
  clear_value y1
  extract_lets +onlyGivenNames y3
  clear_value y3
  extract_lets +onlyGivenNames y4
  refine moves_cut (y := y4) ?_ fun h5 => ?_
  · unfold y4
    exact (moves_updRing).then (by decide) <| h2
  clear_value y4
  refine moves_ite ?_ ?_
  · exact (moves_wrapRing).then (by decide) <| h5
  exact (moves_tryUnwrap).then (by decide) <| (moves_tryUnwrap).then (by decide) <| h5

theorem acts_execHello {x0 x1 x2 x3} : Acts 336348479 (execHello x0 x1 x2 x3) x3 := by
  unfold execHello
  refine Acts.mk fun e => ?_
  exact (moves_helloIn).then (by decide) <| Moves.refl _ _

theorem moves_loseLock {x0 e} : Moves 67108864 e (loseLock x0 e) := by
  unfold loseLock
  extract_lets +onlyGivenNames y0
  clear_value y0
  exact (moves_updRing).then (by decide) <| Moves.refl _ _

theorem moves_linkDown {x0 e} : Moves 336348479 e (linkDown x0 e) := by
  unfold linkDown
  extract_lets +onlyGivenNames y0
  clear_value y0
  refine moves_ite ?_ ?_
  · exact Moves.refl _ _
  refine moves_ite ?_ ?_
  · refine moves_whenE _ _ (fun e1 => ?_) ?_
    · exact (moves_loseLock).then (by decide) <| Moves.refl _ _
    exact Moves.refl _ _
  extract_lets +onlyGivenNames y2
  refine moves_cut (y := y2) ?_ fun h3 => ?_
  · unfold y2
    refine moves_whenE _ _ (fun e4 => ?_) ?_
    · exact (moves_loseLock).then (by decide) <| Moves.refl _ _
    exact Moves.refl _ _
  clear_value y2
  extract_lets +onlyGivenNames y5
  refine moves_cut (y := y5) ?_ fun h6 => ?_
  · unfold y5
    exact (moves_waitClk).then (by decide) <| h3
  clear_value y5
  extract_lets +onlyGivenNames y7
  refine moves_cut (y := y7) ?_ fun h8 => ?_
  · unfold y7
    exact (moves_updRing).then (by decide) <| h6
  clear_value y7
  extract_lets +onlyGivenNames y9
  refine moves_cut (y := y9) ?_ fun h10 => ?_
  · unfold y9
    exact (moves_note).then (by decide) <| h8
  clear_value y9
  refine moves_ite ?_ ?_
  · refine moves_ite ?_ ?_
    · exact h10
    exact (moves_ringRun).then (by decide) <| moves_lrg (by decide) <| h10
  exact (moves_wrapRing).then (by decide) <| h10

theorem acts_execLinkDown {x0 x1} : Acts 336348479 (execLinkDown x0 x1) x1 := by
  unfold execLinkDown
  refine Acts.mk fun e => ?_
  exact (moves_linkDown).then (by decide) <| Moves.refl _ _

theorem moves_linkUp {x0 e} : Moves 336348479 e (linkUp x0 e) := by
  unfold linkUp
  extract_lets +onlyGivenNames y0
  clear_value y0
  split
  · rename_i z1 z2
    exact Moves.refl _ _
  · rename_i z3 z4 z5
    refine moves_ite ?_ ?_
    · exact Moves.refl _ _
    extract_lets +onlyGivenNames y6
    refine moves_cut (y := y6) ?_ fun h7 => ?_
    · unfold y6
      exact (moves_waitClk).then (by decide) <| Moves.refl _ _
    clear_value y6
    extract_lets +onlyGivenNames y8
    refine moves_cut (y := y8) ?_ fun h9 => ?_
    · unfold y8
      exact (moves_updRing).then (by decide) <| h7
    clear_value y8
    refine moves_ite ?_ ?_
    · refine (moves_ringRun).then (by decide) <| ?_
      refine moves_ite ?_ ?_
      · exact h9
      exact moves_lrg (by decide) <| h9
    exact (moves_tryUnwrap).then (by decide) <| h9

theorem acts_execLinkUp {x0 x1} : Acts 336348479 (execLinkUp x0 x1) x1 := by
  unfold execLinkUp
  refine Acts.mk fun e => ?_
  exact (moves_linkUp).then (by decide) <| Moves.refl _ _

theorem moves_blockLock {x0 e} : Moves 67108864 e (blockLock x0 e) := by
  unfold blockLock
  refine moves_ite ?_ ?_
  · exact Moves.refl _ _
  extract_lets +onlyGivenNames y0
  clear_value y0
  exact (moves_updRing).then (by decide) <| Moves.refl _ _

theorem acts_execBlockLock {x0 x1} : Acts 67108864 (execBlockLock x0 x1) x1 := by
  unfold execBlockLock
  refine Acts.mk fun e => ?_
  exact (moves_blockLock).then (by decide) <| Moves.refl _ _

theorem moves_primaryReturn {e} : Moves 335823935 e (primaryReturn e) := by
  unfold primaryReturn
  split
  · rename_i z0 z1
    exact Moves.refl _ _
  · rename_i z2 z3 z4
    refine moves_ite ?_ ?_
    · exact Moves.refl _ _
    extract_lets +onlyGivenNames y5
    refine moves_cut (y := y5) ?_ fun h6 => ?_
    · unfold y5
      exact (moves_waitClk).then (by decide) <| Moves.refl _ _
    clear_value y5
    exact (moves_ringRun).then (by decide) <| moves_lrg (by decide) <| h6

theorem acts_execPrimaryReturn {x0} : Acts 335823935 (execPrimaryReturn x0) x0 := by
  unfold execPrimaryReturn
  refine Acts.mk fun e => ?_
  exact (moves_primaryReturn).then (by decide) <| Moves.refl _ _

theorem moves_pauseApply {x0 e} : Moves 335823934 e (pauseApply x0 e) := by
  unfold pauseApply
  extract_lets +onlyGivenNames y0
  refine moves_cut (y := y0) ?_ fun h1 => ?_
  · unfold y0
    exact (moves_inc).then (by decide) <| Moves.refl _ _
  clear_value y0
  refine moves_ite ?_ ?_
  · exact (moves_ringRun).then (by decide) <| moves_lrg (by decide) <| h1
  exact moves_lrg (by decide) <| h1

theorem moves_pauseExpiry {e} : Moves 335823935 e (pauseExpiry e) := by
  unfold pauseExpiry
  split
  · rename_i z0 z1
    exact Moves.refl _ _
  · rename_i z2 z3 z4
    extract_lets +onlyGivenNames y5
    refine moves_cut (y := y5) ?_ fun h6 => ?_
    · unfold y5
      exact (moves_waitClk).then (by decide) <| Moves.refl _ _
    clear_value y5
    exact (moves_ringRun).then (by decide) <| moves_lrg (by decide) <| h6

theorem acts_execPauseExpiry {x0} : Acts 335823935 (execPauseExpiry x0) x0 := by
  unfold execPauseExpiry
  refine Acts.mk fun e => ?_
  exact (moves_pauseExpiry).then (by decide) <| Moves.refl _ _

theorem moves_sendPause {x0 x1 e} : Moves 335823935 e (sendPause x0 x1 e) := by
  unfold sendPause
  extract_lets +onlyGivenNames y0 y1
  clear_value y0 y1
  refine moves_ite ?_ ?_
  · exact Moves.refl _ _
  exact (moves_inc).then (by decide) <| (moves_sendOut).then (by decide) <| Moves.refl _ _

theorem moves_pauseRelease {e} : Moves 335823935 e (pauseRelease e) := by
  unfold pauseRelease
  refine moves_ite ?_ ?_
  · extract_lets +onlyGivenNames y0
    clear_value y0
    refine moves_each _ _ _ (fun x1 e2 => ?_) ?_
    · exact (moves_sendPause).then (by decide) <| Moves.refl _ _
    exact moves_lrg (by decide) <| Moves.refl _ _
  exact Moves.refl _ _

theorem acts_execPauseRelease {x0} : Acts 335823935 (execPauseRelease x0) x0 := by
  unfold execPauseRelease
  refine Acts.mk fun e => ?_
  exact (moves_pauseRelease).then (by decide) <| Moves.refl _ _

theorem moves_pauseSender {x0 x1 e} : Moves 335823935 e (pauseSender x0 x1 e) := by
  unfold pauseSender
  extract_lets +onlyGivenNames y0
  clear_value y0
  refine moves_ite ?_ ?_
  · exact Moves.refl _ _
  refine moves_ite ?_ ?_
  · exact (moves_note).then (by decide) <| Moves.refl _ _
  extract_lets +onlyGivenNames y1
  clear_value y1
  exact (moves_sendPause).then (by decide) <| moves_lrg (by decide) <| Moves.refl _ _

theorem moves_pauseCheck {x0 x1 x2 e} : Moves 335823935 e (pauseCheck x0 x1 x2 e) := by
  unfold pauseCheck
  refine moves_ite ?_ ?_
  · exact Moves.refl _ _
  refine moves_ite ?_ ?_
  · refine moves_ite ?_ ?_
    · exact Moves.refl _ _
    exact (moves_pauseSender).then (by decide) <| Moves.refl _ _
  refine moves_ite ?_ ?_
  · exact (moves_pauseSender).then (by decide) <| moves_lrg (by decide) <| Moves.refl _ _
  exact Moves.refl _ _

theorem moves_pauseRepeat {e} : Moves 335823935 e (pauseRepeat e) := by
  unfold pauseRepeat
  split
  · rename_i z0 z1
    exact Moves.refl _ _
  · rename_i z2 z3 z4 z5
    refine moves_ite ?_ ?_
    · exact Moves.refl _ _
    extract_lets +onlyGivenNames y6
    refine moves_cut (y := y6) ?_ fun h7 => ?_
    · unfold y6
      exact (moves_waitClk).then (by decide) <| Moves.refl _ _
    clear_value y6
    extract_lets +onlyGivenNames y8 y9
    clear_value y8 y9
    refine moves_each _ _ _ (fun x10 e11 => ?_) ?_
    · exact (moves_sendPause).then (by decide) <| Moves.refl _ _
    exact moves_lrg (by decide) <| h7

theorem acts_execPauseRepeat {x0} : Acts 335823935 (execPauseRepeat x0) x0 := by
  unfold execPauseRepeat
  refine Acts.mk fun e => ?_
  exact (moves_pauseRepeat).then (by decide) <| Moves.refl _ _

theorem moves_setFilled {x0 x1 e} : Moves 67108864 e (setFilled x0 x1 e) := by
  unfold setFilled
  exact moves_lrg (by decide) <| Moves.refl _ _

theorem moves_rxPop {x0 e} : Moves 67108864 e (rxPop x0 e) := by
  unfold rxPop
  split
  · rename_i z0 z1
    exact Moves.refl _ _
  · rename_i z2 z3 z4
    exact moves_lrg (by decide) <| Moves.refl _ _

theorem moves_rxNoBuf {e} : Moves 268698684 e (rxNoBuf e) := by
  unfold rxNoBuf
  exact (moves_note).then (by decide) <| (moves_inc).then (by decide) <| Moves.refl _ _

theorem moves_rxStart {x0 e} : Moves 335938620 e (rxStart x0 e) := by
  unfold rxStart
  refine moves_foldl _ _ _ (fun e1 x0 => ?_) ?_
  · refine moves_ite ?_ ?_
    · exact Moves.refl _ _
    refine moves_ite ?_ ?_
    · exact (moves_openStream).then (by decide) <| (moves_setFilled).then (by decide) <| Moves.refl _ _
    exact (moves_rxNoBuf).then (by decide) <| (moves_rxPop).then (by decide) <| Moves.refl _ _
  exact Moves.refl _ _

theorem moves_descHalt {x0 x1 x2 e} : Moves 131072 e (descHalt x0 x1 x2 e) := by
  unfold descHalt
  exact (moves_updStream).then (by decide) <| Moves.refl _ _

theorem moves_writeDescs {x0 x1 x2 x3 x4 x5 e} : Moves 134348828 e (writeDescs x0 x1 x2 x3 x4 x5 e).1 := by
  induction x5 generalizing x0 x1 x2 x3 x4 e
  · rw [writeDescs]
    exact moves_mk1 <| Moves.refl _ _
  · rename_i m0 m1 ih
    rw [writeDescs]
    split
    · rename_i z3 z4 z5 z6
      refine moves_pair z6 ?_ fun h7 => ?_
      · exact (moves_moveRun).then (by decide) <| Moves.refl _ _
      exact ih.then (Nat.or_self _) <| (moves_writeRun).then (by decide) <| h7
    · rename_i z8 z9 z10 z11
      refine moves_pair z11 ?_ fun h12 => ?_
      · exact (moves_moveRun).then (by decide) <| Moves.refl _ _
      exact moves_mk1 <| (moves_descHalt).then (by decide) <| h12

theorem moves_rxReturn {x0 x1 e} : Moves 335806492 e (rxReturn x0 x1 e) := by
  unfold rxReturn
  extract_lets +onlyGivenNames y0
  refine moves_cut (y := y0) ?_ fun h1 => ?_
  · unfold y0
    exact (moves_wrF).then (by decide) <| (moves_setFilled).then (by decide) <| Moves.refl _ _
  clear_value y0
  extract_lets +onlyGivenNames y2
  clear_value y2
  refine moves_ite ?_ ?_
  · exact h1
  exact (moves_signalMsix).then (by decide) <| h1

theorem moves_rxAbandon {x0 e} : Moves 335938620 e (rxAbandon x0 e) := by
  unfold rxAbandon
  split
  · rename_i z0 z1
    exact Moves.refl _ _
  · rename_i z2 z3 z4
    exact (moves_rxStart).then (by decide) <| (moves_rxNoBuf).then (by decide) <| (moves_rxPop).then (by decide) <| (moves_setFilled).then (by decide) <| (moves_dropStream).then (by decide) <| Moves.refl _ _

theorem moves_rxClose {x0 x1 x2 x3 x4 e} : MovesS 470156348 e (rxClose x0 x1 x2 x3 x4 e) := by
  unfold rxClose
  split
  · rename_i z0 z1 z2 z3
    refine moves_pairEq (w := 470156348) (a := e) z3 ?_ fun h4 => ?_
    · exact (moves_writeDescs).then (by decide) <| Moves.refl _ _
    exact movesS_inr <| h4
  · rename_i z5 z6 z7
    refine moves_pairEq (w := 470156348) (a := e) z7 ?_ fun h8 => ?_
    · exact (moves_writeDescs).then (by decide) <| Moves.refl _ _
    extract_lets +onlyGivenNames y9
    refine moves_cutG (w := 470156348) (a := e) (y := y9) ?_ fun h10 => ?_
    · unfold y9
      exact (moves_rxPop).then (by decide) <| (moves_rxReturn).then (by decide) <| (moves_dropStream).then (by decide) <| h8
    clear_value y9
    refine movesS_inl <| (moves_rxStart).then (by decide) <| moves_whenE _ _ (fun e11 => ?_) ?_
    · exact (moves_rxNoBuf).then (by decide) <| Moves.refl _ _
    exact h10

theorem moves_rxNext {x0 x1 x2 e} : MovesS 470156348 e (rxNext x0 x1 x2 e) := by
  unfold rxNext
  extract_lets +onlyGivenNames y0
  clear_value y0
  split
  · rename_i z1
    exact (moves_rxClose).then (by decide) <| Moves.refl _ _
  · rename_i z2
    split
    · rename_i z3
      extract_lets +onlyGivenNames y4 y5
      clear_value y4 y5
      extract_lets +onlyGivenNames y6
      refine moves_cutG (w := 470156348) (a := e) (y := y6) ?_ fun h7 => ?_
      · unfold y6
        exact (moves_setFilled).then (by decide) <| moves_lrg (by decide) <| Moves.refl _ _
      clear_value y6
      exact movesS_inl <| (moves_updStream).then (by decide) <| h7
    · rename_i z8
      exact (moves_rxClose).then (by decide) <| Moves.refl _ _

theorem moves_rxChunk {x0 x1 e} : MovesS 470156348 e (rxChunk x0 x1 e) := by
  unfold rxChunk
  split
  · rename_i z0 z1 z2
    split
    · rename_i z3 z4
      exact movesS_inl <| (moves_dropStream).then (by decide) <| Moves.refl _ _
    · rename_i z5 z6 z7
      split
      · rename_i z8
        split
        · rename_i z9 z10 z11 z12
          refine moves_pairEq (w := 470156348) (a := e) z12 ?_ fun h13 => ?_
          · exact (moves_moveRun).then (by decide) <| Moves.refl _ _
          exact movesS_inr <| h13
        · rename_i z14 z15 z16 z17
          refine moves_pairEq (w := 470156348) (a := e) z17 ?_ fun h18 => ?_
          · exact (moves_moveRun).then (by decide) <| Moves.refl _ _
          extract_lets +onlyGivenNames y19 y20
          clear_value y19 y20
          exact movesS_inl <| (moves_updStream).then (by decide) <| h18
      · rename_i z21
        split
        · rename_i z22
          exact (moves_rxNext).then (by decide) <| Moves.refl _ _
        · rename_i z23
          extract_lets +onlyGivenNames y24
          clear_value y24
          split
          · rename_i z25 z26 z27 z28
            refine moves_pairEq (w := 470156348) (a := e) z28 ?_ fun h29 => ?_
            · exact (moves_moveRun).then (by decide) <| Moves.refl _ _
            exact movesS_inr <| h29
          · rename_i z30 z31 z32 z33
            refine moves_pairEq (w := 470156348) (a := e) z33 ?_ fun h34 => ?_
            · exact (moves_moveRun).then (by decide) <| Moves.refl _ _
            extract_lets +onlyGivenNames y35
            refine moves_cutG (w := 470156348) (a := e) (y := y35) ?_ fun h36 => ?_
            · unfold y35
              exact (moves_writeRun).then (by decide) <| h34
            clear_value y35
            extract_lets +onlyGivenNames y37
            refine moves_cutG (w := 470156348) (a := e) (y := y37) ?_ fun h38 => ?_
            · unfold y37
              exact (moves_updStream).then (by decide) <| h36
            clear_value y37
            split
            · rename_i z39
              exact movesS_inl <| h38
            · rename_i z40
              exact (moves_rxNext).then (by decide) <| h38
  · rename_i z41 z42
    exact movesS_inl <| Moves.refl _ _

theorem moves_rxCfgApply {x0 x1 e} : Moves 335938620 e (rxCfgApply x0 x1 e) := by
  unfold rxCfgApply
  extract_lets +onlyGivenNames y0
  refine moves_cut (y := y0) ?_ fun h1 => ?_
  · unfold y0
    exact (moves_wr).then (by decide) <| (moves_wr).then (by decide) <| (moves_wr).then (by decide) <| Moves.refl _ _
  clear_value y0
  exact (moves_rxAbandon).then (by decide) <| (moves_setFilled).then (by decide) <| h1

theorem moves_rxHeadApply {x0 x1 e} : Moves 268698684 e (rxHeadApply x0 x1 e) := by
  unfold rxHeadApply
  extract_lets +onlyGivenNames y0 y1
  clear_value y0 y1
  refine moves_ite ?_ ?_
  · exact (moves_note).then (by decide) <| Moves.refl _ _
  exact (moves_wr).then (by decide) <| Moves.refl _ _

theorem moves_secCheck {x0 x1 e} : MovesO 67108864 e (secCheck x0 x1 e) := by
  unfold secCheck
  split
  · rename_i z0 z1
    exact movesO_none
  · rename_i z2 z3 z4
    extract_lets +onlyGivenNames y5 y6
    clear_value y5 y6
    split
    · rename_i z7
      exact movesO_none
    · rename_i z8
      extract_lets +onlyGivenNames y9
      clear_value y9
      extract_lets +onlyGivenNames y10
      refine moves_cutG (w := 67108864) (a := e) (y := y10) ?_ fun h11 => ?_
      · unfold y10
        refine moves_ite ?_ ?_
        · exact moves_lrg (by decide) <| Moves.refl _ _
        exact Moves.refl _ _
      clear_value y10
      exact movesO_some <| (moves_setRos).then (by decide) <| h11

theorem moves_syncIn {x0 x1 x2 x3 x4 e} : Moves 269239612 e (syncIn x0 x1 x2 x3 x4 e) := by
  unfold syncIn
  refine moves_ite ?_ ?_
  · exact Moves.refl _ _
  extract_lets +onlyGivenNames y0 y1 y2 y3
  clear_value y0 y1 y2 y3
  extract_lets +onlyGivenNames y4
  refine moves_cut (y := y4) ?_ fun h5 => ?_
  · unfold y4
    exact (moves_updSlotT).then (by decide) <| Moves.refl _ _
  clear_value y4
  refine moves_ite ?_ ?_
  · exact (moves_pathChange).then (by decide) <| h5
  exact h5

theorem moves_followUpIn {x0 x1 x2 x3 e} : Moves 16384 e (followUpIn x0 x1 x2 x3 e) := by
  unfold followUpIn
  refine moves_ite ?_ ?_
  · exact Moves.refl _ _
  split
  · rename_i z0 z1
    exact Moves.refl _ _
  · rename_i z2 z3 z4
    refine moves_ite ?_ ?_
    · exact Moves.refl _ _
    exact (moves_updSlotT).then (by decide) <| Moves.refl _ _

theorem moves_delayRespIn {x0 x1 x2 x3 x4 e} : Moves 269239612 e (delayRespIn x0 x1 x2 x3 x4 e) := by
  unfold delayRespIn
  refine moves_ite ?_ ?_
  · exact Moves.refl _ _
  extract_lets +onlyGivenNames y0
  refine moves_cut (y := y0) ?_ fun h1 => ?_
  · unfold y0
    exact (moves_tsqPrune).then (by decide) <| (moves_updSlotT).then (by decide) <| Moves.refl _ _
  clear_value y0
  split
  · rename_i z2 z3
    exact h1
  · rename_i z4 z5 z6
    extract_lets +onlyGivenNames y7
    extract_lets +onlyGivenNames y8
    refine moves_cut (y := y8) ?_ fun h9 => ?_
    · unfold y8
      exact moves_tim (by decide) (fun h => Nat.le_trans (List.length_filter_le _ _) h) <| h1
    clear_value y8
    split
    · rename_i z10 z11
      exact h9
    · rename_i z12 z13 z14
      refine moves_ite ?_ ?_
      · exact h9
      extract_lets +onlyGivenNames y15
      clear_value y15
      exact (moves_measure).then (by decide) <| h9

theorem moves_slotMsg {x0 x1 x2 x3 x4 x5 e} : Moves 269239612 e (slotMsg x0 x1 x2 x3 x4 x5 e) := by
  unfold slotMsg
  extract_lets +onlyGivenNames y0 y1 y2
  clear_value y0 y1 y2
  refine moves_ite ?_ ?_
  · exact Moves.refl _ _
  refine moves_ite ?_ ?_
  · exact (moves_syncIn).then (by decide) <| Moves.refl _ _
  refine moves_ite ?_ ?_
  · exact (moves_followUpIn).then (by decide) <| Moves.refl _ _
  refine moves_ite ?_ ?_
  · exact (moves_delayRespIn).then (by decide) <| Moves.refl _ _
  exact Moves.refl _ _

theorem moves_timeFrame {x0 x1 x2 e} : Moves 336348476 e (timeFrame x0 x1 x2 e) := by
  unfold timeFrame
  split
  · rename_i z0 z1
    exact (moves_note).then (by decide) <| (moves_inc).then (by decide) <| Moves.refl _ _
  · rename_i z2 z3 z4
    refine moves_some z4 ?_ fun h5 => ?_
    · split
      · rename_i z6 z7 z8
        exact (moves_secCheck).then (by decide) <| Moves.refl _ _
      · rename_i z9 z10
        exact movesO_some <| Moves.refl _ _
    exact (moves_slotMsg).then (by decide) <| (moves_slotMsg).then (by decide) <| (moves_inc).then (by decide) <| h5

theorem moves_ringCommand {x0 x1 x2 e} : Moves 335873084 e (ringCommand x0 x1 x2 e) := by
  unfold ringCommand
  extract_lets +onlyGivenNames y0 y1 y2
  clear_value y0 y1 y2
  refine moves_ite ?_ ?_
  · exact (moves_inc).then (by decide) <| Moves.refl _ _
  extract_lets +onlyGivenNames y3 y4
  clear_value y3 y4
  refine moves_ite ?_ ?_
  · exact (moves_ringComplete).then (by decide) <| (moves_note).then (by decide) <| (moves_inc).then (by decide) <| Moves.refl _ _
  exact (moves_updHop).then (by decide) <| moves_cmd (by decide) <| Moves.refl _ _

theorem moves_hostFrame {x0 x1 x2 x3 e} : Moves 335938620 e (hostFrame x0 x1 x2 x3 e) := by
  unfold hostFrame
  extract_lets +onlyGivenNames y0 y1
  clear_value y0 y1
  exact (moves_rxStart).then (by decide) <| moves_lrg (by decide) <| Moves.refl _ _

theorem moves_process {x0 x1 x2 e} : Moves 336004156 e (process x0 x1 x2 e) := by
  unfold process
  extract_lets +onlyGivenNames y0
  refine movesO_cut (y := y0) ?_ fun h1 => ?_
  · unfold y0
    split
    · rename_i z2 z3 z4
      exact (moves_secCheck).then (by decide) <| Moves.refl _ _
    · rename_i z5 z6
      exact movesO_some <| Moves.refl _ _
  clear_value y0
  split
  · rename_i z7
    exact (moves_note).then (by decide) <| (moves_inc).then (by decide) <| Moves.refl _ _
  · rename_i z8 z9
    refine moves_ite ?_ ?_
    · refine moves_ite ?_ ?_
      · exact (moves_ringCommand).then (by decide) <| h1 _ rfl
      exact h1 _ rfl
    refine moves_ite ?_ ?_
    · exact h1 _ rfl
    refine moves_ite ?_ ?_
    · exact (moves_hostFrame).then (by decide) <| h1 _ rfl
    exact h1 _ rfl

theorem moves_copyFrame {x0 x1 x2 e} : Moves 336020543 e (copyFrame x0 x1 x2 e) := by
  unfold copyFrame
  extract_lets +onlyGivenNames y0
  clear_value y0
  refine moves_ite ?_ ?_
  · exact (moves_pauseCheck).then (by decide) <| (moves_inc).then (by decide) <| Moves.refl _ _
  exact (moves_process).then (by decide) <| (moves_pauseCheck).then (by decide) <| (moves_inc).then (by decide) <| (moves_pauseRelease).then (by decide) <| Moves.refl _ _

theorem moves_stranger {e} : Moves 268698684 e (stranger e) := by
  unfold stranger
  exact (moves_note).then (by decide) <| (moves_inc).then (by decide) <| Moves.refl _ _

theorem moves_linkFrame {x0 x1 e} : Moves 336545087 e (linkFrame x0 x1 e) := by
  unfold linkFrame
  refine moves_ite ?_ ?_
  · exact (moves_inc).then (by decide) <| Moves.refl _ _
  split
  · rename_i z0 z1 z2
    refine moves_ite ?_ ?_
    · exact (moves_pauseApply).then (by decide) <| Moves.refl _ _
    exact Moves.refl _ _
  · rename_i z3 z4
    split
    · rename_i z5 z6
      exact (moves_stranger).then (by decide) <| Moves.refl _ _
    · rename_i z7 z8 z9
      refine moves_ite ?_ ?_
      · exact (moves_timeFrame).then (by decide) <| Moves.refl _ _
      exact (moves_copyFrame).then (by decide) <| Moves.refl _ _

theorem moves_ctlIn {x0 x1 e} : Moves 336348479 e (ctlIn x0 x1 e) := by
  unfold ctlIn
  refine moves_ite ?_ ?_
  · exact (moves_tokenIn).then (by decide) <| Moves.refl _ _
  refine moves_ite ?_ ?_
  · exact (moves_claimIn).then (by decide) <| Moves.refl _ _
  exact (moves_helloIn).then (by decide) <| Moves.refl _ _

theorem moves_dataIn {x0 x1 e} : Moves 336545087 e (dataIn x0 x1 e) := by
  unfold dataIn
  split
  · rename_i z0 z1
    extract_lets +onlyGivenNames y2
    refine moves_cut (y := y2) ?_ fun h3 => ?_
    · unfold y2
      exact (moves_stranger).then (by decide) <| Moves.refl _ _
    clear_value y2
    refine moves_ite ?_ ?_
    · exact h3
    exact (moves_forwardData).then (by decide) <| h3
  · rename_i z4 z5 z6
    split
    · rename_i z7 z8 z9
      refine moves_ite ?_ ?_
      · exact (moves_forwardData).then (by decide) <| (moves_pauseApply).then (by decide) <| Moves.refl _ _
      refine moves_ite ?_ ?_
      · exact (moves_inc).then (by decide) <| Moves.refl _ _
      exact (moves_forwardData).then (by decide) <| Moves.refl _ _
    · rename_i z10 z11
      refine (moves_forwardData).then (by decide) <| ?_
      refine moves_ite ?_ ?_
      · exact (moves_timeFrame).then (by decide) <| Moves.refl _ _
      refine moves_whenE _ _ (fun e12 => ?_) ?_
      · exact (moves_copyFrame).then (by decide) <| Moves.refl _ _
      exact Moves.refl _ _

theorem moves_ownFrameIn {x0 x1 e} : Moves 336348479 e (ownFrameIn x0 x1 e) := by
  unfold ownFrameIn
  extract_lets +onlyGivenNames y0
  refine moves_cut (y := y0) ?_ fun h1 => ?_
  · unfold y0
    exact (moves_inc).then (by decide) <| Moves.refl _ _
  clear_value y0
  refine moves_ite ?_ ?_
  · exact (moves_tokenIn).then (by decide) <| h1
  refine moves_ite ?_ ?_
  · exact (moves_claimIn).then (by decide) <| h1
  exact h1

theorem moves_frameHere {x0 x1 e} : Moves 336545087 e (frameHere x0 x1 e) := by
  unfold frameHere
  refine moves_ite ?_ ?_
  · exact (moves_linkFrame).then (by decide) <| Moves.refl _ _
  refine moves_ite ?_ ?_
  · exact (moves_ownFrameIn).then (by decide) <| Moves.refl _ _
  refine moves_ite ?_ ?_
  · exact (moves_inc).then (by decide) <| Moves.refl _ _
  refine moves_ite ?_ ?_
  · exact (moves_ctlIn).then (by decide) <| Moves.refl _ _
  refine moves_ite ?_ ?_
  · exact (moves_forwardData).then (by decide) <| Moves.refl _ _
  exact (moves_dataIn).then (by decide) <| Moves.refl _ _

theorem moves_frameIn {x0 x1 e} : Moves 336545087 e (frameIn x0 x1 e) := by
  unfold frameIn
  refine moves_ite ?_ ?_
  · exact Moves.refl _ _
  exact (moves_frameHere).then (by decide) <| (moves_ringRun).then (by decide) <| Moves.refl _ _

theorem acts_execRingFrame {x0 x1 x2} : Acts 336545087 (execRingFrame x0 x1 x2) x2 := by
  unfold execRingFrame
  refine Acts.mk fun e => ?_
  exact (moves_frameIn).then (by decide) <| Moves.refl _ _

theorem moves_ctlArrives {x0 x1 e} : Moves 336545087 e (ctlArrives x0 x1 e) := by
  unfold ctlArrives
  refine moves_ite ?_ ?_
  · exact Moves.refl _ _
  exact (moves_frameIn).then (by decide) <| Moves.refl _ _

theorem acts_execToken {x0 x1 x2} : Acts 336545087 (execToken x0 x1 x2) x2 := by
  unfold execToken
  refine Acts.mk fun e => ?_
  exact (moves_ctlArrives).then (by decide) <| Moves.refl _ _

theorem acts_execClaim {x0 x1 x2 x3 x4} : Acts 336545087 (execClaim x0 x1 x2 x3 x4) x4 := by
  unfold execClaim
  refine Acts.mk fun e => ?_
  exact (moves_ctlArrives).then (by decide) <| Moves.refl _ _

theorem acts_execPause {x0 x1 x2} : Acts 336545087 (execPause x0 x1 x2) x2 := by
  unfold execPause
  refine Acts.mk fun e => ?_
  exact (moves_frameIn).then (by decide) <| Moves.refl _ _

theorem acts_execCommandFrame {x0 x1 x2} : Acts 336545087 (execCommandFrame x0 x1 x2) x2 := by
  unfold execCommandFrame
  refine Acts.mk fun e => ?_
  refine moves_ite ?_ ?_
  · exact (moves_frameIn).then (by decide) <| Moves.refl _ _
  exact Moves.refl _ _

end Sys2Proof.Machine
end

