-- ==== Sys2Proof/Laws/MovesHostPci.lean ====
section
/-! SUPPORT. What each operation of Machine/HostPci.lean can do (`moves_f`). -/

namespace Sys2Proof.Machine

theorem moves_resetHopper {x0 e} : Moves 268895292 e (resetHopper x0 e) := by
  unfold resetHopper
  refine moves_ite ?_ ?_
  · exact (moves_orphanHopper).then (by decide) <| (moves_updHop).then (by decide) <| Moves.refl _ _
  exact (moves_updHop).then (by decide) <| Moves.refl _ _

theorem moves_killStream {x0 e} : Moves 470223932 e (killStream x0 e) := by
  unfold killStream
  split
  · rename_i z0 z1 z2
    exact (moves_dropStream).then (by decide) <| Moves.refl _ _
  · rename_i z3 z4 z5
    exact (moves_dropStream).then (by decide) <| Moves.refl _ _
  · rename_i z6 z7 z8
    exact (moves_rxAbandon).then (by decide) <| Moves.refl _ _
  · rename_i z9 z10 z11 z12
    exact (moves_dropStream).then (by decide) <| Moves.refl _ _
  · rename_i z13 z14 z15 z16 z17 z18 z19
    exact (moves_cqDrop).then (by decide) <| (moves_dropStream).then (by decide) <| Moves.refl _ _
  · rename_i z20 z21 z22 z23
    extract_lets +onlyGivenNames y24
    refine moves_cut (y := y24) ?_ fun h25 => ?_
    · unfold y24
      exact (moves_unstage).then (by decide) <| (moves_dropStream).then (by decide) <| Moves.refl _ _
    clear_value y24
    exact (moves_complete).then (by decide) <| moves_sys (by decide) rfl <| h25
  · rename_i z26 z27 z28 z29 z30 z31 z32
    exact (moves_complete).then (by decide) <| (moves_dropStream).then (by decide) <| Moves.refl _ _

theorem moves_killFlume {e} : Moves 503776316 e (killFlume e) := by
  unfold killFlume
  split
  · rename_i z0 z1 z2 z3 z4
    exact (moves_complete).then (by decide) <| moves_sch (by decide) <| Moves.refl _ _
  · rename_i z5 z6
    exact Moves.refl _ _

theorem moves_flrDomain {x0 e} : Moves 520060348 e (flrDomain x0 e) := by
  unfold flrDomain
  extract_lets +onlyGivenNames y0
  clear_value y0
  extract_lets +onlyGivenNames y1
  refine moves_cut (y := y1) ?_ fun h2 => ?_
  · unfold y1
    refine moves_each _ _ _ (fun x3 e4 => ?_) ?_
    · exact (moves_resetHopper).then (by decide) <| Moves.refl _ _
    exact Moves.refl _ _
  clear_value y1
  extract_lets +onlyGivenNames y5
  clear_value y5
  extract_lets +onlyGivenNames y6
  refine moves_cut (y := y6) ?_ fun h7 => ?_
  · unfold y6
    refine moves_each _ _ _ (fun x8 e9 => ?_) ?_
    · exact (moves_failTxn).then (by decide) <| Moves.refl _ _
    exact h2
  clear_value y6
  extract_lets +onlyGivenNames y10
  refine moves_cut (y := y10) ?_ fun h11 => ?_
  · unfold y10
    refine moves_each _ _ _ (fun x12 e13 => ?_) ?_
    · exact (moves_killStream).then (by decide) <| Moves.refl _ _
    exact h7
  clear_value y10
  extract_lets +onlyGivenNames y14
  refine moves_cut (y := y14) ?_ fun h15 => ?_
  · unfold y14
    refine moves_ite ?_ ?_
    · exact (moves_killFlume).then (by decide) <| h11
    exact h11
  clear_value y14
  extract_lets +onlyGivenNames y16
  refine moves_cut (y := y16) ?_ fun h17 => ?_
  · unfold y16
    exact (moves_settle).then (by decide) <| (moves_tcDropDom).then (by decide) <| h15
  clear_value y16
  exact moves_eng_clk (m := 262272) rfl (by decide) (by intro p hp; cases p <;> first | rfl | exact absurd hp (by decide)) rfl rfl rfl rfl rfl rfl <| h17

theorem moves_flrOne {x0 e} : Moves 520060348 e (flrOne x0 e) := by
  unfold flrOne
  exact (moves_note).then (by decide) <| (moves_inc).then (by decide) <| (moves_flrDomain).then (by decide) <| Moves.refl _ _

theorem moves_flrNow {x0 e} : Moves 520060348 e (flrNow x0 e) := by
  unfold flrNow
  refine moves_ite ?_ ?_
  · exact Moves.refl _ _
  exact (moves_flrOne).then (by decide) <| Moves.refl _ _

theorem acts_execFlr {x0 x1} : Acts 520060348 (execFlr x0 x1) x1 := by
  unfold execFlr
  refine Acts.mk fun e => ?_
  exact (moves_flrNow).then (by decide) <| Moves.refl _ _

theorem moves_flrDoneNow {x0 e} : Moves 262144 e (flrDoneNow x0 e) := by
  unfold flrDoneNow
  exact moves_hif (by decide) <| Moves.refl _ _

theorem acts_execFlrDone {x0 x1} : Acts 262144 (execFlrDone x0 x1) x1 := by
  unfold execFlrDone
  refine Acts.mk fun e => ?_
  exact (moves_flrDoneNow).then (by decide) <| Moves.refl _ _

theorem moves_resetFunctions {e} : Moves 520060348 e (resetFunctions e) := by
  unfold resetFunctions
  extract_lets +onlyGivenNames y0
  clear_value y0
  extract_lets +onlyGivenNames y1
  refine moves_cut (y := y1) ?_ fun h2 => ?_
  · unfold y1
    refine moves_each _ _ _ (fun x3 e4 => ?_) ?_
    · refine moves_ite ?_ ?_
      · exact (moves_flrOne).then (by decide) <| Moves.refl _ _
      exact (moves_flrDomain).then (by decide) <| Moves.refl _ _
    exact Moves.refl _ _
  clear_value y1
  extract_lets +onlyGivenNames y5
  refine moves_cut (y := y5) ?_ fun h6 => ?_
  · unfold y5
    refine moves_each _ _ _ (fun x7 e8 => ?_) ?_
    · exact (moves_resetHopper).then (by decide) <| Moves.refl _ _
    exact h2
  clear_value y5
  exact moves_eng_clk (m := 393216) rfl (by decide) (by intro p hp; cases p <;> first | rfl | exact absurd hp (by decide)) rfl rfl rfl rfl rfl rfl <| h6

theorem acts_execHotReset {x0} : Acts 520060348 (execHotReset x0) x0 := by
  unfold execHotReset
  refine Acts.mk fun e => ?_
  refine moves_ite ?_ ?_
  · exact (moves_resetFunctions).then (by decide) <| Moves.refl _ _
  exact Moves.refl _ _

theorem acts_execPerstN {x0 x1} : Acts 520060349 (execPerstN x0 x1) x1 := by
  unfold execPerstN
  refine Acts.mk fun e => ?_
  refine moves_ite ?_ ?_
  · exact Moves.refl _ _
  exact (moves_resetFunctions).then (by decide) <| (moves_pass).then (by decide) <| Moves.refl _ _

theorem acts_execPcieLinkDown {x0} : Acts 520060348 (execPcieLinkDown x0) x0 := by
  unfold execPcieLinkDown
  refine Acts.mk fun e => ?_
  refine moves_ite ?_ ?_
  · extract_lets +onlyGivenNames y0
    refine moves_cut (y := y0) ?_ fun h1 => ?_
    · unfold y0
      exact (moves_resetFunctions).then (by decide) <| Moves.refl _ _
    clear_value y0
    exact (moves_note).then (by decide) <| moves_hif (by decide) <| h1
  exact Moves.refl _ _

theorem moves_linkTrained {x0 x1 e} : Moves 268698684 e (linkTrained x0 x1 e) := by
  unfold linkTrained
  refine moves_ite ?_ ?_
  · exact Moves.refl _ _
  extract_lets +onlyGivenNames y0 y1
  clear_value y0 y1
  extract_lets +onlyGivenNames y2
  refine moves_cut (y := y2) ?_ fun h3 => ?_
  · unfold y2
    exact moves_hif (by decide) <| Moves.refl _ _
  clear_value y2
  refine moves_ite ?_ ?_
  · exact (moves_note).then (by decide) <| h3
  exact h3

theorem acts_execPcieLinkUp {x0 x1 x2} : Acts 268698684 (execPcieLinkUp x0 x1 x2) x2 := by
  unfold execPcieLinkUp
  refine Acts.mk fun e => ?_
  exact (moves_linkTrained).then (by decide) <| Moves.refl _ _

theorem moves_vfDisableNow {x0 e} : Moves 520060348 e (vfDisableNow x0 e) := by
  unfold vfDisableNow
  refine moves_ite ?_ ?_
  · exact Moves.refl _ _
  extract_lets +onlyGivenNames y0
  clear_value y0
  extract_lets +onlyGivenNames y1
  refine moves_cut (y := y1) ?_ fun h2 => ?_
  · unfold y1
    refine moves_each _ _ _ (fun x3 e4 => ?_) ?_
    · exact (moves_flrOne).then (by decide) <| Moves.refl _ _
    exact Moves.refl _ _
  clear_value y1
  exact moves_hif (by decide) <| h2

theorem acts_execVfDisable {x0 x1} : Acts 520060348 (execVfDisable x0 x1) x1 := by
  unfold execVfDisable
  refine Acts.mk fun e => ?_
  exact (moves_vfDisableNow).then (by decide) <| Moves.refl _ _

theorem moves_aerNow {e} : Moves 268698686 e (aerNow e) := by
  unfold aerNow
  refine moves_ite ?_ ?_
  · exact Moves.refl _ _
  extract_lets +onlyGivenNames y0 y1
  clear_value y0 y1
  exact (moves_note).then (by decide) <| (moves_useFree).then (by decide) <| moves_hif (by decide) <| Moves.refl _ _

theorem acts_execAer {x0} : Acts 268698686 (execAer x0) x0 := by
  unfold execAer
  refine Acts.mk fun e => ?_
  exact (moves_aerNow).then (by decide) <| Moves.refl _ _

theorem moves_pbaFlush {e} : Moves 268697600 e (pbaFlush e) := by
  unfold pbaFlush
  extract_lets +onlyGivenNames y0
  clear_value y0
  refine moves_each _ _ _ (fun x1 e2 => ?_) ?_
  · exact (moves_signalMsix).then (by decide) <| Moves.refl _ _
  exact moves_hif (by decide) <| Moves.refl _ _

theorem moves_msixWrite {x0 x1 x2 e} : Moves 268697600 e (msixWrite x0 x1 x2 e) := by
  unfold msixWrite
  extract_lets +onlyGivenNames y0
  clear_value y0
  refine moves_ite ?_ ?_
  · exact Moves.refl _ _
  exact (moves_pbaFlush).then (by decide) <| moves_hif (by decide) <| Moves.refl _ _

theorem moves_updCfg {x0 x1 e} : Moves 268697600 e (updCfg x0 x1 e) := by
  unfold updCfg
  exact (moves_pbaFlush).then (by decide) <| moves_hif (by decide) <| Moves.refl _ _

theorem moves_numVfsPut {x0 e} : Moves 520060348 e (numVfsPut x0 e) := by
  unfold numVfsPut
  refine moves_ite ?_ ?_
  · exact (moves_vfDisableNow).then (by decide) <| Moves.refl _ _
  exact moves_hif (by decide) <| Moves.refl _ _

theorem moves_cfgWrite {x0 x1 x2 e} : Moves 536837628 e (cfgWrite x0 x1 x2 e) := by
  unfold cfgWrite
  refine moves_ite ?_ ?_
  · exact Moves.refl _ _
  refine moves_ite ?_ ?_
  · exact (moves_updCfg).then (by decide) <| Moves.refl _ _
  refine moves_ite ?_ ?_
  · exact (moves_updCfg).then (by decide) <| Moves.refl _ _
  refine moves_ite ?_ ?_
  · exact (moves_updCfg).then (by decide) <| Moves.refl _ _
  refine moves_ite ?_ ?_
  · exact (moves_updCfg).then (by decide) <| Moves.refl _ _
  refine moves_ite ?_ ?_
  · exact (moves_numVfsPut).then (by decide) <| Moves.refl _ _
  refine moves_ite ?_ ?_
  · exact (moves_updCfg).then (by decide) <| Moves.refl _ _
  refine moves_ite ?_ ?_
  · exact (moves_updCfg).then (by decide) <| Moves.refl _ _
  refine moves_ite ?_ ?_
  · exact (moves_updCfg).then (by decide) <| Moves.refl _ _
  refine moves_ite ?_ ?_
  · refine moves_ite ?_ ?_
    · exact (moves_d3hotLeave).then (by decide) <| Moves.refl _ _
    exact (moves_updCfg).then (by decide) <| Moves.refl _ _
  exact Moves.refl _ _

end Sys2Proof.Machine
end

