-- ==== Sys2Proof/Laws/MovesLoops.lean ====
section
/-! SUPPORT. What each operation of Machine/Loops.lean can do (`moves_f`). -/

namespace Sys2Proof.Machine

theorem moves_centroids {e x1 x2} : Moves 2 e (centroids e x1 x2).1 := by
  unfold centroids
  extract_lets +onlyGivenNames y0 y1
  clear_value y0 y1
  refine moves_ite1 ?_ ?_
  · exact moves_mk1 <| Moves.refl _ _
  refine moves_ite1 ?_ ?_
  · exact moves_mk1 <| (moves_useFree).then (by decide) <| (moves_useFree).then (by decide) <| Moves.refl _ _
  exact moves_mk1 <| Moves.refl _ _

theorem moves_sight {e x1 x2} : Moves 2 e (sight e x1 x2).1 := by
  unfold sight
  refine moves_ite1 ?_ ?_
  · exact moves_mk1 <| Moves.refl _ _
  extract_lets +onlyGivenNames y0 y1
  clear_value y0 y1
  extract_lets +onlyGivenNames y2
  refine moves_cut (y := y2.1) ?_ fun h3 => ?_
  · unfold y2
    exact (moves_centroids).then (by decide) <| Moves.refl _ _
  clear_value y2
  exact moves_mk1 <| h3

theorem moves_dithPhase {e x1} : Moves 2 e (dithPhase e x1).1 := by
  unfold dithPhase
  refine moves_ite1 ?_ ?_
  · exact moves_mk1 <| (moves_useFree).then (by decide) <| Moves.refl _ _
  exact moves_mk1 <| Moves.refl _ _

theorem moves_fantail {x0 e} : Moves 285475900 e (fantail x0 e) := by
  unfold fantail
  extract_lets +onlyGivenNames y0 y1
  clear_value y0 y1
  refine moves_ite ?_ ?_
  · exact (moves_note).then (by decide) <| (moves_inc).then (by decide) <| Moves.refl _ _
  extract_lets +onlyGivenNames y2 y3
  clear_value y2 y3
  exact (moves_updLoop).then (by decide) <| Moves.refl _ _

theorem moves_trackTurn {x0 x1 e} : Moves 285475900 e (trackTurn x0 x1 e) := by
  unfold trackTurn
  extract_lets +onlyGivenNames y0
  clear_value y0
  refine moves_ite ?_ ?_
  · exact Moves.refl _ _
  extract_lets +onlyGivenNames y1 y2
  clear_value y1 y2
  extract_lets +onlyGivenNames y3
  refine moves_cut (y := y3) ?_ fun h4 => ?_
  · unfold y3
    exact (moves_updLoop).then (by decide) <| Moves.refl _ _
  clear_value y3
  refine moves_ite ?_ ?_
  · exact (moves_fantail).then (by decide) <| h4
  exact h4

theorem moves_chirpAt {x0 x1 e} : Moves 2 e (chirpAt x0 x1 e).1 := by
  unfold chirpAt
  extract_lets +onlyGivenNames y0 y1 y2 y3
  clear_value y0 y1 y2 y3
  refine moves_ite1 ?_ ?_
  · exact moves_mk1 <| Moves.refl _ _
  exact moves_mk1 <| (moves_useFree).then (by decide) <| Moves.refl _ _

theorem moves_waveAt {x0 e} : Moves 2 e (waveAt x0 e).1 := by
  unfold waveAt
  extract_lets +onlyGivenNames y0
  clear_value y0
  refine moves_ite1 ?_ ?_
  · exact moves_mk1 <| Moves.refl _ _
  refine moves_ite1 ?_ ?_
  · exact moves_mk1 <| Moves.refl _ _
  refine moves_ite1 ?_ ?_
  · exact (moves_chirpAt).then (by decide) <| Moves.refl _ _
  exact moves_mk1 <| Moves.refl _ _

theorem moves_injectStep {x0 e} : Moves 285475902 e (injectStep x0 e).1 := by
  unfold injectStep
  split
  · rename_i z0 z1
    exact moves_mk1 <| Moves.refl _ _
  · rename_i z2 z3 z4
    refine moves_ite1 ?_ ?_
    · exact moves_mk1 <| Moves.refl _ _
    extract_lets +onlyGivenNames y5
    refine moves_cut (y := y5.1) ?_ fun h6 => ?_
    · unfold y5
      exact (moves_waveAt).then (by decide) <| Moves.refl _ _
    clear_value y5
    extract_lets +onlyGivenNames y7
    refine moves_cut (y := y7) ?_ fun h8 => ?_
    · unfold y7
      exact h6
    clear_value y7
    extract_lets +onlyGivenNames y9 y10 y11 y12
    clear_value y9 y10 y11 y12
    extract_lets +onlyGivenNames y13
    refine moves_cut (y := y13) ?_ fun h14 => ?_
    · unfold y13
      exact moves_loop (by decide) <| h8
    clear_value y13
    extract_lets +onlyGivenNames y15
    refine moves_cut (y := y15) ?_ fun h16 => ?_
    · unfold y15
      refine moves_ite ?_ ?_
      · exact (moves_note).then (by decide) <| h14
      exact h14
    clear_value y15
    extract_lets +onlyGivenNames y17 y18
    clear_value y17 y18
    exact moves_mk1 <| h16

theorem moves_prod64 {x0 x1 e} : Moves 2 e (prod64 x0 x1 e).1 := by
  unfold prod64
  extract_lets +onlyGivenNames y0
  clear_value y0
  refine moves_ite1 ?_ ?_
  · exact moves_mk1 <| Moves.refl _ _
  exact moves_mk1 <| (moves_useFree).then (by decide) <| Moves.refl _ _

theorem moves_axisStep {x0 x1 x2 x3 x4 x5 x6 x7 e} : Moves 30 e (axisStep x0 x1 x2 x3 x4 x5 x6 x7 e).1 := by
  unfold axisStep
  extract_lets +onlyGivenNames y0 y1
  clear_value y0 y1
  extract_lets +onlyGivenNames y2
  refine moves_cut (y := y2.1) ?_ fun h3 => ?_
  · unfold y2
    exact (moves_prod64).then (by decide) <| Moves.refl _ _
  clear_value y2
  extract_lets +onlyGivenNames y4
  refine moves_cut (y := y4.1) ?_ fun h5 => ?_
  · unfold y4
    exact (moves_prod64).then (by decide) <| h3
  clear_value y4
  extract_lets +onlyGivenNames y6
  refine moves_cut (y := y6.1) ?_ fun h7 => ?_
  · unfold y6
    exact (moves_prod64).then (by decide) <| h5
  clear_value y6
  extract_lets +onlyGivenNames y8
  clear_value y8
  extract_lets +onlyGivenNames y9
  refine moves_cut (y := y9.1) ?_ fun h10 => ?_
  · unfold y9
    exact (moves_prod64).then (by decide) <| h7
  clear_value y9
  extract_lets +onlyGivenNames y11 y12 y13 y14 y15
  clear_value y11 y12 y13 y14 y15
  refine moves_ite1 ?_ ?_
  · exact moves_mk1 <| (moves_inc).then (by decide) <| h10
  exact moves_mk1 <| h10

theorem moves_trimPass {x0 x1 x2 x3 x4 e} : Moves 492788797 e (trimPass x0 x1 x2 x3 x4 e) := by
  unfold trimPass
  extract_lets +onlyGivenNames y0 y1
  clear_value y0 y1
  exact (moves_runPass).then (by decide) <| Moves.refl _ _

theorem moves_lockTurn {x0 x1 x2 e} : Moves 286000188 e (lockTurn x0 x1 x2 e) := by
  unfold lockTurn
  extract_lets +onlyGivenNames y0 y1 y2
  clear_value y0 y1 y2
  refine moves_ite ?_ ?_
  · extract_lets +onlyGivenNames y3
    clear_value y3
    refine moves_ite ?_ ?_
    · extract_lets +onlyGivenNames y4
      refine moves_cut (y := y4) ?_ fun h5 => ?_
      · unfold y4
        exact (moves_updLoop).then (by decide) <| Moves.refl _ _
      clear_value y4
      extract_lets +onlyGivenNames y6
      refine moves_cut (y := y6) ?_ fun h7 => ?_
      · unfold y6
        refine moves_ite ?_ ?_
        · exact (moves_updPort).then (by decide) <| h5
        exact h5
      clear_value y6
      exact (moves_inc).then (by decide) <| h7
    exact (moves_updLoop).then (by decide) <| Moves.refl _ _
  refine moves_ite ?_ ?_
  · extract_lets +onlyGivenNames y8
    clear_value y8
    refine moves_ite ?_ ?_
    · exact (moves_note).then (by decide) <| (moves_inc).then (by decide) <| (moves_updLoop).then (by decide) <| Moves.refl _ _
    exact (moves_updLoop).then (by decide) <| Moves.refl _ _
  exact Moves.refl _ _

theorem moves_captureOne {x0 x1 x2 x3 e} : Moves 285475900 e (captureOne x0 x1 x2 x3 e) := by
  unfold captureOne
  extract_lets +onlyGivenNames y0
  clear_value y0
  extract_lets +onlyGivenNames y1
  have hy1 : ∀ y1_0 y1_1, Moves 285475900 y1_1 (y1 y1_0 y1_1) := by
    intro y1_0 y1_1
    unfold y1
    exact moves_loop (by decide) <| Moves.refl _ _
  clear_value y1
  extract_lets +onlyGivenNames y2 y3 y4
  clear_value y2 y3 y4
  refine moves_ite ?_ ?_
  · exact (hy1 _ _).then (Nat.or_self _) <| Moves.refl _ _
  refine moves_ite ?_ ?_
  · extract_lets +onlyGivenNames y5
    clear_value y5
    refine moves_ite ?_ ?_
    · exact (moves_note).then (by decide) <| (hy1 _ _).then (Nat.or_self _) <| Moves.refl _ _
    exact (hy1 _ _).then (Nat.or_self _) <| Moves.refl _ _
  exact Moves.refl _ _

theorem moves_recErr {x0 e} : Moves 2 e (recErr x0 e).1 := by
  unfold recErr
  split
  · rename_i z0 z1
    refine moves_ite1 ?_ ?_
    · exact moves_mk1 <| Moves.refl _ _
    exact moves_mk1 <| (moves_useFree).then (by decide) <| Moves.refl _ _
  · rename_i z2
    exact moves_mk1 <| (moves_useFree).then (by decide) <| Moves.refl _ _

theorem moves_captureAxis {x0 x1 x2 x3 x4 e} : Moves 285475902 e (captureAxis x0 x1 x2 x3 x4 e) := by
  unfold captureAxis
  extract_lets +onlyGivenNames y0
  clear_value y0
  refine moves_ite ?_ ?_
  · exact Moves.refl _ _
  extract_lets +onlyGivenNames y1
  clear_value y1
  extract_lets +onlyGivenNames y2
  refine moves_cut (y := y2.1) ?_ fun h3 => ?_
  · unfold y2
    exact (moves_recErr).then (by decide) <| Moves.refl _ _
  clear_value y2
  refine moves_each _ _ _ (fun x4 e5 => ?_) ?_
  · exact (moves_captureOne).then (by decide) <| Moves.refl _ _
  exact h3

theorem moves_missingTurn {x0 x1 x2 x3 x4 e} : Moves 492788797 e (missingTurn x0 x1 x2 x3 x4 e) := by
  unfold missingTurn
  extract_lets +onlyGivenNames y0
  clear_value y0
  extract_lets +onlyGivenNames y1
  refine moves_cut (y := y1) ?_ fun h2 => ?_
  · unfold y1
    exact (moves_inc).then (by decide) <| (moves_updLoop).then (by decide) <| Moves.refl _ _
  clear_value y1
  refine moves_ite ?_ ?_
  · exact h2
  refine moves_ite ?_ ?_
  · exact (moves_trimPass).then (by decide) <| (moves_note).then (by decide) <| (moves_updLoop).then (by decide) <| h2
  exact (moves_trimPass).then (by decide) <| h2

theorem moves_validTurn {x0 x1 x2 x3 x4 x5 x6 e} : Moves 492788799 e (validTurn x0 x1 x2 x3 x4 x5 x6 e).1 := by
  unfold validTurn
  extract_lets +onlyGivenNames y0
  refine moves_cut (y := y0) ?_ fun h1 => ?_
  · unfold y0
    exact (moves_updLoop).then (by decide) <| Moves.refl _ _
  clear_value y0
  extract_lets +onlyGivenNames y2 y3 y4 y5 y6 y7
  clear_value y2 y3 y4 y5 y6 y7
  extract_lets +onlyGivenNames y8
  refine moves_cut (y := y8.1) ?_ fun h9 => ?_
  · unfold y8
    exact (moves_axisStep).then (by decide) <| h1
  clear_value y8
  extract_lets +onlyGivenNames y10
  refine moves_cut (y := y10.1) ?_ fun h11 => ?_
  · unfold y10
    exact (moves_axisStep).then (by decide) <| h9
  clear_value y10
  extract_lets +onlyGivenNames y12
  refine moves_cut (y := y12) ?_ fun h13 => ?_
  · unfold y12
    exact (moves_updLoop).then (by decide) <| h11
  clear_value y12
  extract_lets +onlyGivenNames y14
  refine moves_cut (y := y14) ?_ fun h15 => ?_
  · unfold y14
    refine moves_ite ?_ ?_
    · exact (moves_note).then (by decide) <| h13
    exact h13
  clear_value y14
  extract_lets +onlyGivenNames y16
  refine moves_cut (y := y16) ?_ fun h17 => ?_
  · unfold y16
    exact (moves_lockTurn).then (by decide) <| h15
  clear_value y16
  extract_lets +onlyGivenNames y18
  clear_value y18
  exact moves_mk1 <| (moves_trimPass).then (by decide) <| h17

theorem moves_evaluate {x0 x1 x2 x3 e} : Moves 528440383 e (evaluate x0 x1 x2 x3 e) := by
  unfold evaluate
  extract_lets +onlyGivenNames y0
  refine moves_cut (y := y0.1) ?_ fun h1 => ?_
  · unfold y0
    exact (moves_sight).then (by decide) <| Moves.refl _ _
  clear_value y0
  extract_lets +onlyGivenNames y2
  clear_value y2
  extract_lets +onlyGivenNames y3
  refine moves_cut (y := y3) ?_ fun h4 => ?_
  · unfold y3
    exact (moves_trackTurn).then (by decide) <| h1
  clear_value y3
  extract_lets +onlyGivenNames y5
  refine moves_cut (y := y5.1) ?_ fun h6 => ?_
  · unfold y5
    exact (moves_dithPhase).then (by decide) <| h4
  clear_value y5
  extract_lets +onlyGivenNames y7
  refine moves_cut (y := y7) ?_ fun h8 => ?_
  · unfold y7
    exact h6
  clear_value y7
  extract_lets +onlyGivenNames y9 y10
  clear_value y9 y10
  extract_lets +onlyGivenNames y11
  refine moves_cut (y := y11.1) ?_ fun h12 => ?_
  · unfold y11
    exact (moves_injectStep).then (by decide) <| h8
  clear_value y11
  extract_lets +onlyGivenNames y13
  refine moves_cut (y := y13) ?_ fun h14 => ?_
  · unfold y13
    exact h12
  clear_value y13
  extract_lets +onlyGivenNames y15
  refine moves_cut (y := y15.1) ?_ fun h16 => ?_
  · unfold y15
    split
    · rename_i z17 z18
      exact moves_mk1 <| (moves_missingTurn).then (by decide) <| h14
    · rename_i z19 z20 z21
      extract_lets +onlyGivenNames y22
      refine moves_cut (y := y22.1) ?_ fun h23 => ?_
      · unfold y22
        exact (moves_validTurn).then (by decide) <| h14
      clear_value y22
      exact moves_mk1 <| h23
  clear_value y15
  extract_lets +onlyGivenNames y24
  refine moves_cut (y := y24) ?_ fun h25 => ?_
  · unfold y24
    exact (moves_captureAxis).then (by decide) <| h16
  clear_value y24
  extract_lets +onlyGivenNames y26
  refine moves_cut (y := y26) ?_ fun h27 => ?_
  · unfold y26
    exact (moves_captureAxis).then (by decide) <| h25
  clear_value y26
  extract_lets +onlyGivenNames y28
  clear_value y28
  extract_lets +onlyGivenNames y29
  refine moves_cut (y := y29) ?_ fun h30 => ?_
  · unfold y29
    refine moves_ite ?_ ?_
    · exact moves_sch (by decide) <| h27
    exact h27
  clear_value y29
  extract_lets +onlyGivenNames y31 y32
  clear_value y31 y32
  exact (moves_surveySample).then (by decide) <| h30

theorem moves_takeTurn {x0 x1 e} : Moves 17842177 e (takeTurn x0 x1 e) := by
  unfold takeTurn
  extract_lets +onlyGivenNames y0 y1 y2
  clear_value y0 y1 y2
  exact (moves_waitClk).then (by decide) <| (moves_updLoop).then (by decide) <| (moves_updTile).then (by decide) <| Moves.refl _ _

theorem moves_loopEvaluationNow {x0 x1 x2 x3 e} : Moves 528440383 e (loopEvaluationNow x0 x1 x2 x3 e) := by
  unfold loopEvaluationNow
  refine moves_ite ?_ ?_
  · exact Moves.refl _ _
  extract_lets +onlyGivenNames y0
  clear_value y0
  extract_lets +onlyGivenNames y1
  refine moves_cut (y := y1) ?_ fun h2 => ?_
  · unfold y1
    exact (moves_takeTurn).then (by decide) <| Moves.refl _ _
  clear_value y1
  refine moves_ite ?_ ?_
  · refine moves_ite ?_ ?_
    · exact h2
    exact (moves_trimPass).then (by decide) <| (moves_updLoop).then (by decide) <| h2
  refine (moves_evaluate).then (by decide) <| ?_
  refine moves_ite ?_ ?_
  · exact (moves_updLoop).then (by decide) <| h2
  exact h2

theorem acts_execLoopEvaluation {x0 x1 x2 x3 x4} : Acts 528440383 (execLoopEvaluation x0 x1 x2 x3 x4) x4 := by
  unfold execLoopEvaluation
  refine Acts.mk fun e => ?_
  exact (moves_loopEvaluationNow).then (by decide) <| Moves.refl _ _

theorem moves_loopsEnabled {e} : Moves 16777216 e (loopsEnabled e) := by
  unfold loopsEnabled
  exact (moves_allLoops).then (by decide) <| Moves.refl _ _

theorem moves_loopCtlApply {x0 e} : Moves 16777244 e (loopCtlApply x0 e) := by
  unfold loopCtlApply
  extract_lets +onlyGivenNames y0
  clear_value y0
  extract_lets +onlyGivenNames y1
  refine moves_cut (y := y1) ?_ fun h2 => ?_
  · unfold y1
    exact (moves_wr).then (by decide) <| Moves.refl _ _
  clear_value y1
  refine moves_ite ?_ ?_
  · exact (moves_loopsEnabled).then (by decide) <| h2
  exact h2

theorem moves_damselApply {x0 e} : Moves 268698684 e (damselApply x0 e) := by
  unfold damselApply
  refine moves_ite ?_ ?_
  · exact (moves_wr).then (by decide) <| Moves.refl _ _
  exact (moves_note).then (by decide) <| Moves.refl _ _

theorem moves_cfgPut {x0 x1 x2 e} : Moves 16777216 e (cfgPut x0 x1 x2 e) := by
  unfold cfgPut
  extract_lets +onlyGivenNames y0
  clear_value y0
  exact moves_loop (by decide) <| Moves.refl _ _

theorem moves_loopRestart {x0 e} : Moves 16777216 e (loopRestart x0 e) := by
  unfold loopRestart
  exact (moves_updLoop).then (by decide) <| Moves.refl _ _

theorem moves_loopCfgBody {x0 x1 e} : Moves 486999100 e (loopCfgBody x0 x1 e) := by
  unfold loopCfgBody
  refine moves_ite ?_ ?_
  · exact (moves_complete).then (by decide) <| Moves.refl _ _
  refine moves_ite ?_ ?_
  · exact (moves_complete).then (by decide) <| Moves.refl _ _
  refine moves_ite ?_ ?_
  · exact (moves_complete).then (by decide) <| Moves.refl _ _
  extract_lets +onlyGivenNames y0
  refine moves_cut (y := y0) ?_ fun h1 => ?_
  · unfold y0
    refine moves_each _ _ _ (fun x2 e3 => ?_) ?_
    · exact (moves_cfgPut).then (by decide) <| Moves.refl _ _
    exact Moves.refl _ _
  clear_value y0
  refine (moves_complete).then (by decide) <| ?_
  refine moves_ite ?_ ?_
  · refine moves_each _ _ _ (fun x4 e5 => ?_) ?_
    · exact (moves_loopRestart).then (by decide) <| Moves.refl _ _
    exact h1
  exact h1

theorem moves_goLoopCfg {x0 x1 e} : Moves 486999100 e (goLoopCfg x0 x1 e) := by
  unfold goLoopCfg
  refine (moves_runCmd (by decide) (fun e0 => ?_)).then (Nat.or_self _) ?_
  · exact (moves_loopCfgBody).then (by decide) <| Moves.refl _ _
  exact Moves.refl _ _

theorem acts_execLoopCfg {x0 x1 x2} : Acts 486999100 (execLoopCfg x0 x1 x2) x2 := by
  unfold execLoopCfg
  refine Acts.mk fun e => ?_
  refine (moves_arrive (by decide) (fun e0 => ?_)).then (Nat.or_self _) ?_
  · exact (moves_goLoopCfg).then (by decide) <| Moves.refl _ _
  exact Moves.refl _ _

theorem moves_loopInjectBody {x0 x1 e} : Moves 486999100 e (loopInjectBody x0 x1 e) := by
  unfold loopInjectBody
  extract_lets +onlyGivenNames y0
  clear_value y0
  refine moves_ite ?_ ?_
  · exact (moves_complete).then (by decide) <| Moves.refl _ _
  refine moves_ite ?_ ?_
  · exact (moves_complete).then (by decide) <| moves_loop (by decide) <| Moves.refl _ _
  refine moves_ite ?_ ?_
  · exact (moves_complete).then (by decide) <| Moves.refl _ _
  extract_lets +onlyGivenNames y1
  clear_value y1
  exact (moves_complete).then (by decide) <| moves_loop (by decide) <| Moves.refl _ _

theorem moves_goLoopInject {x0 x1 e} : Moves 486999100 e (goLoopInject x0 x1 e) := by
  unfold goLoopInject
  refine (moves_runCmd (by decide) (fun e0 => ?_)).then (Nat.or_self _) ?_
  · exact (moves_loopInjectBody).then (by decide) <| Moves.refl _ _
  exact Moves.refl _ _

theorem acts_execLoopInject {x0 x1 x2} : Acts 486999100 (execLoopInject x0 x1 x2) x2 := by
  unfold execLoopInject
  refine Acts.mk fun e => ?_
  refine (moves_arrive (by decide) (fun e0 => ?_)).then (Nat.or_self _) ?_
  · exact (moves_goLoopInject).then (by decide) <| Moves.refl _ _
  exact Moves.refl _ _

theorem moves_captureArmBody {x0 x1 e} : Moves 486999100 e (captureArmBody x0 x1 e) := by
  unfold captureArmBody
  refine moves_ite ?_ ?_
  · exact (moves_complete).then (by decide) <| Moves.refl _ _
  extract_lets +onlyGivenNames y0
  clear_value y0
  exact (moves_complete).then (by decide) <| moves_loop (by decide) <| Moves.refl _ _

theorem moves_goCaptureArm {x0 x1 e} : Moves 486999100 e (goCaptureArm x0 x1 e) := by
  unfold goCaptureArm
  refine (moves_runCmd (by decide) (fun e0 => ?_)).then (Nat.or_self _) ?_
  · exact (moves_captureArmBody).then (by decide) <| Moves.refl _ _
  exact Moves.refl _ _

theorem acts_execCaptureArm {x0 x1 x2} : Acts 486999100 (execCaptureArm x0 x1 x2) x2 := by
  unfold execCaptureArm
  refine Acts.mk fun e => ?_
  refine (moves_arrive (by decide) (fun e0 => ?_)).then (Nat.or_self _) ?_
  · exact (moves_goCaptureArm).then (by decide) <| Moves.refl _ _
  exact Moves.refl _ _

theorem moves_captureReadBody {x0 x1 e} : Moves 470221884 e (captureReadBody x0 x1 e) := by
  unfold captureReadBody
  refine moves_ite ?_ ?_
  · exact (moves_complete).then (by decide) <| Moves.refl _ _
  extract_lets +onlyGivenNames y0
  clear_value y0
  refine moves_ite ?_ ?_
  · exact (moves_complete).then (by decide) <| Moves.refl _ _
  refine moves_ite ?_ ?_
  · exact (moves_complete).then (by decide) <| Moves.refl _ _
  refine moves_ite ?_ ?_
  · exact (moves_complete).then (by decide) <| Moves.refl _ _
  extract_lets +onlyGivenNames y1
  clear_value y1
  extract_lets +onlyGivenNames y2
  refine moves_cut (y := y2) ?_ fun h3 => ?_
  · unfold y2
    exact (moves_openCmd).then (by decide) <| Moves.refl _ _
  clear_value y2
  exact (moves_updStream).then (by decide) <| h3

theorem moves_goCaptureRead {x0 x1 e} : Moves 470221884 e (goCaptureRead x0 x1 e) := by
  unfold goCaptureRead
  refine (moves_runCmd (by decide) (fun e0 => ?_)).then (Nat.or_self _) ?_
  · exact (moves_captureReadBody).then (by decide) <| Moves.refl _ _
  exact Moves.refl _ _

theorem acts_execCaptureRead {x0 x1 x2} : Acts 470221884 (execCaptureRead x0 x1 x2) x2 := by
  unfold execCaptureRead
  refine Acts.mk fun e => ?_
  refine (moves_arrive (by decide) (fun e0 => ?_)).then (Nat.or_self _) ?_
  · exact (moves_goCaptureRead).then (by decide) <| Moves.refl _ _
  exact Moves.refl _ _

end Sys2Proof.Machine
end

