-- ==== Sys2Proof/Laws/MovesRefresh.lean ====
section
/-! SUPPORT. What each operation of Machine/Refresh.lean can do (`moves_f`). -/

namespace Sys2Proof.Machine

theorem moves_rowAged {x0 x1 x2 e} : Moves 475464764 e (rowAged x0 x1 x2 e) := by
  unfold rowAged
  extract_lets +onlyGivenNames y0
  clear_value y0
  extract_lets +onlyGivenNames y1
  refine moves_cut (y := y1) ?_ fun h2 => ?_
  · unfold y1
    exact (moves_peakAge).then (by decide) <| (moves_inc).then (by decide) <| Moves.refl _ _
  clear_value y1
  extract_lets +onlyGivenNames y3
  refine moves_cut (y := y3) ?_ fun h4 => ?_
  · unfold y3
    refine moves_ite ?_ ?_
    · exact (moves_inc).then (by decide) <| h2
    exact h2
  clear_value y3
  exact (moves_missRows).then (by decide) <| h4

theorem moves_refreshRow {x0 x1 x2 x3 e} : Moves 475481149 e (refreshRow x0 x1 x2 x3 e) := by
  unfold refreshRow
  extract_lets +onlyGivenNames y0
  clear_value y0
  extract_lets +onlyGivenNames y1
  refine moves_cut (y := y1) ?_ fun h2 => ?_
  · unfold y1
    exact (moves_waitClk).then (by decide) <| Moves.refl _ _
  clear_value y1
  extract_lets +onlyGivenNames y3
  refine moves_cut (y := y3) ?_ fun h4 => ?_
  · unfold y3
    exact (moves_rowAged).then (by decide) <| h2
  clear_value y3
  extract_lets +onlyGivenNames y5
  clear_value y5
  refine moves_ite ?_ ?_
  · exact (moves_marchEv).then (by decide) <| (moves_updAper).then (by decide) <| h4
  exact (moves_fsEvents).then (by decide) <| (moves_writeRow).then (by decide) <| h4

theorem moves_drillRow {w : Nat} {x0 x1 f2 e} (hw : 475481149 ||| w = w) (hf2 : ∀ e, Moves w e (f2 e)) :
    Moves w e (drillRow x0 x1 f2 e) := by
  unfold drillRow
  split
  · rename_i z0 z1
    exact (hf2 _).then (Nat.or_self _) <| Moves.refl _ _
  · rename_i z2 z3 z4
    extract_lets +onlyGivenNames y5
    clear_value y5
    refine moves_ite ?_ ?_
    · exact (moves_endDrill).then (subMask hw (by decide)) <| (moves_waitClk).then (subMask hw (by decide)) <| Moves.refl _ _
    exact (hf2 _).then (Nat.or_self _) <| Moves.refl _ _

theorem moves_refreshNow {x0 x1 x2 x3 x4 e} : Moves 475481149 e (refreshNow x0 x1 x2 x3 x4 e) := by
  unfold refreshNow
  refine moves_ite ?_ ?_
  · exact Moves.refl _ _
  refine moves_ite ?_ ?_
  · exact (moves_inc).then (by decide) <| Moves.refl _ _
  refine moves_ite ?_ ?_
  · exact Moves.refl _ _
  extract_lets +onlyGivenNames y0
  clear_value y0
  refine (moves_drillRow (by decide) (fun e1 => ?_)).then (Nat.or_self _) ?_
  · exact (moves_refreshRow).then (by decide) <| (moves_waitClk).then (by decide) <| Moves.refl _ _
  exact Moves.refl _ _

theorem acts_execRefresh {x0 x1 x2 x3 x4 x5} : Acts 475481149 (execRefresh x0 x1 x2 x3 x4 x5) x5 := by
  unfold execRefresh
  refine Acts.mk fun e => ?_
  exact (moves_refreshNow).then (by decide) <| Moves.refl _ _

theorem moves_beat {x0 e} : Moves 4194332 e (beat x0 e) := by
  unfold beat
  extract_lets +onlyGivenNames y0 y1 y2
  clear_value y0 y1 y2
  extract_lets +onlyGivenNames y3
  refine moves_cut (y := y3) ?_ fun h4 => ?_
  · unfold y3
    refine moves_ite ?_ ?_
    · exact moves_rfs (by decide) <| Moves.refl _ _
    exact moves_rfs (by decide) <| Moves.refl _ _
  clear_value y3
  exact (moves_setLive).then (by decide) <| h4

theorem moves_heartbeatNow {x0 x1 e} : Moves 272892988 e (heartbeatNow x0 x1 e) := by
  unfold heartbeatNow
  refine moves_ite ?_ ?_
  · exact Moves.refl _ _
  extract_lets +onlyGivenNames y0 y1 y2
  clear_value y0 y1 y2
  extract_lets +onlyGivenNames y3
  refine moves_cut (y := y3) ?_ fun h4 => ?_
  · unfold y3
    refine moves_ite ?_ ?_
    · exact Moves.refl _ _
    refine moves_ite ?_ ?_
    · exact moves_rfs (by decide) <| Moves.refl _ _
    exact moves_rfs (by decide) <| Moves.refl _ _
  clear_value y3
  extract_lets +onlyGivenNames y5
  refine moves_cut (y := y5) ?_ fun h6 => ?_
  · unfold y5
    refine moves_ite ?_ ?_
    · exact (moves_note).then (by decide) <| h4
    exact h4
  clear_value y5
  refine moves_ite ?_ ?_
  · exact (moves_beat).then (by decide) <| h6
  exact h6

theorem acts_execHeartbeat {x0 x1 x2} : Acts 272892988 (execHeartbeat x0 x1 x2) x2 := by
  unfold execHeartbeat
  refine Acts.mk fun e => ?_
  exact (moves_heartbeatNow).then (by decide) <| Moves.refl _ _

theorem moves_heartbeatMissingNow {x0 e} : Moves 272909373 e (heartbeatMissingNow x0 e) := by
  unfold heartbeatMissingNow
  refine moves_ite ?_ ?_
  · exact Moves.refl _ _
  extract_lets +onlyGivenNames y0
  clear_value y0
  refine moves_ite ?_ ?_
  · exact Moves.refl _ _
  extract_lets +onlyGivenNames y1
  refine moves_cut (y := y1) ?_ fun h2 => ?_
  · unfold y1
    exact (moves_waitClk).then (by decide) <| Moves.refl _ _
  clear_value y1
  extract_lets +onlyGivenNames y3
  clear_value y3
  extract_lets +onlyGivenNames y4
  refine moves_cut (y := y4) ?_ fun h5 => ?_
  · unfold y4
    refine moves_ite ?_ ?_
    · exact h2
    exact moves_rfs (by decide) <| h2
  clear_value y4
  refine moves_ite ?_ ?_
  · exact (moves_setLive).then (by decide) <| (moves_note).then (by decide) <| h5
  refine moves_ite ?_ ?_
  · exact (moves_setLive).then (by decide) <| (moves_note).then (by decide) <| h5
  exact h5

theorem acts_execHeartbeatMissing {x0 x1} : Acts 272909373 (execHeartbeatMissing x0 x1) x1 := by
  unfold execHeartbeatMissing
  refine Acts.mk fun e => ?_
  exact (moves_heartbeatMissingNow).then (by decide) <| Moves.refl _ _

theorem moves_voidForce {e} : Moves 268698684 e (voidForce e) := by
  unfold voidForce
  refine moves_ite ?_ ?_
  · exact (moves_note).then (by decide) <| (moves_wrF).then (by decide) <| Moves.refl _ _
  exact Moves.refl _ _

theorem moves_takeoverNow {e} : Moves 273957949 e (takeoverNow e) := by
  unfold takeoverNow
  extract_lets +onlyGivenNames y0
  clear_value y0
  refine moves_ite ?_ ?_
  · exact Moves.refl _ _
  split
  · rename_i z1 z2
    exact Moves.refl _ _
  · rename_i z3 z4 z5
    extract_lets +onlyGivenNames y6
    refine moves_cut (y := y6) ?_ fun h7 => ?_
    · unfold y6
      exact (moves_claimAll).then (by decide) <| (moves_waitClk).then (by decide) <| Moves.refl _ _
    clear_value y6
    extract_lets +onlyGivenNames y8
    refine moves_cut (y := y8) ?_ fun h9 => ?_
    · unfold y8
      exact (moves_setLive).then (by decide) <| (moves_setLive).then (by decide) <| h7
    clear_value y8
    extract_lets +onlyGivenNames y10
    clear_value y10
    extract_lets +onlyGivenNames y11
    refine moves_cut (y := y11) ?_ fun h12 => ?_
    · unfold y11
      refine moves_ite ?_ ?_
      · exact moves_rfs (by decide) <| h9
      exact moves_rfs (by decide) <| h9
    clear_value y11
    exact (moves_voidForce).then (by decide) <| (moves_note).then (by decide) <| (moves_inc).then (by decide) <| h12

theorem acts_execTakeover {x0} : Acts 273957949 (execTakeover x0) x0 := by
  unfold execTakeover
  refine Acts.mk fun e => ?_
  exact (moves_takeoverNow).then (by decide) <| Moves.refl _ _

theorem moves_failbackNow {e} : Moves 273957949 e (failbackNow e) := by
  unfold failbackNow
  split
  · rename_i z0 z1
    exact Moves.refl _ _
  · rename_i z2 z3 z4
    refine moves_ite ?_ ?_
    · exact Moves.refl _ _
    extract_lets +onlyGivenNames y5
    refine moves_cut (y := y5) ?_ fun h6 => ?_
    · unfold y5
      exact (moves_waitClk).then (by decide) <| Moves.refl _ _
    clear_value y5
    extract_lets +onlyGivenNames y7 y8
    clear_value y7 y8
    extract_lets +onlyGivenNames y9
    refine moves_cut (y := y9) ?_ fun h10 => ?_
    · unfold y9
      exact moves_rfs (by decide) <| h6
    clear_value y9
    exact (moves_note).then (by decide) <| (moves_claimAll).then (by decide) <| h10

theorem acts_execFailback {x0} : Acts 273957949 (execFailback x0) x0 := by
  unfold execFailback
  refine Acts.mk fun e => ?_
  exact (moves_failbackNow).then (by decide) <| Moves.refl _ _

theorem moves_ovrApply {x0 e} : Moves 1048604 e (ovrApply x0 e) := by
  unfold ovrApply
  extract_lets +onlyGivenNames y0
  refine moves_cut (y := y0) ?_ fun h1 => ?_
  · unfold y0
    exact (moves_wr).then (by decide) <| Moves.refl _ _
  clear_value y0
  refine moves_ite ?_ ?_
  · exact (moves_claimAll).then (by decide) <| h1
  refine moves_ite ?_ ?_
  · exact (moves_claimAll).then (by decide) <| h1
  exact h1

theorem moves_rfsCtlApply {x0 e} : Moves 4194332 e (rfsCtlApply x0 e) := by
  unfold rfsCtlApply
  extract_lets +onlyGivenNames y0
  refine moves_cut (y := y0) ?_ fun h1 => ?_
  · unfold y0
    exact (moves_wr).then (by decide) <| Moves.refl _ _
  clear_value y0
  extract_lets +onlyGivenNames y2
  refine moves_cut (y := y2) ?_ fun h3 => ?_
  · unfold y2
    refine moves_ite ?_ ?_
    · exact (moves_wr).then (by decide) <| h1
    exact h1
  clear_value y2
  refine moves_ite ?_ ?_
  · exact h3
  exact moves_rfs (by decide) <| h3

theorem moves_drillBody {x0 x1 e} : Moves 475464764 e (drillBody x0 x1 e) := by
  unfold drillBody
  refine moves_ite ?_ ?_
  · exact (moves_complete).then (by decide) <| Moves.refl _ _
  refine moves_ite ?_ ?_
  · exact (moves_complete).then (by decide) <| Moves.refl _ _
  extract_lets +onlyGivenNames y0
  clear_value y0
  exact (moves_claimAll).then (by decide) <| moves_rfs (by decide) <| Moves.refl _ _

theorem moves_goDrillSwap {x0 x1 e} : Moves 475464764 e (goDrillSwap x0 x1 e) := by
  unfold goDrillSwap
  refine (moves_runCmd (by decide) (fun e0 => ?_)).then (Nat.or_self _) ?_
  · exact (moves_drillBody).then (by decide) <| Moves.refl _ _
  exact Moves.refl _ _

theorem acts_execDrillSwap {x0 x1 x2} : Acts 475464764 (execDrillSwap x0 x1 x2) x2 := by
  unfold execDrillSwap
  refine Acts.mk fun e => ?_
  refine (moves_arrive (by decide) (fun e0 => ?_)).then (Nat.or_self _) ?_
  · exact (moves_goDrillSwap).then (by decide) <| Moves.refl _ _
  exact Moves.refl _ _

theorem moves_drillEndNow {e} : Moves 475481149 e (drillEndNow e) := by
  unfold drillEndNow
  split
  · rename_i z0 z1
    exact Moves.refl _ _
  · rename_i z2 z3 z4
    extract_lets +onlyGivenNames y5
    clear_value y5
    refine moves_ite ?_ ?_
    · exact (moves_endDrill).then (by decide) <| (moves_waitClk).then (by decide) <| Moves.refl _ _
    split
    · rename_i z6 z7 z8
      refine moves_ite ?_ ?_
      · exact (moves_endDrill).then (by decide) <| (moves_waitClk).then (by decide) <| Moves.refl _ _
      exact (moves_endDrill).then (by decide) <| (moves_waitClk).then (by decide) <| Moves.refl _ _
    · rename_i z9 z10
      exact (moves_endDrill).then (by decide) <| (moves_waitClk).then (by decide) <| Moves.refl _ _

theorem acts_execDrillEnd {x0} : Acts 475481149 (execDrillEnd x0) x0 := by
  unfold execDrillEnd
  refine Acts.mk fun e => ?_
  exact (moves_drillEndNow).then (by decide) <| Moves.refl _ _

theorem moves_drillClaimNow {e} : Moves 475481149 e (drillClaimNow e) := by
  unfold drillClaimNow
  split
  · rename_i z0 z1 z2
    refine moves_ite ?_ ?_
    · exact (moves_endDrill).then (by decide) <| (moves_waitClk).then (by decide) <| Moves.refl _ _
    exact Moves.refl _ _
  · rename_i z3 z4
    exact Moves.refl _ _

theorem acts_execDrillClaimTimeout {x0} : Acts 475481149 (execDrillClaimTimeout x0) x0 := by
  unfold execDrillClaimTimeout
  refine Acts.mk fun e => ?_
  exact (moves_drillClaimNow).then (by decide) <| Moves.refl _ _

theorem moves_setCopies {x0 x1 x2 x3 e} : Moves 28 e (setCopies x0 x1 x2 x3 e) := by
  unfold setCopies
  exact Moves.put (m := 28) (e := e) (by decide) (by intro p hp; cases p <;> first | rfl | exact absurd hp (by decide)) ⟨rfl, fun _ => Nat.le_refl _, id, (Tbl.wf_put _ _ _ _), id, id⟩ <| Moves.refl _ _

theorem moves_scrubReg {x0 x1 e} : Moves 536812604 e (scrubReg x0 x1 e) := by
  unfold scrubReg
  extract_lets +onlyGivenNames y0 y1 y2
  clear_value y0 y1 y2
  extract_lets +onlyGivenNames y3
  refine moves_cut (y := y3) ?_ fun h4 => ?_
  · unfold y3
    exact (moves_setCopies).then (by decide) <| Moves.refl _ _
  clear_value y3
  extract_lets +onlyGivenNames y5 y6
  clear_value y5 y6
  extract_lets +onlyGivenNames y7
  refine moves_cut (y := y7) ?_ fun h8 => ?_
  · unfold y7
    exact (moves_wr).then (by decide) <| h4
  clear_value y7
  extract_lets +onlyGivenNames y9
  refine moves_cut (y := y9) ?_ fun h10 => ?_
  · unfold y9
    refine moves_each _ _ _ (fun x11 e12 => ?_) ?_
    · exact (moves_note).then (by decide) <| (moves_wrF).then (by decide) <| (moves_inc).then (by decide) <| Moves.refl _ _
    exact h8
  clear_value y9
  refine moves_ite ?_ ?_
  · exact (moves_raise).then (by decide) <| h10
  exact h10

theorem moves_scrubToken {x0 x1 e} : Moves 536812604 e (scrubToken x0 x1 e) := by
  unfold scrubToken
  extract_lets +onlyGivenNames y0 y1 y2 y3
  clear_value y0 y1 y2 y3
  split
  · rename_i z4 z5
    exact (moves_updTile).then (by decide) <| Moves.refl _ _
  · rename_i z6 z7
    exact (moves_note).then (by decide) <| (moves_inc).then (by decide) <| (moves_updTile).then (by decide) <| Moves.refl _ _
  · rename_i z8 z9 z10
    exact (moves_raise).then (by decide) <| (moves_updTile).then (by decide) <| Moves.refl _ _

theorem moves_scrubOne {x0 e} : Moves 536812604 e (scrubOne x0 e) := by
  unfold scrubOne
  refine moves_ite ?_ ?_
  · refine moves_ite ?_ ?_
    · exact (moves_scrubToken).then (by decide) <| Moves.refl _ _
    exact Moves.refl _ _
  split
  · rename_i z0 z1 z2
    exact (moves_scrubReg).then (by decide) <| Moves.refl _ _
  · rename_i z3 z4
    exact Moves.refl _ _

theorem acts_execScrub {x0 x1} : Acts 536812604 (execScrub x0 x1) x1 := by
  unfold execScrub
  refine Acts.mk fun e => ?_
  refine moves_ite ?_ ?_
  · exact Moves.refl _ _
  refine moves_each _ _ _ (fun x0 e1 => ?_) ?_
  · exact (moves_scrubOne).then (by decide) <| Moves.refl _ _
  exact Moves.refl _ _

end Sys2Proof.Machine
end

