-- ==== Sys2Proof/Laws/MovesSched.lean ====
section
/-! SUPPORT. What each operation of Machine/Sched.lean can do (`moves_f`). -/

namespace Sys2Proof.Machine

theorem moves_slotRec {x0 x1 e} : Moves 268698684 e (slotRec x0 x1 e).1 := by
  unfold slotRec
  extract_lets +onlyGivenNames y0
  clear_value y0
  split
  · rename_i z1 z2
    exact moves_mk1 <| Moves.refl _ _
  · rename_i z3 z4
    exact moves_mk1 <| (moves_aimCrc).then (by decide) <| Moves.refl _ _
  · rename_i z5 z6
    exact moves_mk1 <| Moves.refl _ _

theorem moves_slotPark {x0 p} : Moves 268698684 p.1 (slotPark x0 p).1 := by
  unfold slotPark
  refine moves_ite1 ?_ ?_
  · exact moves_mk1 <| Moves.refl _ _
  refine moves_ite1 ?_ ?_
  · exact Moves.refl _ _
  extract_lets +onlyGivenNames y0
  refine moves_cut (y := y0.1) ?_ fun h1 => ?_
  · unfold y0
    exact (moves_ownRec).then (by decide) <| Moves.refl _ _
  clear_value y0
  exact moves_mk1 <| h1

theorem moves_slotEnd {x0 x1 p} : Moves 268698684 p.1 (slotEnd x0 x1 p).1 := by
  unfold slotEnd
  refine moves_ite1 ?_ ?_
  · exact moves_mk1 <| Moves.refl _ _
  split
  · rename_i z0 z1 z2
    refine moves_pair z2 ?_ fun h3 => ?_
    · exact (moves_slotRec).then (by decide) <| Moves.refl _ _
    exact moves_mk1 <| h3
  · rename_i z4 z5 z6 z7
    refine moves_pair z7 ?_ fun h8 => ?_
    · exact (moves_slotRec).then (by decide) <| Moves.refl _ _
    exact moves_mk1 <| h8

theorem moves_failPair {x0 x1 e} : Moves 33554432 e (failPair x0 x1 e) := by
  unfold failPair
  exact moves_sch (by decide) <| Moves.refl _ _

theorem moves_slotPair {x0 x1 p} : Moves 302253116 p.1 (slotPair x0 x1 p).1 := by
  unfold slotPair
  refine moves_ite1 ?_ ?_
  · exact Moves.refl _ _
  refine moves_ite1 ?_ ?_
  · exact (moves_slotPark).then (by decide) <| (moves_slotPark).then (by decide) <| Moves.refl _ _
  refine moves_ite1 ?_ ?_
  · exact (moves_slotPark).then (by decide) <| (moves_slotPark).then (by decide) <| moves_mk1 <| (moves_note).then (by decide) <| Moves.refl _ _
  split
  · rename_i z0 z1 z2
    refine moves_pair z2 ?_ fun h3 => ?_
    · exact (moves_slotEnd).then (by decide) <| Moves.refl _ _
    exact (moves_slotPark).then (by decide) <| (moves_slotPark).then (by decide) <| moves_mk1 <| (moves_failPair).then (by decide) <| (moves_note).then (by decide) <| h3
  · rename_i z4 z5 z6 z7
    refine moves_pair z7 ?_ fun h8 => ?_
    · exact (moves_slotEnd).then (by decide) <| Moves.refl _ _
    split
    · rename_i z9 z10 z11
      refine moves_pair z11 ?_ fun h12 => ?_
      · exact (moves_slotEnd).then (by decide) <| moves_mk1 <| h8
      exact (moves_slotPark).then (by decide) <| (moves_slotPark).then (by decide) <| moves_mk1 <| (moves_failPair).then (by decide) <| (moves_note).then (by decide) <| h12
    · rename_i z13 z14 z15 z16
      refine moves_pair z16 ?_ fun h17 => ?_
      · exact (moves_slotEnd).then (by decide) <| moves_mk1 <| h8
      exact moves_mk1 <| h17

theorem moves_slotPort {x0 p x2} : Moves 302253116 p.1 (slotPort x0 p x2).1 := by
  unfold slotPort
  extract_lets +onlyGivenNames y0
  clear_value y0
  refine moves_ite1 ?_ ?_
  · refine moves_ite1 ?_ ?_
    · exact (moves_slotPair).then (by decide) <| Moves.refl _ _
    exact Moves.refl _ _
  refine moves_ite1 ?_ ?_
  · exact Moves.refl _ _
  exact (moves_slotPark).then (by decide) <| Moves.refl _ _

theorem moves_slotArm {x0 e} : Moves 302253116 e (slotArm x0 e).1 := by
  unfold slotArm
  refine moves_foldl1 _ _ _ (fun e1 x0 => ?_) ?_
  · exact (moves_slotPort).then (by decide) <| Moves.refl _ _
  exact moves_mk1 <| Moves.refl _ _

theorem moves_enqueueArm {x0 x1 x2 e} : Moves 34078720 e (enqueueArm x0 x1 x2 e) := by
  unfold enqueueArm
  refine moves_ite ?_ ?_
  · exact moves_sch (by decide) <| Moves.refl _ _
  extract_lets +onlyGivenNames y0 y1 y2 y3
  clear_value y0 y1 y2 y3
  extract_lets +onlyGivenNames y4
  refine moves_cut (y := y4) ?_ fun h5 => ?_
  · unfold y4
    exact (moves_addJob).then (by decide) <| Moves.refl _ _
  clear_value y4
  exact moves_sch (by decide) <| h5

theorem moves_enqueue {x0 x1 e} : Moves 302777404 e (enqueue x0 x1 e) := by
  unfold enqueue
  extract_lets +onlyGivenNames y0 y1
  clear_value y0 y1
  extract_lets +onlyGivenNames y2
  refine moves_cut (y := y2) ?_ fun h3 => ?_
  · unfold y2
    refine moves_ite ?_ ?_
    · exact Moves.refl _ _
    exact moves_sch (by decide) <| Moves.refl _ _
  clear_value y2
  extract_lets +onlyGivenNames y4
  refine moves_cut (y := y4.1) ?_ fun h5 => ?_
  · unfold y4
    exact (moves_slotArm).then (by decide) <| h3
  clear_value y4
  exact (moves_enqueueArm).then (by decide) <| h5

theorem moves_targetGone {x0 e} : Moves 505349180 e (targetGone x0 e) := by
  unfold targetGone
  extract_lets +onlyGivenNames y0
  refine moves_cut (y := y0) ?_ fun h1 => ?_
  · unfold y0
    split
    · rename_i z2 z3
      exact (moves_complete).then (by decide) <| Moves.refl _ _
    · rename_i z4
      exact Moves.refl _ _
  clear_value y0
  exact (moves_stopPlayer).then (by decide) <| (moves_note).then (by decide) <| h1

theorem moves_underrun {x0 e} : Moves 302253116 e (underrun x0 e) := by
  unfold underrun
  extract_lets +onlyGivenNames y0
  refine moves_cut (y := y0) ?_ fun h1 => ?_
  · unfold y0
    exact (moves_setLive).then (by decide) <| (moves_note).then (by decide) <| (moves_inc).then (by decide) <| Moves.refl _ _
  clear_value y0
  exact moves_sch (by decide) <| h1

theorem moves_wantPlay {x0 x1 x2 x3 x4 e} : Moves 505349180 e (wantPlay x0 x1 x2 x3 x4 e) := by
  unfold wantPlay
  extract_lets +onlyGivenNames y0 y1
  clear_value y0 y1
  split
  · rename_i z2 z3
    exact (moves_targetGone).then (by decide) <| Moves.refl _ _
  · rename_i z4 z5
    exact (moves_underrun).then (by decide) <| Moves.refl _ _
  · rename_i z6 z7
    extract_lets +onlyGivenNames y8
    refine moves_cut (y := y8) ?_ fun h9 => ?_
    · unfold y8
      split
      · rename_i z10 z11
        exact (moves_complete).then (by decide) <| Moves.refl _ _
      · rename_i z12
        exact Moves.refl _ _
    clear_value y8
    exact (moves_stopPlayer).then (by decide) <| h9
  · rename_i z13 z14 z15
    extract_lets +onlyGivenNames y16
    clear_value y16
    exact (moves_enqueue).then (by decide) <| Moves.refl _ _

theorem moves_hflagSet {x0 e} : Moves 33554460 e (hflagSet x0 e) := by
  unfold hflagSet
  extract_lets +onlyGivenNames y0 y1
  clear_value y0 y1
  exact (moves_wr).then (by decide) <| moves_sch (by decide) <| Moves.refl _ _

theorem moves_afterPlay {x0 x1 e} : Moves 28 e (afterPlay x0 x1 e).1 := by
  unfold afterPlay
  refine moves_ite1 ?_ ?_
  · refine moves_mk1 <| ?_
    refine moves_ite ?_ ?_
    · exact (moves_wr).then (by decide) <| Moves.refl _ _
    exact Moves.refl _ _
  refine moves_ite1 ?_ ?_
  · exact moves_mk1 <| Moves.refl _ _
  refine moves_ite1 ?_ ?_
  · exact moves_mk1 <| Moves.refl _ _
  refine moves_ite1 ?_ ?_
  · exact moves_mk1 <| Moves.refl _ _
  exact moves_mk1 <| Moves.refl _ _

theorem moves_resolveAfter {x0 e} : Moves 505349180 e (resolveAfter x0 e) := by
  unfold resolveAfter
  extract_lets +onlyGivenNames y0
  clear_value y0
  split
  · rename_i z1 z2 z3 z4
    exact (moves_wantPlay).then (by decide) <| moves_sch (by decide) <| Moves.refl _ _
  · rename_i z5 z6
    split
    · rename_i z7 z8 z9 z10 z11
      refine moves_pair z11 ?_ fun h12 => ?_
      · exact (moves_afterPlay).then (by decide) <| Moves.refl _ _
      exact (moves_wantPlay).then (by decide) <| h12
    · rename_i z13 z14 z15
      refine moves_pair z15 ?_ fun h16 => ?_
      · exact (moves_afterPlay).then (by decide) <| Moves.refl _ _
      exact moves_sch (by decide) <| h16

theorem moves_firstArmPoint {e} : Moves 505365565 e (firstArmPoint e) := by
  unfold firstArmPoint
  split
  · rename_i z0 z1 z2 z3 z4 z5 z6 z7
    extract_lets +onlyGivenNames y8
    refine moves_cut (y := y8) ?_ fun h9 => ?_
    · unfold y8
      exact (moves_waitD).then (by decide) <| Moves.refl _ _
    clear_value y8
    extract_lets +onlyGivenNames y10
    clear_value y10
    extract_lets +onlyGivenNames y11
    refine moves_cut (y := y11) ?_ fun h12 => ?_
    · unfold y11
      exact moves_sch (by decide) <| h9
    clear_value y11
    exact (moves_wantPlay).then (by decide) <| h12
  · rename_i z13 z14 z15
    exact Moves.refl _ _

theorem moves_armPointNow {e} : Moves 505365565 e (armPointNow e) := by
  unfold armPointNow
  refine moves_ite ?_ ?_
  · exact (moves_firstArmPoint).then (by decide) <| Moves.refl _ _
  refine moves_ite ?_ ?_
  · exact Moves.refl _ _
  split
  · rename_i z0 z1
    exact Moves.refl _ _
  · rename_i z2 z3 z4
    refine moves_ite ?_ ?_
    · exact Moves.refl _ _
    extract_lets +onlyGivenNames y5
    clear_value y5
    extract_lets +onlyGivenNames y6
    refine moves_cut (y := y6) ?_ fun h7 => ?_
    · unfold y6
      exact (moves_passQuiet).then (by decide) <| Moves.refl _ _
    clear_value y6
    exact (moves_resolveAfter).then (by decide) <| (moves_waitD).then (by decide) <| h7

theorem acts_execArmPoint {x0} : Acts 505365565 (execArmPoint x0) x0 := by
  unfold execArmPoint
  refine Acts.mk fun e => ?_
  exact (moves_armPointNow).then (by decide) <| Moves.refl _ _

theorem moves_resumePlay {e} : Moves 33554460 e (resumePlay e) := by
  unfold resumePlay
  extract_lets +onlyGivenNames y0
  clear_value y0
  exact (moves_setLive).then (by decide) <| moves_sch (by decide) <| Moves.refl _ _

theorem moves_stretchFrom {x0 x1 e} : Moves 302777404 e (stretchFrom x0 x1 e) := by
  unfold stretchFrom
  extract_lets +onlyGivenNames y0
  clear_value y0
  extract_lets +onlyGivenNames y1
  refine moves_cut (y := y1) ?_ fun h2 => ?_
  · unfold y1
    exact (moves_satC).then (by decide) <| (moves_resumePlay).then (by decide) <| Moves.refl _ _
  clear_value y1
  extract_lets +onlyGivenNames y3
  clear_value y3
  extract_lets +onlyGivenNames y4
  refine moves_cut (y := y4) ?_ fun h5 => ?_
  · unfold y4
    exact moves_sch (by decide) <| h2
  clear_value y4
  exact (moves_enqueue).then (by decide) <| h5

theorem moves_skipFrom {x0 x1 x2 x3 e} : Moves 505349180 e (skipFrom x0 x1 x2 x3 e) := by
  induction x1 generalizing x0 x2 x3 e
  · rw [skipFrom]
    exact Moves.refl _ _
  · rename_i m0 ih
    rw [skipFrom]
    split
    · rename_i z2 z3
      exact (moves_targetGone).then (by decide) <| (moves_resumePlay).then (by decide) <| Moves.refl _ _
    · rename_i z4 z5
      exact moves_sch (by decide) <| Moves.refl _ _
    · rename_i z6 z7
      refine (moves_stopPlayer).then (by decide) <| ?_
      split
      · rename_i z8 z9 z10
        exact (moves_complete).then (by decide) <| (moves_resumePlay).then (by decide) <| Moves.refl _ _
      · rename_i z11 z12
        exact (moves_resumePlay).then (by decide) <| Moves.refl _ _
    · rename_i z13 z14 z15
      extract_lets +onlyGivenNames y16 y17
      clear_value y16 y17
      refine moves_ite ?_ ?_
      · extract_lets +onlyGivenNames y18
        refine moves_cut (y := y18) ?_ fun h19 => ?_
        · unfold y18
          exact (moves_inc).then (by decide) <| Moves.refl _ _
        clear_value y18
        split
        · rename_i z20 z21 z22
          refine moves_pair z22 ?_ fun h23 => ?_
          · exact (moves_afterPlay).then (by decide) <| h19
          exact (moves_stopNow).then (by decide) <| h23
        · rename_i z24 z25 z26 z27 z28
          refine moves_pair z28 ?_ fun h29 => ?_
          · exact (moves_afterPlay).then (by decide) <| h19
          exact ih.then (Nat.or_self _) <| h29
      exact (moves_enqueue).then (by decide) <| (moves_resumePlay).then (by decide) <| Moves.refl _ _

theorem moves_arrivalNow {e} : Moves 505349180 e (arrivalNow e) := by
  unfold arrivalNow
  split
  · rename_i z0 z1
    exact Moves.refl _ _
  · rename_i z2 z3 z4
    refine moves_ite ?_ ?_
    · exact Moves.refl _ _
    split
    · rename_i z5 z6
      exact Moves.refl _ _
    · rename_i z7 z8
      exact (moves_targetGone).then (by decide) <| (moves_resumePlay).then (by decide) <| Moves.refl _ _
    · rename_i z9 z10
      refine (moves_stopPlayer).then (by decide) <| ?_
      split
      · rename_i z11 z12 z13
        exact (moves_complete).then (by decide) <| (moves_resumePlay).then (by decide) <| Moves.refl _ _
      · rename_i z14 z15
        exact (moves_resumePlay).then (by decide) <| Moves.refl _ _
    · rename_i z16 z17 z18
      refine moves_ite ?_ ?_
      · exact (moves_stretchFrom).then (by decide) <| Moves.refl _ _
      exact (moves_skipFrom).then (by decide) <| Moves.refl _ _

theorem acts_execSegmentArrival {x0} : Acts 505349180 (execSegmentArrival x0) x0 := by
  unfold execSegmentArrival
  refine Acts.mk fun e => ?_
  exact (moves_arrivalNow).then (by decide) <| Moves.refl _ _

theorem moves_flumeBlock {x0 x1 x2 e} : Moves 33685532 e (flumeBlock x0 x1 x2 e) := by
  unfold flumeBlock
  extract_lets +onlyGivenNames y0
  refine moves_cut (y := y0) ?_ fun h1 => ?_
  · unfold y0
    exact (moves_makeRoom).then (by decide) <| Moves.refl _ _
  clear_value y0
  extract_lets +onlyGivenNames y2 y3
  clear_value y2 y3
  extract_lets +onlyGivenNames y4
  refine moves_cut (y := y4) ?_ fun h5 => ?_
  · unfold y4
    exact (moves_wr).then (by decide) <| moves_sch (by decide) <| h1
  clear_value y4
  exact (moves_flumeFetch).then (by decide) <| h5

theorem moves_flumePi {x0 e} : Moves 268829756 e (flumePi x0 e) := by
  unfold flumePi
  extract_lets +onlyGivenNames y0 y1 y2
  clear_value y0 y1 y2
  refine moves_ite ?_ ?_
  · exact (moves_note).then (by decide) <| Moves.refl _ _
  exact (moves_flumeFetch).then (by decide) <| (moves_wr).then (by decide) <| Moves.refl _ _

theorem moves_schLoadBody {x0 x1 e} : Moves 470221884 e (schLoadBody x0 x1 e) := by
  unfold schLoadBody
  refine moves_ite ?_ ?_
  · exact (moves_complete).then (by decide) <| Moves.refl _ _
  refine moves_ite ?_ ?_
  · exact (moves_complete).then (by decide) <| Moves.refl _ _
  refine moves_ite ?_ ?_
  · exact (moves_complete).then (by decide) <| Moves.refl _ _
  exact (moves_openCmd).then (by decide) <| Moves.refl _ _

theorem moves_goSchLoad {x0 x1 e} : Moves 470221884 e (goSchLoad x0 x1 e) := by
  unfold goSchLoad
  refine (moves_runCmd (by decide) (fun e0 => ?_)).then (Nat.or_self _) ?_
  · exact (moves_schLoadBody).then (by decide) <| Moves.refl _ _
  exact Moves.refl _ _

theorem acts_execSchLoad {x0 x1 x2} : Acts 470221884 (execSchLoad x0 x1 x2) x2 := by
  unfold execSchLoad
  refine Acts.mk fun e => ?_
  refine (moves_arrive (by decide) (fun e0 => ?_)).then (Nat.or_self _) ?_
  · exact (moves_goSchLoad).then (by decide) <| Moves.refl _ _
  exact Moves.refl _ _

theorem moves_schLoaded {x0 x1 x2 e} : Moves 503776316 e (schLoaded x0 x1 x2 e) := by
  unfold schLoaded
  extract_lets +onlyGivenNames y0
  clear_value y0
  refine moves_ite ?_ ?_
  · exact (moves_complete).then (by decide) <| Moves.refl _ _
  refine moves_ite ?_ ?_
  · split
    · rename_i z1 z2 z3 z4
      exact (moves_complete).then (by decide) <| Moves.refl _ _
    · rename_i z5 z6
      extract_lets +onlyGivenNames y7
      clear_value y7
      refine (moves_complete).then (by decide) <| moves_each _ _ _ (fun x8 e9 => ?_) ?_
      · exact (moves_updSlot).then (by decide) <| Moves.refl _ _
      exact Moves.refl _ _
  split
  · rename_i z10 z11 z12
    exact (moves_complete).then (by decide) <| Moves.refl _ _
  · rename_i z13 z14
    extract_lets +onlyGivenNames y15
    clear_value y15
    exact (moves_complete).then (by decide) <| moves_sch (by decide) <| Moves.refl _ _

theorem moves_schStartBody {x0 x1 e} : Moves 503776316 e (schStartBody x0 x1 e) := by
  unfold schStartBody
  refine moves_ite ?_ ?_
  · exact (moves_complete).then (by decide) <| Moves.refl _ _
  refine moves_ite ?_ ?_
  · exact (moves_complete).then (by decide) <| Moves.refl _ _
  refine moves_ite ?_ ?_
  · exact (moves_complete).then (by decide) <| Moves.refl _ _
  refine moves_ite ?_ ?_
  · exact (moves_complete).then (by decide) <| Moves.refl _ _
  split
  · rename_i z0 z1 z2
    exact (moves_complete).then (by decide) <| Moves.refl _ _
  · rename_i z3 z4
    extract_lets +onlyGivenNames y5 y6
    clear_value y5 y6
    refine moves_ite ?_ ?_
    · exact (moves_complete).then (by decide) <| Moves.refl _ _
    extract_lets +onlyGivenNames y7
    clear_value y7
    exact moves_sch (by decide) <| Moves.refl _ _

theorem moves_goSchStart {x0 x1 e} : Moves 503776316 e (goSchStart x0 x1 e) := by
  unfold goSchStart
  refine (moves_runCmd (by decide) (fun e0 => ?_)).then (Nat.or_self _) ?_
  · exact (moves_schStartBody).then (by decide) <| Moves.refl _ _
  exact Moves.refl _ _

theorem acts_execSchStart {x0 x1 x2} : Acts 503776316 (execSchStart x0 x1 x2) x2 := by
  unfold execSchStart
  refine Acts.mk fun e => ?_
  refine (moves_arrive (by decide) (fun e0 => ?_)).then (Nat.or_self _) ?_
  · exact (moves_goSchStart).then (by decide) <| Moves.refl _ _
  exact Moves.refl _ _

theorem moves_fixStart {x0 e} : Moves 34078720 e (fixStart x0 e) := by
  unfold fixStart
  split
  · rename_i z0 z1 z2 z3 z4 z5 z6 z7
    refine moves_ite ?_ ?_
    · exact Moves.refl _ _
    extract_lets +onlyGivenNames y8 y9 y10
    clear_value y8 y9 y10
    extract_lets +onlyGivenNames y11
    refine moves_cut (y := y11) ?_ fun h12 => ?_
    · unfold y11
      exact moves_sch (by decide) <| Moves.refl _ _
    clear_value y11
    split
    · rename_i z13 z14 z15
      exact (moves_updJob).then (by decide) <| h12
    · rename_i z16 z17
      exact h12
  · rename_i z18 z19 z20
    exact Moves.refl _ _

theorem moves_startMissing {e} : Moves 505365565 e (startMissing e) := by
  unfold startMissing
  split
  · rename_i z0 z1 z2 z3
    extract_lets +onlyGivenNames y4
    refine moves_cut (y := y4) ?_ fun h5 => ?_
    · unfold y4
      exact (moves_waitD).then (by decide) <| Moves.refl _ _
    clear_value y4
    extract_lets +onlyGivenNames y6
    refine moves_cut (y := y6) ?_ fun h7 => ?_
    · unfold y6
      refine moves_each _ _ _ (fun x8 e9 => ?_) ?_
      · exact (moves_dropJob).then (by decide) <| Moves.refl _ _
      exact h5
    clear_value y6
    extract_lets +onlyGivenNames y10 y11
    clear_value y10 y11
    extract_lets +onlyGivenNames y12
    refine moves_cut (y := y12) ?_ fun h13 => ?_
    · unfold y12
      exact (moves_complete).then (by decide) <| moves_sch (by decide) <| h7
    clear_value y12
    split
    · rename_i z14 z15 z16
      exact (moves_complete).then (by decide) <| h13
    · rename_i z17
      exact h13
  · rename_i z18 z19
    exact Moves.refl _ _

theorem acts_execSyncMissing {x0 x1} : Acts 520060221 (execSyncMissing x0 x1) x1 := by
  unfold execSyncMissing
  refine Acts.mk fun e => ?_
  refine (moves_settled (by decide) (fun e0 => ?_)).then (Nat.or_self _) ?_
  · refine moves_ite ?_ ?_
    · exact (moves_startMissing).then (by decide) <| Moves.refl _ _
    exact (moves_syncMissingNow).then (by decide) <| Moves.refl _ _
  exact Moves.refl _ _

theorem moves_schStopBody {x0 x1 e} : Moves 505349180 e (schStopBody x0 x1 e) := by
  unfold schStopBody
  extract_lets +onlyGivenNames y0
  refine moves_cut (y := y0) ?_ fun h1 => ?_
  · unfold y0
    refine moves_ite ?_ ?_
    · exact Moves.refl _ _
    exact (moves_passDue).then (by decide) <| Moves.refl _ _
  clear_value y0
  refine moves_ite ?_ ?_
  · exact (moves_complete).then (by decide) <| h1
  refine moves_ite ?_ ?_
  · exact (moves_complete).then (by decide) <| h1
  refine moves_ite ?_ ?_
  · exact (moves_complete).then (by decide) <| h1
  refine moves_ite ?_ ?_
  · exact moves_sch (by decide) <| h1
  exact (moves_finishStop).then (by decide) <| (moves_stopNow).then (by decide) <| h1

theorem moves_goSchStop {x0 x1 e} : Moves 505349180 e (goSchStop x0 x1 e) := by
  unfold goSchStop
  refine (moves_runCmd (by decide) (fun e0 => ?_)).then (Nat.or_self _) ?_
  · exact (moves_schStopBody).then (by decide) <| Moves.refl _ _
  exact Moves.refl _ _

theorem acts_execSchStop {x0 x1 x2} : Acts 505349180 (execSchStop x0 x1 x2) x2 := by
  unfold execSchStop
  refine Acts.mk fun e => ?_
  refine (moves_arrive (by decide) (fun e0 => ?_)).then (Nat.or_self _) ?_
  · exact (moves_goSchStop).then (by decide) <| Moves.refl _ _
  exact Moves.refl _ _

theorem moves_schJumpBody {x0 x1 e} : Moves 503776316 e (schJumpBody x0 x1 e) := by
  unfold schJumpBody
  extract_lets +onlyGivenNames y0
  clear_value y0
  refine moves_ite ?_ ?_
  · exact (moves_complete).then (by decide) <| Moves.refl _ _
  refine moves_ite ?_ ?_
  · exact (moves_complete).then (by decide) <| Moves.refl _ _
  refine moves_ite ?_ ?_
  · exact (moves_complete).then (by decide) <| Moves.refl _ _
  extract_lets +onlyGivenNames y1 y2
  clear_value y1 y2
  extract_lets +onlyGivenNames y3
  refine moves_cut (y := y3) ?_ fun h4 => ?_
  · unfold y3
    exact moves_sch (by decide) <| Moves.refl _ _
  clear_value y3
  split
  · rename_i z5 z6 z7
    exact (moves_complete).then (by decide) <| h4
  · rename_i z8
    exact h4

theorem moves_goSchJump {x0 x1 e} : Moves 503776316 e (goSchJump x0 x1 e) := by
  unfold goSchJump
  refine (moves_runCmd (by decide) (fun e0 => ?_)).then (Nat.or_self _) ?_
  · exact (moves_schJumpBody).then (by decide) <| Moves.refl _ _
  exact Moves.refl _ _

theorem acts_execSchJump {x0 x1 x2} : Acts 503776316 (execSchJump x0 x1 x2) x2 := by
  unfold execSchJump
  refine Acts.mk fun e => ?_
  refine (moves_arrive (by decide) (fun e0 => ?_)).then (Nat.or_self _) ?_
  · exact (moves_goSchJump).then (by decide) <| Moves.refl _ _
  exact Moves.refl _ _

theorem moves_schStreamBody {x0 x1 e} : Moves 503776316 e (schStreamBody x0 x1 e) := by
  unfold schStreamBody
  refine moves_ite ?_ ?_
  · exact (moves_complete).then (by decide) <| Moves.refl _ _
  refine moves_ite ?_ ?_
  · exact (moves_complete).then (by decide) <| Moves.refl _ _
  extract_lets +onlyGivenNames y0
  clear_value y0
  extract_lets +onlyGivenNames y1
  refine moves_cut (y := y1) ?_ fun h2 => ?_
  · unfold y1
    exact moves_sch (by decide) <| Moves.refl _ _
  clear_value y1
  refine moves_ite ?_ ?_
  · exact (moves_flumeFetch).then (by decide) <| h2
  exact (moves_wr).then (by decide) <| (moves_wr).then (by decide) <| moves_sch (by decide) <| h2

theorem moves_goSchStream {x0 x1 e} : Moves 503776316 e (goSchStream x0 x1 e) := by
  unfold goSchStream
  refine (moves_runCmd (by decide) (fun e0 => ?_)).then (Nat.or_self _) ?_
  · exact (moves_schStreamBody).then (by decide) <| Moves.refl _ _
  exact Moves.refl _ _

theorem acts_execSchStream {x0 x1 x2} : Acts 503776316 (execSchStream x0 x1 x2) x2 := by
  unfold execSchStream
  refine Acts.mk fun e => ?_
  refine (moves_arrive (by decide) (fun e0 => ?_)).then (Nat.or_self _) ?_
  · exact (moves_goSchStream).then (by decide) <| Moves.refl _ _
  exact Moves.refl _ _

end Sys2Proof.Machine
end

