-- ==== Sys2Proof/Laws/MovesSnapshot.lean ====
section
/-! SUPPORT. What each operation of Machine/Snapshot.lean can do (`moves_f`). -/

namespace Sys2Proof.Machine

theorem moves_pulseNow {e} : Moves 82177 e (pulseNow e) := by
  unfold pulseNow
  split
  · rename_i z0 z1 z2
    exact (moves_pulse).then (by decide) <| (moves_waitD).then (by decide) <| Moves.refl _ _
  · rename_i z3 z4
    exact Moves.refl _ _

theorem acts_execSnapshotPulse {x0} : Acts 82177 (execSnapshotPulse x0) x0 := by
  unfold execSnapshotPulse
  refine Acts.mk fun e => ?_
  exact (moves_pulseNow).then (by decide) <| Moves.refl _ _

theorem moves_readableNow {e} : Moves 470238525 e (readableNow e) := by
  unfold readableNow
  split
  · rename_i z0 z1
    exact Moves.refl _ _
  · rename_i z2 z3 z4
    extract_lets +onlyGivenNames y5
    refine moves_cut (y := y5) ?_ fun h6 => ?_
    · unfold y5
      exact (moves_waitClk).then (by decide) <| Moves.refl _ _
    clear_value y5
    extract_lets +onlyGivenNames y7 y8
    clear_value y7 y8
    extract_lets +onlyGivenNames y9
    refine moves_cut (y := y9) ?_ fun h10 => ?_
    · unfold y9
      exact (moves_askAgain).then (by decide) <| moves_snap (by decide) <| h6
    clear_value y9
    refine moves_each _ _ _ (fun x11 e12 => ?_) ?_
    · split
      · rename_i z13 z14
        exact (moves_complete).then (by decide) <| Moves.refl _ _
      · rename_i z15
        exact Moves.refl _ _
    exact h10

theorem acts_execGenerationReadable {x0} : Acts 470238525 (execGenerationReadable x0) x0 := by
  unfold execGenerationReadable
  refine Acts.mk fun e => ?_
  exact (moves_readableNow).then (by decide) <| Moves.refl _ _

theorem moves_snapshotBody {x0 x1 e} : Moves 470222140 e (snapshotBody x0 x1 e) := by
  unfold snapshotBody
  refine moves_ite ?_ ?_
  · exact (moves_complete).then (by decide) <| Moves.refl _ _
  refine moves_ite ?_ ?_
  · exact (moves_askNow).then (by decide) <| Moves.refl _ _
  refine moves_ite ?_ ?_
  · exact (moves_complete).then (by decide) <| Moves.refl _ _
  exact (moves_askAt).then (by decide) <| Moves.refl _ _

theorem moves_goSnapshot {x0 x1 e} : Moves 470222140 e (goSnapshot x0 x1 e) := by
  unfold goSnapshot
  refine (moves_runCmd (by decide) (fun e0 => ?_)).then (Nat.or_self _) ?_
  · exact (moves_snapshotBody).then (by decide) <| Moves.refl _ _
  exact Moves.refl _ _

theorem acts_execSnapshot {x0 x1 x2} : Acts 470222140 (execSnapshot x0 x1 x2) x2 := by
  unfold execSnapshot
  refine Acts.mk fun e => ?_
  refine (moves_arrive (by decide) (fun e0 => ?_)).then (Nat.or_self _) ?_
  · exact (moves_goSnapshot).then (by decide) <| Moves.refl _ _
  exact Moves.refl _ _

theorem moves_snapGoApply {x0 e} : Moves 256 e (snapGoApply x0 e) := by
  unfold snapGoApply
  refine moves_ite ?_ ?_
  · exact (moves_askNow).then (by decide) <| Moves.refl _ _
  exact Moves.refl _ _

end Sys2Proof.Machine
end

