-- ==== Sys2Proof/Laws/MovesStreams.lean ====
section
/-! SUPPORT. What each operation of Machine/Streams.lean can do (`moves_f`). -/

namespace Sys2Proof.Machine

theorem moves_endStream {x0 x1 e} : Moves 520060220 e (endStream x0 x1 e) := by
  unfold endStream
  split
  · rename_i z0 z1
    exact Moves.refl _ _
  · rename_i z2 z3 z4
    extract_lets +onlyGivenNames y5
    refine moves_cut (y := y5) ?_ fun h6 => ?_
    · unfold y5
      exact (moves_dropStream).then (by decide) <| Moves.refl _ _
    clear_value y5
    split
    · rename_i z7 z8 z9
      exact (moves_disableHopper).then (by decide) <| h6
    · rename_i z10 z11 z12
      exact (moves_endCq).then (by decide) <| h6
    · rename_i z13 z14 z15 z16 z17 z18 z19
      refine (moves_settle).then (by decide) <| ?_
      split
      · rename_i z20
        exact (moves_complete).then (by decide) <| h6
      · rename_i z21 z22
        refine moves_ite ?_ ?_
        · exact (moves_cqDrop).then (by decide) <| h6
        exact (moves_deliver).then (by decide) <| h6
    · rename_i z23 z24 z25 z26
      exact (moves_settle).then (by decide) <| (moves_complete).then (by decide) <| h6
    · rename_i z27 z28 z29 z30
      split
      · rename_i z31 z32 z33 z34 z35
        exact (moves_complete).then (by decide) <| moves_sch (by decide) <| h6
      · rename_i z36 z37
        exact h6
    · rename_i z38 z39 z40 z41
      exact (moves_aimDone).then (by decide) <| h6
    · rename_i z42 z43 z44 z45
      exact (moves_complete).then (by decide) <| h6
    · rename_i z46 z47 z48 z49 z50
      exact (moves_complete).then (by decide) <| (moves_releasePin).then (by decide) <| h6
    · rename_i z51 z52 z53 z54 z55
      exact (moves_complete).then (by decide) <| h6
    · rename_i z56 z57 z58 z59
      exact (moves_complete).then (by decide) <| h6
    · rename_i z60 z61 z62 z63
      exact (moves_complete).then (by decide) <| h6
    · rename_i z64 z65 z66 z67
      extract_lets +onlyGivenNames y68
      refine moves_cut (y := y68) ?_ fun h69 => ?_
      · unfold y68
        exact (moves_unstage).then (by decide) <| h6
      clear_value y68
      exact (moves_complete).then (by decide) <| moves_sys (by decide) rfl <| h69
    · rename_i z70 z71 z72
      exact (moves_rxStart).then (by decide) <| (moves_rxNoBuf).then (by decide) <| (moves_rxPop).then (by decide) <| (moves_setFilled).then (by decide) <| h6

theorem moves_haltOrEnd {x0 x1 x2 e} : Moves 520060220 e (haltOrEnd x0 x1 x2 e) := by
  unfold haltOrEnd
  split
  · rename_i z0 z1 z2
    refine moves_some z2 ?_ fun h3 => ?_
    · exact (moves_haltStream).then (by decide) <| Moves.refl _ _
    exact h3
  · rename_i z4 z5
    exact (moves_endStream).then (by decide) <| (moves_note).then (by decide) <| Moves.refl _ _

theorem moves_clearSlot {x0 e} : Moves 131072 e (clearSlot x0 e) := by
  unfold clearSlot
  exact moves_dma (by decide) <| Moves.refl _ _

theorem moves_resumeStream {x0 e} : Moves 403113020 e (resumeStream x0 e) := by
  unfold resumeStream
  split
  · rename_i z0 z1
    exact Moves.refl _ _
  · rename_i z2 z3 z4
    split
    · rename_i z5 z6 z7
      exact (moves_flushHeld).then (by decide) <| (moves_dropStream).then (by decide) <| Moves.refl _ _
    · rename_i z8 z9 z10
      exact (moves_dropStream).then (by decide) <| Moves.refl _ _
    · rename_i z11 z12 z13
      exact (moves_updStream).then (by decide) <| Moves.refl _ _

theorem moves_dmaResumeBody {x0 x1 e} : Moves 470221884 e (dmaResumeBody x0 x1 e) := by
  unfold dmaResumeBody
  refine moves_ite ?_ ?_
  · exact (moves_complete).then (by decide) <| Moves.refl _ _
  refine moves_ite ?_ ?_
  · exact (moves_complete).then (by decide) <| Moves.refl _ _
  exact (moves_complete).then (by decide) <| (moves_resumeStream).then (by decide) <| (moves_clearSlot).then (by decide) <| Moves.refl _ _

theorem moves_goDmaResume {x0 x1 e} : Moves 470221884 e (goDmaResume x0 x1 e) := by
  unfold goDmaResume
  refine (moves_runCmd (by decide) (fun e0 => ?_)).then (Nat.or_self _) ?_
  · exact (moves_dmaResumeBody).then (by decide) <| Moves.refl _ _
  exact Moves.refl _ _

theorem acts_execDmaResume {x0 x1 x2} : Acts 470221884 (execDmaResume x0 x1 x2) x2 := by
  unfold execDmaResume
  refine Acts.mk fun e => ?_
  refine (moves_arriveT (by decide) (fun e0 => ?_)).then (Nat.or_self _) ?_
  · exact (moves_goDmaResume).then (by decide) <| Moves.refl _ _
  exact Moves.refl _ _

theorem moves_dmaAbortBody {x0 x1 e} : Moves 520060220 e (dmaAbortBody x0 x1 e) := by
  unfold dmaAbortBody
  refine moves_ite ?_ ?_
  · exact (moves_complete).then (by decide) <| Moves.refl _ _
  refine moves_ite ?_ ?_
  · exact (moves_complete).then (by decide) <| Moves.refl _ _
  extract_lets +onlyGivenNames y0
  refine moves_cut (y := y0) ?_ fun h1 => ?_
  · unfold y0
    exact (moves_inc).then (by decide) <| (moves_clearSlot).then (by decide) <| Moves.refl _ _
  clear_value y0
  exact (moves_complete).then (by decide) <| (moves_endStream).then (by decide) <| h1

theorem moves_goDmaAbort {x0 x1 e} : Moves 520060220 e (goDmaAbort x0 x1 e) := by
  unfold goDmaAbort
  refine (moves_runCmd (by decide) (fun e0 => ?_)).then (Nat.or_self _) ?_
  · exact (moves_dmaAbortBody).then (by decide) <| Moves.refl _ _
  exact Moves.refl _ _

theorem acts_execDmaAbort {x0 x1 x2} : Acts 520060220 (execDmaAbort x0 x1 x2) x2 := by
  unfold execDmaAbort
  refine Acts.mk fun e => ?_
  refine (moves_arriveT (by decide) (fun e0 => ?_)).then (Nat.or_self _) ?_
  · exact (moves_goDmaAbort).then (by decide) <| Moves.refl _ _
  exact Moves.refl _ _

theorem moves_haltTmoNow {x0 e} : Moves 520060221 e (haltTmoNow x0 e) := by
  unfold haltTmoNow
  extract_lets +onlyGivenNames y0
  clear_value y0
  refine moves_ite ?_ ?_
  · exact Moves.refl _ _
  extract_lets +onlyGivenNames y1
  refine moves_cut (y := y1) ?_ fun h2 => ?_
  · unfold y1
    exact (moves_waitClk).then (by decide) <| Moves.refl _ _
  clear_value y1
  exact (moves_endStream).then (by decide) <| (moves_note).then (by decide) <| (moves_clearSlot).then (by decide) <| h2

theorem acts_execHaltTmo {x0 x1} : Acts 520060221 (execHaltTmo x0 x1) x1 := by
  unfold execHaltTmo
  refine Acts.mk fun e => ?_
  exact (moves_haltTmoNow).then (by decide) <| Moves.refl _ _

end Sys2Proof.Machine
end

