-- ==== Sys2Proof/Laws/MovesTables.lean ====
section
/-! SUPPORT. What each operation of Machine/Tables.lean can do (`moves_f`). -/

namespace Sys2Proof.Machine

theorem moves_unpin {e} : Moves 470762557 e (unpin e) := by
  unfold unpin
  split
  · rename_i z0 z1
    exact Moves.refl _ _
  · rename_i z2 z3 z4 z5
    extract_lets +onlyGivenNames y6
    refine moves_cut (y := y6) ?_ fun h7 => ?_
    · unfold y6
      exact (moves_waitClk).then (by decide) <| Moves.refl _ _
    clear_value y6
    extract_lets +onlyGivenNames y8
    clear_value y8
    extract_lets +onlyGivenNames y9
    refine moves_cut (y := y9) ?_ fun h10 => ?_
    · unfold y9
      exact moves_xact (by decide) <| h7
    clear_value y9
    refine moves_ite ?_ ?_
    · exact (moves_publish).then (by decide) <| h10
    exact h10

theorem moves_openRead {x0 x1 x2 x3 e} : Moves 131072 e (openRead x0 x1 x2 x3 e) := by
  unfold openRead
  extract_lets +onlyGivenNames y0
  clear_value y0
  exact (moves_updStream).then (by decide) <| (moves_openCmd).then (by decide) <| Moves.refl _ _

theorem moves_tableReadBody {x0 x1 e} : Moves 470762813 e (tableReadBody x0 x1 e) := by
  unfold tableReadBody
  refine moves_ite ?_ ?_
  · exact (moves_complete).then (by decide) <| Moves.refl _ _
  refine moves_ite ?_ ?_
  · exact (moves_complete).then (by decide) <| Moves.refl _ _
  extract_lets +onlyGivenNames y0
  clear_value y0
  refine moves_ite ?_ ?_
  · extract_lets +onlyGivenNames y1
    refine moves_cut (y := y1) ?_ fun h2 => ?_
    · unfold y1
      exact (moves_unpin).then (by decide) <| Moves.refl _ _
    clear_value y1
    split
    · rename_i z3 z4 z5 z6
      exact (moves_complete).then (by decide) <| h2
    · rename_i z7 z8 z9
      extract_lets +onlyGivenNames y10
      clear_value y10
      exact (moves_openRead).then (by decide) <| moves_xact (by decide) <| h2
  refine moves_ite ?_ ?_
  · split
    · rename_i z11 z12 z13
      exact (moves_complete).then (by decide) <| Moves.refl _ _
    · rename_i z14 z15 z16 z17 z18
      extract_lets +onlyGivenNames y19
      clear_value y19
      exact (moves_openRead).then (by decide) <| moves_snap (by decide) <| Moves.refl _ _
  exact (moves_openRead).then (by decide) <| Moves.refl _ _

theorem moves_goTableRead {x0 x1 e} : Moves 470762813 e (goTableRead x0 x1 e) := by
  unfold goTableRead
  refine (moves_runCmd (by decide) (fun e0 => ?_)).then (Nat.or_self _) ?_
  · exact (moves_tableReadBody).then (by decide) <| Moves.refl _ _
  exact Moves.refl _ _

theorem acts_execTableRead {x0 x1 x2} : Acts 470762813 (execTableRead x0 x1 x2) x2 := by
  unfold execTableRead
  refine Acts.mk fun e => ?_
  refine (moves_arriveT (by decide) (fun e0 => ?_)).then (Nat.or_self _) ?_
  · exact (moves_goTableRead).then (by decide) <| Moves.refl _ _
  exact Moves.refl _ _

theorem moves_tableReadChunk {x0 x1 x2 x3 x4 e} : Moves 470746172 e (tableReadChunk x0 x1 x2 x3 x4 e) := by
  unfold tableReadChunk
  extract_lets +onlyGivenNames y0 y1 y2 y3
  clear_value y0 y1 y2 y3
  extract_lets +onlyGivenNames y4
  refine moves_cut (y := y4) ?_ fun h5 => ?_
  · unfold y4
    exact (moves_writeRun).then (by decide) <| Moves.refl _ _
  clear_value y4
  split
  · rename_i z6 z7 z8
    exact (moves_complete).then (by decide) <| (moves_dropStream).then (by decide) <| h5
  · rename_i z9 z10
    refine moves_ite ?_ ?_
    · exact (moves_complete).then (by decide) <| (moves_releasePin).then (by decide) <| (moves_dropStream).then (by decide) <| h5
    exact (moves_updStream).then (by decide) <| h5

theorem moves_queueWrite {x0 x1 e} : Moves 268895292 e (queueWrite x0 x1 e).1 := by
  unfold queueWrite
  extract_lets +onlyGivenNames y0 y1 y2 y3 y4 y5 y6
  clear_value y0 y1 y2 y3 y4 y5 y6
  refine moves_ite1 ?_ ?_
  · exact moves_mk1 <| Moves.refl _ _
  refine moves_ite1 ?_ ?_
  · exact moves_mk1 <| Moves.refl _ _
  extract_lets +onlyGivenNames y7
  refine moves_cut (y := y7) ?_ fun h8 => ?_
  · unfold y7
    refine moves_ite ?_ ?_
    · exact (moves_orphanHopper).then (by decide) <| Moves.refl _ _
    exact Moves.refl _ _
  clear_value y7
  extract_lets +onlyGivenNames y9
  refine moves_cut (y := y9) ?_ fun h10 => ?_
  · unfold y9
    exact (moves_updHop).then (by decide) <| h8
  clear_value y9
  extract_lets +onlyGivenNames y11
  refine moves_cut (y := y11) ?_ fun h12 => ?_
  · unfold y11
    refine moves_ite ?_ ?_
    · exact (moves_updHop).then (by decide) <| h10
    exact h10
  clear_value y11
  exact moves_mk1 <| h12

theorem moves_rosterPut {x0 x1 e} : Moves 67108864 e (rosterPut x0 x1 e) := by
  unfold rosterPut
  extract_lets +onlyGivenNames y0 y1 y2 y3
  clear_value y0 y1 y2 y3
  exact moves_lrg (by decide) <| Moves.refl _ _

theorem moves_pagePut {x0 x1 e} : Moves 131100 e (pagePut x0 x1 e) := by
  unfold pagePut
  extract_lets +onlyGivenNames y0 y1
  clear_value y0 y1
  extract_lets +onlyGivenNames y2
  refine moves_cut (y := y2) ?_ fun h3 => ?_
  · unfold y2
    exact moves_dma (by decide) <| Moves.refl _ _
  clear_value y2
  refine moves_ite ?_ ?_
  · exact (moves_tcFlush).then (by decide) <| h3
  exact h3

theorem moves_calClear {x0 x1 e} : Moves 8388608 e (calClear x0 x1 e) := by
  unfold calClear
  extract_lets +onlyGivenNames y0 y1 y2
  clear_value y0 y1 y2
  exact moves_sns (by decide) <| Moves.refl _ _

theorem moves_tblWrite {x0 x1 x2 x3 e} : Moves 362218556 e (tblWrite x0 x1 x2 x3 e).1 := by
  unfold tblWrite
  extract_lets +onlyGivenNames y0
  clear_value y0
  extract_lets +onlyGivenNames y1
  have hy1 : ∀ y1_0, Moves 362218556 e (y1 y1_0).1 := by
    intro y1_0
    unfold y1
    exact moves_mk1 <| Moves.refl _ _
  clear_value y1
  split
  · rename_i z2
    refine moves_ite1 ?_ ?_
    · exact moves_mk1 <| Moves.refl _ _
    refine moves_ite1 ?_ ?_
    · exact moves_mk1 <| Moves.refl _ _
    refine moves_ite1 ?_ ?_
    · exact moves_mk1 <| Moves.refl _ _
    exact moves_mk1 <| (moves_updAper).then (by decide) <| Moves.refl _ _
  · rename_i z3
    refine moves_ite1 ?_ ?_
    · exact moves_mk1 <| Moves.refl _ _
    refine moves_ite1 ?_ ?_
    · exact moves_mk1 <| Moves.refl _ _
    refine moves_ite1 ?_ ?_
    · exact moves_mk1 <| Moves.refl _ _
    exact (moves_queueWrite).then (by decide) <| Moves.refl _ _
  · rename_i z4
    refine moves_ite1 ?_ ?_
    · exact moves_mk1 <| Moves.refl _ _
    refine moves_ite1 ?_ ?_
    · exact moves_mk1 <| Moves.refl _ _
    exact moves_mk1 <| (moves_rosterPut).then (by decide) <| Moves.refl _ _
  · rename_i z5
    refine moves_ite1 ?_ ?_
    · exact moves_mk1 <| Moves.refl _ _
    refine moves_ite1 ?_ ?_
    · exact moves_mk1 <| Moves.refl _ _
    exact moves_mk1 <| (moves_pagePut).then (by decide) <| Moves.refl _ _
  · rename_i z6
    refine moves_ite1 ?_ ?_
    · exact moves_mk1 <| Moves.refl _ _
    refine moves_ite1 ?_ ?_
    · exact moves_mk1 <| Moves.refl _ _
    refine moves_ite1 ?_ ?_
    · exact moves_mk1 <| Moves.refl _ _
    refine moves_ite1 ?_ ?_
    · exact moves_mk1 <| Moves.refl _ _
    exact moves_mk1 <| (moves_calClear).then (by decide) <| Moves.refl _ _
  · rename_i z7
    refine moves_ite1 ?_ ?_
    · exact moves_mk1 <| Moves.refl _ _
    refine moves_ite1 ?_ ?_
    · exact moves_mk1 <| Moves.refl _ _
    exact moves_mk1 <| (moves_cfgPut).then (by decide) <| Moves.refl _ _
  · rename_i z8
    exact (hy1 _).then (Nat.or_self _) <| Moves.refl _ _
  · rename_i z9
    exact (hy1 _).then (Nat.or_self _) <| Moves.refl _ _
  · rename_i z10
    exact (hy1 _).then (Nat.or_self _) <| Moves.refl _ _
  · rename_i z11
    exact (hy1 _).then (Nat.or_self _) <| Moves.refl _ _
  · rename_i z12 z13 z14 z15 z16 z17 z18 z19 z20 z21 z22
    exact (hy1 _).then (Nat.or_self _) <| Moves.refl _ _

theorem moves_applyWrites {x0 x1 x2 x3 x4 e} : Moves 362218556 e (applyWrites x0 x1 x2 x3 x4 e).1 := by
  induction x2 generalizing x0 x1 x3 x4 e
  · rw [applyWrites]
    exact moves_mk1 <| Moves.refl _ _
  · rename_i m0 ih
    rw [applyWrites]
    refine moves_ite1 ?_ ?_
    · exact moves_mk1 <| Moves.refl _ _
    split
    · rename_i z2 z3 z4 z5
      refine moves_pair z5 ?_ fun h6 => ?_
      · exact (moves_tblWrite).then (by decide) <| Moves.refl _ _
      exact moves_mk1 <| h6
    · rename_i z7 z8 z9
      refine moves_pair z9 ?_ fun h10 => ?_
      · exact (moves_tblWrite).then (by decide) <| Moves.refl _ _
      exact ih.then (Nat.or_self _) <| h10

theorem moves_tableWriteBody {x0 x1 e} : Moves 470221884 e (tableWriteBody x0 x1 e) := by
  unfold tableWriteBody
  refine moves_ite ?_ ?_
  · exact (moves_complete).then (by decide) <| Moves.refl _ _
  refine moves_ite ?_ ?_
  · exact (moves_complete).then (by decide) <| Moves.refl _ _
  exact (moves_openCmd).then (by decide) <| Moves.refl _ _

theorem moves_goTableWrite {x0 x1 e} : Moves 470221884 e (goTableWrite x0 x1 e) := by
  unfold goTableWrite
  refine (moves_runCmd (by decide) (fun e0 => ?_)).then (Nat.or_self _) ?_
  · exact (moves_tableWriteBody).then (by decide) <| Moves.refl _ _
  exact Moves.refl _ _

theorem acts_execTableWrite {x0 x1 x2} : Acts 470221884 (execTableWrite x0 x1 x2) x2 := by
  unfold execTableWrite
  refine Acts.mk fun e => ?_
  refine (moves_arriveT (by decide) (fun e0 => ?_)).then (Nat.or_self _) ?_
  · exact (moves_goTableWrite).then (by decide) <| Moves.refl _ _
  exact Moves.refl _ _

theorem moves_tableWriteChunk {x0 x1 x2 x3 x4 e} : Moves 496436284 e (tableWriteChunk x0 x1 x2 x3 x4 e) := by
  unfold tableWriteChunk
  extract_lets +onlyGivenNames y0
  refine moves_cut (y := y0.1) ?_ fun h1 => ?_
  · unfold y0
    exact (moves_applyWrites).then (by decide) <| Moves.refl _ _
  clear_value y0
  split
  · rename_i z2 z3 z4
    exact (moves_complete).then (by decide) <| (moves_dropStream).then (by decide) <| h1
  · rename_i z5 z6
    refine moves_ite ?_ ?_
    · exact (moves_complete).then (by decide) <| (moves_dropStream).then (by decide) <| h1
    exact (moves_updStream).then (by decide) <| h1

end Sys2Proof.Machine
end

