-- ==== Sys2Proof/Laws/MovesPacket.lean ====
section
/-! SUPPORT. What each operation of Machine/Packet.lean can do (`moves_f`). -/

namespace Sys2Proof.Machine

theorem moves_runInstr {x0 x1 e} : Moves 536837437 e (runInstr x0 x1 e) := by
  unfold runInstr
  split
  · rename_i z0 z1
    refine moves_ite ?_ ?_
    · exact (moves_goNop).then (by decide) <| Moves.refl _ _
    refine (moves_runCmd (by decide) (fun e2 => ?_)).then (Nat.or_self _) ?_
    · exact (moves_complete).then (by decide) <| Moves.refl _ _
    exact Moves.refl _ _
  · rename_i z3 z4 z5
    exact (moves_goGetInfo).then (by decide) <| Moves.refl _ _
  · rename_i z6 z7 z8
    exact (moves_goSetMode).then (by decide) <| Moves.refl _ _
  · rename_i z9 z10 z11
    exact (moves_goSnapshot).then (by decide) <| Moves.refl _ _
  · rename_i z12 z13 z14
    exact (moves_goFwStage).then (by decide) <| Moves.refl _ _
  · rename_i z15 z16 z17
    exact (moves_goFwActivate).then (by decide) <| Moves.refl _ _
  · rename_i z18 z19 z20
    exact (moves_goTableRead).then (by decide) <| Moves.refl _ _
  · rename_i z21 z22 z23
    exact (moves_goTableWrite).then (by decide) <| Moves.refl _ _
  · rename_i z24 z25 z26
    exact (moves_goPairTxn).then (by decide) <| Moves.refl _ _
  · rename_i z27 z28 z29
    exact (moves_goPairCommit).then (by decide) <| Moves.refl _ _
  · rename_i z30 z31 z32
    exact (moves_goPairAbort).then (by decide) <| Moves.refl _ _
  · rename_i z33 z34 z35
    exact (moves_goPairQuery).then (by decide) <| Moves.refl _ _
  · rename_i z36 z37 z38
    exact (moves_goPortPark).then (by decide) <| Moves.refl _ _
  · rename_i z39 z40 z41
    exact (moves_goSchLoad).then (by decide) <| Moves.refl _ _
  · rename_i z42 z43 z44
    exact (moves_goSchStart).then (by decide) <| Moves.refl _ _
  · rename_i z45 z46 z47
    exact (moves_goSchStop).then (by decide) <| Moves.refl _ _
  · rename_i z48 z49 z50
    exact (moves_goSchJump).then (by decide) <| Moves.refl _ _
  · rename_i z51 z52 z53
    exact (moves_goSchStream).then (by decide) <| Moves.refl _ _
  · rename_i z54 z55 z56
    exact (moves_goLoopCfg).then (by decide) <| Moves.refl _ _
  · rename_i z57 z58 z59
    exact (moves_goLoopInject).then (by decide) <| Moves.refl _ _
  · rename_i z60 z61 z62
    exact (moves_goCaptureArm).then (by decide) <| Moves.refl _ _
  · rename_i z63 z64 z65
    exact (moves_goCaptureRead).then (by decide) <| Moves.refl _ _
  · rename_i z66 z67 z68
    exact (moves_goCalSensor).then (by decide) <| Moves.refl _ _
  · rename_i z69 z70 z71
    exact (moves_goCalSurvey).then (by decide) <| Moves.refl _ _
  · rename_i z72 z73 z74
    exact (moves_goCalCommit).then (by decide) <| Moves.refl _ _
  · rename_i z75 z76 z77
    exact (moves_goAimUpload).then (by decide) <| Moves.refl _ _
  · rename_i z78 z79 z80
    exact (moves_goDomainCfg).then (by decide) <| Moves.refl _ _
  · rename_i z81 z82 z83
    exact (moves_goOwnerSet).then (by decide) <| Moves.refl _ _
  · rename_i z84 z85 z86
    exact (moves_goPolicerSet).then (by decide) <| Moves.refl _ _
  · rename_i z87 z88 z89
    exact (moves_goDrillSwap).then (by decide) <| Moves.refl _ _
  · rename_i z90 z91 z92
    exact (moves_goBistRun).then (by decide) <| Moves.refl _ _
  · rename_i z93 z94 z95
    exact (moves_goFaultClear).then (by decide) <| Moves.refl _ _
  · rename_i z96 z97 z98
    exact (moves_goDmaResume).then (by decide) <| Moves.refl _ _
  · rename_i z99 z100 z101
    exact (moves_goDmaAbort).then (by decide) <| Moves.refl _ _
  · rename_i z102 z103 z104 z105 z106 z107 z108 z109 z110 z111 z112 z113 z114 z115 z116 z117 z118 z119 z120 z121 z122 z123 z124 z125 z126 z127 z128 z129 z130 z131 z132 z133 z134 z135 z136
    exact Moves.refl _ _

end Sys2Proof.Machine
end

