-- ==== Sys2Proof/Laws/MovesIntake.lean ====
section
/-! SUPPORT. What each operation of Machine/Intake.lean can do (`moves_f`). -/

namespace Sys2Proof.Machine

theorem moves_fullFlags {e} : Moves 268698684 e (fullFlags e) := by
  unfold fullFlags
  extract_lets +onlyGivenNames y0 y1
  clear_value y0 y1
  extract_lets +onlyGivenNames y2
  refine moves_cut (y := y2) ?_ fun h3 => ?_
  · unfold y2
    refine moves_ite ?_ ?_
    · exact (moves_note).then (by decide) <| Moves.refl _ _
    exact Moves.refl _ _
  clear_value y2
  extract_lets +onlyGivenNames y4
  refine moves_cut (y := y4) ?_ fun h5 => ?_
  · unfold y4
    refine moves_ite ?_ ?_
    · exact (moves_note).then (by decide) <| h3
    exact h3
  clear_value y4
  exact (moves_setLive).then (by decide) <| (moves_setLive).then (by decide) <| h5

theorem moves_refusePacket {x0 x1 x2 e} : Moves 470221884 e (refusePacket x0 x1 x2 e) := by
  unfold refusePacket
  refine moves_ite ?_ ?_
  · exact (moves_complete).then (by decide) <| Moves.refl _ _
  refine moves_ite ?_ ?_
  · exact (moves_cqDrop).then (by decide) <| Moves.refl _ _
  exact (moves_deliver).then (by decide) <| Moves.refl _ _

theorem moves_headerErr {x0 x1 x2 e} : Moves 470221884 e (headerErr x0 x1 x2 e) := by
  unfold headerErr
  exact (moves_refusePacket).then (by decide) <| (moves_note).then (by decide) <| (moves_inc).then (by decide) <| Moves.refl _ _

theorem moves_Packet_hold {x0 e} : Moves 65564 e (Packet.hold x0 e) := by
  unfold Packet.hold
  exact (moves_holdTag).then (by decide) <| Moves.refl _ _

theorem moves_claimTag {x0 e} : Moves 65564 e (claimTag x0 e).1 := by
  unfold claimTag
  refine moves_ite1 ?_ ?_
  · exact moves_mk1 <| Moves.refl _ _
  exact moves_mk1 <| (moves_Packet_hold).then (by decide) <| Moves.refl _ _

theorem moves_checkParams {x0 x1 e} : Moves 536837437 e (checkParams x0 x1 e) := by
  unfold checkParams
  extract_lets +onlyGivenNames y0
  refine moves_cut (y := y0) ?_ fun h1 => ?_
  · unfold y0
    exact (moves_catchUp).then (by decide) <| Moves.refl _ _
  clear_value y0
  extract_lets +onlyGivenNames y2 y3 y4 y5
  clear_value y2 y3 y4 y5
  refine moves_ite ?_ ?_
  · exact (moves_headerErr).then (by decide) <| h1
  split
  · rename_i z6 z7
    extract_lets +onlyGivenNames y8
    refine moves_cut (y := y8) ?_ fun h9 => ?_
    · unfold y8
      exact (moves_updHop).then (by decide) <| h1
    clear_value y8
    exact (moves_refusePacket).then (by decide) <| (moves_note).then (by decide) <| (moves_inc).then (by decide) <| h9
  · rename_i z10 z11 z12
    extract_lets +onlyGivenNames y13
    refine moves_cut (y := y13) ?_ fun h14 => ?_
    · unfold y13
      exact (moves_updHop).then (by decide) <| h1
    clear_value y13
    extract_lets +onlyGivenNames y15
    have hy15 : ∀ y15_0 y15_1, Moves 536837437 e (y15 y15_0 y15_1) := by
      intro y15_0 y15_1
      unfold y15
      exact (moves_headerErr).then (by decide) <| h14
    clear_value y15
    refine moves_ite ?_ ?_
    · exact (hy15 _ _).then (Nat.or_self _) <| Moves.refl _ _
    split
    · rename_i z16
      exact (hy15 _ _).then (Nat.or_self _) <| Moves.refl _ _
    · rename_i z17 z18
      refine moves_ite ?_ ?_
      · exact (hy15 _ _).then (Nat.or_self _) <| Moves.refl _ _
      refine moves_ite ?_ ?_
      · exact (hy15 _ _).then (Nat.or_self _) <| Moves.refl _ _
      refine moves_ite ?_ ?_
      · exact (hy15 _ _).then (Nat.or_self _) <| Moves.refl _ _
      exact (moves_runInstr).then (by decide) <| h14

theorem moves_afterParams {x0 x1 e} : Moves 536837437 e (afterParams x0 x1 e) := by
  unfold afterParams
  extract_lets +onlyGivenNames y0
  refine moves_cut (y := y0.1) ?_ fun h1 => ?_
  · unfold y0
    exact (moves_claimTag).then (by decide) <| Moves.refl _ _
  clear_value y0
  exact (moves_checkParams).then (by decide) <| h1

theorem moves_takePacket {x0 x1 e} : Moves 536837437 e (takePacket x0 x1 e) := by
  unfold takePacket
  extract_lets +onlyGivenNames y0
  refine moves_cut (y := y0.1) ?_ fun h1 => ?_
  · unfold y0
    exact (moves_claimTag).then (by decide) <| Moves.refl _ _
  clear_value y0
  extract_lets +onlyGivenNames y2
  clear_value y2
  extract_lets +onlyGivenNames y3
  refine moves_cut (y := y3) ?_ fun h4 => ?_
  · unfold y3
    exact h1
  clear_value y3
  refine moves_ite ?_ ?_
  · exact (moves_headerErr).then (by decide) <| h4
  refine moves_ite ?_ ?_
  · exact (moves_headerErr).then (by decide) <| h4
  refine moves_ite ?_ ?_
  · exact (moves_openStream).then (by decide) <| h4
  exact (moves_afterParams).then (by decide) <| h4

theorem moves_served {x0 e} : Moves 65536 e (served x0 e) := by
  unfold served
  extract_lets +onlyGivenNames y0 y1
  clear_value y0 y1
  extract_lets +onlyGivenNames y2
  refine moves_cut (y := y2) ?_ fun h3 => ?_
  · unfold y2
    exact moves_cmd (by decide) <| Moves.refl _ _
  clear_value y2
  exact (moves_updHop).then (by decide) <| h3

theorem moves_sqFault {x0 x1 x2 x3 x4 e} : Moves 520060220 e (sqFault x0 x1 x2 x3 x4 e) := by
  unfold sqFault
  extract_lets +onlyGivenNames y0
  clear_value y0
  exact (moves_haltOrEnd).then (by decide) <| (moves_openStream).then (by decide) <| Moves.refl _ _

theorem moves_readEntries {x0 x1 x2 x3 x4 e} : Moves 131100 e (readEntries x0 x1 x2 x3 x4 e).1 := by
  unfold readEntries
  extract_lets +onlyGivenNames y0 y1 y2
  clear_value y0 y1 y2
  refine moves_ite1 ?_ ?_
  · exact moves_mk1 <| Moves.refl _ _
  split
  · rename_i z3 z4 z5 z6
    refine moves_pair z6 ?_ fun h7 => ?_
    · exact (moves_moveRun).then (by decide) <| Moves.refl _ _
    exact moves_mk1 <| h7
  · rename_i z8 z9 z10 z11
    refine moves_pair z11 ?_ fun h12 => ?_
    · exact (moves_moveRun).then (by decide) <| Moves.refl _ _
    extract_lets +onlyGivenNames y13
    clear_value y13
    refine moves_ite1 ?_ ?_
    · exact moves_mk1 <| h12
    split
    · rename_i z14 z15 z16 z17
      refine moves_pair z17 ?_ fun h18 => ?_
      · exact (moves_moveRun).then (by decide) <| h12
      exact moves_mk1 <| h18
    · rename_i z19 z20 z21 z22
      refine moves_pair z22 ?_ fun h23 => ?_
      · exact (moves_moveRun).then (by decide) <| h12
      exact moves_mk1 <| h23

theorem moves_fetchHost {x0 x1 x2 e} : Moves 536837437 e (fetchHost x0 x1 x2 e) := by
  unfold fetchHost
  extract_lets +onlyGivenNames y0
  clear_value y0
  split
  · rename_i z1 z2 z3 z4 z5
    refine moves_pair z5 ?_ fun h6 => ?_
    · exact (moves_moveRun).then (by decide) <| (moves_eccMeets).then (by decide) <| (moves_sqTurn).then (by decide) <| (moves_takeLink).then (by decide) <| Moves.refl _ _
    exact (moves_sqFault).then (by decide) <| h6
  · rename_i z7 z8 z9 z10
    refine moves_pair z10 ?_ fun h11 => ?_
    · exact (moves_moveRun).then (by decide) <| (moves_eccMeets).then (by decide) <| (moves_sqTurn).then (by decide) <| (moves_takeLink).then (by decide) <| Moves.refl _ _
    extract_lets +onlyGivenNames y12 y13
    clear_value y12 y13
    split
    · rename_i z14 z15 z16 z17 z18 z19
      refine moves_pair z19 ?_ fun h20 => ?_
      · exact (moves_readEntries).then (by decide) <| (moves_eccMeets).then (by decide) <| h11
      exact (moves_sqFault).then (by decide) <| h20
    · rename_i z21 z22 z23 z24
      refine moves_pair z24 ?_ fun h25 => ?_
      · exact (moves_readEntries).then (by decide) <| (moves_eccMeets).then (by decide) <| h11
      extract_lets +onlyGivenNames y26
      clear_value y26
      exact (moves_takePacket).then (by decide) <| (moves_served).then (by decide) <| (moves_updHop).then (by decide) <| h25

theorem moves_fetchRing {x0 x1 e} : Moves 536837437 e (fetchRing x0 x1 e) := by
  unfold fetchRing
  split
  · rename_i z0 z1
    exact Moves.refl _ _
  · rename_i z2 z3 z4 z5
    extract_lets +onlyGivenNames y6 y7
    clear_value y6 y7
    extract_lets +onlyGivenNames y8
    refine moves_cut (y := y8) ?_ fun h9 => ?_
    · unfold y8
      exact (moves_served).then (by decide) <| (moves_updHop).then (by decide) <| Moves.refl _ _
    clear_value y8
    extract_lets +onlyGivenNames y10
    clear_value y10
    exact (moves_takePacket).then (by decide) <| h9

theorem moves_fetchNow {x0 e} : Moves 536837437 e (fetchNow x0 e) := by
  unfold fetchNow
  extract_lets +onlyGivenNames y0
  refine moves_cut (y := y0) ?_ fun h1 => ?_
  · unfold y0
    exact (moves_catchUp).then (by decide) <| Moves.refl _ _
  clear_value y0
  split
  · rename_i z2 z3
    exact (moves_fullFlags).then (by decide) <| h1
  · rename_i z4 z5 z6
    extract_lets +onlyGivenNames y7
    clear_value y7
    refine moves_ite ?_ ?_
    · exact (moves_fullFlags).then (by decide) <| (moves_settle).then (by decide) <| (moves_fetchRing).then (by decide) <| h1
    refine moves_ite ?_ ?_
    · exact (moves_fullFlags).then (by decide) <| h1
    exact (moves_fullFlags).then (by decide) <| (moves_settle).then (by decide) <| (moves_fetchHost).then (by decide) <| h1

theorem acts_execCommandFetch {x0 x1} : Acts 536837437 (execCommandFetch x0 x1) x1 := by
  unfold execCommandFetch
  refine Acts.mk fun e => ?_
  exact (moves_fetchNow).then (by decide) <| Moves.refl _ _

theorem moves_readDone {x0 x1 e} : Moves 536837437 e (readDone x0 x1 e) := by
  unfold readDone
  extract_lets +onlyGivenNames y0
  refine moves_cut (y := y0) ?_ fun h1 => ?_
  · unfold y0
    exact (moves_dropStream).then (by decide) <| Moves.refl _ _
  clear_value y0
  split
  · rename_i z2 z3 z4 z5 z6 z7 z8
    exact (moves_settle).then (by decide) <| (moves_afterParams).then (by decide) <| h1
  · rename_i z9 z10 z11 z12
    exact (moves_settle).then (by decide) <| (moves_pairTxnGo).then (by decide) <| h1
  · rename_i z13 z14 z15 z16
    exact (moves_flumeBlock).then (by decide) <| h1
  · rename_i z17 z18 z19 z20
    exact (moves_schLoaded).then (by decide) <| h1
  · rename_i z21 z22 z23 z24
    exact moves_sys (by decide) rfl <| h1
  · rename_i z25 z26 z27 z28 z29 z30
    exact h1

theorem moves_readChunk {x0 x1 e} : Moves 536837437 e (readChunk x0 x1 e) := by
  unfold readChunk
  extract_lets +onlyGivenNames y0
  clear_value y0
  split
  · rename_i z1 z2 z3 z4
    split
    · rename_i z5 z6 z7
      refine moves_pair z7 ?_ fun h8 => ?_
      · exact (moves_aimChunk).then (by decide) <| Moves.refl _ _
      exact (moves_dropStream).then (by decide) <| h8
    · rename_i z9 z10 z11
      refine moves_pair z11 ?_ fun h12 => ?_
      · exact (moves_aimChunk).then (by decide) <| Moves.refl _ _
      refine moves_ite ?_ ?_
      · exact (moves_aimDone).then (by decide) <| (moves_dropStream).then (by decide) <| h12
      exact (moves_updStream).then (by decide) <| h12
  · rename_i z13 z14 z15 z16 z17
    exact (moves_tableWriteChunk).then (by decide) <| Moves.refl _ _
  · rename_i z18 z19 z20
    refine moves_ite ?_ ?_
    · exact (moves_readDone).then (by decide) <| Moves.refl _ _
    exact (moves_updStream).then (by decide) <| Moves.refl _ _

theorem moves_writeChunk_put {x0 x1 x2 e x4 x5} : Moves 470221884 e (writeChunk.put x0 x1 x2 e x4 x5) := by
  unfold writeChunk.put
  extract_lets +onlyGivenNames y0
  refine moves_cut (y := y0) ?_ fun h1 => ?_
  · unfold y0
    exact (moves_writeRun).then (by decide) <| Moves.refl _ _
  clear_value y0
  refine moves_ite ?_ ?_
  · exact (moves_complete).then (by decide) <| (moves_dropStream).then (by decide) <| h1
  exact (moves_updStream).then (by decide) <| h1

theorem moves_writeChunk {x0 x1 x2 e} : Moves 470746172 e (writeChunk x0 x1 x2 e) := by
  unfold writeChunk
  split
  · rename_i z0 z1 z2 z3 z4
    exact (moves_tableReadChunk).then (by decide) <| Moves.refl _ _
  · rename_i z5 z6 z7 z8
    exact (moves_writeChunk_put).then (by decide) <| Moves.refl _ _
  · rename_i z9 z10 z11 z12
    exact (moves_writeChunk_put).then (by decide) <| Moves.refl _ _
  · rename_i z13 z14 z15 z16
    exact Moves.refl _ _

theorem moves_moveChunk {x0 x1 e} : Moves 536837437 e (moveChunk x0 x1 e) := by
  unfold moveChunk
  split
  · rename_i z0 z1 z2
    split
    · rename_i z3 z4 z5
      refine moves_inl z5 ?_ fun h6 => ?_
      · exact (moves_rxChunk).then (by decide) <| Moves.refl _ _
      exact h6
    · rename_i z7 z8 z9 z10 z11
      refine moves_inr z11 ?_ fun h12 => ?_
      · exact (moves_rxChunk).then (by decide) <| Moves.refl _ _
      exact (moves_haltOrEnd).then (by decide) <| h12
  · rename_i z13 z14
    extract_lets +onlyGivenNames y15
    clear_value y15
    split
    · rename_i z16 z17 z18 z19 z20
      refine moves_pair z20 ?_ fun h21 => ?_
      · exact (moves_moveRun).then (by decide) <| Moves.refl _ _
      exact (moves_haltOrEnd).then (by decide) <| h21
    · rename_i z22 z23 z24 z25
      refine moves_pair z25 ?_ fun h26 => ?_
      · exact (moves_moveRun).then (by decide) <| Moves.refl _ _
      refine moves_ite ?_ ?_
      · exact (moves_writeChunk).then (by decide) <| h26
      exact (moves_readChunk).then (by decide) <| h26

theorem moves_toBack {x0 e} : Moves 131072 e (toBack x0 e) := by
  unfold toBack
  extract_lets +onlyGivenNames y0
  clear_value y0
  exact moves_dma (by decide) <| Moves.refl _ _

theorem moves_chunkNow {x0 x1 e} : Moves 536837437 e (chunkNow x0 x1 e) := by
  unfold chunkNow
  split
  · rename_i z0 z1
    exact Moves.refl _ _
  · rename_i z2 z3 z4
    refine moves_ite ?_ ?_
    · exact Moves.refl _ _
    extract_lets +onlyGivenNames y5
    refine moves_cut (y := y5) ?_ fun h6 => ?_
    · unfold y5
      refine moves_ite ?_ ?_
      · exact (moves_inc).then (by decide) <| Moves.refl _ _
      exact Moves.refl _ _
    clear_value y5
    exact (moves_toBack).then (by decide) <| (moves_moveChunk).then (by decide) <| (moves_eccMeets).then (by decide) <| h6

theorem acts_execChunk {x0 x1 x2} : Acts 536837437 (execChunk x0 x1 x2) x2 := by
  unfold execChunk
  refine Acts.mk fun e => ?_
  exact (moves_chunkNow).then (by decide) <| Moves.refl _ _

end Sys2Proof.Machine
end

