-- ==== Sys2Proof/Laws/MovesSensing.lean ====
section
/-! SUPPORT. What each operation of Machine/Sensing.lean can do (`moves_f`). -/

namespace Sys2Proof.Machine

theorem moves_acqFrame {x0 e} : Moves 285475900 e (acqFrame x0 e) := by
  unfold acqFrame
  extract_lets +onlyGivenNames y0
  clear_value y0
  refine moves_ite ?_ ?_
  · exact Moves.refl _ _
  refine moves_ite ?_ ?_
  · exact (moves_note).then (by decide) <| (moves_inc).then (by decide) <| (moves_updLoop).then (by decide) <| Moves.refl _ _
  exact (moves_updLoop).then (by decide) <| Moves.refl _ _

theorem moves_loopFrame {x0 x1 e} : Moves 285475900 e (loopFrame x0 x1 e) := by
  unfold loopFrame
  refine (moves_acqFrame).then (by decide) <| ?_
  refine moves_ite ?_ ?_
  · exact (moves_updLoop).then (by decide) <| Moves.refl _ _
  exact Moves.refl _ _

theorem moves_setSuspect {x0 x1 x2 e} : Moves 8388608 e (setSuspect x0 x1 x2 e) := by
  unfold setSuspect
  exact moves_sns (by decide) <| Moves.refl _ _

theorem moves_windowPassed {x0 e} : Moves 8388608 e (windowPassed x0 e) := by
  unfold windowPassed
  refine moves_ite ?_ ?_
  · exact Moves.refl _ _
  refine moves_each _ _ _ (fun x0 e1 => ?_) ?_
  · exact (moves_setSuspect).then (by decide) <| Moves.refl _ _
  exact Moves.refl _ _

theorem moves_frameStart {x0 x1 e} : Moves 294913084 e (frameStart x0 x1 e) := by
  unfold frameStart
  extract_lets +onlyGivenNames y0 y1 y2 y3
  clear_value y0 y1 y2 y3
  extract_lets +onlyGivenNames y4
  refine moves_cut (y := y4) ?_ fun h5 => ?_
  · unfold y4
    exact (moves_updTile).then (by decide) <| (moves_windowPassed).then (by decide) <| Moves.refl _ _
  clear_value y4
  refine moves_ite ?_ ?_
  · refine moves_each _ _ _ (fun x6 e7 => ?_) ?_
    · exact (moves_loopFrame).then (by decide) <| Moves.refl _ _
    exact h5
  exact h5

theorem moves_acceptEdge {x0 e} : Moves 294913084 e (acceptEdge x0 e) := by
  unfold acceptEdge
  extract_lets +onlyGivenNames y0 y1
  clear_value y0 y1
  exact (moves_updTile).then (by decide) <| (moves_frameStart).then (by decide) <| Moves.refl _ _

theorem moves_countFrames {e} : Moves 2621440 e (countFrames e) := by
  unfold countFrames
  extract_lets +onlyGivenNames y0
  refine moves_cut (y := y0) ?_ fun h1 => ?_
  · unfold y0
    refine moves_each _ _ _ (fun x2 e3 => ?_) ?_
    · exact (moves_updPort).then (by decide) <| Moves.refl _ _
    exact Moves.refl _ _
  clear_value y0
  split
  · rename_i z4 z5 z6
    refine moves_ite ?_ ?_
    · exact moves_syn (by decide) <| h1
    exact h1
  · rename_i z7 z8
    exact h1

theorem moves_frameEdge {x0 e} : Moves 331088956 e (frameEdge x0 e) := by
  unfold frameEdge
  refine moves_ite ?_ ?_
  · exact Moves.refl _ _
  extract_lets +onlyGivenNames y0 y1
  clear_value y0 y1
  extract_lets +onlyGivenNames y2
  refine moves_cut (y := y2) ?_ fun h3 => ?_
  · unfold y2
    refine moves_ite ?_ ?_
    · exact (moves_note).then (by decide) <| (moves_inc).then (by decide) <| Moves.refl _ _
    exact Moves.refl _ _
  clear_value y2
  refine moves_ite ?_ ?_
  · exact h3
  extract_lets +onlyGivenNames y4
  refine moves_cut (y := y4) ?_ fun h5 => ?_
  · unfold y4
    refine moves_each _ _ _ (fun x6 e7 => ?_) ?_
    · exact (moves_acceptEdge).then (by decide) <| Moves.refl _ _
    exact h3
  clear_value y4
  extract_lets +onlyGivenNames y8
  refine moves_cut (y := y8) ?_ fun h9 => ?_
  · unfold y8
    refine moves_ite ?_ ?_
    · exact (moves_inc).then (by decide) <| h5
    exact h5
  clear_value y8
  extract_lets +onlyGivenNames y10
  clear_value y10
  extract_lets +onlyGivenNames y11
  refine moves_cut (y := y11) ?_ fun h12 => ?_
  · unfold y11
    exact moves_sns (by decide) <| h9
  clear_value y11
  exact (moves_fixStart).then (by decide) <| (moves_fixSync).then (by decide) <| (moves_countFrames).then (by decide) <| h12

theorem acts_execSyncIn {x0 x1} : Acts 331088956 (execSyncIn x0 x1) x1 := by
  unfold execSyncIn
  refine Acts.mk fun e => ?_
  refine moves_ite ?_ ?_
  · exact Moves.refl _ _
  exact (moves_frameEdge).then (by decide) <| Moves.refl _ _

theorem moves_syncLossNow {x0 e} : Moves 294929469 e (syncLossNow x0 e) := by
  unfold syncLossNow
  refine moves_ite ?_ ?_
  · exact Moves.refl _ _
  extract_lets +onlyGivenNames y0
  refine moves_cut (y := y0) ?_ fun h1 => ?_
  · unfold y0
    exact (moves_waitClk).then (by decide) <| Moves.refl _ _
  clear_value y0
  extract_lets +onlyGivenNames y2
  refine moves_cut (y := y2) ?_ fun h3 => ?_
  · unfold y2
    exact (moves_mark).then (by decide) <| (moves_noteTile).then (by decide) <| h1
  clear_value y2
  exact (moves_frameStart).then (by decide) <| (moves_updTile).then (by decide) <| h3

theorem acts_execSyncLoss {x0 x1} : Acts 294929469 (execSyncLoss x0 x1) x1 := by
  unfold execSyncLoss
  refine Acts.mk fun e => ?_
  exact (moves_syncLossNow).then (by decide) <| Moves.refl _ _

theorem moves_freeRunNow {x0 e} : Moves 294929469 e (freeRunNow x0 e) := by
  unfold freeRunNow
  refine moves_ite ?_ ?_
  · exact Moves.refl _ _
  exact (moves_frameStart).then (by decide) <| (moves_waitClk).then (by decide) <| Moves.refl _ _

theorem acts_execFreeRunFrame {x0 x1} : Acts 294929469 (execFreeRunFrame x0 x1) x1 := by
  unfold execFreeRunFrame
  refine Acts.mk fun e => ?_
  exact (moves_freeRunNow).then (by decide) <| Moves.refl _ _

theorem moves_setSticky {x0 x1 e} : Moves 8388608 e (setSticky x0 x1 e) := by
  unfold setSticky
  extract_lets +onlyGivenNames y0
  clear_value y0
  exact moves_sns (by decide) <| Moves.refl _ _

theorem moves_refselApply {x0 x1 e} : Moves 277087292 e (refselApply x0 x1 e) := by
  unfold refselApply
  extract_lets +onlyGivenNames y0 y1 y2 y3
  clear_value y0 y1 y2 y3
  extract_lets +onlyGivenNames y4
  refine moves_cut (y := y4) ?_ fun h5 => ?_
  · unfold y4
    refine moves_each _ _ _ (fun x6 e7 => ?_) ?_
    · exact (moves_updBank).then (by decide) <| Moves.refl _ _
    exact (moves_wr).then (by decide) <| Moves.refl _ _
  clear_value y4
  refine moves_ite ?_ ?_
  · exact h5
  exact (moves_note).then (by decide) <| h5

theorem acts_execRefSettled {x0 x1} : Acts 8388608 (execRefSettled x0 x1) x1 := by
  unfold execRefSettled
  refine Acts.mk fun e => ?_
  refine moves_ite ?_ ?_
  · exact Moves.refl _ _
  exact (moves_updBank).then (by decide) <| Moves.refl _ _

theorem moves_powerOf {x0 x1 e} : Moves 2 e (powerOf x0 x1 e).1 := by
  unfold powerOf
  refine moves_ite1 ?_ ?_
  · exact moves_mk1 <| (moves_useFree).then (by decide) <| Moves.refl _ _
  refine moves_ite1 ?_ ?_
  · exact moves_mk1 <| Moves.refl _ _
  extract_lets +onlyGivenNames y0
  clear_value y0
  refine moves_ite1 ?_ ?_
  · exact moves_mk1 <| Moves.refl _ _
  exact moves_mk1 <| (moves_useFree).then (by decide) <| Moves.refl _ _

theorem moves_tapPower {x0 x1 x2 x3 e} : Moves 2 e (tapPower x0 x1 x2 x3 e).1 := by
  unfold tapPower
  extract_lets +onlyGivenNames y0
  clear_value y0
  refine moves_ite1 ?_ ?_
  · extract_lets +onlyGivenNames y1
    clear_value y1
    exact (moves_powerOf).then (by decide) <| Moves.refl _ _
  extract_lets +onlyGivenNames y2
  clear_value y2
  exact (moves_powerOf).then (by decide) <| Moves.refl _ _

theorem moves_guardPower {x0 x1 x2 x3 x4 e} : Moves 2 e (guardPower x0 x1 x2 x3 x4 e).1 := by
  unfold guardPower
  extract_lets +onlyGivenNames y0 y1
  clear_value y0 y1
  refine moves_mk1 <| moves_whenE _ _ (fun e2 => ?_) ?_
  · exact (moves_useFree).then (by decide) <| Moves.refl _ _
  exact Moves.refl _ _

theorem moves_convertOn {x0 x1 x2 x3 x4 e} : Moves 277087292 e (convertOn x0 x1 x2 x3 x4 e).1 := by
  unfold convertOn
  extract_lets +onlyGivenNames y0 y1 y2 y3 y4
  clear_value y0 y1 y2 y3 y4
  extract_lets +onlyGivenNames y5
  refine moves_cut (y := y5) ?_ fun h6 => ?_
  · unfold y5
    exact (moves_setSuspect).then (by decide) <| Moves.refl _ _
  clear_value y5
  extract_lets +onlyGivenNames y7
  refine moves_cut (y := y7) ?_ fun h8 => ?_
  · unfold y7
    refine moves_ite ?_ ?_
    · exact (moves_note).then (by decide) <| (moves_inc).then (by decide) <| (moves_setSticky).then (by decide) <| h6
    exact h6
  clear_value y7
  extract_lets +onlyGivenNames y9
  refine moves_cut (y := y9) ?_ fun h10 => ?_
  · unfold y9
    refine moves_ite ?_ ?_
    · exact (moves_setSticky).then (by decide) <| h8
    exact h8
  clear_value y9
  exact moves_mk1 <| (moves_updSens).then (by decide) <| h10

theorem moves_convert {x0 x1 x2 x3 x4 e} : Moves 277087294 e (convert x0 x1 x2 x3 x4 e).1 := by
  unfold convert
  extract_lets +onlyGivenNames y0 y1 y2
  clear_value y0 y1 y2
  extract_lets +onlyGivenNames y3
  refine moves_cut (y := y3.1) ?_ fun h4 => ?_
  · unfold y3
    exact (moves_convertOn).then (by decide) <| Moves.refl _ _
  clear_value y3
  extract_lets +onlyGivenNames y5
  clear_value y5
  extract_lets +onlyGivenNames y6
  refine moves_cut (y := y6) ?_ fun h7 => ?_
  · unfold y6
    refine moves_ite ?_ ?_
    · exact (moves_inc).then (by decide) <| h4
    exact h4
  clear_value y6
  extract_lets +onlyGivenNames y8
  refine moves_cut (y := y8.1) ?_ fun h9 => ?_
  · unfold y8
    refine moves_ite1 ?_ ?_
    · exact moves_mk1 <| h7
    refine moves_ite1 ?_ ?_
    · exact (moves_tapPower).then (by decide) <| h7
    exact (moves_guardPower).then (by decide) <| h7
  clear_value y8
  exact moves_mk1 <| h9

theorem moves_convertAll {x0 x1 x2 e} : Moves 277087294 e (convertAll x0 x1 x2 e).1 := by
  unfold convertAll
  refine moves_foldl1 _ _ _ (fun e1 x0 => ?_) ?_
  · extract_lets +onlyGivenNames y2
    refine moves_cut (y := y2.1) ?_ fun h3 => ?_
    · unfold y2
      exact (moves_convert).then (by decide) <| Moves.refl _ _
    clear_value y2
    exact moves_mk1 <| h3
  exact moves_mk1 <| Moves.refl _ _

theorem moves_overpower {x0 x1 e} : Moves 536812604 e (overpower x0 x1 e) := by
  unfold overpower
  extract_lets +onlyGivenNames y0
  clear_value y0
  refine moves_ite ?_ ?_
  · extract_lets +onlyGivenNames y1
    extract_lets +onlyGivenNames y2
    refine moves_cut (y := y2) ?_ fun h3 => ?_
    · unfold y2
      exact moves_flt (by decide) id <| Moves.refl _ _
    clear_value y2
    refine moves_ite ?_ ?_
    · extract_lets +onlyGivenNames y4
      refine moves_cut (y := y4) ?_ fun h5 => ?_
      · unfold y4
        exact (moves_raiseD).then (by decide) <| h3
      clear_value y4
      refine moves_ite ?_ ?_
      · exact (moves_wantPark).then (by decide) <| h5
      exact h5
    exact h3
  refine moves_ite ?_ ?_
  · exact moves_flt (by decide) id <| Moves.refl _ _
  exact Moves.refl _ _

theorem moves_portTap {x0 x1 e} : Moves 536812604 e (portTap x0 x1 e) := by
  unfold portTap
  refine moves_ite ?_ ?_
  · exact Moves.refl _ _
  extract_lets +onlyGivenNames y0
  refine moves_cut (y := y0) ?_ fun h1 => ?_
  · unfold y0
    exact (moves_overpower).then (by decide) <| Moves.refl _ _
  clear_value y0
  refine moves_ite ?_ ?_
  · exact (moves_updPort).then (by decide) <| h1
  exact h1

theorem moves_calFrame {x0 x1 x2 e} : Moves 8388608 e (calFrame x0 x1 x2 e) := by
  unfold calFrame
  split
  · rename_i z0 z1
    exact Moves.refl _ _
  · rename_i z2 z3 z4
    extract_lets +onlyGivenNames y5
    clear_value y5
    refine moves_ite ?_ ?_
    · exact Moves.refl _ _
    extract_lets +onlyGivenNames y6 y7 y8
    clear_value y6 y7 y8
    exact moves_sns (by decide) <| Moves.refl _ _

theorem moves_hkCheck {x0 x1 e} : Moves 277087292 e (hkCheck x0 x1 e) := by
  unfold hkCheck
  refine moves_ite ?_ ?_
  · exact (moves_note).then (by decide) <| (moves_updBank).then (by decide) <| Moves.refl _ _
  refine moves_ite ?_ ?_
  · exact (moves_updBank).then (by decide) <| Moves.refl _ _
  exact Moves.refl _ _

theorem moves_fixedOver {x0 x1 x2 e} : Moves 277087292 e (fixedOver x0 x1 x2 e) := by
  unfold fixedOver
  extract_lets +onlyGivenNames y0
  clear_value y0
  refine (moves_setSuspect).then (by decide) <| moves_whenE _ _ (fun e1 => ?_) ?_
  · exact (moves_note).then (by decide) <| (moves_inc).then (by decide) <| Moves.refl _ _
  exact Moves.refl _ _

theorem moves_fixedConversions {x0 x1 x2 e} : Moves 277103677 e (fixedConversions x0 x1 x2 e) := by
  unfold fixedConversions
  extract_lets +onlyGivenNames y0
  refine moves_cut (y := y0) ?_ fun h1 => ?_
  · unfold y0
    exact (moves_waitClk).then (by decide) <| Moves.refl _ _
  clear_value y0
  extract_lets +onlyGivenNames y2 y3
  clear_value y2 y3
  extract_lets +onlyGivenNames y4
  refine moves_cut (y := y4) ?_ fun h5 => ?_
  · unfold y4
    exact (moves_updBank).then (by decide) <| h1
  clear_value y4
  extract_lets +onlyGivenNames y6
  refine moves_cut (y := y6) ?_ fun h7 => ?_
  · unfold y6
    refine moves_each _ _ _ (fun x8 e9 => ?_) ?_
    · exact (moves_fixedOver).then (by decide) <| Moves.refl _ _
    exact h5
  clear_value y6
  extract_lets +onlyGivenNames y10
  clear_value y10
  exact (moves_hkCheck).then (by decide) <| h7

theorem moves_hostResult {x0 x1 e} : Moves 28 e (hostResult x0 x1 e) := by
  unfold hostResult
  extract_lets +onlyGivenNames y0
  clear_value y0
  exact (moves_wrF).then (by decide) <| (moves_wr).then (by decide) <| (moves_wr).then (by decide) <| Moves.refl _ _

theorem moves_serveShot {x0 x1 x2 e} : Moves 277103677 e (serveShot x0 x1 x2 e) := by
  unfold serveShot
  split
  · rename_i z0 z1 z2 z3 z4 z5 z6
    refine moves_ite ?_ ?_
    · exact Moves.refl _ _
    extract_lets +onlyGivenNames y7
    clear_value y7
    extract_lets +onlyGivenNames y8
    refine moves_cut (y := y8) ?_ fun h9 => ?_
    · unfold y8
      exact (moves_waitClk).then (by decide) <| Moves.refl _ _
    clear_value y8
    extract_lets +onlyGivenNames y10 y11
    clear_value y10 y11
    extract_lets +onlyGivenNames y12
    refine moves_cut (y := y12.1) ?_ fun h13 => ?_
    · unfold y12
      exact (moves_convertOn).then (by decide) <| (moves_waitClk).then (by decide) <| h9
    clear_value y12
    extract_lets +onlyGivenNames y14
    refine moves_cut (y := y14) ?_ fun h15 => ?_
    · unfold y14
      exact (moves_updBank).then (by decide) <| (moves_inc).then (by decide) <| h13
    clear_value y14
    refine moves_ite ?_ ?_
    · exact (moves_hostResult).then (by decide) <| h15
    exact h15
  · rename_i z16 z17 z18
    exact Moves.refl _ _

theorem moves_oneShotGo {x0 x1 e} : Moves 277087292 e (oneShotGo x0 x1 e) := by
  unfold oneShotGo
  extract_lets +onlyGivenNames y0 y1 y2 y3
  clear_value y0 y1 y2 y3
  extract_lets +onlyGivenNames y4
  refine moves_cut (y := y4) ?_ fun h5 => ?_
  · unfold y4
    refine moves_ite ?_ ?_
    · exact (moves_wr).then (by decide) <| Moves.refl _ _
    exact Moves.refl _ _
  clear_value y4
  refine moves_ite ?_ ?_
  · exact h5
  refine moves_ite ?_ ?_
  · refine (moves_note).then (by decide) <| moves_whenE _ _ (fun e6 => ?_) ?_
    · exact (moves_wrF).then (by decide) <| Moves.refl _ _
    exact h5
  extract_lets +onlyGivenNames y7
  refine moves_cut (y := y7) ?_ fun h8 => ?_
  · unfold y7
    exact (moves_updBank).then (by decide) <| h5
  clear_value y7
  refine moves_whenE _ _ (fun e9 => ?_) ?_
  · exact (moves_wrF).then (by decide) <| (moves_wrF).then (by decide) <| (moves_wrF).then (by decide) <| (moves_wrF).then (by decide) <| Moves.refl _ _
  exact h8

theorem moves_publishSamples {x0 x1 x2 e} : Moves 536828991 e (publishSamples x0 x1 x2 e) := by
  unfold publishSamples
  extract_lets +onlyGivenNames y0 y1
  clear_value y0 y1
  extract_lets +onlyGivenNames y2
  refine moves_cut (y := y2) ?_ fun h3 => ?_
  · unfold y2
    exact (moves_waitClk).then (by decide) <| Moves.refl _ _
  clear_value y2
  extract_lets +onlyGivenNames y4
  clear_value y4
  extract_lets +onlyGivenNames y5
  refine moves_cut (y := y5.1) ?_ fun h6 => ?_
  · unfold y5
    exact (moves_convertAll).then (by decide) <| h3
  clear_value y5
  extract_lets +onlyGivenNames y7
  refine moves_cut (y := y7) ?_ fun h8 => ?_
  · unfold y7
    exact (moves_updSens).then (by decide) <| h6
  clear_value y7
  exact (moves_portTap).then (by decide) <| (moves_calFrame).then (by decide) <| h8

theorem moves_windowNow {x0 x1 x2 x3 x4 e} : Moves 277103677 e (windowNow x0 x1 x2 x3 x4 e) := by
  unfold windowNow
  extract_lets +onlyGivenNames y0
  refine moves_cut (y := y0) ?_ fun h1 => ?_
  · unfold y0
    refine moves_ite ?_ ?_
    · exact Moves.refl _ _
    exact (moves_fixedConversions).then (by decide) <| Moves.refl _ _
  clear_value y0
  split
  · rename_i z2 z3
    exact (moves_serveShot).then (by decide) <| h1
  · rename_i z4
    exact h1

theorem moves_conversionNow {x0 x1 x2 x3 e} : Moves 536828991 e (conversionNow x0 x1 x2 x3 e) := by
  unfold conversionNow
  refine moves_ite ?_ ?_
  · split
    · rename_i z0 z1 z2
      refine moves_ite ?_ ?_
      · exact (moves_publishSamples).then (by decide) <| Moves.refl _ _
      exact Moves.refl _ _
    · rename_i z3 z4
      exact Moves.refl _ _
  refine moves_ite ?_ ?_
  · split
    · rename_i z5 z6 z7
      exact (moves_windowNow).then (by decide) <| Moves.refl _ _
    · rename_i z8 z9
      exact Moves.refl _ _
  exact Moves.refl _ _

theorem acts_execConversionDone {x0 x1 x2 x3 x4} : Acts 536828991 (execConversionDone x0 x1 x2 x3 x4) x4 := by
  unfold execConversionDone
  refine Acts.mk fun e => ?_
  exact (moves_conversionNow).then (by decide) <| Moves.refl _ _

theorem moves_refreshPort {x0 e} : Moves 269222972 e (refreshPort x0 e) := by
  unfold refreshPort
  extract_lets +onlyGivenNames y0 y1 y2 y3
  clear_value y0 y1 y2 y3
  refine moves_ite ?_ ?_
  · exact (moves_updPort).then (by decide) <| Moves.refl _ _
  extract_lets +onlyGivenNames y4 y5 y6 y7 y8
  clear_value y4 y5 y6 y7 y8
  extract_lets +onlyGivenNames y9
  refine moves_cut (y := y9) ?_ fun h10 => ?_
  · unfold y9
    exact (moves_updPort).then (by decide) <| Moves.refl _ _
  clear_value y9
  extract_lets +onlyGivenNames y11
  refine moves_cut (y := y11) ?_ fun h12 => ?_
  · unfold y11
    refine moves_ite ?_ ?_
    · exact (moves_note).then (by decide) <| h10
    exact h10
  clear_value y11
  refine moves_ite ?_ ?_
  · exact (moves_note).then (by decide) <| h12
  exact h12

theorem moves_census {e} : Moves 28 e (census e) := by
  unfold census
  extract_lets +onlyGivenNames y0 y1
  clear_value y0 y1
  extract_lets +onlyGivenNames y2
  refine moves_cut (y := y2) ?_ fun h3 => ?_
  · unfold y2
    exact (moves_wr).then (by decide) <| (moves_wr).then (by decide) <| Moves.refl _ _
  clear_value y2
  exact (moves_setLive).then (by decide) <| (moves_setLive).then (by decide) <| h3

theorem moves_conditionNow {e} : Moves 470762557 e (conditionNow e) := by
  unfold conditionNow
  refine moves_ite ?_ ?_
  · exact Moves.refl _ _
  extract_lets +onlyGivenNames y0
  refine moves_cut (y := y0) ?_ fun h1 => ?_
  · unfold y0
    exact (moves_waitD).then (by decide) <| Moves.refl _ _
  clear_value y0
  extract_lets +onlyGivenNames y2
  clear_value y2
  extract_lets +onlyGivenNames y3
  refine moves_cut (y := y3) ?_ fun h4 => ?_
  · unfold y3
    exact moves_xact (by decide) <| h1
  clear_value y3
  refine moves_ite ?_ ?_
  · exact (moves_mapDefer).then (by decide) <| h4
  extract_lets +onlyGivenNames y5
  refine moves_cut (y := y5) ?_ fun h6 => ?_
  · unfold y5
    refine moves_ite ?_ ?_
    · exact (moves_publish).then (by decide) <| h4
    exact h4
  clear_value y5
  extract_lets +onlyGivenNames y7
  clear_value y7
  refine (moves_census).then (by decide) <| moves_each _ _ _ (fun x8 e9 => ?_) ?_
  · exact (moves_refreshPort).then (by decide) <| Moves.refl _ _
  exact h6

theorem acts_execConditionRefresh {x0} : Acts 470762557 (execConditionRefresh x0) x0 := by
  unfold execConditionRefresh
  refine Acts.mk fun e => ?_
  exact (moves_conditionNow).then (by decide) <| Moves.refl _ _

end Sys2Proof.Machine
end

