-- ==== Sys2Proof/Laws/MovesRegWrite.lean ====
section
/-! SUPPORT. What each operation of Machine/RegWrite.lean can do (`moves_f`). -/

namespace Sys2Proof.Machine

theorem moves_lockViol {e} : Moves 268698684 e (lockViol e) := by
  unfold lockViol
  exact (moves_inc).then (by decide) <| (moves_note).then (by decide) <| Moves.refl _ _

theorem moves_rsvFlag {e} : Moves 268698684 e (rsvFlag e) := by
  unfold rsvFlag
  exact (moves_inc).then (by decide) <| (moves_note).then (by decide) <| Moves.refl _ _

theorem moves_rsvKeep {x0 x1 x2 e} : Moves 268698686 e (rsvKeep x0 x1 x2 e).1 := by
  unfold rsvKeep
  extract_lets +onlyGivenNames y0 y1 y2
  clear_value y0 y1 y2
  refine moves_ite1 ?_ ?_
  · exact moves_mk1 <| Moves.refl _ _
  refine moves_ite1 ?_ ?_
  · refine moves_ite1 ?_ ?_
    · exact moves_mk1 <| (moves_useFree).then (by decide) <| (moves_wr).then (by decide) <| Moves.refl _ _
    exact moves_mk1 <| (moves_wr).then (by decide) <| Moves.refl _ _
  exact moves_mk1 <| (moves_rsvFlag).then (by decide) <| Moves.refl _ _

theorem moves_armGuard {x0 x1 x2 e} : Moves 64 e (armGuard x0 x1 x2 e) := by
  unfold armGuard
  exact moves_guards (by decide) <| Moves.refl _ _

theorem moves_guardErr {x0 x1 x2 e} : Moves 268698684 e (guardErr x0 x1 x2 e) := by
  unfold guardErr
  exact (moves_wr).then (by decide) <| (moves_inc).then (by decide) <| (moves_note).then (by decide) <| Moves.refl _ _

theorem moves_brakeEnApply {x0 x1 e} : Moves 268698684 e (brakeEnApply x0 x1 e) := by
  unfold brakeEnApply
  refine moves_ite ?_ ?_
  · exact (moves_lockViol).then (by decide) <| Moves.refl _ _
  exact (moves_wr).then (by decide) <| Moves.refl _ _

theorem moves_pinEnApply {x0 e} : Moves 536812604 e (pinEnApply x0 e) := by
  unfold pinEnApply
  extract_lets +onlyGivenNames y0
  refine moves_cut (y := y0) ?_ fun h1 => ?_
  · unfold y0
    exact (moves_wr).then (by decide) <| Moves.refl _ _
  clear_value y0
  refine moves_ite ?_ ?_
  · exact (moves_pinBrake).then (by decide) <| h1
  exact h1

theorem moves_remapApply {x0 e} : Moves 268698684 e (remapApply x0 e) := by
  unfold remapApply
  refine moves_ite ?_ ?_
  · exact (moves_lockViol).then (by decide) <| Moves.refl _ _
  exact (moves_wr).then (by decide) <| Moves.refl _ _

theorem moves_guardedApply {x0 x1 x2 e} : Moves 536828988 e (guardedApply x0 x1 x2 e) := by
  unfold guardedApply
  refine moves_ite ?_ ?_
  · exact (moves_spanApply).then (by decide) <| Moves.refl _ _
  refine moves_ite ?_ ?_
  · exact (moves_pinEnApply).then (by decide) <| Moves.refl _ _
  refine moves_ite ?_ ?_
  · exact (moves_domEnApply).then (by decide) <| Moves.refl _ _
  refine moves_ite ?_ ?_
  · exact (moves_domEnApply).then (by decide) <| Moves.refl _ _
  refine moves_ite ?_ ?_
  · exact (moves_ovrApply).then (by decide) <| Moves.refl _ _
  refine moves_ite ?_ ?_
  · exact (moves_brakeEnApply).then (by decide) <| Moves.refl _ _
  refine moves_ite ?_ ?_
  · exact (moves_graveClrApply).then (by decide) <| Moves.refl _ _
  refine moves_ite ?_ ?_
  · exact (moves_irstApply).then (by decide) <| Moves.refl _ _
  refine moves_ite ?_ ?_
  · exact (moves_remapApply).then (by decide) <| Moves.refl _ _
  refine moves_ite ?_ ?_
  · exact (moves_tcFlush).then (by decide) <| (moves_wr).then (by decide) <| Moves.refl _ _
  refine moves_ite ?_ ?_
  · exact (moves_tileCtlApply).then (by decide) <| Moves.refl _ _
  exact (moves_wr).then (by decide) <| Moves.refl _ _

theorem moves_guardedWrite {x0 x1 x2 x3 x4 e} : Moves 536829054 e (guardedWrite x0 x1 x2 x3 x4 e) := by
  unfold guardedWrite
  extract_lets +onlyGivenNames y0 y1
  clear_value y0 y1
  extract_lets +onlyGivenNames y2
  refine moves_cut (y := y2) ?_ fun h3 => ?_
  · unfold y2
    exact moves_guards (by decide) <| Moves.refl _ _
  clear_value y2
  refine moves_ite ?_ ?_
  · exact (moves_guardErr).then (by decide) <| h3
  refine moves_ite ?_ ?_
  · exact (moves_lockViol).then (by decide) <| h3
  extract_lets +onlyGivenNames y4
  refine moves_cut (y := y4.1) ?_ fun h5 => ?_
  · unfold y4
    exact (moves_rsvKeep).then (by decide) <| h3
  clear_value y4
  exact (moves_guardedApply).then (by decide) <| h5

theorem moves_nvWrite {x0 x1 e} : Moves 268699196 e (nvWrite x0 x1 e) := by
  unfold nvWrite
  refine moves_ite ?_ ?_
  · exact (moves_lockViol).then (by decide) <| Moves.refl _ _
  refine moves_ite ?_ ?_
  · exact (moves_note).then (by decide) <| Moves.refl _ _
  refine moves_ite ?_ ?_
  · exact (moves_note).then (by decide) <| Moves.refl _ _
  refine moves_ite ?_ ?_
  · exact Moves.refl _ _
  extract_lets +onlyGivenNames y0
  refine moves_cut (y := y0) ?_ fun h1 => ?_
  · unfold y0
    exact (moves_wr).then (by decide) <| Moves.refl _ _
  clear_value y0
  exact moves_nvr (by decide) (fun _ => Nat.le_refl _) <| h1

theorem moves_nvDone {x0 e} : Moves 268715581 e (nvDone x0 e) := by
  unfold nvDone
  split
  · exact Moves.refl _ _
  · rename_i off v _
    extract_lets +onlyGivenNames y
    have h : Moves 268715581 e y := (moves_waitClk).then (by decide) <| Moves.refl _ _
    clear_value y
    extract_lets n src z u
    have hz : Moves 268715581 e z := moves_nvr (by decide) (fun k => by
      show _ ≤ Tbl.get (fun _ => 0) (Tbl.put (fun _ => 0) y.nvr.wear off n) k
      by_cases hk : off = k
      · subst hk; rw [Tbl.get_put_same]; exact Nat.le_succ _
      · rw [Tbl.get_put_ne _ _ _ _ _ hk]) h
    clear_value z
    have hu : Moves 268715581 e u := moves_ite ((moves_note).then (by decide) hz) hz
    exact moves_ite hu ((moves_note).then (by decide) hu)


theorem acts_execNvrProgramDone {x0 x1} : Acts 268715581 (execNvrProgramDone x0 x1) x1 := by
  unfold execNvrProgramDone
  refine Acts.mk fun e => ?_
  exact (moves_nvDone).then (by decide) <| Moves.refl _ _

theorem moves_updMbx {x0 x1 e} : Moves 128 e (updMbx x0 x1 e) := by
  unfold updMbx
  exact moves_mbx (by decide) <| Moves.refl _ _

theorem moves_mbxWrite {x0 x1 x2 e} : Moves 268698812 e (mbxWrite x0 x1 x2 e) := by
  unfold mbxWrite
  refine moves_ite ?_ ?_
  · exact Moves.refl _ _
  refine moves_ite ?_ ?_
  · exact (moves_note).then (by decide) <| Moves.refl _ _
  extract_lets +onlyGivenNames y0
  clear_value y0
  refine moves_ite ?_ ?_
  · exact (moves_updMbx).then (by decide) <| Moves.refl _ _
  exact (moves_updMbx).then (by decide) <| (moves_rsvFlag).then (by decide) <| Moves.refl _ _

theorem moves_marchCtlApply {x0 e} : Moves 1048604 e (marchCtlApply x0 e) := by
  unfold marchCtlApply
  extract_lets +onlyGivenNames y0
  refine moves_cut (y := y0) ?_ fun h1 => ?_
  · unfold y0
    exact (moves_wr).then (by decide) <| Moves.refl _ _
  clear_value y0
  refine moves_ite ?_ ?_
  · exact (moves_marchGo).then (by decide) <| h1
  exact h1

theorem moves_cmdCtlApply {x0 e} : Moves 28 e (cmdCtlApply x0 e) := by
  unfold cmdCtlApply
  extract_lets +onlyGivenNames y0
  refine moves_cut (y := y0) ?_ fun h1 => ?_
  · unfold y0
    exact (moves_wr).then (by decide) <| Moves.refl _ _
  clear_value y0
  refine moves_ite ?_ ?_
  · exact (moves_wrF).then (by decide) <| h1
  exact h1

theorem moves_lrgOff {e} : Moves 335823934 e (lrgOff e) := by
  unfold lrgOff
  extract_lets +onlyGivenNames y0
  have hy0 : ∀ y0_0 y0_1, Moves 335823934 y0_1 (y0 y0_0 y0_1) := by
    intro y0_0 y0_1
    unfold y0
    refine (moves_updRing).then (by decide) <| ?_
    refine moves_ite ?_ ?_
    · exact (moves_passToken).then (by decide) <| Moves.refl _ _
    exact Moves.refl _ _
  clear_value y0
  exact (moves_ringRun).then (by decide) <| (hy0 _ _).then (Nat.or_self _) <| (hy0 _ _).then (Nat.or_self _) <| Moves.refl _ _

theorem moves_lrgModeSet {e} : Moves 67108864 e (lrgModeSet e) := by
  unfold lrgModeSet
  extract_lets +onlyGivenNames y0 y1
  clear_value y0 y1
  exact moves_lrg (by decide) <| Moves.refl _ _

theorem moves_lrgCtlApply {x0 e} : Moves 335823934 e (lrgCtlApply x0 e) := by
  unfold lrgCtlApply
  extract_lets +onlyGivenNames y0 y1 y2 y3
  clear_value y0 y1 y2 y3
  extract_lets +onlyGivenNames y4
  refine moves_cut (y := y4) ?_ fun h5 => ?_
  · unfold y4
    refine moves_ite ?_ ?_
    · exact (moves_note).then (by decide) <| Moves.refl _ _
    exact Moves.refl _ _
  clear_value y4
  extract_lets +onlyGivenNames y6
  refine moves_cut (y := y6) ?_ fun h7 => ?_
  · unfold y6
    refine moves_ite ?_ ?_
    · exact (moves_lrgOff).then (by decide) <| h5
    exact h5
  clear_value y6
  extract_lets +onlyGivenNames y8
  refine moves_cut (y := y8) ?_ fun h9 => ?_
  · unfold y8
    exact (moves_wr).then (by decide) <| h7
  clear_value y8
  extract_lets +onlyGivenNames y10
  clear_value y10
  extract_lets +onlyGivenNames y11
  refine moves_cut (y := y11) ?_ fun h12 => ?_
  · unfold y11
    refine moves_ite ?_ ?_
    · exact moves_lrg (by decide) <| h9
    exact h9
  clear_value y11
  refine moves_ite ?_ ?_
  · exact (moves_lrgModeSet).then (by decide) <| h12
  exact h12

theorem moves_alertCheck {e} : Moves 1024 e (alertCheck e) := by
  unfold alertCheck
  refine moves_ite ?_ ?_
  · exact moves_flt (by decide) id <| Moves.refl _ _
  exact Moves.refl _ _

theorem moves_wakeApply {x0 x1 e} : Moves 536837628 e (wakeApply x0 x1 e) := by
  unfold wakeApply
  refine moves_whenE _ _ (fun e0 => ?_) ?_
  · exact (moves_holdExitNow).then (by decide) <| Moves.refl _ _
  refine moves_whenE _ _ (fun e1 => ?_) ?_
  · exact (moves_wakeNow).then (by decide) <| Moves.refl _ _
  exact Moves.refl _ _

theorem moves_plainApply {x0 x1 x2 x3 e} : Moves 536837630 e (plainApply x0 x1 x2 x3 e) := by
  unfold plainApply
  extract_lets +onlyGivenNames y0
  clear_value y0
  refine moves_ite ?_ ?_
  · exact (moves_marchCtlApply).then (by decide) <| Moves.refl _ _
  refine moves_ite ?_ ?_
  · exact (moves_rfsCtlApply).then (by decide) <| Moves.refl _ _
  refine moves_ite ?_ ?_
  · exact (moves_oneShotGo).then (by decide) <| Moves.refl _ _
  refine moves_ite ?_ ?_
  · exact (moves_refselApply).then (by decide) <| Moves.refl _ _
  refine moves_ite ?_ ?_
  · exact (moves_loopCtlApply).then (by decide) <| Moves.refl _ _
  refine moves_ite ?_ ?_
  · exact (moves_damselApply).then (by decide) <| Moves.refl _ _
  refine moves_ite ?_ ?_
  · exact (moves_wr).then (by decide) <| Moves.refl _ _
  refine moves_ite ?_ ?_
  · refine moves_ite ?_ ?_
    · exact (moves_note).then (by decide) <| Moves.refl _ _
    exact (moves_wr).then (by decide) <| Moves.refl _ _
  refine moves_ite ?_ ?_
  · exact (moves_flumePi).then (by decide) <| Moves.refl _ _
  refine moves_ite ?_ ?_
  · exact (moves_hflagSet).then (by decide) <| Moves.refl _ _
  refine moves_ite ?_ ?_
  · exact (moves_cmdCtlApply).then (by decide) <| Moves.refl _ _
  refine moves_ite ?_ ?_
  · exact (moves_timCtlApply).then (by decide) <| Moves.refl _ _
  refine moves_ite ?_ ?_
  · exact (moves_domCfgApply).then (by decide) <| Moves.refl _ _
  refine moves_ite ?_ ?_
  · exact (moves_lrgCtlApply).then (by decide) <| Moves.refl _ _
  refine moves_ite ?_ ?_
  · exact (moves_wr).then (by decide) <| (moves_shapeCatch).then (by decide) <| Moves.refl _ _
  refine moves_ite ?_ ?_
  · extract_lets +onlyGivenNames y1 y2
    clear_value y1 y2
    refine moves_ite ?_ ?_
    · exact (moves_rxCfgApply).then (by decide) <| Moves.refl _ _
    refine moves_ite ?_ ?_
    · exact (moves_rxHeadApply).then (by decide) <| Moves.refl _ _
    refine moves_ite ?_ ?_
    · exact (moves_note).then (by decide) <| Moves.refl _ _
    exact (moves_wr).then (by decide) <| Moves.refl _ _
  refine moves_ite ?_ ?_
  · exact (moves_tbCtlApply).then (by decide) <| Moves.refl _ _
  refine moves_ite ?_ ?_
  · exact (moves_snapGoApply).then (by decide) <| Moves.refl _ _
  refine moves_ite ?_ ?_
  · exact (moves_wakeApply).then (by decide) <| Moves.refl _ _
  refine moves_ite ?_ ?_
  · exact (moves_alertCheck).then (by decide) <| (moves_clearCause).then (by decide) <| Moves.refl _ _
  refine moves_ite ?_ ?_
  · exact (moves_wr).then (by decide) <| Moves.refl _ _
  refine moves_ite ?_ ?_
  · exact (moves_clearCause).then (by decide) <| Moves.refl _ _
  refine moves_ite ?_ ?_
  · refine (moves_withAttn (by decide) (fun e3 => ?_)).then (Nat.or_self _) ?_
    · exact (moves_wr).then (by decide) <| Moves.refl _ _
    exact Moves.refl _ _
  exact (moves_wr).then (by decide) <| Moves.refl _ _

theorem moves_barWrite {x0 x1 x2 x3 e} : Moves 536838142 e (barWrite x0 x1 x2 x3 e) := by
  unfold barWrite
  split
  · rename_i z0 z1 z2
    exact (moves_armGuard).then (by decide) <| Moves.refl _ _
  · rename_i z3 z4
    split
    · rename_i z5 z6
      exact Moves.refl _ _
    · rename_i z7 z8 z9
      refine moves_ite ?_ ?_
      · exact (moves_mbxWrite).then (by decide) <| Moves.refl _ _
      refine moves_ite ?_ ?_
      · exact (moves_rsvKeep).then (by decide) <| Moves.refl _ _
      refine moves_ite ?_ ?_
      · exact (moves_guardedWrite).then (by decide) <| Moves.refl _ _
      refine moves_ite ?_ ?_
      · refine moves_ite ?_ ?_
        · exact (moves_nvWrite).then (by decide) <| Moves.refl _ _
        extract_lets +onlyGivenNames y10
        refine moves_cut (y := y10.1) ?_ fun h11 => ?_
        · unfold y10
          exact (moves_rsvKeep).then (by decide) <| Moves.refl _ _
        clear_value y10
        exact (moves_nvWrite).then (by decide) <| h11
      extract_lets +onlyGivenNames y12
      refine moves_cut (y := y12.1) ?_ fun h13 => ?_
      · unfold y12
        exact (moves_rsvKeep).then (by decide) <| Moves.refl _ _
      clear_value y12
      exact (moves_plainApply).then (by decide) <| h13

theorem moves_vfWrite {x0 x1 x2 e} : Moves 268698812 e (vfWrite x0 x1 x2 e) := by
  unfold vfWrite
  refine moves_ite ?_ ?_
  · exact (moves_mbxWrite).then (by decide) <| Moves.refl _ _
  refine moves_ite ?_ ?_
  · exact (moves_msixWrite).then (by decide) <| Moves.refl _ _
  exact Moves.refl _ _

theorem moves_pfWrite {x0 x1 x2 e} : Moves 536838142 e (pfWrite x0 x1 x2 e) := by
  unfold pfWrite
  refine moves_ite ?_ ?_
  · exact (moves_barWrite).then (by decide) <| Moves.refl _ _
  refine moves_ite ?_ ?_
  · exact (moves_msixWrite).then (by decide) <| Moves.refl _ _
  exact Moves.refl _ _

theorem moves_busWrite {x0 x1 x2 x3 x4 e} : Moves 536838142 e (busWrite x0 x1 x2 x3 x4 e) := by
  unfold busWrite
  refine moves_ite ?_ ?_
  · exact Moves.refl _ _
  refine moves_ite ?_ ?_
  · refine moves_ite ?_ ?_
    · exact (moves_cfgWrite).then (by decide) <| Moves.refl _ _
    exact Moves.refl _ _
  refine moves_ite ?_ ?_
  · exact Moves.refl _ _
  refine moves_ite ?_ ?_
  · refine moves_ite ?_ ?_
    · exact Moves.refl _ _
    exact (moves_note).then (by decide) <| Moves.refl _ _
  split
  · rename_i z0
    exact (moves_pfWrite).then (by decide) <| Moves.refl _ _
  · rename_i z1 z2
    exact (moves_vfWrite).then (by decide) <| Moves.refl _ _
  · rename_i z3 z4 z5
    exact (moves_barWrite).then (by decide) <| Moves.refl _ _

theorem moves_busDword {x0 x1 x2 e} : Moves 536838142 e (busDword x0 x1 x2 e) := by
  unfold busDword
  exact (moves_busWrite).then (by decide) <| Moves.refl _ _

theorem acts_execSpanWrite {x0 x1 x2} : Acts 536838142 (execSpanWrite x0 x1 x2) x2 := by
  unfold execSpanWrite
  refine Acts.mk fun e => ?_
  exact (moves_busDword).then (by decide) <| Moves.refl _ _

theorem acts_execMarchRun {x0 x1 x2} : Acts 536838142 (execMarchRun x0 x1 x2) x2 := by
  unfold execMarchRun
  refine Acts.mk fun e => ?_
  exact (moves_busDword).then (by decide) <| Moves.refl _ _

theorem acts_execShortRetry {x0 x1 x2 x3} : Acts 536838142 (execShortRetry x0 x1 x2 x3) x3 := by
  unfold execShortRetry
  refine Acts.mk fun e => ?_
  exact (moves_busDword).then (by decide) <| Moves.refl _ _

theorem acts_execIslandRst {x0 x1 x2 x3} : Acts 536838142 (execIslandRst x0 x1 x2 x3) x3 := by
  unfold execIslandRst
  refine Acts.mk fun e => ?_
  exact (moves_busDword).then (by decide) <| Moves.refl _ _

theorem acts_execFltIrst {x0 x1 x2} : Acts 536838142 (execFltIrst x0 x1 x2) x2 := by
  unfold execFltIrst
  refine Acts.mk fun e => ?_
  exact (moves_busDword).then (by decide) <| Moves.refl _ _

theorem acts_execFlumePiWrite {x0 x1 x2} : Acts 536838142 (execFlumePiWrite x0 x1 x2) x2 := by
  unfold execFlumePiWrite
  refine Acts.mk fun e => ?_
  exact (moves_busDword).then (by decide) <| Moves.refl _ _

theorem acts_execForceOwner {x0 x1 x2} : Acts 536838142 (execForceOwner x0 x1 x2) x2 := by
  unfold execForceOwner
  refine Acts.mk fun e => ?_
  exact (moves_busDword).then (by decide) <| Moves.refl _ _

theorem acts_execPeakClr {x0 x1 x2} : Acts 536838142 (execPeakClr x0 x1 x2) x2 := by
  unfold execPeakClr
  refine Acts.mk fun e => ?_
  exact (moves_busDword).then (by decide) <| Moves.refl _ _

theorem acts_execOneShot {x0 x1 x2} : Acts 536838142 (execOneShot x0 x1 x2) x2 := by
  unfold execOneShot
  refine Acts.mk fun e => ?_
  exact (moves_busDword).then (by decide) <| Moves.refl _ _

theorem acts_execRefselWrite {x0 x1 x2 x3} : Acts 536838142 (execRefselWrite x0 x1 x2 x3) x3 := by
  unfold execRefselWrite
  refine Acts.mk fun e => ?_
  refine moves_whenE _ _ (fun e0 => ?_) ?_
  · exact (moves_busDword).then (by decide) <| Moves.refl _ _
  exact Moves.refl _ _

theorem acts_execDamselWrite {x0 x1 x2} : Acts 536838142 (execDamselWrite x0 x1 x2) x2 := by
  unfold execDamselWrite
  refine Acts.mk fun e => ?_
  exact (moves_busDword).then (by decide) <| Moves.refl _ _

theorem acts_execTbPrefWrite {x0 x1 x2} : Acts 536838142 (execTbPrefWrite x0 x1 x2) x2 := by
  unfold execTbPrefWrite
  refine Acts.mk fun e => ?_
  exact (moves_busDword).then (by decide) <| Moves.refl _ _

theorem acts_execWake {x0 x1} : Acts 536838142 (execWake x0 x1) x1 := by
  unfold execWake
  refine Acts.mk fun e => ?_
  exact (moves_busDword).then (by decide) <| Moves.refl _ _

theorem acts_execHoldExit {x0 x1} : Acts 536838142 (execHoldExit x0 x1) x1 := by
  unfold execHoldExit
  refine Acts.mk fun e => ?_
  exact (moves_busDword).then (by decide) <| Moves.refl _ _

theorem acts_execGraveClr {x0 x1 x2} : Acts 536838142 (execGraveClr x0 x1 x2) x2 := by
  unfold execGraveClr
  refine Acts.mk fun e => ?_
  exact (moves_busDword).then (by decide) <| Moves.refl _ _

theorem acts_execSnapGo {x0 x1 x2} : Acts 536838142 (execSnapGo x0 x1 x2) x2 := by
  unfold execSnapGo
  refine Acts.mk fun e => ?_
  exact (moves_busDword).then (by decide) <| Moves.refl _ _

theorem acts_execGuardWrite {x0 x1 x2 x3} : Acts 536838142 (execGuardWrite x0 x1 x2 x3) x3 := by
  unfold execGuardWrite
  refine Acts.mk fun e => ?_
  exact (moves_busDword).then (by decide) <| Moves.refl _ _

theorem acts_execGuardedWrite {x0 x1 x2 x3 x4} : Acts 536838142 (execGuardedWrite x0 x1 x2 x3 x4) x4 := by
  unfold execGuardedWrite
  refine Acts.mk fun e => ?_
  exact (moves_busWrite).then (by decide) <| Moves.refl _ _

theorem acts_execRwpWrite {x0 x1 x2 x3} : Acts 536838142 (execRwpWrite x0 x1 x2 x3) x3 := by
  unfold execRwpWrite
  refine Acts.mk fun e => ?_
  exact (moves_busDword).then (by decide) <| Moves.refl _ _

theorem acts_execDomEnWrite {x0 x1 x2 x3} : Acts 536838142 (execDomEnWrite x0 x1 x2 x3) x3 := by
  unfold execDomEnWrite
  refine Acts.mk fun e => ?_
  exact (moves_busDword).then (by decide) <| Moves.refl _ _

theorem acts_execHwmClr {x0 x1 x2} : Acts 536838142 (execHwmClr x0 x1 x2) x2 := by
  unfold execHwmClr
  refine Acts.mk fun e => ?_
  exact (moves_busDword).then (by decide) <| Moves.refl _ _

theorem acts_execRemapWrite {x0 x1 x2} : Acts 536838142 (execRemapWrite x0 x1 x2) x2 := by
  unfold execRemapWrite
  refine Acts.mk fun e => ?_
  exact (moves_busDword).then (by decide) <| Moves.refl _ _

theorem acts_execHandover {x0 x1 x2} : Acts 536838142 (execHandover x0 x1 x2) x2 := by
  unfold execHandover
  refine Acts.mk fun e => ?_
  exact (moves_busDword).then (by decide) <| Moves.refl _ _

theorem acts_execRxCfgWrite {x0 x1 x2 x3} : Acts 536838142 (execRxCfgWrite x0 x1 x2 x3) x3 := by
  unfold execRxCfgWrite
  refine Acts.mk fun e => ?_
  refine moves_whenE _ _ (fun e0 => ?_) ?_
  · exact (moves_busDword).then (by decide) <| Moves.refl _ _
  exact Moves.refl _ _

theorem acts_execRxHeadWrite {x0 x1 x2 x3} : Acts 536838142 (execRxHeadWrite x0 x1 x2 x3) x3 := by
  unfold execRxHeadWrite
  refine Acts.mk fun e => ?_
  refine moves_whenE _ _ (fun e0 => ?_) ?_
  · exact (moves_busDword).then (by decide) <| Moves.refl _ _
  exact Moves.refl _ _

theorem acts_execRegisterWrite {x0 x1 x2 x3 x4} : Acts 536838142 (execRegisterWrite x0 x1 x2 x3 x4) x4 := by
  unfold execRegisterWrite
  refine Acts.mk fun e => ?_
  exact (moves_busWrite).then (by decide) <| Moves.refl _ _

end Sys2Proof.Machine
end

