-- ==== Sys2Proof/Laws/MovesTime.lean ====
section
/-! SUPPORT. What each operation of Machine/Time.lean can do (`moves_f`). -/

namespace Sys2Proof.Machine

theorem acts_execSyncMsg {x0 x1 x2 x3 x4 x5 x6 x7 x8 x9} : Acts 269239612 (execSyncMsg x0 x1 x2 x3 x4 x5 x6 x7 x8 x9) x9 := by
  unfold execSyncMsg
  refine Acts.mk fun e => ?_
  exact (moves_syncIn).then (by decide) <| Moves.refl _ _

theorem acts_execFollowUp {x0 x1 x2 x3 x4} : Acts 16384 (execFollowUp x0 x1 x2 x3 x4) x4 := by
  unfold execFollowUp
  refine Acts.mk fun e => ?_
  exact (moves_followUpIn).then (by decide) <| Moves.refl _ _

theorem moves_delayReqNow {x0 x1 e} : Moves 335823935 e (delayReqNow x0 x1 e) := by
  unfold delayReqNow
  refine moves_ite ?_ ?_
  · exact Moves.refl _ _
  extract_lets +onlyGivenNames y0
  clear_value y0
  extract_lets +onlyGivenNames y1
  refine moves_cut (y := y1) ?_ fun h2 => ?_
  · unfold y1
    split
    · rename_i z3 z4 z5
      exact (moves_waitClk).then (by decide) <| Moves.refl _ _
    · rename_i z6 z7
      exact Moves.refl _ _
  clear_value y1
  extract_lets +onlyGivenNames y8 y9 y10 y11
  clear_value y8 y9 y10 y11
  extract_lets +onlyGivenNames y12
  refine moves_cut (y := y12) ?_ fun h13 => ?_
  · unfold y12
    exact (moves_updSlotT).then (by decide) <| h2
  clear_value y12
  exact (moves_ringRun).then (by decide) <| (moves_queueFrame).then (by decide) <| h13

theorem acts_execDelayReqSend {x0 x1 x2} : Acts 335823935 (execDelayReqSend x0 x1 x2) x2 := by
  unfold execDelayReqSend
  refine Acts.mk fun e => ?_
  exact (moves_delayReqNow).then (by decide) <| Moves.refl _ _

theorem acts_execDelayResp {x0 x1 x2 x3 x4 x5} : Acts 269239612 (execDelayResp x0 x1 x2 x3 x4 x5) x5 := by
  unfold execDelayResp
  refine Acts.mk fun e => ?_
  exact (moves_delayRespIn).then (by decide) <| Moves.refl _ _

theorem moves_syncTmoNow {x0 e} : Moves 269239613 e (syncTmoNow x0 e) := by
  unfold syncTmoNow
  refine moves_ite ?_ ?_
  · exact Moves.refl _ _
  extract_lets +onlyGivenNames y0
  clear_value y0
  exact (moves_enterHoldover).then (by decide) <| (moves_waitClk).then (by decide) <| Moves.refl _ _

theorem acts_execSyncTmo {x0 x1} : Acts 269239613 (execSyncTmo x0 x1) x1 := by
  unfold execSyncTmo
  refine Acts.mk fun e => ?_
  exact (moves_syncTmoNow).then (by decide) <| Moves.refl _ _

theorem moves_pathHoldEndNow {x0 e} : Moves 16385 e (pathHoldEndNow x0 e) := by
  unfold pathHoldEndNow
  split
  · rename_i z0 z1
    exact Moves.refl _ _
  · rename_i z2 z3 z4
    refine moves_ite ?_ ?_
    · exact Moves.refl _ _
    exact (moves_updSlotT).then (by decide) <| (moves_waitClk).then (by decide) <| Moves.refl _ _

theorem acts_execPathHoldEnd {x0 x1} : Acts 16385 (execPathHoldEnd x0 x1) x1 := by
  unfold execPathHoldEnd
  refine Acts.mk fun e => ?_
  exact (moves_pathHoldEndNow).then (by decide) <| Moves.refl _ _

theorem moves_tsqExpiryNow {e} : Moves 16385 e (tsqExpiryNow e) := by
  unfold tsqExpiryNow
  split
  · rename_i z0 z1
    exact Moves.refl _ _
  · rename_i z2 z3 z4 z5
    exact (moves_tsqPrune).then (by decide) <| (moves_waitClk).then (by decide) <| Moves.refl _ _

theorem acts_execTsqExpiry {x0} : Acts 16385 (execTsqExpiry x0) x0 := by
  unfold execTsqExpiry
  refine Acts.mk fun e => ?_
  exact (moves_tsqExpiryNow).then (by decide) <| Moves.refl _ _

theorem moves_ppsInNow {e} : Moves 16412 e (ppsInNow e) := by
  unfold ppsInNow
  refine moves_ite ?_ ?_
  · exact Moves.refl _ _
  extract_lets +onlyGivenNames y0 y1
  clear_value y0 y1
  extract_lets +onlyGivenNames y2
  refine moves_cut (y := y2) ?_ fun h3 => ?_
  · unfold y2
    exact (moves_wr).then (by decide) <| (moves_wr).then (by decide) <| Moves.refl _ _
  clear_value y2
  extract_lets +onlyGivenNames y4
  extract_lets +onlyGivenNames y5
  refine moves_cut (y := y5) ?_ fun h6 => ?_
  · unfold y5
    exact moves_tim (by decide) id <| h3
  clear_value y5
  extract_lets +onlyGivenNames y7
  clear_value y7
  refine moves_ite ?_ ?_
  · exact h6
  extract_lets +onlyGivenNames y8
  clear_value y8
  exact (moves_servoRun).then (by decide) <| moves_tim (by decide) id <| h6

theorem acts_execPpsIn {x0} : Acts 16412 (execPpsIn x0) x0 := by
  unfold execPpsIn
  refine Acts.mk fun e => ?_
  exact (moves_ppsInNow).then (by decide) <| Moves.refl _ _

theorem moves_syncRiseNow {e} : Moves 331105340 e (syncRiseNow e) := by
  unfold syncRiseNow
  extract_lets +onlyGivenNames y0
  clear_value y0
  extract_lets +onlyGivenNames y1
  extract_lets +onlyGivenNames y2
  refine moves_cut (y := y2) ?_ fun h3 => ?_
  · unfold y2
    exact moves_tim (by decide) id <| Moves.refl _ _
  clear_value y2
  refine moves_ite ?_ ?_
  · exact (moves_frameEdge).then (by decide) <| h3
  exact h3

theorem moves_syncRiseNext {e} : Moves 331105341 e (syncRiseNext e) := by
  unfold syncRiseNext
  extract_lets +onlyGivenNames y0
  clear_value y0
  split
  · rename_i z1 z2
    extract_lets +onlyGivenNames y3
    clear_value y3
    exact (moves_syncRiseNow).then (by decide) <| (moves_waitD).then (by decide) <| Moves.refl _ _
  · rename_i z4 z5 z6
    extract_lets +onlyGivenNames y7
    refine moves_cut (y := y7) ?_ fun h8 => ?_
    · unfold y7
      exact (moves_waitClk).then (by decide) <| Moves.refl _ _
    clear_value y7
    extract_lets +onlyGivenNames y9
    clear_value y9
    refine moves_ite ?_ ?_
    · exact (moves_syncRiseNow).then (by decide) <| (moves_waitClk).then (by decide) <| h8
    exact (moves_syncRiseNow).then (by decide) <| (moves_waitD).then (by decide) <| h8

theorem moves_syncOutNow {e} : Moves 331105341 e (syncOutNow e) := by
  unfold syncOutNow
  refine moves_ite ?_ ?_
  · exact Moves.refl _ _
  refine moves_ite ?_ ?_
  · extract_lets +onlyGivenNames y0
    refine moves_cut (y := y0) ?_ fun h1 => ?_
    · unfold y0
      exact (moves_waitClk).then (by decide) <| Moves.refl _ _
    clear_value y0
    exact moves_tim (by decide) id <| h1
  refine moves_ite ?_ ?_
  · exact (moves_syncRiseNext).then (by decide) <| Moves.refl _ _
  exact Moves.refl _ _

theorem acts_execSyncOutEdge {x0} : Acts 331105341 (execSyncOutEdge x0) x0 := by
  unfold execSyncOutEdge
  refine Acts.mk fun e => ?_
  exact (moves_syncOutNow).then (by decide) <| Moves.refl _ _

theorem moves_ppsUp {e} : Moves 16384 e (ppsUp e) := by
  unfold ppsUp
  exact moves_tim (by decide) id <| Moves.refl _ _

theorem moves_ppsOutNow {e} : Moves 16385 e (ppsOutNow e) := by
  unfold ppsOutNow
  refine moves_ite ?_ ?_
  · exact Moves.refl _ _
  refine moves_ite ?_ ?_
  · extract_lets +onlyGivenNames y0
    refine moves_cut (y := y0) ?_ fun h1 => ?_
    · unfold y0
      exact (moves_waitClk).then (by decide) <| Moves.refl _ _
    clear_value y0
    exact moves_tim (by decide) id <| h1
  refine moves_ite ?_ ?_
  · exact (moves_ppsUp).then (by decide) <| (moves_waitD).then (by decide) <| Moves.refl _ _
  exact Moves.refl _ _

theorem acts_execPpsOutEdge {x0} : Acts 16385 (execPpsOutEdge x0) x0 := by
  unfold execPpsOutEdge
  refine Acts.mk fun e => ?_
  exact (moves_ppsOutNow).then (by decide) <| Moves.refl _ _

theorem moves_timeSet {x0 e} : Moves 269239613 e (timeSet x0 e).1 := by
  unfold timeSet
  extract_lets +onlyGivenNames y0 y1
  clear_value y0 y1
  refine moves_ite1 ?_ ?_
  · exact moves_mk1 <| Moves.refl _ _
  extract_lets +onlyGivenNames y2
  clear_value y2
  extract_lets +onlyGivenNames y3
  refine moves_cut (y := y3) ?_ fun h4 => ?_
  · unfold y3
    exact (moves_waitD).then (by decide) <| Moves.refl _ _
  clear_value y3
  extract_lets +onlyGivenNames y5
  clear_value y5
  refine moves_ite1 ?_ ?_
  · exact moves_mk1 <| (moves_note).then (by decide) <| h4
  extract_lets +onlyGivenNames y6
  extract_lets +onlyGivenNames y7
  refine moves_cut (y := y7) ?_ fun h8 => ?_
  · unfold y7
    exact (moves_updSlotT).then (by decide) <| moves_tim (by decide) id <| h4
  clear_value y7
  exact moves_mk1 <| (moves_dStep).then (by decide) <| h8

end Sys2Proof.Machine
end

