-- ==== Sys2Proof/Laws/MovesMailbox.lean ====
section
/-! SUPPORT. What each operation of Machine/Mailbox.lean can do (`moves_f`). -/

namespace Sys2Proof.Machine

theorem moves_mbxRun {x0 e} : Moves 269239741 e (mbxRun x0 e) := by
  unfold mbxRun
  extract_lets +onlyGivenNames y0 y1 y2 y3
  clear_value y0 y1 y2 y3
  refine moves_ite ?_ ?_
  · exact (moves_updMbx).then (by decide) <| Moves.refl _ _
  refine moves_ite ?_ ?_
  · extract_lets +onlyGivenNames y4
    refine moves_cut (y := y4.1) ?_ fun h5 => ?_
    · unfold y4
      exact (moves_timeSet).then (by decide) <| Moves.refl _ _
    clear_value y4
    exact (moves_updMbx).then (by decide) <| h5
  refine moves_ite ?_ ?_
  · exact (moves_updMbx).then (by decide) <| (moves_wr).then (by decide) <| Moves.refl _ _
  exact (moves_updMbx).then (by decide) <| Moves.refl _ _

theorem moves_mbxFinish {e} : Moves 269239741 e (mbxFinish e) := by
  unfold mbxFinish
  refine moves_each _ _ _ (fun x0 e1 => ?_) ?_
  · exact (moves_mbxRun).then (by decide) <| Moves.refl _ _
  exact Moves.refl _ _

theorem moves_mbxOp {x0 x1 x2 x3 x4 e} : Moves 269239741 e (mbxOp x0 x1 x2 x3 x4 e) := by
  unfold mbxOp
  extract_lets +onlyGivenNames y0
  clear_value y0
  refine moves_ite ?_ ?_
  · exact Moves.refl _ _
  refine moves_ite ?_ ?_
  · exact (moves_note).then (by decide) <| Moves.refl _ _
  exact (moves_mbxRun).then (by decide) <| (moves_updMbx).then (by decide) <| Moves.refl _ _

theorem acts_execTime {x0 x1 x2 x3 x4} : Acts 269239741 (execTime x0 x1 x2 x3 x4) x4 := by
  unfold execTime
  refine Acts.mk fun e => ?_
  exact (moves_mbxOp).then (by decide) <| Moves.refl _ _

theorem acts_execTimeSlot {x0 x1 x2 x3 x4} : Acts 269239741 (execTimeSlot x0 x1 x2 x3 x4) x4 := by
  unfold execTimeSlot
  refine Acts.mk fun e => ?_
  exact (moves_mbxOp).then (by decide) <| Moves.refl _ _

theorem acts_execTimeSet {x0 x1 x2 x3 x4} : Acts 269239741 (execTimeSet x0 x1 x2 x3 x4) x4 := by
  unfold execTimeSet
  refine Acts.mk fun e => ?_
  exact (moves_mbxOp).then (by decide) <| Moves.refl _ _

theorem acts_execTsq {x0 x1 x2 x3 x4} : Acts 269239741 (execTsq x0 x1 x2 x3 x4) x4 := by
  unfold execTsq
  refine Acts.mk fun e => ?_
  exact (moves_mbxOp).then (by decide) <| Moves.refl _ _

theorem acts_execXactEpoch {x0 x1 x2 x3 x4} : Acts 269239741 (execXactEpoch x0 x1 x2 x3 x4) x4 := by
  unfold execXactEpoch
  refine Acts.mk fun e => ?_
  exact (moves_mbxOp).then (by decide) <| Moves.refl _ _

theorem acts_execXactMapEpoch {x0 x1 x2 x3 x4} : Acts 269239741 (execXactMapEpoch x0 x1 x2 x3 x4) x4 := by
  unfold execXactMapEpoch
  refine Acts.mk fun e => ?_
  exact (moves_mbxOp).then (by decide) <| Moves.refl _ _

theorem acts_execDmaFault {x0 x1 x2 x3 x4} : Acts 269239741 (execDmaFault x0 x1 x2 x3 x4) x4 := by
  unfold execDmaFault
  refine Acts.mk fun e => ?_
  exact (moves_mbxOp).then (by decide) <| Moves.refl _ _

theorem acts_execSnapInfo {x0 x1 x2 x3 x4} : Acts 269239741 (execSnapInfo x0 x1 x2 x3 x4) x4 := by
  unfold execSnapInfo
  refine Acts.mk fun e => ?_
  exact (moves_mbxOp).then (by decide) <| Moves.refl _ _

theorem acts_execSnapReg {x0 x1 x2 x3 x4} : Acts 269239741 (execSnapReg x0 x1 x2 x3 x4) x4 := by
  unfold execSnapReg
  refine Acts.mk fun e => ?_
  exact (moves_mbxOp).then (by decide) <| Moves.refl _ _

theorem acts_execCntPreset {x0 x1 x2 x3 x4} : Acts 269239741 (execCntPreset x0 x1 x2 x3 x4) x4 := by
  unfold execCntPreset
  refine Acts.mk fun e => ?_
  exact (moves_mbxOp).then (by decide) <| Moves.refl _ _

end Sys2Proof.Machine
end

