-- ==== Sys2Proof/Laws/MovesPins.lean ====
section
/-! SUPPORT. What each operation of Machine/Pins.lean can do (`moves_f`). -/

namespace Sys2Proof.Machine

theorem moves_smbSend {x0 e} : Moves 268435456 e (smbSend x0 e) := by
  unfold smbSend
  exact (moves_emit).then (by decide) <| Moves.refl _ _

theorem moves_smbWrite {w : Nat} {x0 f1 e} (hw : 268435456 ||| w = w) (hf1 : ∀ e, Moves w e (f1 e)) :
    Moves w e (smbWrite x0 f1 e) := by
  unfold smbWrite
  split
  · rename_i z0
    refine moves_ite ?_ ?_
    · exact (moves_emit).then (subMask hw (by decide)) <| Moves.refl _ _
    exact (hf1 _).then (Nat.or_self _) <| Moves.refl _ _
  · rename_i z1 z2
    refine moves_ite ?_ ?_
    · exact (hf1 _).then (Nat.or_self _) <| Moves.refl _ _
    exact Moves.refl _ _

theorem moves_smbRead {w : Nat} {x0 f1 e} (hw : 268435456 ||| w = w) (hf1 : ∀ e, Moves w e (f1 e)) :
    Moves w e (smbRead x0 f1 e) := by
  unfold smbRead
  refine moves_ite ?_ ?_
  · exact (moves_emit).then (subMask hw (by decide)) <| Moves.refl _ _
  exact (hf1 _).then (Nat.or_self _) <| Moves.refl _ _

theorem acts_execIdent {x0} : Acts 268435456 (execIdent x0) x0 := by
  unfold execIdent
  refine Acts.mk fun e => ?_
  refine moves_whenE _ _ (fun e0 => ?_) ?_
  · refine (moves_smbRead (by decide) (fun e1 => ?_)).then (Nat.or_self _) ?_
    · exact (moves_smbSend).then (by decide) <| Moves.refl _ _
    exact Moves.refl _ _
  exact Moves.refl _ _

theorem acts_execStraps {x0} : Acts 268435456 (execStraps x0) x0 := by
  unfold execStraps
  refine Acts.mk fun e => ?_
  refine moves_whenE _ _ (fun e0 => ?_) ?_
  · refine (moves_smbRead (by decide) (fun e1 => ?_)).then (Nat.or_self _) ?_
    · exact (moves_smbSend).then (by decide) <| Moves.refl _ _
    exact Moves.refl _ _
  exact Moves.refl _ _

theorem moves_smbPoint {x0 e} : Moves 32768 e (smbPoint x0 e) := by
  unfold smbPoint
  refine moves_ite ?_ ?_
  · exact Moves.refl _ _
  exact moves_pins (by decide) <| Moves.refl _ _

theorem acts_execRegAddr {x0 x1 x2} : Acts 268468224 (execRegAddr x0 x1 x2) x2 := by
  unfold execRegAddr
  refine Acts.mk fun e => ?_
  refine moves_ite ?_ ?_
  · exact Moves.refl _ _
  split
  · rename_i z0 z1
    refine moves_ite ?_ ?_
    · exact (moves_emit).then (by decide) <| Moves.refl _ _
    refine (moves_smbWrite (by decide) (fun e2 => ?_)).then (Nat.or_self _) ?_
    · exact (moves_smbPoint).then (by decide) <| Moves.refl _ _
    exact Moves.refl _ _
  · rename_i z3
    refine (moves_smbRead (by decide) (fun e4 => ?_)).then (Nat.or_self _) ?_
    · exact (moves_smbSend).then (by decide) <| Moves.refl _ _
    exact Moves.refl _ _

theorem moves_smbReg {e} : Moves 268436482 e (smbReg e) := by
  unfold smbReg
  extract_lets +onlyGivenNames y0
  clear_value y0
  extract_lets +onlyGivenNames y1
  refine moves_cut (y := y1) ?_ fun h2 => ?_
  · unfold y1
    exact (moves_smbSend).then (by decide) <| Moves.refl _ _
  clear_value y1
  extract_lets +onlyGivenNames y3
  clear_value y3
  extract_lets +onlyGivenNames y4
  extract_lets +onlyGivenNames y5
  refine moves_cut (y := y5) ?_ fun h6 => ?_
  · unfold y5
    refine moves_ite ?_ ?_
    · exact moves_flt (by decide) id <| h2
    exact h2
  clear_value y5
  refine moves_ite ?_ ?_
  · exact (moves_useFree).then (by decide) <| h6
  exact h6

theorem acts_execRegData {x0 x1 x2} : Acts 536838142 (execRegData x0 x1 x2) x2 := by
  unfold execRegData
  refine Acts.mk fun e => ?_
  refine moves_ite ?_ ?_
  · exact Moves.refl _ _
  split
  · rename_i z0 z1
    refine (moves_smbWrite (by decide) (fun e2 => ?_)).then (Nat.or_self _) ?_
    · exact (moves_busDword).then (by decide) <| Moves.refl _ _
    exact Moves.refl _ _
  · rename_i z3
    refine (moves_smbRead (by decide) (fun e4 => ?_)).then (Nat.or_self _) ?_
    · exact (moves_smbReg).then (by decide) <| Moves.refl _ _
    exact Moves.refl _ _

theorem moves_smbNext {e} : Moves 268469250 e (smbNext e) := by
  unfold smbNext
  extract_lets +onlyGivenNames y0
  refine moves_cut (y := y0) ?_ fun h1 => ?_
  · unfold y0
    exact (moves_smbReg).then (by decide) <| Moves.refl _ _
  clear_value y0
  exact moves_pins (by decide) <| h1

theorem acts_execRegNext {x0} : Acts 268469250 (execRegNext x0) x0 := by
  unfold execRegNext
  refine Acts.mk fun e => ?_
  refine moves_whenE _ _ (fun e0 => ?_) ?_
  · refine (moves_smbRead (by decide) (fun e1 => ?_)).then (Nat.or_self _) ?_
    · exact (moves_smbNext).then (by decide) <| Moves.refl _ _
    exact Moves.refl _ _
  exact Moves.refl _ _

theorem acts_execAlertResponse {x0} : Acts 268436480 (execAlertResponse x0) x0 := by
  unfold execAlertResponse
  refine Acts.mk fun e => ?_
  refine moves_ite ?_ ?_
  · extract_lets +onlyGivenNames y0
    refine moves_cut (y := y0) ?_ fun h1 => ?_
    · unfold y0
      exact (moves_smbSend).then (by decide) <| Moves.refl _ _
    clear_value y0
    exact moves_flt (by decide) id <| h1
  exact Moves.refl _ _

theorem moves_loadIr {x0 e} : Moves 32768 e (loadIr x0 e) := by
  unfold loadIr
  exact moves_pins (by decide) <| Moves.refl _ _

theorem moves_tapBypass {e} : Moves 268435456 e (tapBypass e) := by
  unfold tapBypass
  exact (moves_emit).then (by decide) <| Moves.refl _ _

theorem moves_tapCapture {e} : Moves 268435458 e (tapCapture e) := by
  unfold tapCapture
  exact (moves_useFree).then (by decide) <| (moves_emit).then (by decide) <| Moves.refl _ _

theorem acts_execJtagBypass {x0} : Acts 268468224 (execJtagBypass x0) x0 := by
  unfold execJtagBypass
  refine Acts.mk fun e => ?_
  refine moves_whenE _ _ (fun e0 => ?_) ?_
  · exact (moves_tapBypass).then (by decide) <| (moves_loadIr).then (by decide) <| Moves.refl _ _
  exact Moves.refl _ _

theorem acts_execIdcode {x0} : Acts 268468224 (execIdcode x0) x0 := by
  unfold execIdcode
  refine Acts.mk fun e => ?_
  refine moves_whenE _ _ (fun e0 => ?_) ?_
  · exact (moves_emit).then (by decide) <| (moves_loadIr).then (by decide) <| Moves.refl _ _
  exact Moves.refl _ _

theorem acts_execSamplePreload {x0 x1} : Acts 268468226 (execSamplePreload x0 x1) x1 := by
  unfold execSamplePreload
  refine Acts.mk fun e => ?_
  refine moves_whenE _ _ (fun e0 => ?_) ?_
  · extract_lets +onlyGivenNames y1
    refine moves_cut (y := y1) ?_ fun h2 => ?_
    · unfold y1
      exact (moves_tapCapture).then (by decide) <| (moves_loadIr).then (by decide) <| Moves.refl _ _
    clear_value y1
    exact moves_pins (by decide) <| h2
  exact Moves.refl _ _

theorem acts_execExtest {x0} : Acts 268468226 (execExtest x0) x0 := by
  unfold execExtest
  refine Acts.mk fun e => ?_
  refine moves_whenE _ _ (fun e0 => ?_) ?_
  · extract_lets +onlyGivenNames y1
    refine moves_cut (y := y1) ?_ fun h2 => ?_
    · unfold y1
      exact (moves_loadIr).then (by decide) <| Moves.refl _ _
    clear_value y1
    refine moves_ite ?_ ?_
    · exact (moves_tapCapture).then (by decide) <| h2
    exact (moves_tapBypass).then (by decide) <| h2
  exact Moves.refl _ _

theorem acts_execClamp {x0} : Acts 268468224 (execClamp x0) x0 := by
  unfold execClamp
  refine Acts.mk fun e => ?_
  refine moves_whenE _ _ (fun e0 => ?_) ?_
  · exact (moves_tapBypass).then (by decide) <| (moves_loadIr).then (by decide) <| Moves.refl _ _
  exact Moves.refl _ _

theorem acts_execHighz {x0} : Acts 268468224 (execHighz x0) x0 := by
  unfold execHighz
  refine Acts.mk fun e => ?_
  refine moves_whenE _ _ (fun e0 => ?_) ?_
  · exact (moves_tapBypass).then (by decide) <| (moves_loadIr).then (by decide) <| Moves.refl _ _
  exact Moves.refl _ _

theorem acts_execTrstN {x0 x1} : Acts 32796 (execTrstN x0 x1) x1 := by
  unfold execTrstN
  refine Acts.mk fun e => ?_
  refine moves_ite ?_ ?_
  · exact (moves_releaseMaster).then (by decide) <| moves_pins (by decide) <| Moves.refl _ _
  exact moves_pins (by decide) <| Moves.refl _ _

end Sys2Proof.Machine
end

