-- ==== Sys2Proof/Laws/MovesSluice.lean ====
section
/-! SUPPORT. What each operation of Machine/Sluice.lean can do (`moves_f`). -/

namespace Sys2Proof.Machine

theorem moves_sluiceMiss {x0 e} : Moves 268698684 e (sluiceMiss x0 e) := by
  unfold sluiceMiss
  exact (moves_inc).then (by decide) <| (moves_noteTile).then (by decide) <| Moves.refl _ _

theorem moves_repairJobs {x0 x1 x2 e} : Moves 269222972 e (repairJobs x0 x1 x2 e) := by
  unfold repairJobs
  extract_lets +onlyGivenNames y0 y1
  clear_value y0 y1
  extract_lets +onlyGivenNames y2
  refine moves_cut (y := y2.1) ?_ fun h3 => ?_
  · unfold y2
    exact (moves_ownRecs).then (by decide) <| Moves.refl _ _
  clear_value y2
  extract_lets +onlyGivenNames y4
  refine moves_cut (y := y4) ?_ fun h5 => ?_
  · unfold y4
    refine moves_ite ?_ ?_
    · exact Moves.refl _ _
    exact (moves_addNow).then (by decide) <| h3
  clear_value y4
  refine moves_ite ?_ ?_
  · exact h5
  extract_lets +onlyGivenNames y6
  refine moves_cut (y := y6.1) ?_ fun h7 => ?_
  · unfold y6
    exact (moves_ownRecs).then (by decide) <| h5
  clear_value y6
  exact (moves_addNow).then (by decide) <| h7

theorem moves_entryPairs {x0 x1 x2 x3 e} : Moves 524288 e (entryPairs x0 x1 x2 x3 e) := by
  unfold entryPairs
  refine moves_ite ?_ ?_
  · refine moves_each _ _ _ (fun x0 e1 => ?_) ?_
    · exact (moves_setPair).then (by decide) <| Moves.refl _ _
    exact Moves.refl _ _
  refine moves_ite ?_ ?_
  · refine moves_each _ _ _ (fun x2 e3 => ?_) ?_
    · exact (moves_setPair).then (by decide) <| Moves.refl _ _
    exact Moves.refl _ _
  exact (moves_setPair).then (by decide) <| (moves_setPair).then (by decide) <| Moves.refl _ _

theorem moves_commitSluice {x0 x1 x2 e} : Moves 471798844 e (commitSluice x0 x1 x2 e) := by
  unfold commitSluice
  split
  · rename_i z0 z1
    exact Moves.refl _ _
  · rename_i z2 z3 z4
    extract_lets +onlyGivenNames y5 y6
    clear_value y5 y6
    extract_lets +onlyGivenNames y7
    refine moves_cut (y := y7) ?_ fun h8 => ?_
    · unfold y7
      refine moves_each _ _ _ (fun x9 e10 => ?_) ?_
      · exact (moves_entryPairs).then (by decide) <| Moves.refl _ _
      exact Moves.refl _ _
    clear_value y7
    extract_lets +onlyGivenNames y11 y12 y13
    clear_value y11 y12 y13
    extract_lets +onlyGivenNames y14
    refine moves_cut (y := y14) ?_ fun h15 => ?_
    · unfold y14
      exact (moves_addC).then (by decide) <| (moves_inc).then (by decide) <| (moves_advanceEpoch).then (by decide) <| h8
    clear_value y14
    extract_lets +onlyGivenNames y16
    refine moves_cut (y := y16) ?_ fun h17 => ?_
    · unfold y16
      exact (moves_closeTxn).then (by decide) <| h15
    clear_value y16
    extract_lets +onlyGivenNames y18
    clear_value y18
    extract_lets +onlyGivenNames y19
    refine moves_cut (y := y19) ?_ fun h20 => ?_
    · unfold y19
      refine moves_ite ?_ ?_
      · exact moves_thm (by decide) <| h17
      exact h17
    clear_value y19
    extract_lets +onlyGivenNames y21
    refine moves_cut (y := y21) ?_ fun h22 => ?_
    · unfold y21
      refine moves_ite ?_ ?_
      · exact (moves_note).then (by decide) <| h20
      exact h20
    clear_value y21
    extract_lets +onlyGivenNames y23
    clear_value y23
    refine moves_ite ?_ ?_
    · refine (moves_repairJobs).then (by decide) <| moves_each _ _ _ (fun x24 e25 => ?_) ?_
      · exact (moves_updPort).then (by decide) <| Moves.refl _ _
      exact h22
    split
    · rename_i z26 z27
      exact (moves_completeAt).then (by decide) <| h22
    · rename_i z28
      exact h22

theorem moves_parkEpoch {x0 x1 e} : Moves 269227068 e (parkEpoch x0 x1 e) := by
  unfold parkEpoch
  extract_lets +onlyGivenNames y0
  clear_value y0
  extract_lets +onlyGivenNames y1
  refine moves_cut (y := y1) ?_ fun h2 => ?_
  · unfold y1
    refine moves_each _ _ _ (fun x3 e4 => ?_) ?_
    · exact (moves_setPair).then (by decide) <| Moves.refl _ _
    exact (moves_notAwaiting).then (by decide) <| Moves.refl _ _
  clear_value y1
  refine (moves_advanceEpoch).then (by decide) <| moves_each _ _ _ (fun x5 e6 => ?_) ?_
  · exact (moves_setPair).then (by decide) <| Moves.refl _ _
  exact h2

theorem moves_parkSluice {x0 x1 x2 x3 x4 e} : Moves 470750268 e (parkSluice x0 x1 x2 x3 x4 e) := by
  unfold parkSluice
  extract_lets +onlyGivenNames y0
  refine moves_cut (y := y0) ?_ fun h1 => ?_
  · unfold y0
    exact (moves_parkEpoch).then (by decide) <| Moves.refl _ _
  clear_value y0
  extract_lets +onlyGivenNames y2
  clear_value y2
  refine moves_ite ?_ ?_
  · exact (moves_repairJobs).then (by decide) <| h1
  split
  · rename_i z3 z4
    exact (moves_completeAt).then (by decide) <| h1
  · rename_i z5
    exact h1

theorem moves_repairSluice {x0 x1 x2 x3 x4 e} : Moves 470750268 e (repairSluice x0 x1 x2 x3 x4 e) := by
  unfold repairSluice
  extract_lets +onlyGivenNames y0
  clear_value y0
  extract_lets +onlyGivenNames y1
  refine moves_cut (y := y1) ?_ fun h2 => ?_
  · unfold y1
    exact (moves_parkEpoch).then (by decide) <| (moves_notAwaiting).then (by decide) <| Moves.refl _ _
  clear_value y1
  refine moves_ite ?_ ?_
  · exact (moves_repairJobs).then (by decide) <| h2
  split
  · rename_i z3 z4
    exact (moves_completeAt).then (by decide) <| h2
  · rename_i z5
    exact h2

theorem moves_entrySluiced {e} : Moves 470223932 e (entrySluiced e) := by
  unfold entrySluiced
  split
  · rename_i z0 z1 z2
    refine moves_ite ?_ ?_
    · exact Moves.refl _ _
    refine moves_ite ?_ ?_
    · exact (moves_setModeDone).then (by decide) <| moves_sys (by decide) rfl <| Moves.refl _ _
    exact (moves_setModeDone).then (by decide) <| (moves_toMode).then (by decide) <| Moves.refl _ _
  · rename_i z3 z4
    exact Moves.refl _ _

theorem moves_resynthSluice {x0 e} : Moves 536837180 e (resynthSluice x0 e) := by
  unfold resynthSluice
  extract_lets +onlyGivenNames y0
  clear_value y0
  extract_lets +onlyGivenNames y1
  refine moves_cut (y := y1) ?_ fun h2 => ?_
  · unfold y1
    exact moves_bkp (by decide) <| Moves.refl _ _
  clear_value y1
  extract_lets +onlyGivenNames y3
  refine moves_cut (y := y3) ?_ fun h4 => ?_
  · unfold y3
    refine moves_ite ?_ ?_
    · exact h2
    exact (moves_note).then (by decide) <| (moves_parkEpoch).then (by decide) <| h2
  clear_value y3
  exact (moves_resumeSetMode).then (by decide) <| h4

theorem moves_slotPairs {x0 x1 e} : Moves 269227068 e (slotPairs x0 x1 e) := by
  unfold slotPairs
  extract_lets +onlyGivenNames y0 y1 y2 y3 y4
  clear_value y0 y1 y2 y3 y4
  refine (moves_advanceEpoch).then (by decide) <| moves_each _ _ _ (fun x5 e6 => ?_) ?_
  · exact (moves_setPair).then (by decide) <| Moves.refl _ _
  exact Moves.refl _ _

theorem moves_slotSluice {x0 x1 e} : Moves 505353276 e (slotSluice x0 x1 e) := by
  unfold slotSluice
  extract_lets +onlyGivenNames y0
  refine moves_cut (y := y0) ?_ fun h1 => ?_
  · unfold y0
    exact (moves_slotPairs).then (by decide) <| Moves.refl _ _
  clear_value y0
  extract_lets +onlyGivenNames y2 y3
  clear_value y2 y3
  extract_lets +onlyGivenNames y4
  refine moves_cut (y := y4) ?_ fun h5 => ?_
  · unfold y4
    refine moves_ite ?_ ?_
    · exact h1
    exact (moves_note).then (by decide) <| h1
  clear_value y4
  extract_lets +onlyGivenNames y6
  refine moves_cut (y := y6) ?_ fun h7 => ?_
  · unfold y6
    refine moves_ite ?_ ?_
    · exact h5
    refine (moves_repairJobs).then (by decide) <| moves_each _ _ _ (fun x8 e9 => ?_) ?_
    · exact (moves_updPort).then (by decide) <| Moves.refl _ _
    exact h5
  clear_value y6
  split
  · rename_i z10 z11 z12 z13
    refine moves_ite ?_ ?_
    · exact (moves_enterBoundary).then (by decide) <| h7
    exact h7
  · rename_i z14 z15
    exact h7

theorem moves_ownerSluice {x0 x1 e} : Moves 536837182 e (ownerSluice x0 x1 e) := by
  unfold ownerSluice
  extract_lets +onlyGivenNames y0
  clear_value y0
  split
  · rename_i z1 z2 z3
    exact (moves_commitSluice).then (by decide) <| Moves.refl _ _
  · rename_i z4 z5
    exact (moves_entrySluiced).then (by decide) <| Moves.refl _ _
  · rename_i z6 z7 z8
    exact (moves_parkSluice).then (by decide) <| Moves.refl _ _
  · rename_i z9 z10 z11
    exact (moves_repairSluice).then (by decide) <| (moves_inc).then (by decide) <| Moves.refl _ _
  · rename_i z12 z13
    exact (moves_repairSluice).then (by decide) <| (moves_inc).then (by decide) <| Moves.refl _ _
  · rename_i z14 z15 z16 z17
    exact (moves_surveySluiced).then (by decide) <| Moves.refl _ _
  · rename_i z18 z19
    exact (moves_resynthSluice).then (by decide) <| Moves.refl _ _
  · rename_i z20 z21
    exact (moves_slotSluice).then (by decide) <| Moves.refl _ _

theorem moves_copyAll {x0 e} : Moves 492766268 e (copyAll x0 e) := by
  unfold copyAll
  extract_lets +onlyGivenNames y0
  clear_value y0
  extract_lets +onlyGivenNames y1
  refine moves_cut (y := y1) ?_ fun h2 => ?_
  · unfold y1
    refine moves_each _ _ _ (fun x3 e4 => ?_) ?_
    · exact (moves_copyAper).then (by decide) <| (moves_allWritten).then (by decide) <| Moves.refl _ _
    exact Moves.refl _ _
  clear_value y1
  refine moves_ite ?_ ?_
  · exact moves_bkp (by decide) <| h2
  exact h2

theorem moves_openTick {x0 e} : Moves 536837439 e (openTick x0 e) := by
  unfold openTick
  extract_lets +onlyGivenNames y0
  refine moves_cut (y := y0) ?_ fun h1 => ?_
  · unfold y0
    refine moves_each _ _ _ (fun x2 e3 => ?_) ?_
    · exact (moves_checkNow).then (by decide) <| Moves.refl _ _
    exact Moves.refl _ _
  clear_value y0
  extract_lets +onlyGivenNames y4
  refine moves_cut (y := y4) ?_ fun h5 => ?_
  · unfold y4
    exact (moves_waitD).then (by decide) <| (moves_snapBefore).then (by decide) <| (moves_passQuiet).then (by decide) <| h1
  clear_value y4
  extract_lets +onlyGivenNames y6
  clear_value y6
  refine moves_ite ?_ ?_
  · exact h5
  extract_lets +onlyGivenNames y7 y8
  clear_value y7 y8
  extract_lets +onlyGivenNames y9
  refine moves_cut (y := y9) ?_ fun h10 => ?_
  · unfold y9
    exact moves_xact (by decide) <| h5
  clear_value y9
  extract_lets +onlyGivenNames y11
  refine moves_cut (y := y11) ?_ fun h12 => ?_
  · unfold y11
    refine moves_ite ?_ ?_
    · exact (moves_learn).then (by decide) <| h10
    exact h10
  clear_value y11
  extract_lets +onlyGivenNames y13
  refine moves_cut (y := y13) ?_ fun h14 => ?_
  · unfold y13
    refine moves_each _ _ _ (fun x15 e16 => ?_) ?_
    · exact (moves_sluiceMiss).then (by decide) <| Moves.refl _ _
    refine moves_each _ _ _ (fun x17 e18 => ?_) ?_
    · refine moves_each _ _ _ (fun x19 e20 => ?_) ?_
      · exact (moves_sluiceMiss).then (by decide) <| Moves.refl _ _
      exact Moves.refl _ _
    exact h12
  clear_value y13
  extract_lets +onlyGivenNames y21
  clear_value y21
  extract_lets +onlyGivenNames y22
  refine moves_cut (y := y22) ?_ fun h23 => ?_
  · unfold y22
    exact (moves_inc).then (by decide) <| (moves_copyAll).then (by decide) <| h14
  clear_value y22
  extract_lets +onlyGivenNames y24
  refine moves_cut (y := y24) ?_ fun h25 => ?_
  · unfold y24
    refine moves_each _ _ _ (fun x26 e27 => ?_) ?_
    · exact (moves_ownerSluice).then (by decide) <| Moves.refl _ _
    exact h23
  clear_value y24
  exact (moves_waitD).then (by decide) <| (moves_updStation).then (by decide) <| (moves_startReloads).then (by decide) <| h25

theorem moves_sluiceNow {e} : Moves 536837439 e (sluiceNow e) := by
  unfold sluiceNow
  split
  · rename_i z0 z1 z2
    refine (moves_mapStep (by decide) (fun e3 => ?_)).then (Nat.or_self _) ?_
    · exact (moves_openTick).then (by decide) <| Moves.refl _ _
    exact Moves.refl _ _
  · rename_i z4 z5
    exact Moves.refl _ _

theorem acts_execSluice {x0} : Acts 536837439 (execSluice x0) x0 := by
  unfold execSluice
  refine Acts.mk fun e => ?_
  refine (moves_settled (by decide) (fun e0 => ?_)).then (Nat.or_self _) ?_
  · exact (moves_sluiceNow).then (by decide) <| Moves.refl _ _
  exact Moves.refl _ _

theorem moves_rewriteTile {x0 e} : Moves 475464764 e (rewriteTile x0 e) := by
  unfold rewriteTile
  extract_lets +onlyGivenNames y0
  clear_value y0
  refine moves_each _ _ _ (fun x1 e2 => ?_) ?_
  · exact (moves_updAper).then (by decide) <| (moves_allWritten).then (by decide) <| Moves.refl _ _
  exact Moves.refl _ _

theorem moves_lateReparks {x0 e} : Moves 492788797 e (lateReparks x0 e) := by
  unfold lateReparks
  refine moves_each _ _ _ (fun x0 e1 => ?_) ?_
  · exact (moves_runPass).then (by decide) <| (moves_updAper).then (by decide) <| Moves.refl _ _
  exact Moves.refl _ _

theorem moves_islandResetEndNow {x0 x1 e} : Moves 492788797 e (islandResetEndNow x0 x1 e) := by
  unfold islandResetEndNow
  refine moves_ite ?_ ?_
  · exact Moves.refl _ _
  extract_lets +onlyGivenNames y0
  clear_value y0
  extract_lets +onlyGivenNames y1
  refine moves_cut (y := y1) ?_ fun h2 => ?_
  · unfold y1
    exact (moves_marchEv).then (by decide) <| (moves_updTile).then (by decide) <| Moves.refl _ _
  clear_value y1
  extract_lets +onlyGivenNames y3
  extract_lets +onlyGivenNames y4
  refine moves_cut (y := y4) ?_ fun h5 => ?_
  · unfold y4
    refine moves_ite ?_ ?_
    · exact moves_flt (by decide) id <| h2
    exact h2
  clear_value y4
  refine (moves_startReloads).then (by decide) <| ?_
  refine moves_ite ?_ ?_
  · exact h5
  exact (moves_lateReparks).then (by decide) <| (moves_fsEvents).then (by decide) <| (moves_rewriteTile).then (by decide) <| h5

theorem acts_execIslandResetEnd {x0 x1 x2} : Acts 536837437 (execIslandResetEnd x0 x1 x2) x2 := by
  unfold execIslandResetEnd
  refine Acts.mk fun e => ?_
  refine (moves_settled (by decide) (fun e0 => ?_)).then (Nat.or_self _) ?_
  · exact (moves_islandResetEndNow).then (by decide) <| Moves.refl _ _
  exact Moves.refl _ _

end Sys2Proof.Machine
end

