-- ==== Sys2Proof/Laws/MovesTick.lean ====
section
/-! SUPPORT. What each operation of Machine/Tick.lean can do (`moves_f`). -/

namespace Sys2Proof.Machine

theorem moves_holdTick {e} : Moves 4194304 e (holdTick e) := by
  unfold holdTick
  refine moves_ite ?_ ?_
  · exact moves_rfs (by decide) <| Moves.refl _ _
  exact Moves.refl _ _

theorem moves_brakeTick {e} : Moves 1064961 e (brakeTick e) := by
  unfold brakeTick
  refine moves_ite ?_ ?_
  · exact (moves_settleBrake).then (by decide) <| Moves.refl _ _
  exact Moves.refl _ _

theorem moves_publishTick {e} : Moves 470762557 e (publishTick e) := by
  unfold publishTick
  split
  · rename_i z0 z1 z2 z3
    refine moves_ite ?_ ?_
    · exact Moves.refl _ _
    exact (moves_publishNow).then (by decide) <| Moves.refl _ _
  · rename_i z4 z5
    exact (moves_publishNow).then (by decide) <| Moves.refl _ _

theorem moves_coolTick {e} : Moves 536837181 e (coolTick e) := by
  unfold coolTick
  split
  · rename_i z0 z1 z2
    refine moves_ite ?_ ?_
    · exact (moves_enterCooldown).then (by decide) <| Moves.refl _ _
    exact Moves.refl _ _
  · rename_i z3 z4
    exact Moves.refl _ _

theorem moves_tick {e} : Moves 536837567 e (tick e) := by
  unfold tick
  extract_lets +onlyGivenNames y0
  refine moves_cut (y := y0) ?_ fun h1 => ?_
  · unfold y0
    exact (moves_leaveEnd).then (by decide) <| (moves_pass).then (by decide) <| Moves.refl _ _
  clear_value y0
  refine moves_ite ?_ ?_
  · exact h1
  extract_lets +onlyGivenNames y2
  refine moves_cut (y := y2) ?_ fun h3 => ?_
  · unfold y2
    exact (moves_coolTick).then (by decide) <| (moves_brakeTick).then (by decide) <| (moves_bootTick).then (by decide) <| h1
  clear_value y2
  refine moves_ite ?_ ?_
  · exact h3
  extract_lets +onlyGivenNames y4
  refine moves_cut (y := y4) ?_ fun h5 => ?_
  · unfold y4
    exact (moves_holdTick).then (by decide) <| (moves_passDue).then (by decide) <| h3
  clear_value y4
  extract_lets +onlyGivenNames y6
  refine moves_cut (y := y6) ?_ fun h7 => ?_
  · unfold y6
    exact (moves_mbxFinish).then (by decide) <| (moves_startReloads).then (by decide) <| (moves_settle).then (by decide) <| (moves_publishTick).then (by decide) <| h5
  clear_value y6
  exact (moves_fullFlags).then (by decide) <| (moves_ringRun).then (by decide) <| (moves_catchUp).then (by decide) <| h7

end Sys2Proof.Machine
end

