-- ==== Sys2Proof/Laws/Step.lean ====
section
/-! SUPPORT. What a command and a step do: they answer a next state, take one command from the queue at most, leave every part of
the engine that is not theirs, and keep what every effect keeps. -/

open Sys2Proof

namespace Sys2Proof.Machine

/-- Every command answers a next state, reached by an effect within the parts that `touches` names for it. -/
theorem exec_acts (c : Instr) (s : State) : Acts (partMask (touches c)) (exec c s) s := by
  cases c with
  | nop _ => exact (acts_execNop).parts 470221884 rfl (by decide)
  | getInfo _ _ => exact (acts_execGetInfo).parts 470221884 rfl (by decide)
  | setMode _ _ => exact (acts_execSetMode).parts 536837180 rfl (by decide)
  | snapshot _ _ => exact (acts_execSnapshot).parts 470222140 rfl (by decide)
  | fwStage _ _ => exact (acts_execFwStage).parts 470223932 rfl (by decide)
  | fwActivate _ _ => exact (acts_execFwActivate).parts 520035388 rfl (by decide)
  | tableRead _ _ => exact (acts_execTableRead).parts 470762813 rfl (by decide)
  | tableWrite _ _ => exact (acts_execTableWrite).parts 470221884 rfl (by decide)
  | pairTxn _ _ => exact (acts_execPairTxn).parts 520060220 rfl (by decide)
  | pairCommit _ _ => exact (acts_execPairCommit).parts 520060220 rfl (by decide)
  | pairAbort _ _ => exact (acts_execPairAbort).parts 520060220 rfl (by decide)
  | pairQuery _ _ => exact (acts_execPairQuery).parts 470746172 rfl (by decide)
  | portPark _ _ => exact (acts_execPortPark).parts 520060220 rfl (by decide)
  | schLoad _ _ => exact (acts_execSchLoad).parts 470221884 rfl (by decide)
  | schStart _ _ => exact (acts_execSchStart).parts 503776316 rfl (by decide)
  | schStop _ _ => exact (acts_execSchStop).parts 505349180 rfl (by decide)
  | schJump _ _ => exact (acts_execSchJump).parts 503776316 rfl (by decide)
  | schStream _ _ => exact (acts_execSchStream).parts 503776316 rfl (by decide)
  | loopCfg _ _ => exact (acts_execLoopCfg).parts 486999100 rfl (by decide)
  | loopInject _ _ => exact (acts_execLoopInject).parts 486999100 rfl (by decide)
  | captureArm _ _ => exact (acts_execCaptureArm).parts 486999100 rfl (by decide)
  | captureRead _ _ => exact (acts_execCaptureRead).parts 470221884 rfl (by decide)
  | calSensor _ _ => exact (acts_execCalSensor).parts 478610492 rfl (by decide)
  | calSurvey _ _ => exact (acts_execCalSurvey).parts 472843324 rfl (by decide)
  | calCommit _ _ => exact (acts_execCalCommit).parts 480707644 rfl (by decide)
  | aimUpload _ _ => exact (acts_execAimUpload).parts 472319036 rfl (by decide)
  | domainCfg _ _ => exact (acts_execDomainCfg).parts 520060220 rfl (by decide)
  | ownerSet _ _ => exact (acts_execOwnerSet).parts 520060220 rfl (by decide)
  | policerSet _ _ => exact (acts_execPolicerSet).parts 470221884 rfl (by decide)
  | drillSwap _ _ => exact (acts_execDrillSwap).parts 475464764 rfl (by decide)
  | bistRun _ _ => exact (acts_execBistRun).parts 471272508 rfl (by decide)
  | faultClear _ _ => exact (acts_execFaultClear).parts 471272508 rfl (by decide)
  | dmaResume _ _ => exact (acts_execDmaResume).parts 470221884 rfl (by decide)
  | dmaAbort _ _ => exact (acts_execDmaAbort).parts 520060220 rfl (by decide)
  | sqDoorbell _ _ _ _ => exact (acts_execSqDoorbell).parts 268764220 rfl (by decide)
  | cqDoorbell _ _ _ _ => exact (acts_execCqDoorbell).parts 268764220 rfl (by decide)
  | commandFetch _ => exact (acts_execCommandFetch).parts 536837437 rfl (by decide)
  | policerRefill => exact (acts_execPolicerRefill).parts 268517377 rfl (by decide)
  | shaperSlot => exact (acts_execShaperSlot).parts 268517377 rfl (by decide)
  | completionSignal => exact (acts_execCompletionSignal).parts 268779521 rfl (by decide)
  | hopperSample => exact (acts_execHopperSample).parts 268517377 rfl (by decide)
  | chunk _ _ => exact (acts_execChunk).parts 536837437 rfl (by decide)
  | haltTmo _ => exact (acts_execHaltTmo).parts 520060221 rfl (by decide)
  | flr _ => exact (acts_execFlr).parts 520060348 rfl (by decide)
  | hotReset => exact (acts_execHotReset).parts 520060348 rfl (by decide)
  | perstN _ => exact (acts_execPerstN).parts 520060349 rfl (by decide)
  | pcieLinkDown => exact (acts_execPcieLinkDown).parts 520060348 rfl (by decide)
  | vfDisable _ => exact (acts_execVfDisable).parts 520060348 rfl (by decide)
  | d3hotToD0 => exact (acts_execD3hotToD0).parts 536837628 rfl (by decide)
  | powerOn _ _ _ => exact (acts_execPowerOn).parts 536870909 rfl (by decide)
  | bootStageTimeout _ _ => exact (acts_execBootStageTimeout).parts 278162493 rfl (by decide)
  | thermalGateRelease => exact (acts_execThermalGateRelease).parts 268462081 rfl (by decide)
  | rstN _ => exact (acts_execRstN).parts 536870396 rfl (by decide)
  | rstNRelease => exact (acts_execRstNRelease).parts 268486657 rfl (by decide)
  | brakeN _ => exact (acts_execBrakeN).parts 536845372 rfl (by decide)
  | brakeSluice => exact (acts_execBrakeSluice).parts 536837437 rfl (by decide)
  | brakeFail _ => exact (acts_execBrakeFail).parts 536829245 rfl (by decide)
  | brakeRelease => exact (acts_execBrakeRelease).parts 269500417 rfl (by decide)
  | spanWrite _ _ => exact (acts_execSpanWrite).parts 536838142 rfl (by decide)
  | resynthesisStart => exact (acts_execResynthesisStart).parts 270287933 rfl (by decide)
  | marchRun _ _ => exact (acts_execMarchRun).parts 536838142 rfl (by decide)
  | marchEnd _ => exact (acts_execMarchEnd).parts 532634687 rfl (by decide)
  | shortRetry _ _ _ => exact (acts_execShortRetry).parts 536838142 rfl (by decide)
  | islandRst _ _ _ => exact (acts_execIslandRst).parts 536838142 rfl (by decide)
  | fltIrst _ _ => exact (acts_execFltIrst).parts 536838142 rfl (by decide)
  | islandResetEnd _ _ => exact (acts_execIslandResetEnd).parts 536837437 rfl (by decide)
  | short _ _ => exact (acts_execShort).parts 269747260 rfl (by decide)
  | atnHoldoffEnd => exact (acts_execAtnHoldoffEnd).parts 268715009 rfl (by decide)
  | arm _ _ => exact (acts_execArm).parts 488594493 rfl (by decide)
  | armComplete _ => exact (acts_execArmComplete).parts 269500417 rfl (by decide)
  | prepared _ _ => exact (acts_execPrepared).parts 520060220 rfl (by decide)
  | noGroup _ => exact (acts_execNoGroup).parts 520060221 rfl (by decide)
  | syncMissing _ => exact (acts_execSyncMissing).parts 520060221 rfl (by decide)
  | openTmo _ => exact (acts_execOpenTmo).parts 520060221 rfl (by decide)
  | check _ => exact (acts_execCheck).parts 520060221 rfl (by decide)
  | sluice => exact (acts_execSluice).parts 536837439 rfl (by decide)
  | mapPublish => exact (acts_execMapPublish).parts 520060221 rfl (by decide)
  | conditionRefresh => exact (acts_execConditionRefresh).parts 470762557 rfl (by decide)
  | majorPark => exact (acts_execMajorPark).parts 520060220 rfl (by decide)
  | armPoint => exact (acts_execArmPoint).parts 505365565 rfl (by decide)
  | segmentArrival => exact (acts_execSegmentArrival).parts 505349180 rfl (by decide)
  | flumePiWrite _ _ => exact (acts_execFlumePiWrite).parts 536838142 rfl (by decide)
  | surveyEnd _ => exact (acts_execSurveyEnd).parts 473908287 rfl (by decide)
  | calSensorEnd _ => exact (acts_execCalSensorEnd).parts 478626877 rfl (by decide)
  | calPersistDone _ => exact (acts_execCalPersistDone).parts 270795836 rfl (by decide)
  | sweeperRebuild _ => exact (acts_execSweeperRebuild).parts 494885949 rfl (by decide)
  | cacheReloadDone _ => exact (acts_execCacheReloadDone).parts 269484032 rfl (by decide)
  | refresh _ _ _ _ _ => exact (acts_execRefresh).parts 475481149 rfl (by decide)
  | heartbeat _ _ => exact (acts_execHeartbeat).parts 272892988 rfl (by decide)
  | heartbeatMissing _ => exact (acts_execHeartbeatMissing).parts 272909373 rfl (by decide)
  | takeover => exact (acts_execTakeover).parts 273957949 rfl (by decide)
  | failback => exact (acts_execFailback).parts 273957949 rfl (by decide)
  | drillEnd => exact (acts_execDrillEnd).parts 475481149 rfl (by decide)
  | drillClaimTimeout => exact (acts_execDrillClaimTimeout).parts 475481149 rfl (by decide)
  | forceOwner _ _ => exact (acts_execForceOwner).parts 536838142 rfl (by decide)
  | peakClr _ _ => exact (acts_execPeakClr).parts 536838142 rfl (by decide)
  | scrub _ => exact (acts_execScrub).parts 536812604 rfl (by decide)
  | holdExit _ => exact (acts_execHoldExit).parts 536838142 rfl (by decide)
  | wake _ => exact (acts_execWake).parts 536838142 rfl (by decide)
  | syncIn _ => exact (acts_execSyncIn).parts 331088956 rfl (by decide)
  | syncLoss _ => exact (acts_execSyncLoss).parts 294929469 rfl (by decide)
  | freeRunFrame _ => exact (acts_execFreeRunFrame).parts 294929469 rfl (by decide)
  | conversionDone _ _ _ _ => exact (acts_execConversionDone).parts 536828991 rfl (by decide)
  | oneShot _ _ => exact (acts_execOneShot).parts 536838142 rfl (by decide)
  | refselWrite _ _ _ => exact (acts_execRefselWrite).parts 536838142 rfl (by decide)
  | refSettled _ => exact (acts_execRefSettled).parts 276824064 rfl (by decide)
  | loopEvaluation _ _ _ _ => exact (acts_execLoopEvaluation).parts 528440383 rfl (by decide)
  | damselWrite _ _ => exact (acts_execDamselWrite).parts 536838142 rfl (by decide)
  | thermalMeasurement _ _ => exact (acts_execThermalMeasurement).parts 536837181 rfl (by decide)
  | cooldownEnd => exact (acts_execCooldownEnd).parts 536837629 rfl (by decide)
  | feedLoss _ => exact (acts_execFeedLoss).parts 336882748 rfl (by decide)
  | feedReturn _ => exact (acts_execFeedReturn).parts 536837628 rfl (by decide)
  | brownout => exact (acts_execBrownout).parts 536812604 rfl (by decide)
  | overcurrent _ => exact (acts_execOvercurrent).parts 268706876 rfl (by decide)
  | auxLoss _ => exact (acts_execAuxLoss).parts 336882748 rfl (by decide)
  | railWarn => exact (acts_execRailWarn).parts 268706876 rfl (by decide)
  | powerLoss => exact (acts_execPowerLoss).parts 336619520 rfl (by decide)
  | refclkLost _ => exact (acts_execRefclkLost).parts 536837438 rfl (by decide)
  | refGood _ => exact (acts_execRefGood).parts 269247807 rfl (by decide)
  | tbRevert => exact (acts_execTbRevert).parts 269247807 rfl (by decide)
  | tbPrefWrite _ _ => exact (acts_execTbPrefWrite).parts 536838142 rfl (by decide)
  | wireFault _ _ _ => exact (acts_execWireFault).parts 536837181 rfl (by decide)
  | busHang _ _ => exact (acts_execBusHang).parts 536812604 rfl (by decide)
  | hsErr _ => exact (acts_execHsErr).parts 536837436 rfl (by decide)
  | gravePersist _ => exact (acts_execGravePersist).parts 268698684 rfl (by decide)
  | graveClr _ _ => exact (acts_execGraveClr).parts 536838142 rfl (by decide)
  | snapGo _ _ => exact (acts_execSnapGo).parts 536838142 rfl (by decide)
  | snapshotPulse => exact (acts_execSnapshotPulse).parts 268517633 rfl (by decide)
  | generationReadable => exact (acts_execGenerationReadable).parts 470238525 rfl (by decide)
  | time _ _ _ _ => exact (acts_execTime).parts 269239741 rfl (by decide)
  | timeSlot _ _ _ _ => exact (acts_execTimeSlot).parts 269239741 rfl (by decide)
  | timeSet _ _ _ _ => exact (acts_execTimeSet).parts 269239741 rfl (by decide)
  | tsq _ _ _ _ => exact (acts_execTsq).parts 269239741 rfl (by decide)
  | xactEpoch _ _ _ _ => exact (acts_execXactEpoch).parts 269239741 rfl (by decide)
  | xactMapEpoch _ _ _ _ => exact (acts_execXactMapEpoch).parts 269239741 rfl (by decide)
  | dmaFault _ _ _ _ => exact (acts_execDmaFault).parts 269239741 rfl (by decide)
  | snapInfo _ _ _ _ => exact (acts_execSnapInfo).parts 269239741 rfl (by decide)
  | snapReg _ _ _ _ => exact (acts_execSnapReg).parts 269239741 rfl (by decide)
  | cntPreset _ _ _ _ => exact (acts_execCntPreset).parts 269239741 rfl (by decide)
  | guardWrite _ _ _ => exact (acts_execGuardWrite).parts 536838142 rfl (by decide)
  | guardedWrite _ _ _ _ => exact (acts_execGuardedWrite).parts 536838142 rfl (by decide)
  | rwpWrite _ _ _ => exact (acts_execRwpWrite).parts 536838142 rfl (by decide)
  | nvrProgramDone _ => exact (acts_execNvrProgramDone).parts 268715581 rfl (by decide)
  | domEnWrite _ _ _ => exact (acts_execDomEnWrite).parts 536838142 rfl (by decide)
  | hwmClr _ _ => exact (acts_execHwmClr).parts 536838142 rfl (by decide)
  | remapWrite _ _ => exact (acts_execRemapWrite).parts 536838142 rfl (by decide)
  | handover _ _ => exact (acts_execHandover).parts 536838142 rfl (by decide)
  | handoverJoin => exact (acts_execHandoverJoin).parts 269239613 rfl (by decide)
  | rxCfgWrite _ _ _ => exact (acts_execRxCfgWrite).parts 536838142 rfl (by decide)
  | rxHeadWrite _ _ _ => exact (acts_execRxHeadWrite).parts 536838142 rfl (by decide)
  | registerWrite _ _ _ _ => exact (acts_execRegisterWrite).parts 536838142 rfl (by decide)
  | ringFrame _ _ => exact (acts_execRingFrame).parts 336545087 rfl (by decide)
  | commandFrame _ _ => exact (acts_execCommandFrame).parts 336545087 rfl (by decide)
  | token _ _ => exact (acts_execToken).parts 336545087 rfl (by decide)
  | tokenHoldEnd _ => exact (acts_execTokenHoldEnd).parts 335823935 rfl (by decide)
  | shaperRefill => exact (acts_execShaperRefill).parts 335823935 rfl (by decide)
  | trtExpiry _ => exact (acts_execTrtExpiry).parts 336348479 rfl (by decide)
  | claim _ _ _ _ => exact (acts_execClaim).parts 336545087 rfl (by decide)
  | claimTimeout _ => exact (acts_execClaimTimeout).parts 336348479 rfl (by decide)
  | helloSend => exact (acts_execHelloSend).parts 335823935 rfl (by decide)
  | hello _ _ _ => exact (acts_execHello).parts 336348479 rfl (by decide)
  | linkDown _ => exact (acts_execLinkDown).parts 336348479 rfl (by decide)
  | linkUp _ => exact (acts_execLinkUp).parts 336348479 rfl (by decide)
  | primaryReturn => exact (acts_execPrimaryReturn).parts 335823935 rfl (by decide)
  | pause _ _ => exact (acts_execPause).parts 336545087 rfl (by decide)
  | pauseExpiry => exact (acts_execPauseExpiry).parts 335823935 rfl (by decide)
  | pauseRepeat => exact (acts_execPauseRepeat).parts 335823935 rfl (by decide)
  | pauseRelease => exact (acts_execPauseRelease).parts 335823935 rfl (by decide)
  | syncMsg _ _ _ _ _ _ _ _ _ => exact (acts_execSyncMsg).parts 269239612 rfl (by decide)
  | followUp _ _ _ _ => exact (acts_execFollowUp).parts 268451840 rfl (by decide)
  | delayReqSend _ _ => exact (acts_execDelayReqSend).parts 335823935 rfl (by decide)
  | delayResp _ _ _ _ _ => exact (acts_execDelayResp).parts 269239612 rfl (by decide)
  | syncTmo _ => exact (acts_execSyncTmo).parts 269239613 rfl (by decide)
  | pathHoldEnd _ => exact (acts_execPathHoldEnd).parts 268451841 rfl (by decide)
  | tsqExpiry => exact (acts_execTsqExpiry).parts 268451841 rfl (by decide)
  | ppsIn => exact (acts_execPpsIn).parts 268451868 rfl (by decide)
  | syncOutEdge => exact (acts_execSyncOutEdge).parts 331105341 rfl (by decide)
  | ppsOutEdge => exact (acts_execPpsOutEdge).parts 268451841 rfl (by decide)
  | ident => exact (acts_execIdent).parts 268435456 rfl (by decide)
  | straps => exact (acts_execStraps).parts 268435456 rfl (by decide)
  | regAddr _ _ => exact (acts_execRegAddr).parts 268468224 rfl (by decide)
  | regData _ _ => exact (acts_execRegData).parts 536838142 rfl (by decide)
  | regNext => exact (acts_execRegNext).parts 268469250 rfl (by decide)
  | alertResponse => exact (acts_execAlertResponse).parts 268436480 rfl (by decide)
  | jtagBypass => exact (acts_execJtagBypass).parts 268468224 rfl (by decide)
  | idcode => exact (acts_execIdcode).parts 268468224 rfl (by decide)
  | samplePreload _ => exact (acts_execSamplePreload).parts 268468226 rfl (by decide)
  | extest => exact (acts_execExtest).parts 268468226 rfl (by decide)
  | clamp => exact (acts_execClamp).parts 268468224 rfl (by decide)
  | highz => exact (acts_execHighz).parts 268468224 rfl (by decide)
  | trstN _ => exact (acts_execTrstN).parts 268468252 rfl (by decide)
  | bootEnd _ => exact (acts_execBootEnd).parts 532642877 rfl (by decide)
  | fwStaged _ => exact (acts_execFwStaged).parts 470223934 rfl (by decide)
  | fwActivated _ => exact (acts_execFwActivated).parts 491195452 rfl (by decide)
  | bistEnd _ _ => exact (acts_execBistEnd).parts 532634687 rfl (by decide)
  | railCollapse => exact (acts_execRailCollapse).parts 336619520 rfl (by decide)
  | blockLock _ => exact (acts_execBlockLock).parts 335544320 rfl (by decide)
  | pcieLinkUp _ _ => exact (acts_execPcieLinkUp).parts 268698684 rfl (by decide)
  | aer => exact (acts_execAer).parts 268698686 rfl (by decide)
  | flrDone _ => exact (acts_execFlrDone).parts 268697600 rfl (by decide)
  | irstEnd => exact (acts_execIrstEnd).parts 407856446 rfl (by decide)
  | brakeNRelease => exact (acts_execBrakeNRelease).parts 269516800 rfl (by decide)
  | auxReturn _ => exact (acts_execAuxReturn).parts 268443676 rfl (by decide)

theorem Acts.next {w : Nat} {o : Host.Outcome State Fault Refusal} {s : State} (h : Acts w o s) :
    ∃ t, o = .next t ∧ t.pending = s.pending ∧ Moves w s.start t.eng := by
  obtain ⟨f, rfl, hf⟩ := h
  exact ⟨_, rfl, rfl, hf _⟩

/-- A command answers a next state, leaves the queue and keeps what `Keeps` names. -/
theorem exec_next (c : Instr) (s : State) :
    ∃ t, exec c s = .next t ∧ t.pending = s.pending ∧ Keeps { s.eng with out := [] } t.eng := by
  obtain ⟨t, h, hp, hm⟩ := (exec_acts c s).next
  exact ⟨t, h, hp, hm.keeps⟩

@[simp] theorem step_cons (c : Instr) (l : List Instr) (s : State) :
    step { s with pending := c :: l } = exec c { s with pending := l } := rfl

@[simp] theorem step_nil (s : State) : step { s with pending := [] } = .next ({ s with pending := [] }.run tick) := rfl

/-- A step answers a next state, takes the front of the queue and keeps what `Keeps` names. -/
theorem step_next (s : State) :
    ∃ t, step s = .next t ∧ t.pending = s.pending.tail ∧ Keeps { s.eng with out := [] } t.eng := by
  obtain ⟨l, e⟩ := s
  cases l with
  | nil => exact ⟨_, rfl, rfl, moves_tick.keeps⟩
  | cons c l => exact exec_next c _

theorem step_keeps {s t : State} (h : step s = .next t) : Keeps { s.eng with out := [] } t.eng := by
  obtain ⟨u, hu, _, hk⟩ := step_next s
  rw [hu] at h
  cases h
  exact hk

end Sys2Proof.Machine
end

