-- ==== Sys2Proof/Laws/Txn.lean ====
section
/-! SUPPORT. What a failed transaction leaves: the rest of the commands in flight and of the transactions. -/

namespace Sys2Proof.Machine

@[simp] theorem openTxn_cmd (x0 x1 x2 e) : (openTxn x0 x1 x2 e).cmd = e.cmd := (moves_openTxn).part .cmd rfl
@[simp] theorem closeTxn_cmd (x0 e) : (closeTxn x0 e).cmd = e.cmd := (moves_closeTxn).part .cmd rfl
@[simp] theorem restoreFailed_cmd (x0 x1 x2 e) : (restoreFailed x0 x1 x2 e).cmd = e.cmd := (moves_restoreFailed).part .cmd rfl
@[simp] theorem updInfl_sys (x0 x1 e) : (updInfl x0 x1 e).sys = e.sys := (moves_updInfl).part .sys rfl
@[simp] theorem updInfl_xact (x0 x1 e) : (updInfl x0 x1 e).xact = e.xact := (moves_updInfl).part .xact rfl
@[simp] theorem updInfl_dma (x0 x1 e) : (updInfl x0 x1 e).dma = e.dma := (moves_updInfl).part .dma rfl
@[simp] theorem note_xact (x0 e) : (note x0 e).xact = e.xact := (moves_note).part .xact rfl
@[simp] theorem release_xact (x0 e) : (release x0 e).xact = e.xact := (moves_release).part .xact rfl
@[simp] theorem openTxn_sys (x0 x1 x2 e) : (openTxn x0 x1 x2 e).sys = e.sys := (moves_openTxn).part .sys rfl
@[simp] theorem openTxn_tim (x0 x1 x2 e) : (openTxn x0 x1 x2 e).tim = e.tim := (moves_openTxn).part .tim rfl

theorem Less.complete {a b : Engine} {cx : Cx} {st r : Nat} (h : Less a b) : Less a (complete cx st r b) := h.trans (less_complete _ _ _ _)

/-- Every transaction that is ready holds its group. -/
def TxQuiet (l : List Txn) : Prop := ∀ t ∈ l, t.ready = true → t.group.isSome = true

theorem txns_each {α : Type} (l : List α) (f : α → Engine → Engine) (hf : ∀ x e, (f x e).xact.txns = e.xact.txns) (e : Engine) :
    (each l f e).xact.txns = e.xact.txns := by
  unfold each
  induction l generalizing e with
  | nil => rfl
  | cons x l ih => exact (ih _).trans (hf x e)

theorem dropJob_txns (id : Nat) (e : Engine) : (dropJob id e).xact.txns = e.xact.txns := by
  unfold dropJob
  split
  · rfl
  · dsimp only
    split
    · rfl
    · refine txns_each _ _ ?_ e
      intro x e
      rfl

theorem closeTxn_txns (t : Txn) (e : Engine) : (closeTxn t e).xact.txns = e.xact.txns.filter (fun x => x.id != t.id) := by
  unfold closeTxn
  dsimp only
  refine Eq.trans (txns_each _ _ ?_ _) ?_
  · intro n e
    refine txns_each _ _ ?_ e
    intro p e
    rfl
  · dsimp only
    split
    · rw [dropJob_txns]
    · rfl

theorem openTxn_txns (dom xid : Nat) (es : List Entry) (e : Engine) : (openTxn dom xid es e).xact.txns = e.xact.txns ++
    [{ id := e.xact.nextId, dom := dom, xid := xid, entries := es, openAt := e.clk, tmoMs := rdF e Fd.XACT_CTL_OPEN_TMO }] := by
  unfold openTxn
  dsimp only
  refine txns_each _ _ ?_ _
  intro n e
  rfl

theorem openRestore_quiet (es : List Entry) (n : Nat) {e : Engine} (h : TxQuiet e.xact.txns) : TxQuiet (openRestore es n e).xact.txns := by
  intro t ht hr
  simp only [openRestore, updTxn, openTxn_txns, List.mem_map, List.mem_append, List.mem_singleton] at ht
  obtain ⟨u, hu, rfl⟩ := ht
  split at hr
  · rename_i hid
    rcases hu with hu | hu
    · rw [if_pos hid]; exact h u hu hr
    · subst hu; simp at hr
  · rename_i hid
    rcases hu with hu | hu
    · rw [if_neg hid]; exact h u hu hr
    · subst hu; simp at hr

theorem restoreFailed_quiet (t : Txn) (c i : Nat) {e : Engine} (h : TxQuiet e.xact.txns) : TxQuiet (restoreFailed t c i e).xact.txns := by
  have h1 : ∀ l, (each l (fun j : Job => dropJob j.id) e).xact.txns = e.xact.txns := fun l => txns_each l _ (fun j e => dropJob_txns j.id e) e
  unfold restoreFailed
  dsimp only
  split
  · exact openRestore_quiet _ _ (by rw [h1]; exact h)
  · split <;> simpa [h1] using h

theorem ite_of {α : Type} {P : α → Prop} {c : Prop} [Decidable c] {x y : α} (hx : P x) (hy : P y) : P (if c then x else y) := by
  split <;> assumption

/-- A transaction that fails: what comes before its command is told. -/
theorem failTxn_split (id c i : Nat) {e : Engine} {t : Txn} (ht : e.txn id = some t) : ∃ x : Engine, x.cmd = e.cmd ∧
    (TxQuiet e.xact.txns → TxQuiet x.xact.txns) ∧
    failTxn id c i e = (match t.commit with
      | some cx => if t.earlyDone then x else if c = 0x0E then release cx x
                   else complete cx (causeStatus c) (c + (if c = 1 ∨ c = 2 then i * 65536 else 0)) x
      | none => x) := by
  unfold failTxn
  rw [ht]
  refine ⟨_, ?_, ?_, rfl⟩
  · refine ite_of (P := fun x : Engine => x.cmd = e.cmd) ((restoreFailed_cmd _ _ _ _).trans ?_) ?_
    all_goals repeat first
      | with_reducible refine ite_of (P := fun x : Engine => x.cmd = e.cmd) ?_ ?_
      | with_reducible refine (note_cmd _ _).trans ?_
      | with_reducible refine (inc_cmd _ _).trans ?_
      | exact closeTxn_cmd _ _
  · intro h
    have hf : ∀ t, TxQuiet (closeTxn t e).xact.txns := fun t u hu => by
      rw [closeTxn_txns] at hu
      exact h u (List.mem_filter.mp hu).1
    refine ite_of (P := fun x : Engine => TxQuiet x.xact.txns) (restoreFailed_quiet _ _ _ ?_) ?_
    all_goals repeat first
      | with_reducible refine ite_of (P := fun x : Engine => TxQuiet x.xact.txns) ?_ ?_
      | rw [note_xact]
      | rw [inc_xact]
      | exact hf _

theorem less_failTxn (id c i : Nat) (e : Engine) : Less e (failTxn id c i e) := by
  cases ht : e.txn id with
  | none => unfold failTxn; rw [ht]; exact Less.refl e
  | some t =>
    obtain ⟨x, hx, -, h⟩ := failTxn_split id c i ht
    rw [h]
    have hl : Less e x := Less.of_cmd hx
    split
    · split
      · exact hl
      · split
        · exact hl.trans (less_release _ _)
        · exact hl.complete
    · exact hl

/-- A transaction that fails leaves nothing waiting where nothing waited. -/
theorem quiet_failTxn (id c i : Nat) {e : Engine} (h : Quiet e) : Quiet (failTxn id c i e) := by
  refine ⟨?_, fun j hj => ?_, by rw [(moves_failTxn).part .tim rfl]; exact h.step, by rw [failTxn_setMode]; exact h.sleep⟩
  · show TxQuiet (failTxn id c i e).xact.txns
    cases ht : e.txn id with
    | none => unfold failTxn; rw [ht]; exact h.groups
    | some t =>
      obtain ⟨x, -, hx, hh⟩ := failTxn_split id c i ht
      rw [hh]
      have hq := hx h.groups
      split
      · split
        · exact hq
        · split
          · rw [release_xact]; exact hq
          · rw [complete_xact]; exact hq
      · exact hq
  · obtain ⟨k, hk, -, h2, -⟩ := less_failTxn id c i e j hj
    rw [← h2]
    exact h.tags k hk

theorem xidPorts_noWait {y : Engine} {self : Instr} (dom xid : Nat) (hs : ∀ c p, self ≠ .pairTxn c p)
    (hy : ∀ j ∈ y.cmd.inflight, j.wait = none ∨ j.wait = some self) :
    xidPorts dom xid y = match byXid y dom xid with | some t => t.ports | none => [] := by
  unfold xidPorts
  cases byXid y dom xid with
  | some t => rfl
  | none =>
    refine congrArg (fun o => Option.getD o []) (List.findSome?_eq_none_iff.mpr fun j hj => ?_)
    rcases hy j hj with h | h
    · rw [h]
    · rw [h]
      have := hs
      cases self <;> simp_all

/-- The ports of an XID do not depend on the command that names it. -/
theorem xidPorts_quiet {s : Engine} (dom xid : Nat) (self : Instr) (hq : Quiet s) (hs : ∀ c p, self ≠ .pairTxn c p) (x : Engine)
    (hx : x.xact = s.xact) (hi : ∀ j ∈ x.cmd.inflight, j ∈ s.cmd.inflight ∨ j.wait = some self) :
    xidPorts dom xid x = xidPorts dom xid s := by
  rw [xidPorts_noWait dom xid hs (fun j hj => (hi j hj).imp (hq.tags j) id), xidPorts_noWait dom xid hs (fun j hj => .inl (hq.tags j hj))]
  unfold byXid
  rw [hx]

theorem listPorts_congr (l : List Word) {x y : Engine} (h : x.xact = y.xact) : listPorts l x = listPorts l y := by
  unfold listPorts implicitOf paired partner Engine.pair
  rw [h]

theorem quiet_accepted {cx : Cx} {op : Nat} {ps : List Nat} {e : Engine} (h : Quiet e) (hn : e.infl cx = none) : Quiet (accepted cx op ps e) := by
  have hx : (accepted cx op ps e).xact = e.xact := accepted_frame cx op ps e .xact rfl
  refine ⟨by rw [hx]; exact h.groups, fun i hi => ?_, by rw [accepted_frame cx op ps e .tim rfl]; exact h.step,
    by rw [accepted_frame cx op ps e .sys rfl]; exact h.sleep⟩
  rw [accepted_inflight hn] at hi
  rcases List.mem_append.mp hi with h1 | h1
  · exact h.tags i h1
  · rw [List.mem_singleton] at h1
    rw [h1]
    rfl

/-- A transaction just opened waits for nothing. -/
theorem quiet_openTxn (dom xid : Nat) (es : List Entry) {e : Engine} (h : Quiet e) : Quiet (openTxn dom xid es e) := by
  refine ⟨fun t ht hr => ?_, by rw [openTxn_cmd]; exact h.tags, by rw [openTxn_tim]; exact h.step,
    by rw [openTxn_sys]; exact h.sleep⟩
  rw [openTxn_txns] at ht
  rcases List.mem_append.mp ht with h1 | h1
  · exact h.groups t h1 hr
  · rw [List.mem_singleton] at h1
    subst h1
    simp at hr

theorem quiet_commitTxn (id whn req : Nat) (early : Bool) (cx : Cx) {e : Engine} (h : Quiet e) : Quiet (commitTxn id whn req early cx e) := by
  refine ⟨fun t ht hr => ?_, h.tags, h.step, h.sleep⟩
  simp only [commitTxn, updTxn, List.mem_map] at ht
  obtain ⟨u, hu, rfl⟩ := ht
  have := h.groups u hu
  split at hr <;> simp_all

end Sys2Proof.Machine
end

