-- ==== Sys2Proof/Laws/Runs.lean ====
section
/-! SUPPORT. What a command row of one register or one clock comes to: the lemmas that the statements of the commands share. -/

open Sys2Proof

namespace Sys2Proof.Machine

theorem exec_run {c : Instr} {s : State} {f : Engine → Engine} {e : Engine} (h : exec c s = .next (s.run f)) (he : f s.start = e) :
    exec c s = .next (s.to e) := by rw [h, ← he]; rfl

theorem hop_congr {x y : Engine} (h : x.cmd.hoppers = y.cmd.hoppers) (q : Nat) : x.hop q = y.hop q := by unfold Engine.hop; rw [h]

theorem hop_updHop (q : Nat) (f : Hopper → Hopper) (e : Engine) : (updHop q f e).hop q = f (e.hop q) := by
  simp [updHop, Engine.hop]

theorem rd_updHop (q : Nat) (f : Hopper → Hopper) (e : Engine) (o : Nat) : rd (updHop q f e) o = rd e o := rd_congr rfl rfl rfl o

theorem Reaches.go {rq : Rq} {off : Nat} {v : Word} {eight : Bool} {e : Engine} (h : Reaches rq off e) :
    busWrite rq off v eight true e = barWrite rq off v.toNat eight e := by
  obtain ⟨h1, h2, h3, h4, h5, h6⟩ := h
  have hc : ¬cfgAt ≤ off := by unfold cfgAt; unfold bar4At at h5; omega
  unfold busWrite pfWrite
  rw [h1, if_neg (by simp), if_neg (fun h => hc h.2), if_neg, if_neg (by simp [h6])]
  · cases rq <;> first | exact if_pos h5 | rfl | exact absurd rfl (h2 _)
  · rintro (h | h)
    · exact h3 h
    · rw [h4 h.1] at h; simp at h

theorem busDword_plain {rq : Rq} {off : Nat} {v : Word} {e : Engine} {r : RegInfo} (h : Reaches rq off e)
    (hg : guardMain off = none) (hr : regInfo off = some r) (hk : r.kind = .plain) (hro : r.readOnly = false) :
    busDword rq off v e = plainApply rq r off (rsvKeep r off v.toNat e).2 (rsvKeep r off v.toNat e).1 := by
  unfold busDword
  rw [h.go]
  unfold barWrite
  simp only [hg, hr, hk, hro]
  rfl

theorem Armed.reason {rq : Rq} {off : Nat} {v : Word} {e : Engine} (h : Armed rq off v e) :
    guardReason (latchOf e (rqNum rq)) off v.toNat e.clk false = 0 := by
  obtain ⟨x, h1, h2, h3, h4⟩ := h
  unfold guardReason
  rw [h1]
  simp only [Bool.false_eq_true, if_false, h2, ne_eq, not_true_eq_false]
  rw [if_neg (by omega), if_neg]
  simp only [not_not]
  rw [h4]
  simp [wd]

theorem busDword_guarded {rq : Rq} {off : Nat} {v : Word} {e : Engine} {r : RegInfo} {p : Engine × Nat} (h : Reaches rq off e)
    (ha : Armed rq off v e) (hp : p = written off v (unlatched rq e))
    (hg : guardMain off = none) (hr : regInfo off = some r) (hk : r.kind = .guarded) (hro : r.readOnly = false)
    (hl : locked e off = false) : busDword rq off v e = guardedApply rq off p.2 p.1 := by
  unfold busDword
  rw [h.go]
  unfold barWrite
  simp only [hg, hr, hk, hro]
  rw [if_neg (by decide), if_neg (by decide), if_pos trivial]
  unfold guardedWrite
  dsimp only
  rw [ha.reason]
  simp only [ne_eq, not_true_eq_false, if_false]
  have hl' : locked (unlatched rq e) off = false := hl
  unfold unlatched at hl'
  rw [hl', if_neg (by decide)]
  rw [hp]
  unfold written
  rw [hr]
  rfl

theorem aper_updAper (a : Nat) (f : Aper → Aper) (e : Engine) : (updAper a f e).aper a = (f (e.aper a)).strobed e.clk := by
  simp [updAper, Engine.aper]

/-- What a claim of every tile does to one of them (R105). -/
theorem claimAll_tile (b k : Nat) (e : Engine) (hk : k < 256) :
    (claimAll b e).tile k = (e.tile k).claimed e.clk (strobeEnd e k) b := by
  unfold claimAll each
  suffices H : ∀ (l : List Nat) (e : Engine) (c : Nat), l.Nodup →
      (l.foldl (fun s x => updTile x (fun y => y.claimed c (strobeEnd s x) b) s) e).tile k =
        if k ∈ l then (e.tile k).claimed c (strobeEnd e k) b else e.tile k by
    rw [H _ _ _ List.nodup_range, if_pos (List.mem_range.mpr hk)]
  intro l
  induction l with
  | nil => exact fun e c _ => rfl
  | cons x l ih =>
    intro e c hn
    rw [List.foldl_cons, ih _ _ (List.nodup_cons.mp hn).2]
    rcases eq_or_ne k x with rfl | h2
    · rw [if_neg (List.nodup_cons.mp hn).1, if_pos List.mem_cons_self]
      simp [updTile, Engine.tile]
    · have hs : ∀ f, strobeEnd (updTile x f e) k = strobeEnd e k := fun _ => rfl
      rw [hs]
      simp [updTile, Engine.tile, Tbl.get_upd_ne _ _ _ _ _ h2.symm, h2]

theorem waitClk_clk (t : Nat) (e : Engine) : (waitClk t e).clk = max e.clk t := by
  unfold waitClk
  split
  · show e.clk + (t - e.clk) = _; omega
  · omega

theorem tile_congr {a b : Engine} (h : a.bkp = b.bkp) (k : Nat) : a.tile k = b.tile k := by unfold Engine.tile; rw [h]

theorem waitClk_start (n : Nat) (s : State) : (waitClk n s.start).clk = max s.eng.clk n := waitClk_clk n s.start

theorem setCause_flt (off code : Nat) (e : Engine) :
    ∃ a b, (setCause off code e).flt = { e.flt with risePend := a, holdUntil := b } := by
  have key : ∀ (n : Nat) (x : Engine), ∃ a b, (atnRise n x).flt = { x.flt with risePend := a, holdUntil := b } := by
    intro n x
    unfold atnRise
    dsimp only
    split
    · exact ⟨x.flt.risePend, x.flt.holdUntil, rfl⟩
    split
    · exact ⟨x.flt.risePend, x.flt.holdUntil, rfl⟩
    split
    · exact ⟨true, x.flt.holdUntil, rfl⟩
    · refine ⟨x.flt.risePend, x.clk + 1000 * rdF x Fd.ATN_CTL_HOLDOFF, ?_⟩
      rw [(moves_signalMsix).part .flt rfl]
  unfold setCause withAttn
  obtain ⟨a, b, h⟩ := key (atnVis e) ((fun e =>
    let e1 := wr off (rd e off ||| (1 <<< code)) e
    if bit (maskOf e off) code then
      { e1 with reach := Tbl.upd (fun _ => (0 : Word)) e1.reach off (fun w => wd (w.toNat ||| (1 <<< code))) }
    else e1) e)
  refine ⟨a, b, h.trans ?_⟩
  dsimp only
  split <;> rfl

@[simp] theorem setCause_hist (off code : Nat) (e : Engine) : (setCause off code e).flt.hist = e.flt.hist := by
  obtain ⟨a, b, h⟩ := setCause_flt off code e; rw [h]

@[simp] theorem setCause_runs (off code : Nat) (e : Engine) : (setCause off code e).flt.runs = e.flt.runs := by
  obtain ⟨a, b, h⟩ := setCause_flt off code e; rw [h]

theorem logEvent_runs (r : Rec) (e : Engine) : (logEvent r e).flt.runs = e.flt.runs := by
  unfold logEvent
  split
  · rfl
  split
  · split
    · rfl
    · dsimp only
      split
      · rfl
      · rw [setCause_runs]; rfl
  · rfl

theorem noteRec_runs (r : Rec) (off : Nat) (e : Engine) : (noteRec r off e).flt.runs = e.flt.runs := by
  have h1 : (logEvent r (inc Reg.FLT_EVENT_CNT (setCause off r.code e))).flt.runs = e.flt.runs := by
    rw [logEvent_runs]; exact setCause_runs _ _ _
  unfold noteRec
  dsimp only
  split <;> split
  · show (persistGrave _ _).flt.runs = _
    unfold persistGrave; split <;> (dsimp only; rw [setCause_runs]; exact h1)
  · split
    · dsimp only; rw [setCause_runs]; exact h1
    · exact h1
  · unfold persistGrave; split <;> (dsimp only; rw [setCause_runs]; exact h1)
  · split
    · rw [setCause_runs]; exact h1
    · exact h1

theorem noteRec_hist (r : Rec) (off : Nat) (e : Engine) :
    (noteRec r off e).flt.hist = (logEvent r (inc Reg.FLT_EVENT_CNT (setCause off r.code e))).flt.hist := by
  unfold noteRec
  dsimp only
  split <;> split
  · show (persistGrave _ _).flt.hist = _
    unfold persistGrave; split <;> (dsimp only; rw [setCause_hist])
  · split
    · dsimp only; rw [setCause_hist]
    · rfl
  · unfold persistGrave; split <;> (dsimp only; rw [setCause_hist])
  · split
    · rw [setCause_hist]
    · rfl

theorem bit_iff (x k : Nat) : bit x k = x.testBit k := by
  unfold bit
  rw [Nat.testBit_eq_decide_div_mod_eq, Nat.shiftRight_eq_div_pow]
  exact beq_eq_decide _ _

theorem bit_keep (x y k : Nat) (hk : k < 32) (h : bit x k = true) : bit ((x ||| y) % 4294967296) k = true := by
  rw [bit_iff] at *
  rw [show (4294967296 : Nat) = 2 ^ 32 from rfl, Nat.testBit_mod_two_pow, Nat.testBit_or, h]
  simp [hk]

theorem bit_setCause (off code o k : Nat) (e : Engine) (hk : k < 32) (h : bit (rd e o) k = true) :
    bit (rd (setCause off code e) o) k = true := by
  by_cases ho : off = o
  · subst ho; rw [rd_setCause_same]; exact bit_keep _ _ _ hk h
  · rw [rd_setCause_ne _ _ _ _ ho]; exact h

theorem bit_logEvent (r : Rec) (o k : Nat) (e : Engine) (hk : k < 32) (h1 : o ≠ Reg.FLT_EVENT_CNT) (h2 : o ≠ Reg.FLT_HIST_OVF_CNT)
    (h : bit (rd e o) k = true) : bit (rd (logEvent r e) o) k = true := by
  unfold logEvent
  split
  · exact h
  split
  · split
    · rw [rd_setFlt]; exact h
    · dsimp only
      split
      · rw [rd_setFlt]; exact h
      · apply bit_setCause _ _ _ _ _ hk
        rw [rd_inc_ne _ _ _ (Ne.symm h1), rd_inc_ne _ _ _ (Ne.symm h2), rd_setFlt]; exact h
  · rw [rd_setFlt]; exact h

theorem rd_noteRec_tail (r : Rec) (off : Nat) (e : Engine) (o : Nat) (h : o ≠ Reg.FLT_CAUSE) :
    rd (noteRec r off e) o = rd (logEvent r (inc Reg.FLT_EVENT_CNT (setCause off r.code e))) o := by
  unfold noteRec
  dsimp only
  have hm : rd (if r.cls = 4 then persistGrave r (setCause Reg.FLT_CAUSE 7 (logEvent r (inc Reg.FLT_EVENT_CNT (setCause off r.code e))))
           else if r.cls = 3 then setCause Reg.FLT_CAUSE 6 (logEvent r (inc Reg.FLT_EVENT_CNT (setCause off r.code e)))
           else logEvent r (inc Reg.FLT_EVENT_CNT (setCause off r.code e))) o =
      rd (logEvent r (inc Reg.FLT_EVENT_CNT (setCause off r.code e))) o := by
    split
    · rw [rd_persistGrave, rd_setCause_ne _ _ _ _ (Ne.symm h)]
    · split
      · rw [rd_setCause_ne _ _ _ _ (Ne.symm h)]
      · rfl
  split
  · rw [← hm]; exact rd_setFlt _ _ _
  · exact hm

theorem bit_noteRec (r : Rec) (off : Nat) (e : Engine) (o k : Nat) (hk : k < 32)
    (h : bit (rd (logEvent r (inc Reg.FLT_EVENT_CNT (setCause off r.code e))) o) k = true) : bit (rd (noteRec r off e) o) k = true := by
  unfold noteRec
  dsimp only
  have hm : bit (rd (if r.cls = 4 then persistGrave r (setCause Reg.FLT_CAUSE 7 (logEvent r (inc Reg.FLT_EVENT_CNT (setCause off r.code e))))
           else if r.cls = 3 then setCause Reg.FLT_CAUSE 6 (logEvent r (inc Reg.FLT_EVENT_CNT (setCause off r.code e)))
           else logEvent r (inc Reg.FLT_EVENT_CNT (setCause off r.code e))) o) k = true := by
    split
    · rw [rd_persistGrave]; exact bit_setCause _ _ _ _ _ hk h
    · split
      · exact bit_setCause _ _ _ _ _ hk h
      · exact h
  split
  · rw [rd_setFlt]; exact hm
  · exact hm

theorem logEvent_room (r : Rec) (e : Engine) (h : e.flt.hist.length < 32) (o : Nat) : rd (logEvent r e) o = rd e o := by
  unfold logEvent
  split
  · rfl
  split
  · split
    · exact rd_setFlt _ _ _
    · exact rd_setFlt _ _ _
  · exact rd_setFlt _ _ _

theorem noteRec_low (r : Rec) (off : Nat) (e : Engine) (h : r.cls < 3) :
    noteRec r off e = logEvent r (inc Reg.FLT_EVENT_CNT (setCause off r.code e)) := by
  unfold noteRec
  dsimp only
  rw [if_neg (by omega), if_neg (by omega), if_neg (by omega)]

theorem noteD_count {c : Fld} {inst detail : Nat} {e : Engine} (hc : classOf (blockNo c.off) c.lo < 3) (hh : e.flt.hist.length < 32)
    (h1 : c.off ≠ Reg.FLT_EVENT_CNT) :
    rd (noteD c inst detail e) Reg.FLT_EVENT_CNT = (rd e Reg.FLT_EVENT_CNT + 1) % 4294967296 := by
  unfold noteD
  dsimp only
  rw [noteRec_low _ _ _ hc, logEvent_room, rd_inc_same, rd_setCause_ne _ _ _ _ h1]
  show (setCause _ _ e).flt.hist.length < 32
  rw [setCause_hist]; exact hh

end Sys2Proof.Machine
end

