-- ==== Sys2Proof/Laws/CmdActs.lean ====
section
/-! SUPPORT. What the shared operations behind the Keseuk commands leave alone, and what they answer. -/

open Sys2Proof

namespace Sys2Proof.Machine

@[simp] theorem entryNow_sys (e) : (entryNow e).sys = e.sys := (moves_entryNow).part .sys rfl

theorem openRead_has (cx : Cx) (p : TableP) (l b : List Byte) (e : Engine) : ∃ st ∈ (openRead cx p l b e).dma.streams,
    st.kind = 8 ∧ st.write = true ∧ st.dom = cx.domain ∧ st.iova = p.addr ∧ st.len = entrySize p.table * p.count ∧
    st.hopper = cx.hopper ∧ st.tag = cx.tag ∧ st.halted = false := by
  refine ⟨_, List.mem_map.mpr ⟨_, List.mem_append_right _ (List.mem_singleton.mpr rfl), if_pos rfl⟩, ?_⟩
  simp


@[simp] theorem openTxn_bkp (x0 x1 x2 e) : (openTxn x0 x1 x2 e).bkp = e.bkp := (moves_openTxn).part .bkp rfl

theorem byXid_congr {x y : Engine} (h : x.xact = y.xact) (d i : Nat) : byXid x d i = byXid y d i := by unfold byXid; rw [h]

theorem acc_xact (cx op ps e) : (accepted cx op ps e).xact = e.xact := accepted_frame cx op ps e .xact rfl

theorem acc_bkp (cx op ps e) : (accepted cx op ps e).bkp = e.bkp := accepted_frame cx op ps e .bkp rfl

theorem validate_congr {x y : Engine} (h : x.xact = y.xact) (hb : x.bkp = y.bkp) (d i : Nat) (l : List Word) : validate x d i l = validate y d i l := by
  have he : ∀ n b w, checkEntry x d n b w = checkEntry y d n b w := by
    intro n b w
    unfold checkEntry parseEntry implicitOf paired partner Engine.pair frozenAp Engine.tile Engine.port
    rw [h, hb]
  have hes : ∀ n (l : List Word) b k, checkEntries x d n l b k = checkEntries y d n l b k := by
    intro n l
    induction l with
    | nil => intros; rfl
    | cons w t ih =>
      intro b k
      unfold checkEntries
      rw [he]
      have hp : parseEntry x n w = parseEntry y n w := by unfold parseEntry implicitOf paired partner Engine.pair; rw [h]
      rw [hp]
      split
      · rfl
      · exact ih _ _
  unfold validate
  rw [byXid_congr h, h, hes]

theorem targets_congr {x y : Engine} (hb : x.bkp = y.bkp) (hc : x.clk = y.clk) (n : Entry) : n.targets x = n.targets y := by
  unfold Entry.targets isParked Engine.aper
  rw [hb, hc]

theorem parse_congr {x y : Engine} (h : x.xact = y.xact) (n : List Nat) (w : Word) : parseEntry x n w = parseEntry y n w := by
  unfold parseEntry implicitOf paired partner Engine.pair; rw [h]

@[simp] theorem complete_sch (x0 x1 x2 e) : (complete x0 x1 x2 e).sch = e.sch := (moves_complete).part .sch rfl

@[simp] theorem completeAt_sch (x0 x1 x2 x3 e) : (completeAt x0 x1 x2 x3 e).sch = e.sch := (moves_completeAt).part .sch rfl

@[simp] theorem finishStop_sch (x0 x1 e) : (finishStop x0 x1 e).sch = e.sch := (moves_finishStop).part .sch rfl

@[simp] theorem flumeFetch_sch (e) : (flumeFetch e).sch = e.sch := (moves_flumeFetch).part .sch rfl

@[simp] theorem note_sch (x0 e) : (note x0 e).sch = e.sch := (moves_note).part .sch rfl

@[simp] theorem complete_loop (x0 x1 x2 e) : (complete x0 x1 x2 e).loop = e.loop := (moves_complete).part .loop rfl

theorem leBytes_length (n x : Nat) : (leBytes n x).length = n := by
  induction n generalizing x with
  | zero => rfl
  | succ n ih => simp [leBytes, ih]

theorem wordAt_map (f : Nat → Word) (w : Nat) (h : w < 11) : wordAt ((List.range 11).map f) w = (f w).toNat := by
  unfold wordAt
  rw [List.getD_eq_getElem _ _ (by simpa using h)]
  simp

theorem cfgPut_cfg (words : Nat) (cfg : List Word) (a ap w : Nat) (e : Engine) (hw : w < 11) :
    wordAt (cfgOf (cfgPut words cfg a e) ap) w = if ap = a ∧ bit words w = true then wordAt cfg w else wordAt (cfgOf e ap) w := by
  have hd : cfgOf (cfgPut words cfg a e) ap = Tbl.get (fun _ => cfgDefault e.sys.bandCB) (Tbl.put (fun _ => cfgDefault e.sys.bandCB) e.loop.cfg a
    ((List.range 11).map (fun w => if bit words w then cfg.getD w 0#32 else (cfgOf e a).getD w 0#32))) ap := rfl
  rw [hd]
  by_cases h : ap = a
  · subst h
    rw [Tbl.get_put_same, wordAt_map _ _ hw]
    by_cases h2 : bit words w = true
    · simp [h2, wordAt]
    · simp [h2, wordAt]
  · rw [Tbl.get_put_ne _ _ _ _ _ (Ne.symm h)]
    simp [h, cfgOf]

theorem cfgPut_each (words : Nat) (cfg : List Word) (l : List Nat) (ap w : Nat) (e : Engine) (hw : w < 11) :
    wordAt (cfgOf (each l (cfgPut words cfg) e) ap) w = if ap ∈ l ∧ bit words w = true then wordAt cfg w else wordAt (cfgOf e ap) w := by
  unfold each
  induction l generalizing e with
  | nil => simp
  | cons x l ih =>
    rw [List.foldl_cons, ih, cfgPut_cfg _ _ _ _ _ _ hw]
    by_cases h1 : ap = x <;> by_cases h2 : ap ∈ l <;> by_cases h3 : bit words w = true <;> simp [h1, h2, h3]

theorem cfgOf_congr {x y : Engine} (h : x.loop.cfg = y.loop.cfg) (hs : x.sys = y.sys) (ap : Nat) : cfgOf x ap = cfgOf y ap := by
  unfold cfgOf; rw [h, hs]

@[simp] theorem cfgPut_sys (x0 x1 x2 e) : (cfgPut x0 x1 x2 e).sys = e.sys := (moves_cfgPut).part .sys rfl

@[simp] theorem loopRestart_sys (x0 e) : (loopRestart x0 e).sys = e.sys := (moves_loopRestart).part .sys rfl

@[simp] theorem surveyJob_syn (x0 x1 x2 e) : (surveyJob x0 x1 x2 e).syn = e.syn := (moves_surveyJob).part .syn rfl

@[simp] theorem wr_syn : ∀ x0 x1 (e : Engine), (wr x0 x1 e).syn = e.syn := fun x0 x1 e => (moves_wr).part .syn rfl

@[simp] theorem wr_cmd : ∀ x0 x1 (e : Engine), (wr x0 x1 e).cmd = e.cmd := fun x0 x1 e => (moves_wr).part .cmd rfl

@[simp] theorem wr_xact : ∀ x0 x1 (e : Engine), (wr x0 x1 e).xact = e.xact := fun x0 x1 e => (moves_wr).part .xact rfl

@[simp] theorem claimAll_rfs (x0 e) : (claimAll x0 e).rfs = e.rfs := (moves_claimAll).part .rfs rfl


theorem bits_setBit1 (x k : Nat) (b : Bool) (hk : k < 32) : bit (setBits x k k (ofB b)) k = b := by
  have h := bits_setBits x k k (ofB b) (Nat.le_refl k)
  have hb : bits (setBits x k k (ofB b)) k k = ofB b := by
    rw [h]
    have : k + 1 - k = 1 := by omega
    rw [this]; cases b <;> rfl
  unfold bit
  unfold bits at hb
  have : k + 1 - k = 1 := by omega
  rw [this] at hb
  rw [show (2:Nat) = 2 ^ 1 from rfl, hb]
  cases b <;> rfl

theorem each_updPort_owner (l : List Nat) (d : Nat) (q : Nat) (e : Engine) :
    ((each l (fun q => updPort q (fun x => { x with owner := d })) e).port q).owner = if q ∈ l then d else (e.port q).owner := by
  unfold each
  induction l generalizing e with
  | nil => simp
  | cons x l ih =>
    rw [List.foldl_cons, ih]
    by_cases h1 : q ∈ l
    · simp [h1]
    · by_cases h2 : q = x
      · subst h2
        simp [h1, updPort, Engine.port]
      · have h3 : x ≠ q := fun h => h2 h.symm
        simp [h1, h2, updPort, Engine.port, Tbl.get_upd_ne _ _ _ _ _ h3]

theorem mem_span (a n q : Nat) : q ∈ span a n ↔ a ≤ q ∧ q < a + n := by
  unfold span
  simp only [List.mem_map, List.mem_range]
  constructor
  · rintro ⟨x, hx, rfl⟩; omega
  · rintro ⟨h1, h2⟩; exact ⟨q - a, by omega, by omega⟩

theorem setDomEn_on (d : Nat) (b : Bool) (e : Engine) (h : b = false → domEn e d = false) :
    (setDomEn d b e).cmd = e.cmd ∧ (setDomEn d b e).xact = e.xact ∧ (d < 64 → domEn (setDomEn d b e) d = (b || d == 0)) := by
  unfold setDomEn
  split
  · rename_i hd; subst hd; simp [domEn]
  · rename_i hd
    dsimp only
    rw [if_neg (by cases b <;> simp_all)]
    refine ⟨wr_cmd _ _ _, wr_xact _ _ _, fun h64 => ?_⟩
    unfold domEn
    have hd0 : (d == 0) = false := by simpa using hd
    have hr : ∀ x k, k < 32 → x < 4294967296 → bit (setBits x k k (ofB b) % 4294967296) k = b := by
      intro x k hk hx
      rw [Nat.mod_eq_of_lt (setBits_lt _ _ _ _ hx (Nat.le_refl k) hk), bits_setBit1 _ _ _ hk]
    by_cases h32 : d < 32
    · simp only [h32, if_true, hd0, Bool.false_or, Bool.or_false]
      rw [rd_wr_same, Nat.mod_eq_of_lt h32]
      exact hr _ _ h32 (rd_lt _ _)
    · simp only [h32, if_false, hd0, Bool.false_or, Bool.or_false]
      rw [rd_wr_same, show d % 32 = d - 32 by omega]
      exact hr _ _ (by omega) (rd_lt _ _)

theorem dom_congr {x y : Engine} (h : x.cmd.domains = y.cmd.domains) (d : Nat) : x.dom d = y.dom d := by unfold Engine.dom; rw [h]
-- proofs


@[simp] theorem inc_lrg (x0 e) : (inc x0 e).lrg = e.lrg := (moves_inc).part .lrg rfl

@[simp] theorem inc_hif (x0 e) : (inc x0 e).hif = e.hif := (moves_inc).part .hif rfl

@[simp] theorem inc_flt (x0 e) : (inc x0 e).flt = e.flt := (moves_inc).part .flt rfl

@[simp] theorem dbBad_cmd (e) : (dbBad e).cmd = e.cmd := (moves_dbBad).part .cmd rfl

theorem domOf_congr {x y : Engine} (h : x.cmd = y.cmd) (hl : x.lrg = y.lrg) (fn n : Nat) : dbTarget x fn n = dbTarget y fn n := by
  unfold dbTarget hopDom rosDomain rosValid rosHopper rosBits Engine.rosterOf Engine.dom; rw [h, hl]

theorem dbBad_reads (e : Engine) : rd (dbBad e) Reg.CMD_DB_BAD_CNT = (rd e Reg.CMD_DB_BAD_CNT + 1) % 4294967296 ∧
   on (dbBad e) Fd.CMD_CAUSE_DB_BAD = true := by
  unfold dbBad
  refine ⟨?_, ?_⟩
  · rw [rd_note_ne _ _ _ (by decide) (by decide), rd_inc_same]
  · exact bit_note _ _ (by decide) (by decide)

end Sys2Proof.Machine
end

