-- ==== Sys2Proof/Laws/EventActs.lean ====
section
/-! SUPPORT. What the shared operations behind the events of the pins, the modes and the brake leave alone. -/

open Sys2Proof

namespace Sys2Proof.Machine

@[simp] theorem note_dma (x0 e) : (note x0 e).dma = e.dma := (moves_note).part .dma rfl

@[simp] theorem flrDomain_clk (x0 e) : (flrDomain x0 e).clk = e.clk := (moves_flrDomain).part .clk rfl
/-- What an event leaves of the host interface: all but the pending vectors. -/

def hifCore (h : HifSt) : HifSt := { h with pba := [] }

theorem signalMsix_core (f v : Nat) (e : Engine) : hifCore (signalMsix f v e).hif = hifCore e.hif := by
  unfold signalMsix
  split
  · rfl
  · split <;> rfl

theorem atnRise_core (n : Nat) (e : Engine) : hifCore (atnRise n e).hif = hifCore e.hif := by
  unfold atnRise
  dsimp only
  repeat' split
  · rfl
  · rfl
  · rfl
  · rw [signalMsix_core]

theorem setCause_core (o c : Nat) (e : Engine) : hifCore (setCause o c e).hif = hifCore e.hif := by
  unfold setCause withAttn
  rw [atnRise_core]
  dsimp only
  split <;> rfl

theorem logEvent_core (r : Rec) (e : Engine) : hifCore (logEvent r e).hif = hifCore e.hif := by
  unfold logEvent
  repeat' split
  all_goals first | rfl | (rw [setCause_core]; rfl)

theorem noteRec_core (r : Rec) (o : Nat) (e : Engine) : hifCore (noteRec r o e).hif = hifCore e.hif := by
  unfold noteRec
  have h1 : hifCore (logEvent r (inc Reg.FLT_EVENT_CNT (setCause o r.code e))).hif = hifCore e.hif := by
    rw [logEvent_core]; exact setCause_core _ _ _
  have h2 : ∀ e : Engine, hifCore (persistGrave r e).hif = hifCore e.hif := by intro e; unfold persistGrave; split <;> rfl
  dsimp only
  have h3 : hifCore (if r.cls = 4 then persistGrave r (setCause Reg.FLT_CAUSE 7 (logEvent r (inc Reg.FLT_EVENT_CNT (setCause o r.code e))))
           else if r.cls = 3 then setCause Reg.FLT_CAUSE 6 (logEvent r (inc Reg.FLT_EVENT_CNT (setCause o r.code e)))
           else logEvent r (inc Reg.FLT_EVENT_CNT (setCause o r.code e))).hif = hifCore e.hif := by
    split
    · rw [h2, setCause_core, h1]
    · split
      · rw [setCause_core, h1]
      · exact h1
  split <;> exact h3

theorem note_core (c : Fld) (e : Engine) : hifCore (note c e).hif = hifCore e.hif := noteRec_core _ _ _

theorem core_up {a b : HifSt} (h : hifCore a = hifCore b) : a.up = b.up ∧ a.speed = b.speed ∧ a.width = b.width ∧ a.numVfs = b.numVfs ∧ a.cfg = b.cfg ∧ a.flrBusy = b.flrBusy := by
  have g : ∀ {α : Type} (f : HifSt → α), f (hifCore a) = f (hifCore b) := fun f => by rw [h]
  exact ⟨g HifSt.up, g HifSt.speed, g HifSt.width, g HifSt.numVfs, g HifSt.cfg, g HifSt.flrBusy⟩

theorem each_clk {α : Type} (l : List α) (f : α → Engine → Engine) (hf : ∀ x e, (f x e).clk = e.clk) (e : Engine) :
    (each l f e).clk = e.clk := by
  unfold each
  induction l generalizing e with
  | nil => rfl
  | cons x l ih => exact (ih _).trans (hf x e)

theorem resetFunctions_after (e : Engine) : (resetFunctions e).hif.numVfs = 0 ∧ (resetFunctions e).hif.cfg = [] ∧
    (resetFunctions e).hif.vecs = [] ∧ (resetFunctions e).hif.opened = [] ∧ (resetFunctions e).hif.flrBusy = 0 :: span 1 e.hif.numVfs ∧
    (resetFunctions e).dma.tc = [] ∧ (resetFunctions e).clk = e.clk :=
  ⟨rfl, rfl, rfl, rfl, rfl, rfl, (moves_resetFunctions).part .clk rfl⟩

@[simp] theorem pinBrake_pins (e) : (pinBrake e).pins = e.pins := (moves_pinBrake).part .pins rfl

@[simp] theorem pinBrake_pwr (e) : (pinBrake e).pwr = e.pwr := (moves_pinBrake).part .pwr rfl

@[simp] theorem pinBrake_nvr (e) : (pinBrake e).nvr = e.nvr := (moves_pinBrake).part .nvr rfl

@[simp] theorem pinBrake_clk (e) : (pinBrake e).clk = e.clk := (moves_pinBrake).part .clk rfl

@[simp] theorem beginBoot_pins (e) : (beginBoot e).pins = e.pins := (moves_beginBoot).part .pins rfl

@[simp] theorem beginBoot_nvr (e) : (beginBoot e).nvr = e.nvr := (moves_beginBoot).part .nvr rfl

@[simp] theorem beginBoot_clk (e) : (beginBoot e).clk = e.clk := (moves_beginBoot).part .clk rfl

@[simp] theorem authenticate_pwr (e) : (authenticate e).pwr = e.pwr := (moves_authenticate).part .pwr rfl

@[simp] theorem authenticate_clk (e) : (authenticate e).clk = e.clk := (moves_authenticate).part .clk rfl

@[simp] theorem authenticate_hostMem (e) : (authenticate e).hostMem = e.hostMem := (moves_authenticate).part .hostMem rfl

@[simp] theorem bootBuild_sys (e) : (bootBuild e).sys = e.sys := (moves_bootBuild).part .sys rfl

@[simp] theorem bootBuild_thm (e) : (bootBuild e).thm = e.thm := (moves_bootBuild).part .thm rfl

@[simp] theorem darkArray_clk (e) : (darkArray e).clk = e.clk := (moves_darkArray).part .clk rfl

@[simp] theorem brakeOff_thm (x0 e) : (brakeOff x0 e).thm = e.thm := (moves_brakeOff).part .thm rfl

@[simp] theorem brakeOff_regs (x0 e) : (brakeOff x0 e).regs = e.regs := (moves_brakeOff).part .regs rfl

@[simp] theorem brakeOff_trip1 (x0 e) : (brakeOff x0 e).trip1 = e.trip1 := (moves_brakeOff).part .trip1 rfl

@[simp] theorem brakeOff_trip2 (x0 e) : (brakeOff x0 e).trip2 = e.trip2 := (moves_brakeOff).part .trip2 rfl

@[simp] theorem loadNv_sys (x0 e) : (loadNv x0 e).sys = e.sys := (moves_loadNv).part .sys rfl

@[simp] theorem loadNv_pins (x0 e) : (loadNv x0 e).pins = e.pins := (moves_loadNv).part .pins rfl

@[simp] theorem loadNv_nvr (x0 e) : (loadNv x0 e).nvr = e.nvr := (moves_loadNv).part .nvr rfl

@[simp] theorem loadNv_clk (x0 e) : (loadNv x0 e).clk = e.clk := (moves_loadNv).part .clk rfl

@[simp] theorem loadNv_hostMem (x0 e) : (loadNv x0 e).hostMem = e.hostMem := (moves_loadNv).part .hostMem rfl

@[simp] theorem trigger_pins (x0 e) : (trigger x0 e).pins = e.pins := (moves_trigger).part .pins rfl

@[simp] theorem note_pwr (x0 e) : (note x0 e).pwr = e.pwr := (moves_note).part .pwr rfl

@[simp] theorem note_clk (x0 e) : (note x0 e).clk = e.clk := (moves_note).part .clk rfl

@[simp] theorem note_thm (x0 e) : (note x0 e).thm = e.thm := (moves_note).part .thm rfl

@[simp] theorem inc_clk (x0 e) : (inc x0 e).clk = e.clk := (moves_inc).part .clk rfl

@[simp] theorem wr_clk : ∀ x0 x1 (e : Engine), (wr x0 x1 e).clk = e.clk := fun x0 x1 e => (moves_wr).part .clk rfl

theorem trigger_modeEq (b : Nat) (e : Engine) : (trigger b e).sys.mode = e.sys.mode := (trigger_mode b e).1

theorem enterSafe_boot (e : Engine) (h : e.sys.mode = .boot) : (enterSafe e).sys.mode = .boot := by
  unfold enterSafe
  rw [if_neg (by simp [inMode, h]), if_neg (by simp [h])]
  split
  · exact h
  · rw [trigger_modeEq]; exact h

theorem pinBrake_boot (e : Engine) (h : e.sys.mode = .boot) : (pinBrake e).sys.mode = .boot := by
  unfold pinBrake
  split
  · exact h
  · unfold raise raiseD react
    rw [if_neg (by decide), if_pos (by decide)]
    apply enterSafe_boot
    rw [noteD_sys, trigger_modeEq, h]

theorem authenticate_mode (e : Engine) : (authenticate e).sys.mode = e.sys.mode := by
  unfold authenticate bootFail
  dsimp only
  split
  · rfl
  · rw [note_sys]
  · rfl

theorem beginBoot_boot (e : Engine) (h : e.sys.mode = .boot) : (beginBoot e).sys.mode = .boot := by
  unfold beginBoot
  dsimp only
  split
  · exact pinBrake_boot _ h
  · exact h

theorem beginBoot_hostMem (e : Engine) (h : e.pins.brakeLow = false) : (beginBoot e).hostMem = e.hostMem := by
  unfold beginBoot
  simp only [h, Bool.false_eq_true, if_false]

theorem wakeNow_boot (e : Engine) (h : e.sys.mode = .sleep) : (wakeNow e).sys.mode = .boot := by
  unfold wakeNow
  rw [if_pos h]
  exact beginBoot_boot _ rfl

theorem resetEngine_mode (b : Bool) (f : BootFrom) (e : Engine) : (resetEngine b f e).sys.mode = .boot := rfl

theorem resetEngine_clk (b : Bool) (f : BootFrom) (e : Engine) : (resetEngine b f e).clk = e.clk := rfl

theorem waitClk_same (t : Nat) (e : Engine) : (waitClk t e).sys = e.sys ∧ (waitClk t e).pins = e.pins ∧ (waitClk t e).thm = e.thm := by
  unfold waitClk
  split <;> exact ⟨rfl, rfl, rfl⟩

@[simp] theorem updStation_bkp (e) : (updStation e).bkp = e.bkp := (moves_updStation).part .bkp rfl

@[simp] theorem snapBefore_sys (x0 e) : (snapBefore x0 e).sys = e.sys := (moves_snapBefore).part .sys rfl

@[simp] theorem snapBefore_bkp (x0 e) : (snapBefore x0 e).bkp = e.bkp := (moves_snapBefore).part .bkp rfl

@[simp] theorem waitClk_sys (x0 e) : (waitClk x0 e).sys = e.sys := (moves_waitClk).part .sys rfl

@[simp] theorem waitClk_bkp (x0 e) : (waitClk x0 e).bkp = e.bkp := (moves_waitClk).part .bkp rfl

@[simp] theorem brakeMap_sys (x0 e) : (brakeMap x0 e).sys = e.sys := (moves_brakeMap).part .sys rfl

@[simp] theorem zeroArray_sys (x0 e) : (zeroArray x0 e).sys = e.sys := (moves_zeroArray).part .sys rfl

@[simp] theorem inc_bkp (x0 e) : (inc x0 e).bkp = e.bkp := (moves_inc).part .bkp rfl

@[simp] theorem noteTile_sys (x0 x1 x2 e) : (noteTile x0 x1 x2 e).sys = e.sys := (moves_noteTile).part .sys rfl

@[simp] theorem noteTile_bkp (x0 x1 x2 e) : (noteTile x0 x1 x2 e).bkp = e.bkp := (moves_noteTile).part .bkp rfl

@[simp] theorem setLive_sys (x0 x1 e) : (setLive x0 x1 e).sys = e.sys := (moves_setLive).part .sys rfl

@[simp] theorem resynthAll_xact (x0 e) : (resynthAll x0 e).1.xact = e.xact := (moves_resynthAll).part .xact rfl

theorem brakeSluice_sys (l : List Nat) (e : Engine) : (brakeSluice l e).sys = e.sys := (moves_brakeSluice).part .sys rfl

theorem brakeInstant_sys (n : Nat) (e : Engine) : (brakeInstant n e).sys = e.sys := (moves_brakeInstant).part .sys rfl

theorem brakeFailTile_sys (t : Nat) (e : Engine) : (brakeFailTile t e).sys = e.sys := (moves_brakeFailTile).part .sys rfl

theorem dedup_nil {α : Type} [DecidableEq α] (l : List α) : dedup l = [] ↔ l = [] := by
  cases l <;> simp [dedup]

theorem waitD_keeps (t : Nat) (e : Engine) : (waitD t e).xact = e.xact ∧ (waitD t e).sns = e.sns :=
  ⟨(moves_waitD).part .xact rfl, (moves_waitD).part .sns rfl⟩

@[simp] theorem note_syn (x0 e) : (note x0 e).syn = e.syn := (moves_note).part .syn rfl

@[simp] theorem waitClk_rfs (x0 e) : (waitClk x0 e).rfs = e.rfs := (moves_waitClk).part .rfs rfl

@[simp] theorem inc_rfs (x0 e) : (inc x0 e).rfs = e.rfs := (moves_inc).part .rfs rfl

@[simp] theorem wrF_rfs (x0 x1 e) : (wrF x0 x1 e).rfs = e.rfs := (moves_wrF).part .rfs rfl

@[simp] theorem wrF_clk (x0 x1 e) : (wrF x0 x1 e).clk = e.clk := (moves_wrF).part .clk rfl

@[simp] theorem wrF_bkp (x0 x1 e) : (wrF x0 x1 e).bkp = e.bkp := (moves_wrF).part .bkp rfl

@[simp] theorem wr_bkp : ∀ x0 x1 (e : Engine), (wr x0 x1 e).bkp = e.bkp := fun x0 x1 e => (moves_wr).part .bkp rfl

@[simp] theorem note_rfs (x0 e) : (note x0 e).rfs = e.rfs := (moves_note).part .rfs rfl

@[simp] theorem note_bkp (x0 e) : (note x0 e).bkp = e.bkp := (moves_note).part .bkp rfl

@[simp] theorem claimAll_clk (x0 e) : (claimAll x0 e).clk = e.clk := (moves_claimAll).part .clk rfl

@[simp] theorem claimAll_regs (x0 e) : (claimAll x0 e).regs = e.regs := (moves_claimAll).part .regs rfl

@[simp] theorem claimAll_trip1 (x0 e) : (claimAll x0 e).trip1 = e.trip1 := (moves_claimAll).part .trip1 rfl

@[simp] theorem claimAll_trip2 (x0 e) : (claimAll x0 e).trip2 = e.trip2 := (moves_claimAll).part .trip2 rfl

@[simp] theorem setLive_rfs (x0 x1 e) : (setLive x0 x1 e).rfs = e.rfs := (moves_setLive).part .rfs rfl

@[simp] theorem setLive_bkp (x0 x1 e) : (setLive x0 x1 e).bkp = e.bkp := (moves_setLive).part .bkp rfl

end Sys2Proof.Machine
end

