-- ==== Sys2Proof/Laws/UnitActs.lean ====
section
/-! SUPPORT. What the shared operations behind snapshots, mailboxes, the ring and the time unit answer and leave alone. -/

open Sys2Proof

namespace Sys2Proof.Machine

@[simp] theorem note_nvr (x0 e) : (note x0 e).nvr = e.nvr := (moves_note).part .nvr rfl

def gravePersistF (ok : Bool) (e : Engine) : Engine :=
  if !e.flt.graveBusy then e
  else
    let e := { e with flt := { e.flt with graveBusy := false } }
    if ok then e else note Fd.FLT_CAUSE_GRAVE_NV_FAIL e

theorem gravePersist_run (ok : Bool) (s : State) : exec (.gravePersist ok) s = .next (s.run (gravePersistF ok)) := rfl

def atnF (e : Engine) : Engine :=
  if !e.flt.risePend then e
  else
    let e := waitClk e.flt.holdUntil e
    let e := { e with flt := { e.flt with risePend := false, holdUntil := e.clk + 1000 * rdF e Fd.ATN_CTL_HOLDOFF } }
    if on e Fd.ATN_CTL_MSI_EN then signalMsix 0 0 e else e

theorem atn_run (s : State) : exec .atnHoldoffEnd s = .next (s.run atnF) := rfl

theorem atn_go (s : State) (x : Engine) (h : s.eng.flt.risePend = true) (hx : x = waitClk s.eng.flt.holdUntil s.start)
    (y : Engine) (hy : y = { x with flt := { x.flt with risePend := false, holdUntil := x.clk + 1000 * rdF x Fd.ATN_CTL_HOLDOFF } }) :
    exec .atnHoldoffEnd s = .next (s.to (if on y Fd.ATN_CTL_MSI_EN = true then signalMsix 0 0 y else y)) := by
  refine exec_run (atn_run s) ?_
  unfold atnF
  rw [if_neg (by rw [show s.start.flt.risePend = true from h]; decide), show s.start.flt.holdUntil = s.eng.flt.holdUntil from rfl, ← hx]
  dsimp only
  rw [← hy]

theorem restartViews_snap (e : Engine) : (restartViews e).snap = e.snap := by unfold restartViews; split <;> rfl

theorem nvDone_eq (ok : Bool) (s : State) (off : Nat) (v : Word) (h : s.eng.nvr.busy = some (off, v)) :
    ∃ X : Engine, nvDone ok s.start = (if ok = true then X else note Fd.NVR_CAUSE_PROG_FAIL X) ∧
      X.nvr = { s.eng.nvr with busy := none, wear := Tbl.put (fun _ => 0) s.eng.nvr.wear off (wearOf s.eng off + 1),
                               stored := if ok = true then Tbl.ins s.eng.nvr.stored off v else s.eng.nvr.stored } ∧
      (wearOf s.eng off + 1 = 95000 → bit (rd X Reg.NVR_CAUSE) Fd.NVR_CAUSE_WEAR_WARN.lo = true) := by
  unfold nvDone
  rw [show s.start.nvr.busy = some (off, v) from h]
  dsimp only
  generalize hY : waitClk (s.start.nvr.busyAt + 20000) s.start = Y
  have hn : Y.nvr = s.eng.nvr := by rw [← hY]; unfold waitClk; split <;> rfl
  have hw : wearOf Y off = wearOf s.eng off := by unfold wearOf; rw [hn]
  rw [hw, hn]
  refine ⟨_, rfl, ?_, ?_⟩
  · split
    · rw [note_nvr]
    · rfl
  · intro h9
    rw [if_pos h9]
    exact bit_note _ _ (by decide) (by decide)

def started (rq : Rq) (sel : Nat) (w : Bool) (i : Nat) (d : List Word) (e : Engine) : Engine :=
  updMbx (rqNum rq) (fun m =>
    { m with sel := sel, idx := i % 4294967296, write := w, data := if w then pad8 d else m.data, busy := true,
             valid := false, err := 0, gen := 0 }) e

theorem mbxOf_updMbx (k : Nat) (f : Mbx → Mbx) (e : Engine) : (updMbx k f e).mbxOf k = f (e.mbxOf k) := by
  simp [updMbx, Engine.mbxOf]

theorem rd_updMbx (k : Nat) (f : Mbx → Mbx) (e : Engine) (o : Nat) : rd (updMbx k f e) o = rd e o := rd_congr rfl rfl rfl o

theorem mbxOp_go {rq : Rq} {sel : Nat} {w : Bool} {i : Nat} {d : List Word} {e : Engine} (h1 : mbxOpen e rq = true)
    (h2 : (e.mbxOf (rqNum rq)).busy = false) : mbxOp rq sel w i d e = mbxRun (rqNum rq) (started rq sel w i d e) := by
  unfold mbxOp
  dsimp only
  rw [if_neg (by rw [h1]; decide), if_neg (by rw [h2]; decide)]
  rfl

theorem mbxOp_shut {rq : Rq} {sel : Nat} {w : Bool} {i : Nat} {d : List Word} {e : Engine} (h1 : mbxOpen e rq = false) :
    mbxOp rq sel w i d e = e := by
  unfold mbxOp
  dsimp only
  rw [if_pos (by rw [h1]; rfl)]

theorem mbxOp_busy {rq : Rq} {sel : Nat} {w : Bool} {i : Nat} {d : List Word} {e : Engine} (h1 : mbxOpen e rq = true)
    (h2 : (e.mbxOf (rqNum rq)).busy = true) : mbxOp rq sel w i d e = note Fd.REG_CAUSE_MBX_COLLIDE e := by
  unfold mbxOp
  dsimp only
  rw [if_neg (by rw [h1]; decide), if_pos h2]

theorem mbxRun_err {k : Nat} {e : Engine} {err : Nat} (h : selErr (if 16 ≤ k then some (k - 16) else none) (e.mbxOf k) e = err)
    (hn : err ≠ 0) : ((mbxRun k e).mbxOf k).err = err ∧ ((mbxRun k e).mbxOf k).valid = true ∧ ((mbxRun k e).mbxOf k).busy = false ∧
      Unchanged [.mbx] e (mbxRun k e) := by
  unfold mbxRun
  dsimp only
  rw [h, if_pos hn, mbxOf_updMbx]
  refine ⟨rfl, rfl, rfl, ?_⟩
  intro p hp
  cases p <;> first | exact rfl | exact absurd (by decide) hp

theorem started_unch (rq : Rq) (sel : Nat) (w : Bool) (i : Nat) (d : List Word) (s : State) :
    Unchanged [.mbx, .out] s.eng (started rq sel w i d s.start) := by
  intro p hp
  cases p <;> first | exact rfl | exact absurd (by decide) hp

theorem Unchanged.trans {l : List Part} {a b c : Engine} (h : Unchanged l a b) (g : Unchanged l b c) : Unchanged l a c :=
  fun p hp => (h p hp).trans (g p hp)

theorem Unchanged.mono {l m : List Part} {a b : Engine} (h : Unchanged l a b) (hl : l ⊆ m) : Unchanged m a b :=
  fun p hp => h p (fun hh => hp (hl hh))

theorem idxOk_started (rq : Rq) (sel : Nat) (w : Bool) (i : Nat) (d : List Word) (s : State) (sel' j : Nat) :
    idxOk (started rq sel w i d s.start) sel' j = idxOk s.eng sel' j := rfl

theorem started_mbx (rq : Rq) (sel : Nat) (w : Bool) (i : Nat) (d : List Word) (s : State) :
    (started rq sel w i d s.start).mbxOf (rqNum rq) =
    { s.eng.mbxOf (rqNum rq) with sel := sel, idx := i % 4294967296, write := w,
                                  data := if w then pad8 d else (s.eng.mbxOf (rqNum rq)).data, busy := true, valid := false, err := 0, gen := 0 } := by
  unfold started; rw [mbxOf_updMbx]; rfl

theorem mbx_row (c : Rq → Bool → Nat → List Word → Instr) (sel : Nat) (s : State) (rq : Rq) (w : Bool) (i : Nat) (d : List Word)
    (h : (c, sel) ∈ [(Instr.time, 1), (.timeSlot, 2), (.timeSet, 3), (.tsq, 4), (.xactEpoch, 0x10), (.xactMapEpoch, 0x11),
      (.dmaFault, 0x20), (.snapInfo, 0x30), (.snapReg, 0x31), (.cntPreset, 0x32)]) :
    exec (c rq w i d) s = .next (s.run (mbxOp rq sel w i d)) := by
  suffices H : ∀ x : (Rq → Bool → Nat → List Word → Instr) × Nat, x ∈ [(Instr.time, 1), (.timeSlot, 2), (.timeSet, 3), (.tsq, 4),
      (.xactEpoch, 0x10), (.xactMapEpoch, 0x11), (.dmaFault, 0x20), (.snapInfo, 0x30), (.snapReg, 0x31), (.cntPreset, 0x32)] →
      exec (x.1 rq w i d) s = .next (s.run (mbxOp rq x.2 w i d)) from H _ h
  repeat' first | refine List.forall_mem_cons.2 ⟨rfl, ?_⟩ | exact fun _ hx => absurd hx List.not_mem_nil

theorem mbxRun_read {k : Nat} {e : Engine} (h : selErr (if 16 ≤ k then some (k - 16) else none) (e.mbxOf k) e = 0)
    (h3 : (e.mbxOf k).sel ≠ 3) (h4 : (e.mbxOf k).sel ≠ 0x32) :
    mbxRun k e = updMbx k (fun m => m.done 0 (if (e.mbxOf k).sel = 0x30 ∨ (e.mbxOf k).sel = 0x31 then e.snap.cur.gen % 65536 else 0)
      (pad8 (selRead m.sel m.idx e))) e := by
  unfold mbxRun
  dsimp only
  rw [h, if_neg (by decide), if_neg h3, if_neg h4]

theorem mbx_read (sel : Nat) (s : State) (rq : Rq) (i : Nat) (d : List Word) (hd : selDir sel = some false)
    (h1 : mbxOpen s.eng rq = true) (h2 : (s.eng.mbxOf (rqNum rq)).busy = false) (h3 : i < 4294967296) (h4 : idxOk s.eng sel i = true)
    (h5 : rqNum rq < 16 ∨ (vfMay sel = true ∧ (sel ≠ 0x20 ∨ (faultRec s.eng i).dom = rqNum rq - 16))) :
    ∃ r, r = selRead sel i (started rq sel false i d s.start) ∧ (fun t : Engine => t.mbxOf (rqNum rq) =
      ({ s.eng.mbxOf (rqNum rq) with
        sel := sel, idx := i, write := false, data := pad8 r, busy := false, valid := true, err := 0,
        gen := if sel = 0x30 ∨ sel = 0x31 then s.eng.snap.cur.gen % 65536 else 0 } : Mbx) ∧
      t.regs = s.eng.regs ∧ t.tim = s.eng.tim ∧ t.out = []) (mbxOp rq sel false i d s.start) := by
  refine ⟨_, rfl, ?_⟩
  rw [mbxOp_go (show mbxOpen s.start rq = true from h1) (show (s.start.mbxOf (rqNum rq)).busy = false from h2)]
  have hm := started_mbx rq sel false i d s
  rw [Nat.mod_eq_of_lt h3] at hm
  have hs3 : sel ≠ 3 := by rintro rfl; exact absurd hd (by decide)
  have hs4 : sel ≠ 0x32 := by rintro rfl; exact absurd hd (by decide)
  rw [mbxRun_read (by
    rw [hm]; unfold selErr; dsimp only
    rw [hd, if_neg (by decide), idxOk_started, h4]
    rw [show faultRec (started rq sel false i d s.start) i = faultRec s.eng i from rfl]
    rcases h5 with h5 | ⟨h5, h6⟩
    · rw [if_neg (show ¬16 ≤ rqNum rq by omega)]; simp
    · rw [h5]
      simp only [Bool.not_true, Bool.and_false, Bool.false_eq_true, if_false]
      rw [if_neg]
      rintro ⟨a, b, hc⟩
      rcases h6 with h6 | h6
      · exact h6 a
      · rw [h6] at hc
        split at hc <;> simp at hc) (by rw [hm]; exact hs3) (by rw [hm]; exact hs4)]
  dsimp only
  rw [mbxOf_updMbx, hm]
  exact ⟨rfl, rfl, rfl, rfl⟩

theorem mbx_stop (sel err : Nat) (s : State) (rq : Rq) (w : Bool) (i : Nat) (d : List Word) (h1 : mbxOpen s.eng rq = true)
    (h2 : (s.eng.mbxOf (rqNum rq)).busy = false) (hn : err ≠ 0)
    (h : ∀ m : Mbx, m.sel = sel → m.write = w → m.idx = i % 4294967296 →
      selErr (if 16 ≤ rqNum rq then some (rqNum rq - 16) else none) m (started rq sel w i d s.start) = err) :
    (fun t : Engine => (t.mbxOf (rqNum rq)).err = err ∧ (t.mbxOf (rqNum rq)).valid = true ∧
        (t.mbxOf (rqNum rq)).busy = false ∧ Unchanged [.mbx, .out] s.eng t) (mbxOp rq sel w i d s.start) := by
  rw [mbxOp_go (show mbxOpen s.start rq = true from h1) (show (s.start.mbxOf (rqNum rq)).busy = false from h2)]
  obtain ⟨a, b, c, e⟩ := mbxRun_err (k := rqNum rq) (e := started rq sel w i d s.start) (err := err)
    (h _ (by rw [started_mbx]) (by rw [started_mbx]) (by rw [started_mbx])) hn
  exact ⟨a, b, c, Unchanged.trans (started_unch rq sel w i d s) (Unchanged.mono e (by simp))⟩

@[simp] theorem note_lrg (x0 e) : (note x0 e).lrg = e.lrg := (moves_note).part .lrg rfl

@[simp] theorem charge_tim (x0 x1 e) : (charge x0 x1 e).tim = e.tim := (moves_charge).part .tim rfl

@[simp] theorem charge_clk (x0 x1 e) : (charge x0 x1 e).clk = e.clk := (moves_charge).part .clk rfl

@[simp] theorem inc_tim (x0 e) : (inc x0 e).tim = e.tim := (moves_inc).part .tim rfl

theorem slot_updSlotT (n : Nat) (f : TSlot → TSlot) (e : Engine) (h : n ≤ 1) : (updSlotT n f e).tim.slot n = f (e.tim.slot n) := by
  unfold updSlotT TimSt.slot
  split <;> rfl

theorem updSlotT_tsq (n : Nat) (f : TSlot → TSlot) (e : Engine) : (updSlotT n f e).tim.tsq = e.tim.tsq ∧ (updSlotT n f e).clk = e.clk := by
  unfold updSlotT
  split <;> exact ⟨rfl, rfl⟩

theorem slot_congr {a b : Engine} (h : a.tim = b.tim) (n : Nat) : a.tim.slot n = b.tim.slot n := by rw [h]

end Sys2Proof.Machine
end

