-- ==== Sys2Proof/Laws/RegActs.lean ====
section
/-! SUPPORT. What a register row comes to, guarded or plain. -/

open Sys2Proof

namespace Sys2Proof.Machine

theorem latchOf_ins (t : Tbl Latch) (k : Nat) (v : Latch) : ((Tbl.ins t k v).find? (fun x => x.1 == k)).map (·.2) = some v := by
  induction t with
  | nil => simp [Tbl.ins]
  | cons x t ih =>
    obtain ⟨k', v'⟩ := x
    unfold Tbl.ins
    split
    · simp
    · split
      · simp
      · rename_i h1 h2
        rw [List.find?_cons_of_neg (by simpa using fun h => h2 h.symm)]
        exact ih

theorem guardErr_reads (why k off : Nat) (e : Engine) : (guardErr why k off e).bkp = e.bkp ∧ (guardErr why k off e).sys = e.sys ∧
    on (guardErr why k off e) Fd.REG_CAUSE_GUARD_ERR = true ∧
    rd (guardErr why k off e) Reg.REG_GUARD_CNT = (rd e Reg.REG_GUARD_CNT + 1) % 4294967296 ∧
    rd (guardErr why k off e) Reg.REG_GUARD_LAST = (why <<< 28 + (k % 16) <<< 24 + off % 65536) % 4294967296 := by
  unfold guardErr
  refine ⟨by simp, by simp, ?_, ?_, by rw [rd_wr_same]⟩
  · have h : ∀ x : Engine, rd x Fd.REG_CAUSE_GUARD_ERR.off = rd (note Fd.REG_CAUSE_GUARD_ERR e) Fd.REG_CAUSE_GUARD_ERR.off → on x Fd.REG_CAUSE_GUARD_ERR = true := by
      intro x hx
      have := bit_note Fd.REG_CAUSE_GUARD_ERR e (by decide) (by decide)
      rw [← hx] at this
      exact this
    apply h
    rw [rd_wr_ne _ _ _ _ (by decide), rd_inc_ne _ _ _ (by decide)]
  · rw [rd_wr_ne _ _ _ _ (by decide), rd_inc_same, rd_note_ne _ _ _ (by decide) (by decide)]

theorem blockOf_tile (off : Nat) (h1 : 0x8000 ≤ off) (h2 : off < 0xC000) : blockOf off = tileRegs := by
  unfold blockOf
  repeat rw [if_neg (by omega)]
  rw [if_pos h2]

theorem find_skip (r : RegInfo) (l : List RegInfo) (off : Nat) (h : (off - r.base) % r.stride ≠ 0) :
    (r :: l).find? (fun x => x.covers off) = l.find? (fun x => x.covers off) := by
  rw [List.find?_cons_of_neg]
  unfold RegInfo.covers
  simp [h]

theorem find_here (r : RegInfo) (l : List RegInfo) (off : Nat) (h : r.covers off = true) :
    (r :: l).find? (fun x => x.covers off) = some r := List.find?_cons_of_pos h

theorem tileCtl_info (k : Nat) (hk : k < 256) : guardMain (Reg.TILE_CTL + 0x40 * k) = none ∧ (regInfo (Reg.TILE_CTL + 0x40 * k)).isSome = true ∧
    ∀ r, regInfo (Reg.TILE_CTL + 0x40 * k) = some r → r.kind = .guarded ∧ r.readOnly = false := by
  have ht : Reg.TILE_CTL + 0x40 * k = 0x8014 + 0x40 * k := rfl
  have h1 : regInfo (0x8014 + 0x40 * k) = some {base := Reg.TILE_CTL, stride := 0x40, count := 256, rw := 0x3, rsv := 0xFFFFFFFC, kind := .guarded} := by
    unfold regInfo
    rw [blockOf_tile _ (by omega) (by omega)]
    unfold tileRegs
    rw [find_skip, find_skip, find_skip, find_skip, find_skip, find_here]
    · show (decide (0x8014 ≤ 0x8014 + 0x40 * k) && decide ((0x8014 + 0x40 * k - 0x8014) % 0x40 = 0) && decide ((0x8014 + 0x40 * k - 0x8014) / 0x40 < 256)) = true
      simp only [Bool.and_eq_true, decide_eq_true_eq]
      omega
    all_goals
      simp only [Reg.TILE_STAT, Reg.TILE_CAUSE, Reg.TILE_MASK, Reg.TILE_TEMP, Reg.TILE_SHORT]
      omega
  have h2 : regInfo (0x8010 + 0x40 * k) = some {base := Reg.TILE_SHORT, stride := 0x40, count := 256, rsv := 0xF0000000} := by
    unfold regInfo
    rw [blockOf_tile _ (by omega) (by omega)]
    unfold tileRegs
    rw [find_skip, find_skip, find_skip, find_skip, find_here]
    · show (decide (0x8010 ≤ 0x8010 + 0x40 * k) && decide ((0x8010 + 0x40 * k - 0x8010) % 0x40 = 0) && decide ((0x8010 + 0x40 * k - 0x8010) / 0x40 < 256)) = true
      simp only [Bool.and_eq_true, decide_eq_true_eq]
      omega
    all_goals
      simp only [Reg.TILE_STAT, Reg.TILE_CAUSE, Reg.TILE_MASK, Reg.TILE_TEMP, Reg.TILE_SHORT]
      omega
  rw [ht, h1]
  refine ⟨?_, rfl, ?_⟩
  · unfold guardMain
    rw [if_neg (by omega), show 0x8014 + 0x40 * k - 4 = 0x8010 + 0x40 * k by omega, h2]
    rfl
  · intro r hr
    cases hr
    exact ⟨rfl, rfl⟩


theorem busDword_row {rq : Rq} {off : Nat} {v : Word} {e : Engine} {r : RegInfo} {p : Engine × Nat} (h : Reaches rq off e)
    (hp : p = written off v e)
    (hg : guardMain off = none) (hr : regInfo off = some r) (hk : r.kind = .plain) (hro : r.readOnly = false) :
    busDword rq off v e = plainApply rq r off (rsvKeep r off v.toNat e).2 (rsvKeep r off v.toNat e).1 ∧
      p = ((rsvKeep r off v.toNat e).1, merged (rsvKeep r off v.toNat e).1 r off (rsvKeep r off v.toNat e).2) := by
  refine ⟨busDword_plain h hg hr hk hro, ?_⟩
  rw [hp]; unfold written; rw [hr]

theorem family_info (b n st : Nat) (h : ∀ k, k < n → guardMain (b + st * k) = none ∧ ((regInfo (b + st * k)).map (fun r => decide (r.kind = .plain) && !r.readOnly)) = some true) :
   ∀ k, k < n → ∃ r, guardMain (b + st * k) = none ∧ regInfo (b + st * k) = some r ∧ r.kind = .plain ∧ r.readOnly = false := by
  intro k hk
  obtain ⟨h1, h2⟩ := h k hk
  cases hr : regInfo (b + st * k) with
  | none => rw [hr] at h2; simp at h2
  | some r => rw [hr] at h2; simp at h2; exact ⟨r, h1, rfl, h2.1, h2.2⟩

end Sys2Proof.Machine
end

