-- ==== Sys2Proof/Laws/Whole.lean ====
section
/-! SUPPORT. From the mask of a list of parts to what a command leaves unchanged. -/

open Sys2Proof

namespace Sys2Proof.Machine

theorem Part.num_inj {p q : Part} (h : p.num = q.num) : p = q := by cases p <;> cases q <;> first | rfl | exact absurd h (by decide)

theorem testBit_foldl (l : List Part) (m : Nat) (p : Part) (hm : m.testBit p.num = false) (hp : p ∉ l) :
    (l.foldl (fun m q => m ||| 2 ^ q.num) m).testBit p.num = false := by
  induction l generalizing m with
  | nil => exact hm
  | cons q l ih =>
    rw [List.mem_cons, not_or] at hp
    refine ih _ ?_ hp.2
    rw [Nat.testBit_or, hm, Nat.testBit_two_pow_of_ne fun h => hp.1 (Part.num_inj h).symm]
    rfl

/-- A part that a list does not name has no bit in its mask. -/
theorem testBit_partMask {l : List Part} {p : Part} (hp : p ∉ l) : (partMask l).testBit p.num = false :=
  testBit_foldl l 0 p (Nat.zero_testBit _) hp

theorem Moves.kept {l : List Part} {a b : Engine} (h : Moves (partMask l) a b) : Unchanged l a b :=
  fun p hp => h.frame p (testBit_partMask hp)

/-- A part that a command does not touch is, after it, what it was. -/
theorem exec_same {c : Instr} {s : State} (p : Part) (hp : p ∉ touches c) (ho : p ≠ .out) :
    Goes c s (fun t => same p s.eng t) := by
  obtain ⟨t, h, hq, hm⟩ := (exec_acts c s).next
  refine ⟨t, h, hq, same.trans ?_ (hm.kept p hp)⟩
  cases p <;> first | rfl | exact absurd rfl ho

end Sys2Proof.Machine
end

