-- ==== Sys2Proof/Laws/Geometry.lean ====
section
/-! SUPPORT. The circuits of a survey round, by their indices. -/

open Sys2Proof

namespace Sys2Proof.Machine

theorem mem_roundPairs {k a b : Nat} : (a, b) ∈ roundPairs k ↔ (a = 4093 ∧ b = k + 2) ∨
    ∃ j, 1 ≤ j ∧ j ≤ 2045 ∧ a = (k + j) % 4091 + 2 ∧ b = (k + 4091 - j) % 4091 + 2 := by
  unfold roundPairs span
  simp only [List.map_map, List.mem_cons, Prod.mk.injEq, List.mem_map, List.mem_range, Function.comp]
  constructor
  · rintro (h | ⟨j, hj, h1, h2⟩)
    · exact Or.inl h
    · exact Or.inr ⟨j + 1, by omega, by omega, h1.symm, h2.symm⟩
  · rintro (h | ⟨j, h1, h2, h3, h4⟩)
    · exact Or.inl h
    · exact Or.inr ⟨j - 1, by omega, by rw [show j - 1 + 1 = j by omega]; exact h3.symm, by rw [show j - 1 + 1 = j by omega]; exact h4.symm⟩

theorem ordinary_iff (p : Nat) : ordinary p = true ↔ 2 ≤ p ∧ p ≤ 4093 := by simp [ordinary]

theorem roundPairs_sum {k a b : Nat} (hk : k < 4091) (ha : a < 4093) (hb : b < 4093) (h : (a, b) ∈ roundPairs k ∨ (b, a) ∈ roundPairs k) :
    (a + b) % 4091 = (2 * k + 4) % 4091 := by
  rcases h with h | h <;> rw [mem_roundPairs] at h <;> rcases h with h | ⟨j, h1, h2, h3, h4⟩ <;> omega

theorem double_mod {j k : Nat} (hj : j < 4091) (hk : k < 4091) (h : (2 * j + 4) % 4091 = (2 * k + 4) % 4091) : j = k := by
  have h1 : 2 * j ≡ 2 * k [MOD 4091] := Nat.ModEq.add_right_cancel' 4 h
  have h2 : j ≡ k [MOD 4091] := Nat.ModEq.cancel_left_of_coprime (by decide) h1
  exact Nat.ModEq.eq_of_lt_of_lt h2 hj hk

end Sys2Proof.Machine
end

