-- ==== Sys2Proof/Laws/FlagActs.lean ====
section
/-! SUPPORT. What events, run counts, guard latches and host memory come to. -/

open Sys2Proof

namespace Sys2Proof.Machine

theorem insertRec_length (r : Rec) (l : List Rec) : (insertRec r l).length = l.length + 1 := by
  induction l with
  | nil => rfl
  | cons h t ih => unfold insertRec; split <;> simp [ih]

theorem noteD_runs (c : Fld) (i d : Nat) (e : Engine) : (noteD c i d e).flt.runs = e.flt.runs := noteRec_runs _ _ _

theorem rd_wantPark (l : List Nat) (e : Engine) (o : Nat) : rd (wantPark l e) o = rd e o := by
  unfold wantPark; split
  · exact rd_setFlt _ _ _
  · rfl

theorem wantPark_runs (l : List Nat) (e : Engine) : (wantPark l e).flt.runs = e.flt.runs := by
  unfold wantPark; split <;> rfl

theorem raise_overpower (p : Nat) (e : Engine) : raiseD Fd.FLT_CAUSE_OVERPOWER 0 p e = noteD Fd.FLT_CAUSE_OVERPOWER 0 p e := by
  unfold raiseD react
  rw [if_neg (by decide), if_neg (by decide)]

theorem overpower_step (p w : Nat) (e : Engine) :
    (overpower p w e).flt.runs = (if bit w 31 = false ∧ bit w 30 = true ∧ bit w 27 = false then
        Tbl.put (fun _ => 0) e.flt.runs p (Tbl.get (fun _ => 0) e.flt.runs p + 1)
      else if bit w 31 = false ∧ bit w 30 = false ∧ bit w 28 = false then Tbl.put (fun _ => 0) e.flt.runs p 0 else e.flt.runs) := by
  unfold overpower
  dsimp only
  by_cases h1 : bit w 31 = false ∧ bit w 30 = true ∧ bit w 27 = false
  · rw [if_pos h1, if_pos (by simpa using h1)]
    split
    · have hx : ∀ x : Engine, (raiseD Fd.FLT_CAUSE_OVERPOWER 0 p x).flt.runs = x.flt.runs := fun x => by rw [raise_overpower]; exact noteD_runs _ _ _ _
      split
      · rw [wantPark_runs, hx]
      · rw [hx]
    · rfl
  · rw [if_neg h1, if_neg (by simpa using h1)]
    by_cases h2 : bit w 31 = false ∧ bit w 30 = false ∧ bit w 28 = false
    · rw [if_pos h2, if_pos (by simpa using h2)]
    · rw [if_neg h2, if_neg (by simpa using h2)]

theorem liveFlt (a b c d f : Bool) : bit (ofB a <<< 16 + ofB b <<< 18 + ofB c <<< 19 + ofB d <<< 22 + ofB f <<< 23) 19 = c := by
  cases a <;> cases b <;> cases c <;> cases d <;> cases f <;> decide

theorem latchOf_del (e : Engine) (k : Nat) : latchOf { e with guards := Tbl.del e.guards k } k = none := by
  unfold latchOf Tbl.del
  rw [Option.map_eq_none_iff, List.find?_eq_none]
  intro x hx
  have := (List.mem_filter.mp hx).2
  simpa using this

theorem latchOf_congr {a b : Engine} (h : b.guards = a.guards) (k : Nat) : latchOf b k = latchOf a k := by unfold latchOf; rw [h]

theorem written_guards (off : Nat) (v : Word) (e : Engine) : (written off v e).1.guards = e.guards ∨ (written off v e).1 = e := by
  unfold written
  split
  · exact Or.inl ((moves_rsvKeep).part .guards rfl)
  · exact Or.inr rfl

theorem guarded_bad (off : Nat) (r : RegInfo) (hr : regInfo off = some r) (hk : r.kind = .guarded) :
    off ∉ [Reg.REG_CAUSE, Reg.REG_GUARD_CNT, Reg.REG_GUARD_LAST, Reg.FLT_CAUSE, Reg.FLT_EVENT_CNT, Reg.FLT_HIST_OVF_CNT] := by
  intro h
  have : ∀ o ∈ [Reg.REG_CAUSE, Reg.REG_GUARD_CNT, Reg.REG_GUARD_LAST, Reg.FLT_CAUSE, Reg.FLT_EVENT_CNT, Reg.FLT_HIST_OVF_CNT],
      (regInfo o).map (fun r => decide (r.kind = .guarded)) ≠ some true := by decide
  apply this off h
  rw [hr]; simp [hk]

theorem get_putBytes (a : Nat) (l : List Byte) (m : Tbl Byte) (x : Nat) : Tbl.get memDefault (putBytes a l m) x =
    if a ≤ x ∧ x < a + l.length then l.getD (x - a) 0 else Tbl.get memDefault m x := by
  induction l generalizing a m with
  | nil => rw [if_neg (by simp only [List.length_nil]; omega)]; rfl
  | cons b t ih =>
    unfold putBytes
    rw [ih]
    simp only [List.length_cons]
    by_cases h : x = a
    · subst h
      rw [if_neg (by omega), if_pos (by omega), Nat.sub_self]
      exact Tbl.get_put_same _ _ _ _
    · by_cases h2 : a ≤ x ∧ x < a + (t.length + 1)
      · rw [if_pos (by omega), if_pos h2, show x - a = (x - (a + 1)) + 1 by omega]
        rfl
      · rw [if_neg (by omega), if_neg h2]
        exact Tbl.get_put_ne _ _ _ _ _ (Ne.symm h)

theorem rdByte_wrBytes (a : Nat) (l : List Byte) (e : Engine) (x : Nat) : rdByte (wrBytes a l e) x =
    if a ≤ x ∧ x < a + l.length then l.getD (x - a) 0 else rdByte e x := get_putBytes a l e.hostMem x

theorem rdBytes_wrBytes (a : Nat) (l : List Byte) (e : Engine) : rdBytes (wrBytes a l e) a l.length = l := by
  unfold rdBytes
  apply List.ext_getElem
  · simp
  · intro i h1 h2
    simp only [List.getElem_map, List.getElem_range]
    rw [rdByte_wrBytes, if_pos (by omega), show a + i - a = i by omega, List.getD_eq_getElem _ _ h2]

theorem rdBytes_wrBytes_ne (a n b : Nat) (l : List Byte) (e : Engine) (h : a + n ≤ b ∨ b + l.length ≤ a) :
    rdBytes (wrBytes b l e) a n = rdBytes e a n := by
  unfold rdBytes
  apply List.map_congr_left
  intro i hi
  rw [List.mem_range] at hi
  rw [rdByte_wrBytes, if_neg (by omega)]

@[simp] theorem noteD_thm (x0 x1 x2 e) : (noteD x0 x1 x2 e).thm = e.thm := (moves_noteD).part .thm rfl

theorem busWrite_lockout {rq : Rq} {off : Nat} {v : Word} {x y : Bool} {e : Engine} (h : e.sys.mode = .lockout)
    (hc : rq = .pf → off < cfgAt) : busWrite rq off v x y e = e := by
  unfold busWrite
  rw [if_neg (fun hh : rq = .pf ∧ cfgAt ≤ off => absurd (hc hh.1) (by omega)), if_pos (Or.inl h), ite_self]

end Sys2Proof.Machine
end

