-- ==== Sys2Proof/Laws/State.lean ====
section
/-! SUPPORT. One lemma per part and update of the state, true by unfolding: an update leaves every part it is not about. -/

namespace Sys2Proof.Machine

-- the engine a command finds

@[simp] theorem State.start_clk (s : State) : s.start.clk = s.eng.clk := rfl
@[simp] theorem State.start_freeCtr (s : State) : s.start.freeCtr = s.eng.freeCtr := rfl
@[simp] theorem State.start_regs (s : State) : s.start.regs = s.eng.regs := rfl
@[simp] theorem State.start_trip1 (s : State) : s.start.trip1 = s.eng.trip1 := rfl
@[simp] theorem State.start_trip2 (s : State) : s.start.trip2 = s.eng.trip2 := rfl
@[simp] theorem State.start_reach (s : State) : s.start.reach = s.eng.reach := rfl
@[simp] theorem State.start_guards (s : State) : s.start.guards = s.eng.guards := rfl
@[simp] theorem State.start_mbx (s : State) : s.start.mbx = s.eng.mbx := rfl
@[simp] theorem State.start_snap (s : State) : s.start.snap = s.eng.snap := rfl
@[simp] theorem State.start_nvr (s : State) : s.start.nvr = s.eng.nvr := rfl
@[simp] theorem State.start_flt (s : State) : s.start.flt = s.eng.flt := rfl
@[simp] theorem State.start_sys (s : State) : s.start.sys = s.eng.sys := rfl
@[simp] theorem State.start_thm (s : State) : s.start.thm = s.eng.thm := rfl
@[simp] theorem State.start_pwr (s : State) : s.start.pwr = s.eng.pwr := rfl
@[simp] theorem State.start_tim (s : State) : s.start.tim = s.eng.tim := rfl
@[simp] theorem State.start_pins (s : State) : s.start.pins = s.eng.pins := rfl
@[simp] theorem State.start_cmd (s : State) : s.start.cmd = s.eng.cmd := rfl
@[simp] theorem State.start_dma (s : State) : s.start.dma = s.eng.dma := rfl
@[simp] theorem State.start_hif (s : State) : s.start.hif = s.eng.hif := rfl
@[simp] theorem State.start_xact (s : State) : s.start.xact = s.eng.xact := rfl
@[simp] theorem State.start_bkp (s : State) : s.start.bkp = s.eng.bkp := rfl
@[simp] theorem State.start_syn (s : State) : s.start.syn = s.eng.syn := rfl
@[simp] theorem State.start_rfs (s : State) : s.start.rfs = s.eng.rfs := rfl
@[simp] theorem State.start_sns (s : State) : s.start.sns = s.eng.sns := rfl
@[simp] theorem State.start_loop (s : State) : s.start.loop = s.eng.loop := rfl
@[simp] theorem State.start_sch (s : State) : s.start.sch = s.eng.sch := rfl
@[simp] theorem State.start_lrg (s : State) : s.start.lrg = s.eng.lrg := rfl
@[simp] theorem State.start_hostMem (s : State) : s.start.hostMem = s.eng.hostMem := rfl
@[simp] theorem State.start_out (s : State) : s.start.out = [] := rfl
@[simp] theorem State.run_eng (f : Engine → Engine) (s : State) : (s.run f).eng = f s.start := rfl
@[simp] theorem State.run_pending (f : Engine → Engine) (s : State) : (s.run f).pending = s.pending := rfl

-- wr

@[simp] theorem wr_freeCtr (off v : Nat) (e : Engine) : (wr off v e).freeCtr = e.freeCtr := rfl
@[simp] theorem wr_reach (off v : Nat) (e : Engine) : (wr off v e).reach = e.reach := rfl
@[simp] theorem wr_guards (off v : Nat) (e : Engine) : (wr off v e).guards = e.guards := rfl
@[simp] theorem wr_mbx (off v : Nat) (e : Engine) : (wr off v e).mbx = e.mbx := rfl
@[simp] theorem wr_snap (off v : Nat) (e : Engine) : (wr off v e).snap = e.snap := rfl
@[simp] theorem wr_nvr (off v : Nat) (e : Engine) : (wr off v e).nvr = e.nvr := rfl
@[simp] theorem wr_flt (off v : Nat) (e : Engine) : (wr off v e).flt = e.flt := rfl
@[simp] theorem wr_thm (off v : Nat) (e : Engine) : (wr off v e).thm = e.thm := rfl
@[simp] theorem wr_pwr (off v : Nat) (e : Engine) : (wr off v e).pwr = e.pwr := rfl
@[simp] theorem wr_tim (off v : Nat) (e : Engine) : (wr off v e).tim = e.tim := rfl
@[simp] theorem wr_pins (off v : Nat) (e : Engine) : (wr off v e).pins = e.pins := rfl
@[simp] theorem wr_dma (off v : Nat) (e : Engine) : (wr off v e).dma = e.dma := rfl
@[simp] theorem wr_hif (off v : Nat) (e : Engine) : (wr off v e).hif = e.hif := rfl
@[simp] theorem wr_rfs (off v : Nat) (e : Engine) : (wr off v e).rfs = e.rfs := rfl
@[simp] theorem wr_sns (off v : Nat) (e : Engine) : (wr off v e).sns = e.sns := rfl
@[simp] theorem wr_loop (off v : Nat) (e : Engine) : (wr off v e).loop = e.loop := rfl
@[simp] theorem wr_sch (off v : Nat) (e : Engine) : (wr off v e).sch = e.sch := rfl
@[simp] theorem wr_lrg (off v : Nat) (e : Engine) : (wr off v e).lrg = e.lrg := rfl
@[simp] theorem wr_hostMem (off v : Nat) (e : Engine) : (wr off v e).hostMem = e.hostMem := rfl
@[simp] theorem wr_out (off v : Nat) (e : Engine) : (wr off v e).out = e.out := rfl

-- wrF

@[simp] theorem wrF_freeCtr (f : Fld) (v : Nat) (e : Engine) : (wrF f v e).freeCtr = e.freeCtr := rfl
@[simp] theorem wrF_reach (f : Fld) (v : Nat) (e : Engine) : (wrF f v e).reach = e.reach := rfl
@[simp] theorem wrF_guards (f : Fld) (v : Nat) (e : Engine) : (wrF f v e).guards = e.guards := rfl
@[simp] theorem wrF_mbx (f : Fld) (v : Nat) (e : Engine) : (wrF f v e).mbx = e.mbx := rfl
@[simp] theorem wrF_snap (f : Fld) (v : Nat) (e : Engine) : (wrF f v e).snap = e.snap := rfl
@[simp] theorem wrF_nvr (f : Fld) (v : Nat) (e : Engine) : (wrF f v e).nvr = e.nvr := rfl
@[simp] theorem wrF_flt (f : Fld) (v : Nat) (e : Engine) : (wrF f v e).flt = e.flt := rfl
@[simp] theorem wrF_thm (f : Fld) (v : Nat) (e : Engine) : (wrF f v e).thm = e.thm := rfl
@[simp] theorem wrF_pwr (f : Fld) (v : Nat) (e : Engine) : (wrF f v e).pwr = e.pwr := rfl
@[simp] theorem wrF_tim (f : Fld) (v : Nat) (e : Engine) : (wrF f v e).tim = e.tim := rfl
@[simp] theorem wrF_pins (f : Fld) (v : Nat) (e : Engine) : (wrF f v e).pins = e.pins := rfl
@[simp] theorem wrF_cmd (f : Fld) (v : Nat) (e : Engine) : (wrF f v e).cmd = e.cmd := rfl
@[simp] theorem wrF_dma (f : Fld) (v : Nat) (e : Engine) : (wrF f v e).dma = e.dma := rfl
@[simp] theorem wrF_hif (f : Fld) (v : Nat) (e : Engine) : (wrF f v e).hif = e.hif := rfl
@[simp] theorem wrF_xact (f : Fld) (v : Nat) (e : Engine) : (wrF f v e).xact = e.xact := rfl
@[simp] theorem wrF_syn (f : Fld) (v : Nat) (e : Engine) : (wrF f v e).syn = e.syn := rfl
@[simp] theorem wrF_sns (f : Fld) (v : Nat) (e : Engine) : (wrF f v e).sns = e.sns := rfl
@[simp] theorem wrF_loop (f : Fld) (v : Nat) (e : Engine) : (wrF f v e).loop = e.loop := rfl
@[simp] theorem wrF_sch (f : Fld) (v : Nat) (e : Engine) : (wrF f v e).sch = e.sch := rfl
@[simp] theorem wrF_lrg (f : Fld) (v : Nat) (e : Engine) : (wrF f v e).lrg = e.lrg := rfl
@[simp] theorem wrF_hostMem (f : Fld) (v : Nat) (e : Engine) : (wrF f v e).hostMem = e.hostMem := rfl
@[simp] theorem wrF_out (f : Fld) (v : Nat) (e : Engine) : (wrF f v e).out = e.out := rfl

-- inc

@[simp] theorem inc_freeCtr (off : Nat) (e : Engine) : (inc off e).freeCtr = e.freeCtr := rfl
@[simp] theorem inc_reach (off : Nat) (e : Engine) : (inc off e).reach = e.reach := rfl
@[simp] theorem inc_guards (off : Nat) (e : Engine) : (inc off e).guards = e.guards := rfl
@[simp] theorem inc_mbx (off : Nat) (e : Engine) : (inc off e).mbx = e.mbx := rfl
@[simp] theorem inc_snap (off : Nat) (e : Engine) : (inc off e).snap = e.snap := rfl
@[simp] theorem inc_nvr (off : Nat) (e : Engine) : (inc off e).nvr = e.nvr := rfl
@[simp] theorem inc_thm (off : Nat) (e : Engine) : (inc off e).thm = e.thm := rfl
@[simp] theorem inc_pwr (off : Nat) (e : Engine) : (inc off e).pwr = e.pwr := rfl
@[simp] theorem inc_pins (off : Nat) (e : Engine) : (inc off e).pins = e.pins := rfl
@[simp] theorem inc_dma (off : Nat) (e : Engine) : (inc off e).dma = e.dma := rfl
@[simp] theorem inc_syn (off : Nat) (e : Engine) : (inc off e).syn = e.syn := rfl
@[simp] theorem inc_sns (off : Nat) (e : Engine) : (inc off e).sns = e.sns := rfl
@[simp] theorem inc_loop (off : Nat) (e : Engine) : (inc off e).loop = e.loop := rfl
@[simp] theorem inc_sch (off : Nat) (e : Engine) : (inc off e).sch = e.sch := rfl
@[simp] theorem inc_hostMem (off : Nat) (e : Engine) : (inc off e).hostMem = e.hostMem := rfl
@[simp] theorem inc_out (off : Nat) (e : Engine) : (inc off e).out = e.out := rfl

-- wrBytes

@[simp] theorem wrBytes_clk (a : Nat) (l : List Byte) (e : Engine) : (wrBytes a l e).clk = e.clk := rfl
@[simp] theorem wrBytes_freeCtr (a : Nat) (l : List Byte) (e : Engine) : (wrBytes a l e).freeCtr = e.freeCtr := rfl
@[simp] theorem wrBytes_regs (a : Nat) (l : List Byte) (e : Engine) : (wrBytes a l e).regs = e.regs := rfl
@[simp] theorem wrBytes_trip1 (a : Nat) (l : List Byte) (e : Engine) : (wrBytes a l e).trip1 = e.trip1 := rfl
@[simp] theorem wrBytes_trip2 (a : Nat) (l : List Byte) (e : Engine) : (wrBytes a l e).trip2 = e.trip2 := rfl
@[simp] theorem wrBytes_reach (a : Nat) (l : List Byte) (e : Engine) : (wrBytes a l e).reach = e.reach := rfl
@[simp] theorem wrBytes_guards (a : Nat) (l : List Byte) (e : Engine) : (wrBytes a l e).guards = e.guards := rfl
@[simp] theorem wrBytes_mbx (a : Nat) (l : List Byte) (e : Engine) : (wrBytes a l e).mbx = e.mbx := rfl
@[simp] theorem wrBytes_snap (a : Nat) (l : List Byte) (e : Engine) : (wrBytes a l e).snap = e.snap := rfl
@[simp] theorem wrBytes_nvr (a : Nat) (l : List Byte) (e : Engine) : (wrBytes a l e).nvr = e.nvr := rfl
@[simp] theorem wrBytes_flt (a : Nat) (l : List Byte) (e : Engine) : (wrBytes a l e).flt = e.flt := rfl
@[simp] theorem wrBytes_sys (a : Nat) (l : List Byte) (e : Engine) : (wrBytes a l e).sys = e.sys := rfl
@[simp] theorem wrBytes_thm (a : Nat) (l : List Byte) (e : Engine) : (wrBytes a l e).thm = e.thm := rfl
@[simp] theorem wrBytes_pwr (a : Nat) (l : List Byte) (e : Engine) : (wrBytes a l e).pwr = e.pwr := rfl
@[simp] theorem wrBytes_tim (a : Nat) (l : List Byte) (e : Engine) : (wrBytes a l e).tim = e.tim := rfl
@[simp] theorem wrBytes_pins (a : Nat) (l : List Byte) (e : Engine) : (wrBytes a l e).pins = e.pins := rfl
@[simp] theorem wrBytes_cmd (a : Nat) (l : List Byte) (e : Engine) : (wrBytes a l e).cmd = e.cmd := rfl
@[simp] theorem wrBytes_dma (a : Nat) (l : List Byte) (e : Engine) : (wrBytes a l e).dma = e.dma := rfl
@[simp] theorem wrBytes_hif (a : Nat) (l : List Byte) (e : Engine) : (wrBytes a l e).hif = e.hif := rfl
@[simp] theorem wrBytes_xact (a : Nat) (l : List Byte) (e : Engine) : (wrBytes a l e).xact = e.xact := rfl
@[simp] theorem wrBytes_bkp (a : Nat) (l : List Byte) (e : Engine) : (wrBytes a l e).bkp = e.bkp := rfl
@[simp] theorem wrBytes_syn (a : Nat) (l : List Byte) (e : Engine) : (wrBytes a l e).syn = e.syn := rfl
@[simp] theorem wrBytes_rfs (a : Nat) (l : List Byte) (e : Engine) : (wrBytes a l e).rfs = e.rfs := rfl
@[simp] theorem wrBytes_sns (a : Nat) (l : List Byte) (e : Engine) : (wrBytes a l e).sns = e.sns := rfl
@[simp] theorem wrBytes_loop (a : Nat) (l : List Byte) (e : Engine) : (wrBytes a l e).loop = e.loop := rfl
@[simp] theorem wrBytes_sch (a : Nat) (l : List Byte) (e : Engine) : (wrBytes a l e).sch = e.sch := rfl
@[simp] theorem wrBytes_lrg (a : Nat) (l : List Byte) (e : Engine) : (wrBytes a l e).lrg = e.lrg := rfl
@[simp] theorem wrBytes_out (a : Nat) (l : List Byte) (e : Engine) : (wrBytes a l e).out = e.out := rfl

-- updHop

@[simp] theorem updHop_clk (q : Nat) (f : Hopper → Hopper) (e : Engine) : (updHop q f e).clk = e.clk := rfl
@[simp] theorem updHop_freeCtr (q : Nat) (f : Hopper → Hopper) (e : Engine) : (updHop q f e).freeCtr = e.freeCtr := rfl
@[simp] theorem updHop_regs (q : Nat) (f : Hopper → Hopper) (e : Engine) : (updHop q f e).regs = e.regs := rfl
@[simp] theorem updHop_trip1 (q : Nat) (f : Hopper → Hopper) (e : Engine) : (updHop q f e).trip1 = e.trip1 := rfl
@[simp] theorem updHop_trip2 (q : Nat) (f : Hopper → Hopper) (e : Engine) : (updHop q f e).trip2 = e.trip2 := rfl
@[simp] theorem updHop_reach (q : Nat) (f : Hopper → Hopper) (e : Engine) : (updHop q f e).reach = e.reach := rfl
@[simp] theorem updHop_guards (q : Nat) (f : Hopper → Hopper) (e : Engine) : (updHop q f e).guards = e.guards := rfl
@[simp] theorem updHop_mbx (q : Nat) (f : Hopper → Hopper) (e : Engine) : (updHop q f e).mbx = e.mbx := rfl
@[simp] theorem updHop_snap (q : Nat) (f : Hopper → Hopper) (e : Engine) : (updHop q f e).snap = e.snap := rfl
@[simp] theorem updHop_nvr (q : Nat) (f : Hopper → Hopper) (e : Engine) : (updHop q f e).nvr = e.nvr := rfl
@[simp] theorem updHop_flt (q : Nat) (f : Hopper → Hopper) (e : Engine) : (updHop q f e).flt = e.flt := rfl
@[simp] theorem updHop_sys (q : Nat) (f : Hopper → Hopper) (e : Engine) : (updHop q f e).sys = e.sys := rfl
@[simp] theorem updHop_thm (q : Nat) (f : Hopper → Hopper) (e : Engine) : (updHop q f e).thm = e.thm := rfl
@[simp] theorem updHop_pwr (q : Nat) (f : Hopper → Hopper) (e : Engine) : (updHop q f e).pwr = e.pwr := rfl
@[simp] theorem updHop_tim (q : Nat) (f : Hopper → Hopper) (e : Engine) : (updHop q f e).tim = e.tim := rfl
@[simp] theorem updHop_pins (q : Nat) (f : Hopper → Hopper) (e : Engine) : (updHop q f e).pins = e.pins := rfl
@[simp] theorem updHop_dma (q : Nat) (f : Hopper → Hopper) (e : Engine) : (updHop q f e).dma = e.dma := rfl
@[simp] theorem updHop_hif (q : Nat) (f : Hopper → Hopper) (e : Engine) : (updHop q f e).hif = e.hif := rfl
@[simp] theorem updHop_xact (q : Nat) (f : Hopper → Hopper) (e : Engine) : (updHop q f e).xact = e.xact := rfl
@[simp] theorem updHop_bkp (q : Nat) (f : Hopper → Hopper) (e : Engine) : (updHop q f e).bkp = e.bkp := rfl
@[simp] theorem updHop_syn (q : Nat) (f : Hopper → Hopper) (e : Engine) : (updHop q f e).syn = e.syn := rfl
@[simp] theorem updHop_rfs (q : Nat) (f : Hopper → Hopper) (e : Engine) : (updHop q f e).rfs = e.rfs := rfl
@[simp] theorem updHop_sns (q : Nat) (f : Hopper → Hopper) (e : Engine) : (updHop q f e).sns = e.sns := rfl
@[simp] theorem updHop_loop (q : Nat) (f : Hopper → Hopper) (e : Engine) : (updHop q f e).loop = e.loop := rfl
@[simp] theorem updHop_sch (q : Nat) (f : Hopper → Hopper) (e : Engine) : (updHop q f e).sch = e.sch := rfl
@[simp] theorem updHop_lrg (q : Nat) (f : Hopper → Hopper) (e : Engine) : (updHop q f e).lrg = e.lrg := rfl
@[simp] theorem updHop_hostMem (q : Nat) (f : Hopper → Hopper) (e : Engine) : (updHop q f e).hostMem = e.hostMem := rfl
@[simp] theorem updHop_out (q : Nat) (f : Hopper → Hopper) (e : Engine) : (updHop q f e).out = e.out := rfl

-- updDom

@[simp] theorem updDom_clk (d : Nat) (f : Domain → Domain) (e : Engine) : (updDom d f e).clk = e.clk := rfl
@[simp] theorem updDom_freeCtr (d : Nat) (f : Domain → Domain) (e : Engine) : (updDom d f e).freeCtr = e.freeCtr := rfl
@[simp] theorem updDom_regs (d : Nat) (f : Domain → Domain) (e : Engine) : (updDom d f e).regs = e.regs := rfl
@[simp] theorem updDom_trip1 (d : Nat) (f : Domain → Domain) (e : Engine) : (updDom d f e).trip1 = e.trip1 := rfl
@[simp] theorem updDom_trip2 (d : Nat) (f : Domain → Domain) (e : Engine) : (updDom d f e).trip2 = e.trip2 := rfl
@[simp] theorem updDom_reach (d : Nat) (f : Domain → Domain) (e : Engine) : (updDom d f e).reach = e.reach := rfl
@[simp] theorem updDom_guards (d : Nat) (f : Domain → Domain) (e : Engine) : (updDom d f e).guards = e.guards := rfl
@[simp] theorem updDom_mbx (d : Nat) (f : Domain → Domain) (e : Engine) : (updDom d f e).mbx = e.mbx := rfl
@[simp] theorem updDom_snap (d : Nat) (f : Domain → Domain) (e : Engine) : (updDom d f e).snap = e.snap := rfl
@[simp] theorem updDom_nvr (d : Nat) (f : Domain → Domain) (e : Engine) : (updDom d f e).nvr = e.nvr := rfl
@[simp] theorem updDom_flt (d : Nat) (f : Domain → Domain) (e : Engine) : (updDom d f e).flt = e.flt := rfl
@[simp] theorem updDom_sys (d : Nat) (f : Domain → Domain) (e : Engine) : (updDom d f e).sys = e.sys := rfl
@[simp] theorem updDom_thm (d : Nat) (f : Domain → Domain) (e : Engine) : (updDom d f e).thm = e.thm := rfl
@[simp] theorem updDom_pwr (d : Nat) (f : Domain → Domain) (e : Engine) : (updDom d f e).pwr = e.pwr := rfl
@[simp] theorem updDom_tim (d : Nat) (f : Domain → Domain) (e : Engine) : (updDom d f e).tim = e.tim := rfl
@[simp] theorem updDom_pins (d : Nat) (f : Domain → Domain) (e : Engine) : (updDom d f e).pins = e.pins := rfl
@[simp] theorem updDom_dma (d : Nat) (f : Domain → Domain) (e : Engine) : (updDom d f e).dma = e.dma := rfl
@[simp] theorem updDom_hif (d : Nat) (f : Domain → Domain) (e : Engine) : (updDom d f e).hif = e.hif := rfl
@[simp] theorem updDom_xact (d : Nat) (f : Domain → Domain) (e : Engine) : (updDom d f e).xact = e.xact := rfl
@[simp] theorem updDom_bkp (d : Nat) (f : Domain → Domain) (e : Engine) : (updDom d f e).bkp = e.bkp := rfl
@[simp] theorem updDom_syn (d : Nat) (f : Domain → Domain) (e : Engine) : (updDom d f e).syn = e.syn := rfl
@[simp] theorem updDom_rfs (d : Nat) (f : Domain → Domain) (e : Engine) : (updDom d f e).rfs = e.rfs := rfl
@[simp] theorem updDom_sns (d : Nat) (f : Domain → Domain) (e : Engine) : (updDom d f e).sns = e.sns := rfl
@[simp] theorem updDom_loop (d : Nat) (f : Domain → Domain) (e : Engine) : (updDom d f e).loop = e.loop := rfl
@[simp] theorem updDom_sch (d : Nat) (f : Domain → Domain) (e : Engine) : (updDom d f e).sch = e.sch := rfl
@[simp] theorem updDom_lrg (d : Nat) (f : Domain → Domain) (e : Engine) : (updDom d f e).lrg = e.lrg := rfl
@[simp] theorem updDom_hostMem (d : Nat) (f : Domain → Domain) (e : Engine) : (updDom d f e).hostMem = e.hostMem := rfl
@[simp] theorem updDom_out (d : Nat) (f : Domain → Domain) (e : Engine) : (updDom d f e).out = e.out := rfl

-- updAper

@[simp] theorem updAper_clk (a : Nat) (f : Aper → Aper) (e : Engine) : (updAper a f e).clk = e.clk := rfl
@[simp] theorem updAper_freeCtr (a : Nat) (f : Aper → Aper) (e : Engine) : (updAper a f e).freeCtr = e.freeCtr := rfl
@[simp] theorem updAper_regs (a : Nat) (f : Aper → Aper) (e : Engine) : (updAper a f e).regs = e.regs := rfl
@[simp] theorem updAper_trip1 (a : Nat) (f : Aper → Aper) (e : Engine) : (updAper a f e).trip1 = e.trip1 := rfl
@[simp] theorem updAper_trip2 (a : Nat) (f : Aper → Aper) (e : Engine) : (updAper a f e).trip2 = e.trip2 := rfl
@[simp] theorem updAper_reach (a : Nat) (f : Aper → Aper) (e : Engine) : (updAper a f e).reach = e.reach := rfl
@[simp] theorem updAper_guards (a : Nat) (f : Aper → Aper) (e : Engine) : (updAper a f e).guards = e.guards := rfl
@[simp] theorem updAper_mbx (a : Nat) (f : Aper → Aper) (e : Engine) : (updAper a f e).mbx = e.mbx := rfl
@[simp] theorem updAper_snap (a : Nat) (f : Aper → Aper) (e : Engine) : (updAper a f e).snap = e.snap := rfl
@[simp] theorem updAper_nvr (a : Nat) (f : Aper → Aper) (e : Engine) : (updAper a f e).nvr = e.nvr := rfl
@[simp] theorem updAper_flt (a : Nat) (f : Aper → Aper) (e : Engine) : (updAper a f e).flt = e.flt := rfl
@[simp] theorem updAper_sys (a : Nat) (f : Aper → Aper) (e : Engine) : (updAper a f e).sys = e.sys := rfl
@[simp] theorem updAper_thm (a : Nat) (f : Aper → Aper) (e : Engine) : (updAper a f e).thm = e.thm := rfl
@[simp] theorem updAper_pwr (a : Nat) (f : Aper → Aper) (e : Engine) : (updAper a f e).pwr = e.pwr := rfl
@[simp] theorem updAper_tim (a : Nat) (f : Aper → Aper) (e : Engine) : (updAper a f e).tim = e.tim := rfl
@[simp] theorem updAper_pins (a : Nat) (f : Aper → Aper) (e : Engine) : (updAper a f e).pins = e.pins := rfl
@[simp] theorem updAper_cmd (a : Nat) (f : Aper → Aper) (e : Engine) : (updAper a f e).cmd = e.cmd := rfl
@[simp] theorem updAper_dma (a : Nat) (f : Aper → Aper) (e : Engine) : (updAper a f e).dma = e.dma := rfl
@[simp] theorem updAper_hif (a : Nat) (f : Aper → Aper) (e : Engine) : (updAper a f e).hif = e.hif := rfl
@[simp] theorem updAper_xact (a : Nat) (f : Aper → Aper) (e : Engine) : (updAper a f e).xact = e.xact := rfl
@[simp] theorem updAper_syn (a : Nat) (f : Aper → Aper) (e : Engine) : (updAper a f e).syn = e.syn := rfl
@[simp] theorem updAper_rfs (a : Nat) (f : Aper → Aper) (e : Engine) : (updAper a f e).rfs = e.rfs := rfl
@[simp] theorem updAper_sns (a : Nat) (f : Aper → Aper) (e : Engine) : (updAper a f e).sns = e.sns := rfl
@[simp] theorem updAper_loop (a : Nat) (f : Aper → Aper) (e : Engine) : (updAper a f e).loop = e.loop := rfl
@[simp] theorem updAper_sch (a : Nat) (f : Aper → Aper) (e : Engine) : (updAper a f e).sch = e.sch := rfl
@[simp] theorem updAper_lrg (a : Nat) (f : Aper → Aper) (e : Engine) : (updAper a f e).lrg = e.lrg := rfl
@[simp] theorem updAper_hostMem (a : Nat) (f : Aper → Aper) (e : Engine) : (updAper a f e).hostMem = e.hostMem := rfl
@[simp] theorem updAper_out (a : Nat) (f : Aper → Aper) (e : Engine) : (updAper a f e).out = e.out := rfl

-- updTile

@[simp] theorem updTile_clk (t : Nat) (f : Tile → Tile) (e : Engine) : (updTile t f e).clk = e.clk := rfl
@[simp] theorem updTile_freeCtr (t : Nat) (f : Tile → Tile) (e : Engine) : (updTile t f e).freeCtr = e.freeCtr := rfl
@[simp] theorem updTile_regs (t : Nat) (f : Tile → Tile) (e : Engine) : (updTile t f e).regs = e.regs := rfl
@[simp] theorem updTile_trip1 (t : Nat) (f : Tile → Tile) (e : Engine) : (updTile t f e).trip1 = e.trip1 := rfl
@[simp] theorem updTile_trip2 (t : Nat) (f : Tile → Tile) (e : Engine) : (updTile t f e).trip2 = e.trip2 := rfl
@[simp] theorem updTile_reach (t : Nat) (f : Tile → Tile) (e : Engine) : (updTile t f e).reach = e.reach := rfl
@[simp] theorem updTile_guards (t : Nat) (f : Tile → Tile) (e : Engine) : (updTile t f e).guards = e.guards := rfl
@[simp] theorem updTile_mbx (t : Nat) (f : Tile → Tile) (e : Engine) : (updTile t f e).mbx = e.mbx := rfl
@[simp] theorem updTile_snap (t : Nat) (f : Tile → Tile) (e : Engine) : (updTile t f e).snap = e.snap := rfl
@[simp] theorem updTile_nvr (t : Nat) (f : Tile → Tile) (e : Engine) : (updTile t f e).nvr = e.nvr := rfl
@[simp] theorem updTile_flt (t : Nat) (f : Tile → Tile) (e : Engine) : (updTile t f e).flt = e.flt := rfl
@[simp] theorem updTile_sys (t : Nat) (f : Tile → Tile) (e : Engine) : (updTile t f e).sys = e.sys := rfl
@[simp] theorem updTile_thm (t : Nat) (f : Tile → Tile) (e : Engine) : (updTile t f e).thm = e.thm := rfl
@[simp] theorem updTile_pwr (t : Nat) (f : Tile → Tile) (e : Engine) : (updTile t f e).pwr = e.pwr := rfl
@[simp] theorem updTile_tim (t : Nat) (f : Tile → Tile) (e : Engine) : (updTile t f e).tim = e.tim := rfl
@[simp] theorem updTile_pins (t : Nat) (f : Tile → Tile) (e : Engine) : (updTile t f e).pins = e.pins := rfl
@[simp] theorem updTile_cmd (t : Nat) (f : Tile → Tile) (e : Engine) : (updTile t f e).cmd = e.cmd := rfl
@[simp] theorem updTile_dma (t : Nat) (f : Tile → Tile) (e : Engine) : (updTile t f e).dma = e.dma := rfl
@[simp] theorem updTile_hif (t : Nat) (f : Tile → Tile) (e : Engine) : (updTile t f e).hif = e.hif := rfl
@[simp] theorem updTile_xact (t : Nat) (f : Tile → Tile) (e : Engine) : (updTile t f e).xact = e.xact := rfl
@[simp] theorem updTile_syn (t : Nat) (f : Tile → Tile) (e : Engine) : (updTile t f e).syn = e.syn := rfl
@[simp] theorem updTile_rfs (t : Nat) (f : Tile → Tile) (e : Engine) : (updTile t f e).rfs = e.rfs := rfl
@[simp] theorem updTile_sns (t : Nat) (f : Tile → Tile) (e : Engine) : (updTile t f e).sns = e.sns := rfl
@[simp] theorem updTile_loop (t : Nat) (f : Tile → Tile) (e : Engine) : (updTile t f e).loop = e.loop := rfl
@[simp] theorem updTile_sch (t : Nat) (f : Tile → Tile) (e : Engine) : (updTile t f e).sch = e.sch := rfl
@[simp] theorem updTile_lrg (t : Nat) (f : Tile → Tile) (e : Engine) : (updTile t f e).lrg = e.lrg := rfl
@[simp] theorem updTile_hostMem (t : Nat) (f : Tile → Tile) (e : Engine) : (updTile t f e).hostMem = e.hostMem := rfl
@[simp] theorem updTile_out (t : Nat) (f : Tile → Tile) (e : Engine) : (updTile t f e).out = e.out := rfl

-- updPort

@[simp] theorem updPort_clk (p : Nat) (f : Port → Port) (e : Engine) : (updPort p f e).clk = e.clk := rfl
@[simp] theorem updPort_freeCtr (p : Nat) (f : Port → Port) (e : Engine) : (updPort p f e).freeCtr = e.freeCtr := rfl
@[simp] theorem updPort_regs (p : Nat) (f : Port → Port) (e : Engine) : (updPort p f e).regs = e.regs := rfl
@[simp] theorem updPort_trip1 (p : Nat) (f : Port → Port) (e : Engine) : (updPort p f e).trip1 = e.trip1 := rfl
@[simp] theorem updPort_trip2 (p : Nat) (f : Port → Port) (e : Engine) : (updPort p f e).trip2 = e.trip2 := rfl
@[simp] theorem updPort_reach (p : Nat) (f : Port → Port) (e : Engine) : (updPort p f e).reach = e.reach := rfl
@[simp] theorem updPort_guards (p : Nat) (f : Port → Port) (e : Engine) : (updPort p f e).guards = e.guards := rfl
@[simp] theorem updPort_mbx (p : Nat) (f : Port → Port) (e : Engine) : (updPort p f e).mbx = e.mbx := rfl
@[simp] theorem updPort_snap (p : Nat) (f : Port → Port) (e : Engine) : (updPort p f e).snap = e.snap := rfl
@[simp] theorem updPort_nvr (p : Nat) (f : Port → Port) (e : Engine) : (updPort p f e).nvr = e.nvr := rfl
@[simp] theorem updPort_flt (p : Nat) (f : Port → Port) (e : Engine) : (updPort p f e).flt = e.flt := rfl
@[simp] theorem updPort_sys (p : Nat) (f : Port → Port) (e : Engine) : (updPort p f e).sys = e.sys := rfl
@[simp] theorem updPort_thm (p : Nat) (f : Port → Port) (e : Engine) : (updPort p f e).thm = e.thm := rfl
@[simp] theorem updPort_pwr (p : Nat) (f : Port → Port) (e : Engine) : (updPort p f e).pwr = e.pwr := rfl
@[simp] theorem updPort_tim (p : Nat) (f : Port → Port) (e : Engine) : (updPort p f e).tim = e.tim := rfl
@[simp] theorem updPort_pins (p : Nat) (f : Port → Port) (e : Engine) : (updPort p f e).pins = e.pins := rfl
@[simp] theorem updPort_cmd (p : Nat) (f : Port → Port) (e : Engine) : (updPort p f e).cmd = e.cmd := rfl
@[simp] theorem updPort_dma (p : Nat) (f : Port → Port) (e : Engine) : (updPort p f e).dma = e.dma := rfl
@[simp] theorem updPort_hif (p : Nat) (f : Port → Port) (e : Engine) : (updPort p f e).hif = e.hif := rfl
@[simp] theorem updPort_bkp (p : Nat) (f : Port → Port) (e : Engine) : (updPort p f e).bkp = e.bkp := rfl
@[simp] theorem updPort_syn (p : Nat) (f : Port → Port) (e : Engine) : (updPort p f e).syn = e.syn := rfl
@[simp] theorem updPort_rfs (p : Nat) (f : Port → Port) (e : Engine) : (updPort p f e).rfs = e.rfs := rfl
@[simp] theorem updPort_sns (p : Nat) (f : Port → Port) (e : Engine) : (updPort p f e).sns = e.sns := rfl
@[simp] theorem updPort_loop (p : Nat) (f : Port → Port) (e : Engine) : (updPort p f e).loop = e.loop := rfl
@[simp] theorem updPort_sch (p : Nat) (f : Port → Port) (e : Engine) : (updPort p f e).sch = e.sch := rfl
@[simp] theorem updPort_lrg (p : Nat) (f : Port → Port) (e : Engine) : (updPort p f e).lrg = e.lrg := rfl
@[simp] theorem updPort_hostMem (p : Nat) (f : Port → Port) (e : Engine) : (updPort p f e).hostMem = e.hostMem := rfl
@[simp] theorem updPort_out (p : Nat) (f : Port → Port) (e : Engine) : (updPort p f e).out = e.out := rfl

-- updSens

@[simp] theorem updSens_clk (a : Nat) (f : Sens → Sens) (e : Engine) : (updSens a f e).clk = e.clk := rfl
@[simp] theorem updSens_freeCtr (a : Nat) (f : Sens → Sens) (e : Engine) : (updSens a f e).freeCtr = e.freeCtr := rfl
@[simp] theorem updSens_regs (a : Nat) (f : Sens → Sens) (e : Engine) : (updSens a f e).regs = e.regs := rfl
@[simp] theorem updSens_trip1 (a : Nat) (f : Sens → Sens) (e : Engine) : (updSens a f e).trip1 = e.trip1 := rfl
@[simp] theorem updSens_trip2 (a : Nat) (f : Sens → Sens) (e : Engine) : (updSens a f e).trip2 = e.trip2 := rfl
@[simp] theorem updSens_reach (a : Nat) (f : Sens → Sens) (e : Engine) : (updSens a f e).reach = e.reach := rfl
@[simp] theorem updSens_guards (a : Nat) (f : Sens → Sens) (e : Engine) : (updSens a f e).guards = e.guards := rfl
@[simp] theorem updSens_mbx (a : Nat) (f : Sens → Sens) (e : Engine) : (updSens a f e).mbx = e.mbx := rfl
@[simp] theorem updSens_snap (a : Nat) (f : Sens → Sens) (e : Engine) : (updSens a f e).snap = e.snap := rfl
@[simp] theorem updSens_nvr (a : Nat) (f : Sens → Sens) (e : Engine) : (updSens a f e).nvr = e.nvr := rfl
@[simp] theorem updSens_flt (a : Nat) (f : Sens → Sens) (e : Engine) : (updSens a f e).flt = e.flt := rfl
@[simp] theorem updSens_sys (a : Nat) (f : Sens → Sens) (e : Engine) : (updSens a f e).sys = e.sys := rfl
@[simp] theorem updSens_thm (a : Nat) (f : Sens → Sens) (e : Engine) : (updSens a f e).thm = e.thm := rfl
@[simp] theorem updSens_pwr (a : Nat) (f : Sens → Sens) (e : Engine) : (updSens a f e).pwr = e.pwr := rfl
@[simp] theorem updSens_tim (a : Nat) (f : Sens → Sens) (e : Engine) : (updSens a f e).tim = e.tim := rfl
@[simp] theorem updSens_pins (a : Nat) (f : Sens → Sens) (e : Engine) : (updSens a f e).pins = e.pins := rfl
@[simp] theorem updSens_cmd (a : Nat) (f : Sens → Sens) (e : Engine) : (updSens a f e).cmd = e.cmd := rfl
@[simp] theorem updSens_dma (a : Nat) (f : Sens → Sens) (e : Engine) : (updSens a f e).dma = e.dma := rfl
@[simp] theorem updSens_hif (a : Nat) (f : Sens → Sens) (e : Engine) : (updSens a f e).hif = e.hif := rfl
@[simp] theorem updSens_xact (a : Nat) (f : Sens → Sens) (e : Engine) : (updSens a f e).xact = e.xact := rfl
@[simp] theorem updSens_bkp (a : Nat) (f : Sens → Sens) (e : Engine) : (updSens a f e).bkp = e.bkp := rfl
@[simp] theorem updSens_syn (a : Nat) (f : Sens → Sens) (e : Engine) : (updSens a f e).syn = e.syn := rfl
@[simp] theorem updSens_rfs (a : Nat) (f : Sens → Sens) (e : Engine) : (updSens a f e).rfs = e.rfs := rfl
@[simp] theorem updSens_loop (a : Nat) (f : Sens → Sens) (e : Engine) : (updSens a f e).loop = e.loop := rfl
@[simp] theorem updSens_sch (a : Nat) (f : Sens → Sens) (e : Engine) : (updSens a f e).sch = e.sch := rfl
@[simp] theorem updSens_lrg (a : Nat) (f : Sens → Sens) (e : Engine) : (updSens a f e).lrg = e.lrg := rfl
@[simp] theorem updSens_hostMem (a : Nat) (f : Sens → Sens) (e : Engine) : (updSens a f e).hostMem = e.hostMem := rfl
@[simp] theorem updSens_out (a : Nat) (f : Sens → Sens) (e : Engine) : (updSens a f e).out = e.out := rfl

-- updBank

@[simp] theorem updBank_clk (t : Nat) (f : Bank → Bank) (e : Engine) : (updBank t f e).clk = e.clk := rfl
@[simp] theorem updBank_freeCtr (t : Nat) (f : Bank → Bank) (e : Engine) : (updBank t f e).freeCtr = e.freeCtr := rfl
@[simp] theorem updBank_regs (t : Nat) (f : Bank → Bank) (e : Engine) : (updBank t f e).regs = e.regs := rfl
@[simp] theorem updBank_trip1 (t : Nat) (f : Bank → Bank) (e : Engine) : (updBank t f e).trip1 = e.trip1 := rfl
@[simp] theorem updBank_trip2 (t : Nat) (f : Bank → Bank) (e : Engine) : (updBank t f e).trip2 = e.trip2 := rfl
@[simp] theorem updBank_reach (t : Nat) (f : Bank → Bank) (e : Engine) : (updBank t f e).reach = e.reach := rfl
@[simp] theorem updBank_guards (t : Nat) (f : Bank → Bank) (e : Engine) : (updBank t f e).guards = e.guards := rfl
@[simp] theorem updBank_mbx (t : Nat) (f : Bank → Bank) (e : Engine) : (updBank t f e).mbx = e.mbx := rfl
@[simp] theorem updBank_snap (t : Nat) (f : Bank → Bank) (e : Engine) : (updBank t f e).snap = e.snap := rfl
@[simp] theorem updBank_nvr (t : Nat) (f : Bank → Bank) (e : Engine) : (updBank t f e).nvr = e.nvr := rfl
@[simp] theorem updBank_flt (t : Nat) (f : Bank → Bank) (e : Engine) : (updBank t f e).flt = e.flt := rfl
@[simp] theorem updBank_sys (t : Nat) (f : Bank → Bank) (e : Engine) : (updBank t f e).sys = e.sys := rfl
@[simp] theorem updBank_thm (t : Nat) (f : Bank → Bank) (e : Engine) : (updBank t f e).thm = e.thm := rfl
@[simp] theorem updBank_pwr (t : Nat) (f : Bank → Bank) (e : Engine) : (updBank t f e).pwr = e.pwr := rfl
@[simp] theorem updBank_tim (t : Nat) (f : Bank → Bank) (e : Engine) : (updBank t f e).tim = e.tim := rfl
@[simp] theorem updBank_pins (t : Nat) (f : Bank → Bank) (e : Engine) : (updBank t f e).pins = e.pins := rfl
@[simp] theorem updBank_cmd (t : Nat) (f : Bank → Bank) (e : Engine) : (updBank t f e).cmd = e.cmd := rfl
@[simp] theorem updBank_dma (t : Nat) (f : Bank → Bank) (e : Engine) : (updBank t f e).dma = e.dma := rfl
@[simp] theorem updBank_hif (t : Nat) (f : Bank → Bank) (e : Engine) : (updBank t f e).hif = e.hif := rfl
@[simp] theorem updBank_xact (t : Nat) (f : Bank → Bank) (e : Engine) : (updBank t f e).xact = e.xact := rfl
@[simp] theorem updBank_bkp (t : Nat) (f : Bank → Bank) (e : Engine) : (updBank t f e).bkp = e.bkp := rfl
@[simp] theorem updBank_syn (t : Nat) (f : Bank → Bank) (e : Engine) : (updBank t f e).syn = e.syn := rfl
@[simp] theorem updBank_rfs (t : Nat) (f : Bank → Bank) (e : Engine) : (updBank t f e).rfs = e.rfs := rfl
@[simp] theorem updBank_loop (t : Nat) (f : Bank → Bank) (e : Engine) : (updBank t f e).loop = e.loop := rfl
@[simp] theorem updBank_sch (t : Nat) (f : Bank → Bank) (e : Engine) : (updBank t f e).sch = e.sch := rfl
@[simp] theorem updBank_lrg (t : Nat) (f : Bank → Bank) (e : Engine) : (updBank t f e).lrg = e.lrg := rfl
@[simp] theorem updBank_hostMem (t : Nat) (f : Bank → Bank) (e : Engine) : (updBank t f e).hostMem = e.hostMem := rfl
@[simp] theorem updBank_out (t : Nat) (f : Bank → Bank) (e : Engine) : (updBank t f e).out = e.out := rfl

-- updLoop

@[simp] theorem updLoop_clk (a : Nat) (f : Loop → Loop) (e : Engine) : (updLoop a f e).clk = e.clk := rfl
@[simp] theorem updLoop_freeCtr (a : Nat) (f : Loop → Loop) (e : Engine) : (updLoop a f e).freeCtr = e.freeCtr := rfl
@[simp] theorem updLoop_regs (a : Nat) (f : Loop → Loop) (e : Engine) : (updLoop a f e).regs = e.regs := rfl
@[simp] theorem updLoop_trip1 (a : Nat) (f : Loop → Loop) (e : Engine) : (updLoop a f e).trip1 = e.trip1 := rfl
@[simp] theorem updLoop_trip2 (a : Nat) (f : Loop → Loop) (e : Engine) : (updLoop a f e).trip2 = e.trip2 := rfl
@[simp] theorem updLoop_reach (a : Nat) (f : Loop → Loop) (e : Engine) : (updLoop a f e).reach = e.reach := rfl
@[simp] theorem updLoop_guards (a : Nat) (f : Loop → Loop) (e : Engine) : (updLoop a f e).guards = e.guards := rfl
@[simp] theorem updLoop_mbx (a : Nat) (f : Loop → Loop) (e : Engine) : (updLoop a f e).mbx = e.mbx := rfl
@[simp] theorem updLoop_snap (a : Nat) (f : Loop → Loop) (e : Engine) : (updLoop a f e).snap = e.snap := rfl
@[simp] theorem updLoop_nvr (a : Nat) (f : Loop → Loop) (e : Engine) : (updLoop a f e).nvr = e.nvr := rfl
@[simp] theorem updLoop_flt (a : Nat) (f : Loop → Loop) (e : Engine) : (updLoop a f e).flt = e.flt := rfl
@[simp] theorem updLoop_sys (a : Nat) (f : Loop → Loop) (e : Engine) : (updLoop a f e).sys = e.sys := rfl
@[simp] theorem updLoop_thm (a : Nat) (f : Loop → Loop) (e : Engine) : (updLoop a f e).thm = e.thm := rfl
@[simp] theorem updLoop_pwr (a : Nat) (f : Loop → Loop) (e : Engine) : (updLoop a f e).pwr = e.pwr := rfl
@[simp] theorem updLoop_tim (a : Nat) (f : Loop → Loop) (e : Engine) : (updLoop a f e).tim = e.tim := rfl
@[simp] theorem updLoop_pins (a : Nat) (f : Loop → Loop) (e : Engine) : (updLoop a f e).pins = e.pins := rfl
@[simp] theorem updLoop_cmd (a : Nat) (f : Loop → Loop) (e : Engine) : (updLoop a f e).cmd = e.cmd := rfl
@[simp] theorem updLoop_dma (a : Nat) (f : Loop → Loop) (e : Engine) : (updLoop a f e).dma = e.dma := rfl
@[simp] theorem updLoop_hif (a : Nat) (f : Loop → Loop) (e : Engine) : (updLoop a f e).hif = e.hif := rfl
@[simp] theorem updLoop_xact (a : Nat) (f : Loop → Loop) (e : Engine) : (updLoop a f e).xact = e.xact := rfl
@[simp] theorem updLoop_bkp (a : Nat) (f : Loop → Loop) (e : Engine) : (updLoop a f e).bkp = e.bkp := rfl
@[simp] theorem updLoop_syn (a : Nat) (f : Loop → Loop) (e : Engine) : (updLoop a f e).syn = e.syn := rfl
@[simp] theorem updLoop_rfs (a : Nat) (f : Loop → Loop) (e : Engine) : (updLoop a f e).rfs = e.rfs := rfl
@[simp] theorem updLoop_sns (a : Nat) (f : Loop → Loop) (e : Engine) : (updLoop a f e).sns = e.sns := rfl
@[simp] theorem updLoop_sch (a : Nat) (f : Loop → Loop) (e : Engine) : (updLoop a f e).sch = e.sch := rfl
@[simp] theorem updLoop_lrg (a : Nat) (f : Loop → Loop) (e : Engine) : (updLoop a f e).lrg = e.lrg := rfl
@[simp] theorem updLoop_hostMem (a : Nat) (f : Loop → Loop) (e : Engine) : (updLoop a f e).hostMem = e.hostMem := rfl
@[simp] theorem updLoop_out (a : Nat) (f : Loop → Loop) (e : Engine) : (updLoop a f e).out = e.out := rfl

-- updSlot

@[simp] theorem updSlot_clk (n : Nat) (f : Slot → Slot) (e : Engine) : (updSlot n f e).clk = e.clk := rfl
@[simp] theorem updSlot_freeCtr (n : Nat) (f : Slot → Slot) (e : Engine) : (updSlot n f e).freeCtr = e.freeCtr := rfl
@[simp] theorem updSlot_regs (n : Nat) (f : Slot → Slot) (e : Engine) : (updSlot n f e).regs = e.regs := rfl
@[simp] theorem updSlot_trip1 (n : Nat) (f : Slot → Slot) (e : Engine) : (updSlot n f e).trip1 = e.trip1 := rfl
@[simp] theorem updSlot_trip2 (n : Nat) (f : Slot → Slot) (e : Engine) : (updSlot n f e).trip2 = e.trip2 := rfl
@[simp] theorem updSlot_reach (n : Nat) (f : Slot → Slot) (e : Engine) : (updSlot n f e).reach = e.reach := rfl
@[simp] theorem updSlot_guards (n : Nat) (f : Slot → Slot) (e : Engine) : (updSlot n f e).guards = e.guards := rfl
@[simp] theorem updSlot_mbx (n : Nat) (f : Slot → Slot) (e : Engine) : (updSlot n f e).mbx = e.mbx := rfl
@[simp] theorem updSlot_snap (n : Nat) (f : Slot → Slot) (e : Engine) : (updSlot n f e).snap = e.snap := rfl
@[simp] theorem updSlot_nvr (n : Nat) (f : Slot → Slot) (e : Engine) : (updSlot n f e).nvr = e.nvr := rfl
@[simp] theorem updSlot_flt (n : Nat) (f : Slot → Slot) (e : Engine) : (updSlot n f e).flt = e.flt := rfl
@[simp] theorem updSlot_sys (n : Nat) (f : Slot → Slot) (e : Engine) : (updSlot n f e).sys = e.sys := rfl
@[simp] theorem updSlot_thm (n : Nat) (f : Slot → Slot) (e : Engine) : (updSlot n f e).thm = e.thm := rfl
@[simp] theorem updSlot_pwr (n : Nat) (f : Slot → Slot) (e : Engine) : (updSlot n f e).pwr = e.pwr := rfl
@[simp] theorem updSlot_tim (n : Nat) (f : Slot → Slot) (e : Engine) : (updSlot n f e).tim = e.tim := rfl
@[simp] theorem updSlot_pins (n : Nat) (f : Slot → Slot) (e : Engine) : (updSlot n f e).pins = e.pins := rfl
@[simp] theorem updSlot_cmd (n : Nat) (f : Slot → Slot) (e : Engine) : (updSlot n f e).cmd = e.cmd := rfl
@[simp] theorem updSlot_dma (n : Nat) (f : Slot → Slot) (e : Engine) : (updSlot n f e).dma = e.dma := rfl
@[simp] theorem updSlot_hif (n : Nat) (f : Slot → Slot) (e : Engine) : (updSlot n f e).hif = e.hif := rfl
@[simp] theorem updSlot_xact (n : Nat) (f : Slot → Slot) (e : Engine) : (updSlot n f e).xact = e.xact := rfl
@[simp] theorem updSlot_bkp (n : Nat) (f : Slot → Slot) (e : Engine) : (updSlot n f e).bkp = e.bkp := rfl
@[simp] theorem updSlot_syn (n : Nat) (f : Slot → Slot) (e : Engine) : (updSlot n f e).syn = e.syn := rfl
@[simp] theorem updSlot_rfs (n : Nat) (f : Slot → Slot) (e : Engine) : (updSlot n f e).rfs = e.rfs := rfl
@[simp] theorem updSlot_sns (n : Nat) (f : Slot → Slot) (e : Engine) : (updSlot n f e).sns = e.sns := rfl
@[simp] theorem updSlot_loop (n : Nat) (f : Slot → Slot) (e : Engine) : (updSlot n f e).loop = e.loop := rfl
@[simp] theorem updSlot_lrg (n : Nat) (f : Slot → Slot) (e : Engine) : (updSlot n f e).lrg = e.lrg := rfl
@[simp] theorem updSlot_hostMem (n : Nat) (f : Slot → Slot) (e : Engine) : (updSlot n f e).hostMem = e.hostMem := rfl
@[simp] theorem updSlot_out (n : Nat) (f : Slot → Slot) (e : Engine) : (updSlot n f e).out = e.out := rfl

-- updSensor

@[simp] theorem updSensor_clk (i : Nat) (f : Sensor → Sensor) (e : Engine) : (updSensor i f e).clk = e.clk := rfl
@[simp] theorem updSensor_freeCtr (i : Nat) (f : Sensor → Sensor) (e : Engine) : (updSensor i f e).freeCtr = e.freeCtr := rfl
@[simp] theorem updSensor_regs (i : Nat) (f : Sensor → Sensor) (e : Engine) : (updSensor i f e).regs = e.regs := rfl
@[simp] theorem updSensor_trip1 (i : Nat) (f : Sensor → Sensor) (e : Engine) : (updSensor i f e).trip1 = e.trip1 := rfl
@[simp] theorem updSensor_trip2 (i : Nat) (f : Sensor → Sensor) (e : Engine) : (updSensor i f e).trip2 = e.trip2 := rfl
@[simp] theorem updSensor_reach (i : Nat) (f : Sensor → Sensor) (e : Engine) : (updSensor i f e).reach = e.reach := rfl
@[simp] theorem updSensor_guards (i : Nat) (f : Sensor → Sensor) (e : Engine) : (updSensor i f e).guards = e.guards := rfl
@[simp] theorem updSensor_mbx (i : Nat) (f : Sensor → Sensor) (e : Engine) : (updSensor i f e).mbx = e.mbx := rfl
@[simp] theorem updSensor_snap (i : Nat) (f : Sensor → Sensor) (e : Engine) : (updSensor i f e).snap = e.snap := rfl
@[simp] theorem updSensor_nvr (i : Nat) (f : Sensor → Sensor) (e : Engine) : (updSensor i f e).nvr = e.nvr := rfl
@[simp] theorem updSensor_flt (i : Nat) (f : Sensor → Sensor) (e : Engine) : (updSensor i f e).flt = e.flt := rfl
@[simp] theorem updSensor_sys (i : Nat) (f : Sensor → Sensor) (e : Engine) : (updSensor i f e).sys = e.sys := rfl
@[simp] theorem updSensor_pwr (i : Nat) (f : Sensor → Sensor) (e : Engine) : (updSensor i f e).pwr = e.pwr := rfl
@[simp] theorem updSensor_tim (i : Nat) (f : Sensor → Sensor) (e : Engine) : (updSensor i f e).tim = e.tim := rfl
@[simp] theorem updSensor_pins (i : Nat) (f : Sensor → Sensor) (e : Engine) : (updSensor i f e).pins = e.pins := rfl
@[simp] theorem updSensor_cmd (i : Nat) (f : Sensor → Sensor) (e : Engine) : (updSensor i f e).cmd = e.cmd := rfl
@[simp] theorem updSensor_dma (i : Nat) (f : Sensor → Sensor) (e : Engine) : (updSensor i f e).dma = e.dma := rfl
@[simp] theorem updSensor_hif (i : Nat) (f : Sensor → Sensor) (e : Engine) : (updSensor i f e).hif = e.hif := rfl
@[simp] theorem updSensor_xact (i : Nat) (f : Sensor → Sensor) (e : Engine) : (updSensor i f e).xact = e.xact := rfl
@[simp] theorem updSensor_bkp (i : Nat) (f : Sensor → Sensor) (e : Engine) : (updSensor i f e).bkp = e.bkp := rfl
@[simp] theorem updSensor_syn (i : Nat) (f : Sensor → Sensor) (e : Engine) : (updSensor i f e).syn = e.syn := rfl
@[simp] theorem updSensor_rfs (i : Nat) (f : Sensor → Sensor) (e : Engine) : (updSensor i f e).rfs = e.rfs := rfl
@[simp] theorem updSensor_sns (i : Nat) (f : Sensor → Sensor) (e : Engine) : (updSensor i f e).sns = e.sns := rfl
@[simp] theorem updSensor_loop (i : Nat) (f : Sensor → Sensor) (e : Engine) : (updSensor i f e).loop = e.loop := rfl
@[simp] theorem updSensor_sch (i : Nat) (f : Sensor → Sensor) (e : Engine) : (updSensor i f e).sch = e.sch := rfl
@[simp] theorem updSensor_lrg (i : Nat) (f : Sensor → Sensor) (e : Engine) : (updSensor i f e).lrg = e.lrg := rfl
@[simp] theorem updSensor_hostMem (i : Nat) (f : Sensor → Sensor) (e : Engine) : (updSensor i f e).hostMem = e.hostMem := rfl
@[simp] theorem updSensor_out (i : Nat) (f : Sensor → Sensor) (e : Engine) : (updSensor i f e).out = e.out := rfl

end Sys2Proof.Machine
end

