-- ==== Sys2Proof/Machine/Light.lean ====
section
/-! DEFINITION. The light of the array as the state determines it: places, landing points, which ports light joins, and where
beacons leave, and the voltages of the cells (R3, R4, R16, R17, R19, R24, R26, R29-R32, R53, R55, R94). These are derived; no command reads them. -/

namespace Sys2Proof.Machine

-- places ------------------------------------------------------------------------------------------------------------------------

/-- Row and column of a port's aperture (R3). -/
def portRow (p : Nat) : Nat := p / 64
def portCol (p : Nat) : Nat := p % 64

/-- The ribbon and the fibre position that carry a port (R16). -/
def ribbonOf (p : Nat) : Nat := p / 64
def fibreOf (p : Nat) : Nat := p % 64 + 1

/-- Place of an aperture in grid pitches as (row, column) (R3, R29). -/
def placeOf (a : Nat) : Int × Int :=
  if a = 4096 then (-2, -2) else if a = 4097 then (-2, 65) else if a = 4098 then (65, -2) else if a = 4099 then (65, 65)
  else ((portRow a : Int), (portCol a : Int))

/-- The mirror's image of a place (R29). -/
def imageOfPlace (x : Int × Int) : Int × Int := (63 - x.1, 63 - x.2)

/-- The landing point of an aperture steered by (X, Y) pitches from its zero-phase image (R17, R29). -/
def landing (a : Nat) (steer : Int × Int) : Int × Int :=
  ((imageOfPlace (placeOf a)).1 + steer.2, (imageOfPlace (placeOf a)).2 + steer.1)

/-- The park point of a port aperture (R26). -/
def parkPoint (a : Nat) : Int × Int := landing a (parkSteer a)

/-- A place lies on the grid of the port apertures. -/
def onGrid (x : Int × Int) : Bool := decide (0 ≤ x.1) && decide (x.1 ≤ 63) && decide (0 ≤ x.2) && decide (x.2 ≤ 63)

-- light -------------------------------------------------------------------------------------------------------------------------

/-- The aperture that an aperture's active pattern points at: at zero phase a port's partner, in a park none (R4, R19, R26). -/
def pointsTo (e : Engine) (a : Nat) : Option Nat :=
  match aimNow e a with
  | .zero => if a < 4096 then some (bypassPartner a) else none
  | .park => none
  | .to b => some b

/-- Where light entering a port leaves: only two apertures that point at each other pass it (R4, R19). -/
def lightTo (e : Engine) (p : Nat) : Option Nat :=
  match pointsTo e p with
  | some q => if pointsTo e q = some p then some q else none
  | none => none

/-- The beacons are lit; the reset of their controller darkens them (R30, R348). -/
def beaconsLit (e : Engine) : Bool := !inMode e [.off, .sleep, .cooldown, .lockout] && !islandDown e 279

/-- The port through whose fibre an aperture's beacon leaves; a parked one's lands in the tailrace (R31, R32). -/
def beaconTo (e : Engine) (a : Nat) : Option Nat :=
  if beaconsLit e && (e.aper a).beacon then
    match pointsTo e a with
    | some q => if q < 4096 then some q else none
    | none => none
  else none

-- voltages of the cells ----------------------------------------------------------------------------------------------------------

/-- 2^(−1/320) and e^(−1/1024), as fractions of 2⁶⁴. -/
def halfStep : Nat := 18406830103324460014
def decayStep : Nat := 18428738468430479223

/-- τ at a tile temperature in 1/16 °C, in ns: 1.28 s or more at 40 °C, and half as long for each 20 °C more (R94). -/
def tauOf (temp : Int) : Nat :=
  let t := 1280000000 + Config.tauExcess
  let n := (temp - 640).natAbs
  if 640 ≤ temp then t * halfStep ^ n / 2 ^ (64 * n) else t * 2 ^ (64 * n) / halfStep ^ n

/-- The voltage of a cell in 1/1024 code, `ns` after it was written with `code`: it decays toward 0 with τ, and while t is short of τ
it has drifted by n·t/τ (R94). -/
def cellAfter (code ns : Nat) (temp : Int) : Nat :=
  let t := max 1 (tauOf temp)
  let q := 1024 * ns / t
  let v := 1024 * code * decayStep ^ q / 2 ^ (64 * q)
  v - v * (1024 * ns % t) / (1024 * t)

/-- When a cell of the active plane was last written: a shorted column when its gate closed, the cells of a silent tile at the brake
sluice they missed (R47, R53). -/
def cellAt (e : Engine) (a r c : Nat) : Nat :=
  let x := e.aper a
  if bit x.shortMap c then Tbl.get (fun _ => 0) x.shortAt c
  else if (e.tile (tileOf a)).silent then (e.tile (tileOf a)).silentAt
  else actRowAt e a r

/-- The voltage of a cell of the active plane now, in 1/1024 code: what was written to it last, by a march run in progress or by
another writer, as it has decayed (R53, R55, R94). -/
def cellNow (e : Engine) (a r c : Nat) : Nat :=
  let x := e.aper a
  let held := (rowOf x.active r).getD c 0
  let temp := (e.tile (tileOf a)).temp
  match (if bit x.shortMap c then none else marchCode e false a r c) with
  | some w => if cellAt e a r c ≤ w.1 then cellAfter w.2 (e.clk - w.1) temp else cellAfter held (e.clk - cellAt e a r c) temp
  | none => cellAfter held (e.clk - cellAt e a r c) temp

end Sys2Proof.Machine
end

