-- ==== Sys2Proof/WellFormed.lean ====
section
/-! DEFINITION. Which terms of `Instr` the hardware can be sent: every operand fits the field the chapters give it.
Values a field can carry and a rule rejects (BAD_PARAM, R217, R404) are well formed; the meanings answer them. -/

namespace Sys2Proof

/-- `x` fits `n` bits. -/
def fitsU (n x : Nat) : Bool := decide (x < 2 ^ n)

/-- `v` fits `n` bits in two's complement. -/
def fitsS (n : Nat) (v : Int) : Bool := decide (-(2 ^ (n - 1) : Nat) ≤ v) && decide (v < (2 ^ (n - 1) : Nat))

/-- R214: domains 0..63, hoppers 0..4095, 16-bit tags. -/
def Cx.wf (c : Cx) : Bool := fitsU 6 c.domain && fitsU 12 c.hopper && fitsU 16 c.tag

/-- The requesters of R309: virtual functions serve domains 1..63; cores 0..3. -/
def Rq.wf : Rq → Bool
  | .pf => true
  | .vf d => decide (1 ≤ d) && decide (d ≤ 63)
  | .core m => decide (m < 4)
  | .smbus => true
  | .jtag => true

/-- Seconds 48 bits, nanoseconds a 32-bit field. -/
def At.wf (a : At) : Bool := fitsU 48 a.sec && fitsU 32 a.ns

/-- An aperture index. -/
def apOk (a : Nat) : Bool := decide (a < 4100)
/-- A tile index. -/
def tileOk (t : Nat) : Bool := decide (t < 256)
/-- A BAR0 register offset: word-aligned, inside the register space (R241). -/
def offOk (o : Nat) : Bool := decide (o < 0x10000) && decide (o % 4 = 0)
/-- A host address of the 64-bit ADDR field. -/
def addrOk (a : Nat) : Bool := fitsU 64 a

/-- A frame on a ring or a link (R268). -/
def Frame.wf (f : Frame) : Bool :=
  fitsU 48 f.da && fitsU 48 f.sa && fitsU 4 f.kind && fitsU 3 f.pri && fitsU 8 f.ttl && fitsU 16 f.eth &&
    decide (f.payload.length ≤ f.wire) && f.sized &&
    (match f.sec with | none => true | some t => fitsU 2 t.an && fitsU 32 t.pn && (match t.sci with | none => true | some x => fitsU 64 x))

/-- The source of a control frame. -/
def Origin.wf (o : Origin) : Bool := fitsU 48 o.sa && fitsU 8 o.ttl

/-- Rows of a residue report are rows of an aperture (R38). -/
def Residue.wf (r : Residue) : Bool :=
  r.once.all (fun x => decide (x < 80)) && (match r.twice with | none => true | some x => decide (x < 80))

/-- A walk has the levels 3 to 0 (R250). -/
def HostRes.wf : HostRes → Bool
  | .mapEcc l => fitsU 25 l
  | _ => true

/-- A tile's frame store has 17 apertures of 1,280 words (R95). -/
def FsRead.wf : FsRead → Bool
  | .clean => true
  | .corrected w => decide (w < 21760)
  | .uncorrectable w => decide (w < 21760)

/-- A read of a march run names a cell of an aperture, an element of its 8-bit field, and a 10-bit code (R55). -/
def MarchRead.wf (r : MarchRead) : Bool :=
  fitsU 8 r.element && apOk r.aperture && decide (r.row < 80) && decide (r.col < 96) && fitsU 10 r.code

/-- A rebuild names an entry of the 4,100 × 4,100 list (R71). -/
def SweepP.wf (p : SweepP) : Bool := decide (p.index < 16810000) && p.reads.all FsRead.wf && p.residue.wf

/-- The command can be sent. -/
def Instr.wf : Instr → Bool
  | .nop c => c.wf
  | .getInfo c p => c.wf && fitsU 8 p.item
  | .setMode c p => c.wf && fitsU 8 p.target
  | .snapshot c p => c.wf && fitsU 8 p.whn && p.at_.wf
  | .fwStage c p => c.wf && addrOk p.addr && fitsU 32 p.length
  | .fwActivate c p => c.wf && fitsU 8 p.whn
  | .tableRead c p => c.wf && fitsU 8 p.table && fitsU 32 p.first && fitsU 32 p.count && addrOk p.addr
  | .tableWrite c p => c.wf && fitsU 8 p.table && fitsU 32 p.first && fitsU 32 p.count && addrOk p.addr
  | .pairTxn c p => c.wf && fitsU 32 p.xid && fitsU 16 p.count && addrOk p.addr
  | .pairCommit c p => c.wf && fitsU 32 p.xid && fitsU 8 p.whn && p.at_.wf
  | .pairAbort c p => c.wf && fitsU 32 p.xid
  | .pairQuery c p => c.wf && fitsU 8 p.kind && fitsU 8 p.domain && fitsU 32 p.xid && addrOk p.addr && fitsU 16 p.first &&
      fitsU 16 p.count
  | .portPark c p => c.wf && fitsU 16 p.port
  | .schLoad c p => c.wf && fitsU 8 p.kind && fitsU 16 p.first && fitsU 16 p.count && addrOk p.addr
  | .schStart c p => c.wf && fitsU 16 p.first && fitsU 8 p.source && fitsU 8 p.whn && p.at_.wf
  | .schStop c p => c.wf && fitsU 8 p.how
  | .schJump c p => c.wf && fitsU 16 p.target
  | .schStream c p => c.wf && addrOk p.addr && fitsU 8 p.log2 && fitsU 32 p.start
  | .loopCfg c p => c.wf && fitsU 16 p.first && fitsU 16 p.count && fitsU 16 p.words && decide (p.cfg.length ≤ 11)
  | .loopInject c p => c.wf && fitsU 16 p.aperture && fitsU 8 p.axis && fitsU 8 p.point && fitsU 8 p.wave &&
      fitsU 8 p.start && fitsU 16 p.half && fitsS 32 p.amp && fitsU 32 p.duration && fitsU 16 p.f0 && fitsU 16 p.f1 && p.at_.wf
  | .captureArm c p => c.wf && fitsU 8 p.unit && fitsU 8 p.axis && fitsU 16 p.aperture && fitsU 8 p.trigger &&
      fitsU 16 p.length && fitsU 16 p.pre && fitsU 32 p.level && p.at_.wf
  | .captureRead c p => c.wf && fitsU 8 p.unit && fitsU 16 p.first && fitsU 16 p.count && addrOk p.addr
  | .calSensor c p => c.wf && fitsU 16 p.first && fitsU 16 p.count && fitsU 8 p.step && fitsS 16 p.known && fitsU 16 p.frames
  | .calSurvey c p => c.wf && fitsU 16 p.firstRound && fitsU 16 p.rounds && fitsU 16 p.measFrames
  | .calCommit c p => c.wf && fitsU 8 p.target && fitsU 8 p.action
  | .aimUpload c p => c.wf && addrOk p.addr && fitsU 32 p.first && fitsU 32 p.count && fitsU 8 p.set
  | .domainCfg c p => c.wf && fitsU 8 p.domain && fitsU 16 p.hopFirst && fitsU 16 p.hopCount && fitsU 16 p.tagQuota
  | .ownerSet c p => c.wf && fitsU 16 p.first && fitsU 16 p.count && fitsU 8 p.domain
  | .policerSet c p => c.wf && fitsU 16 p.first && fitsU 16 p.count && fitsU 32 p.rate && fitsU 32 p.burst &&
      fitsU 16 p.overhead && fitsU 16 p.pairCost && fitsU 32 p.interval
  | .drillSwap c p => c.wf && fitsU 32 p.dwellMs && fitsU 16 p.abortAge
  | .bistRun c p => c.wf && fitsU 32 p.suites
  | .faultClear c _ => c.wf
  | .dmaResume c p => c.wf && fitsU 16 p.slot && fitsU 32 p.seq
  | .dmaAbort c p => c.wf && fitsU 16 p.slot && fitsU 32 p.seq
  | .sqDoorbell fn n _ _ => decide (fn ≤ 63) && fitsU 12 n
  | .cqDoorbell fn n _ _ => decide (fn ≤ 63) && fitsU 12 n
  | .commandFetch h => h.head.wf && h.rest.wf
  | .policerRefill => true
  | .shaperSlot => true
  | .completionSignal => true
  | .hopperSample => true
  | .chunk _ r => r.wf
  | .haltTmo slot => decide (slot < 64)
  | .flr fn => decide (fn ≤ 63)
  | .hotReset => true
  | .perstN _ => true
  | .pcieLinkDown => true
  | .vfDisable n => decide (n ≤ 63)
  | .d3hotToD0 => true
  | .powerOn v _ _ => fitsU 5 v
  | .bootStageTimeout stage err => fitsU 4 stage && fitsU 8 err
  | .thermalGateRelease => true
  | .rstN _ => true
  | .rstNRelease => true
  | .brakeN _ => true
  | .brakeSluice => true
  | .brakeFail silent => silent.all tileOk
  | .brakeRelease => true
  | .spanWrite rq _ => rq.wf
  | .resynthesisStart => true
  | .marchRun rq _ => rq.wf
  | .marchEnd rs => rs.all MarchRead.wf
  | .shortRetry rq tile _ => rq.wf && tileOk tile
  | .islandRst rq tile _ => rq.wf && tileOk tile
  | .fltIrst rq _ => rq.wf
  | .islandResetEnd tile rs => tileOk tile && rs.all FsRead.wf
  | .short a c => apOk a && decide (c < 96)
  | .atnHoldoffEnd => true
  | .arm _ rs => rs.all (fun r => apOk r.1 && r.2.wf)
  | .armComplete a => apOk a
  | .prepared _ _ => true
  | .noGroup _ => true
  | .syncMissing _ => true
  | .openTmo _ => true
  | .check _ => true
  | .sluice => true
  | .mapPublish => true
  | .conditionRefresh => true
  | .majorPark => true
  | .armPoint => true
  | .segmentArrival => true
  | .flumePiWrite rq _ => rq.wf
  | .surveyEnd _ => true
  | .calSensorEnd a => apOk a
  | .calPersistDone _ => true
  | .sweeperRebuild p => p.wf
  | .cacheReloadDone t => tileOk t
  | .refresh _ a r _ rs => apOk a && decide (r < 80) && rs.all FsRead.wf
  | .heartbeat _ _ => true
  | .heartbeatMissing _ => true
  | .takeover => true
  | .failback => true
  | .drillEnd => true
  | .drillClaimTimeout => true
  | .forceOwner rq _ => rq.wf
  | .peakClr rq _ => rq.wf
  | .scrub us => us.all (fun u => decide (u.offset < 0x10100))
  | .holdExit rq => rq.wf
  | .wake rq => rq.wf
  | .syncIn absent => absent.all tileOk
  | .syncLoss t => tileOk t
  | .freeRunFrame t => tileOk t
  | .conversionDone a cs _ _ =>
      if a < 4100 then decide (cs.length = 5) else decide (a < 4356) && (cs.isEmpty || decide (cs.length = 4))
  | .oneShot rq _ => rq.wf
  | .refselWrite rq k _ => rq.wf && decide (k < 16)
  | .refSettled t => tileOk t
  | .loopEvaluation a _ r rs => apOk a && r.wf && rs.all FsRead.wf
  | .damselWrite rq _ => rq.wf
  | .thermalMeasurement g rs => decide (g < 5) && rs.all (fun r => fitsS 16 r.2)
  | .cooldownEnd => true
  | .feedLoss _ => true
  | .feedReturn _ => true
  | .brownout => true
  | .overcurrent _ => true
  | .auxLoss _ => true
  | .railWarn => true
  | .powerLoss => true
  | .refclkLost _ => true
  | .refGood _ => true
  | .tbRevert => true
  | .tbPrefWrite rq _ => rq.wf
  | .wireFault block inst code => decide (block < 32) && fitsU 13 inst && decide (code.code < 32)
  | .busHang m a => decide (m < 8) && fitsU 64 a
  | .hsErr t => tileOk t
  | .gravePersist _ => true
  | .graveClr rq _ => rq.wf
  | .snapGo rq _ => rq.wf
  | .snapshotPulse => true
  | .generationReadable => true
  | .time rq _ i d => rq.wf && fitsU 32 i && decide (d.length ≤ 8)
  | .timeSlot rq _ i d => rq.wf && fitsU 32 i && decide (d.length ≤ 8)
  | .timeSet rq _ i d => rq.wf && fitsU 32 i && decide (d.length ≤ 8)
  | .tsq rq _ i d => rq.wf && fitsU 32 i && decide (d.length ≤ 8)
  | .xactEpoch rq _ i d => rq.wf && fitsU 32 i && decide (d.length ≤ 8)
  | .xactMapEpoch rq _ i d => rq.wf && fitsU 32 i && decide (d.length ≤ 8)
  | .dmaFault rq _ i d => rq.wf && fitsU 32 i && decide (d.length ≤ 8)
  | .snapInfo rq _ i d => rq.wf && fitsU 32 i && decide (d.length ≤ 8)
  | .snapReg rq _ i d => rq.wf && fitsU 32 i && decide (d.length ≤ 8)
  | .cntPreset rq _ i d => rq.wf && fitsU 32 i && decide (d.length ≤ 8)
  | .guardWrite rq o _ => rq.wf && offOk o
  | .guardedWrite rq o _ _ => rq.wf && offOk o
  | .rwpWrite rq o _ => rq.wf && offOk o
  | .nvrProgramDone _ => true
  | .domEnWrite rq _ _ => rq.wf
  | .hwmClr rq _ => rq.wf
  | .remapWrite rq _ => rq.wf
  | .handover rq _ => rq.wf
  | .handoverJoin => true
  | .rxCfgWrite rq n _ => rq.wf && decide (n < 4)
  | .rxHeadWrite rq n _ => rq.wf && decide (n < 4)
  | .registerWrite rq o _ _ => rq.wf && decide (o < 0x60000)
  | .ringFrame _ f => f.wf
  | .commandFrame _ f => f.wf
  | .token _ g => fitsU 16 g.gen && g.src.wf
  | .tokenHoldEnd _ => true
  | .shaperRefill => true
  | .trtExpiry _ => true
  | .claim _ bid mac nonce => fitsU 8 bid && mac.wf && fitsU 32 nonce
  | .claimTimeout _ => true
  | .helloSend => true
  | .hello _ _ _ => true
  | .linkDown _ => true
  | .linkUp _ => true
  | .primaryReturn => true
  | .pause p q => fitsU 48 p.da && fitsU 48 p.sa && fitsU 8 p.ttl && fitsU 16 q
  | .pauseExpiry => true
  | .pauseRepeat => true
  | .pauseRelease => true
  | .syncMsg slot _ _ ttl _ seq _ _ _ => decide (slot < 2) && fitsU 8 ttl && fitsU 16 seq
  | .followUp slot seq _ _ => decide (slot < 2) && fitsU 16 seq
  | .delayReqSend slot _ => decide (slot < 2)
  | .delayResp slot seq _ _ _ => decide (slot < 2) && fitsU 16 seq
  | .syncTmo slot => decide (slot < 2)
  | .pathHoldEnd slot => decide (slot < 2)
  | .tsqExpiry => true
  | .ppsIn => true
  | .syncOutEdge => true
  | .ppsOutEdge => true
  | .ident => true
  | .straps => true
  | .regAddr w _ => match w with | none => true | some x => fitsU 16 x
  | .regData _ _ => true
  | .regNext => true
  | .alertResponse => true
  | .jtagBypass => true
  | .idcode => true
  | .samplePreload _ => true
  | .extest => true
  | .clamp => true
  | .highz => true
  | .trstN _ => true
  | .bootEnd _ => true
  | .fwStaged _ => true
  | .fwActivated _ => true
  | .bistEnd f _ => fitsU 5 f
  | .railCollapse => true
  | .blockLock _ => true
  | .pcieLinkUp s w => fitsU 3 s && fitsU 5 w
  | .aer => true
  | .flrDone fn => decide (fn ≤ 63)
  | .irstEnd => true
  | .brakeNRelease => true
  | .auxReturn _ => true

end Sys2Proof
end

