-- ==== Sys2Proof/Tests/Slice0.lean ====
section
/-! SUPPORT. The model's own tests: ill-formed commands refused, the spec's worked examples, and for every statement with
hypotheses a state and operands that meet them. -/

open Sys2Proof Sys2Proof.Machine

namespace Sys2Proof.Tests

-- the theorems are elaborated one after another: side by side they ask for more memory than the check grants
set_option Elab.async false

/-- An issuer. -/
def c : Cx := ⟨0, 0, 0⟩

-- ill-formed commands ------------------------------------------------------------------------------------------------------------

theorem test_wf_issuer_refused : ([
    .nop ⟨64, 0, 0⟩, .nop ⟨0, 4096, 0⟩, .nop ⟨0, 0, 65536⟩, .faultClear ⟨64, 0, 0⟩ {}] : List Instr).all (fun i => !i.wf) = true := by decide

theorem test_wf_issuer : ([
    .nop c] : List Instr).all Instr.wf = true := by decide

theorem test_wf_requester_refused : ([
    .spanWrite (.vf 0) 0, .spanWrite (.vf 64) 0, .spanWrite (.core 4) 0, .marchRun (.vf 0) 0, .fltIrst (.vf 0) 0,
    .flumePiWrite (.vf 0) 0, .forceOwner (.vf 0) 0, .peakClr (.vf 0) 0, .holdExit (.vf 0), .wake (.vf 0),
    .oneShot (.vf 0) 0, .damselWrite (.vf 0) 0, .tbPrefWrite (.vf 0) 0, .graveClr (.vf 0) 0, .snapGo (.vf 0) 0,
    .domEnWrite (.vf 0) false 0, .hwmClr (.vf 0) 0, .remapWrite (.vf 0) 0, .handover (.vf 0) 0] : List Instr).all (fun i => !i.wf) = true := by decide

theorem test_wf_requester : ([
    .spanWrite .pf 0, .peakClr (.vf 63) 0, .peakClr (.core 3) 0, .peakClr .smbus 0, .peakClr .jtag 0] : List Instr).all Instr.wf = true := by decide

theorem test_wf_host_refused : ([
    .sqDoorbell 64 0 0 true, .sqDoorbell 0 4096 0 true, .cqDoorbell 64 0 0 true, .cqDoorbell 0 4096 0 true, .haltTmo 64,
    .flr 64, .flrDone 64, .vfDisable 64, .powerOn 32 false [], .bootStageTimeout 16 0, .bootStageTimeout 0 256,
    .pcieLinkUp 8 0, .pcieLinkUp 0 32, .bistEnd 32 default,
    .commandFetch ⟨.mapEcc 33554432, .ok⟩, .commandFetch ⟨.ok, .mapEcc 33554432⟩, .chunk 0 (.mapEcc 33554432)] : List Instr).all (fun i => !i.wf) = true := by decide

theorem test_wf_host : ([
    .sqDoorbell 63 4095 0 true, .cqDoorbell 0 0 0 true, .haltTmo 63, .flr 63, .flrDone 0, .vfDisable 63,
    .powerOn 31 false [], .bootStageTimeout 7 5, .pcieLinkUp 5 8, .commandFetch ⟨.mapEcc 33554431, .mapEcc 0⟩, .chunk 0 (.mapEcc 33554431)] : List Instr).all Instr.wf = true := by decide

theorem test_wf_array_refused : ([
    .brakeFail [256], .marchEnd [⟨false, 0, 4100, 0, 0, 0⟩], .marchEnd [⟨false, 0, 0, 80, 0, 0⟩],
    .marchEnd [⟨false, 0, 0, 0, 96, 0⟩], .marchEnd [⟨false, 0, 0, 0, 0, 1024⟩],
    .marchEnd [⟨false, 256, 0, 0, 0, 0⟩], .shortRetry .pf 256 0, .shortRetry (.vf 0) 0 0, .islandRst .pf 256 0,
    .islandRst (.vf 0) 0 0, .islandResetEnd 256 [], .islandResetEnd 0 [.corrected 21760], .short 4100 0, .short 0 96,
    .arm 0 [(4100, {})], .arm 0 [(0, { once := [80] })], .arm 0 [(0, { twice := some 80 })], .armComplete 4100,
    .refresh false 4100 0 false [], .refresh false 0 80 false [], .refresh false 0 0 false [.uncorrectable 21760],
    .cacheReloadDone 256, .scrub [{ offset := 65792 }]] : List Instr).all (fun i => !i.wf) = true := by decide

theorem test_wf_array : ([
    .brakeFail [0, 255], .marchEnd [⟨true, 255, 4099, 79, 95, 1023⟩], .short 4099 95, .arm 0 [], .armComplete 4099,
    .islandRst .pf 255 0, .islandResetEnd 255 [.corrected 21759], .refresh false 4099 79 false [.clean, .uncorrectable 0]]
    : List Instr).all Instr.wf = true := by decide

theorem test_wf_sensing_refused : ([
    .syncIn [256], .syncLoss 256, .freeRunFrame 256, .conversionDone 4356 [] 0 none, .conversionDone 4100 [⟨0⟩] 0 none,
    .conversionDone 4099 [⟨0⟩, ⟨0⟩, ⟨0⟩, ⟨0⟩] 0 none, .conversionDone 0 [] 0 none, .refselWrite .pf 16 0,
    .refselWrite (.vf 0) 0 0, .refSettled 256, .loopEvaluation 4100 true {} [], .loopEvaluation 0 true { once := [80] } [],
    .loopEvaluation 0 true {} [.corrected 21760], .thermalMeasurement 5 [], .thermalMeasurement 0 [(0, 32768)],
    .calSensorEnd 4100, .sweeperRebuild { index := 16810000 }, .sweeperRebuild { index := 0, reads := [.corrected 21760] },
    .sweeperRebuild { index := 0, residue := { twice := some 80 } }] : List Instr).all (fun i => !i.wf) = true := by decide

theorem test_wf_sensing : ([
    .syncIn [], .conversionDone 4099 [⟨0⟩, ⟨0⟩, ⟨0⟩, ⟨0⟩, ⟨0⟩] 0 none, .conversionDone 4355 [] 1 (some ⟨0⟩),
    .conversionDone 4100 [⟨0⟩, ⟨0⟩, ⟨0⟩, ⟨0⟩] 0 none, .thermalMeasurement 4 [], .sweeperRebuild { index := 16809999 },
    .surveyEnd 0, .calSensorEnd 4099] : List Instr).all Instr.wf = true := by decide

theorem test_wf_faults_refused : ([
    .wireFault 32 0 ⟨0, false⟩, .wireFault 0 8192 ⟨0, false⟩, .wireFault 0 0 ⟨32, true⟩, .busHang 8 0, .busHang 0 18446744073709551616, .hsErr 256] : List Instr).all (fun i => !i.wf) = true := by decide

theorem test_wf_faults : ([
    .wireFault 18 255 ⟨9, false⟩, .busHang 7 0, .hsErr 255] : List Instr).all Instr.wf = true := by decide

theorem test_wf_mailbox_refused : ([
    .time (.vf 0) false 0 [], .timeSlot (.vf 0) false 0 [], .timeSet (.vf 0) false 0 [], .tsq (.vf 0) false 0 [],
    .xactEpoch (.vf 0) false 0 [], .xactMapEpoch (.vf 0) false 0 [], .dmaFault (.vf 0) false 0 [],
    .snapInfo (.vf 0) false 0 [], .snapReg (.vf 0) false 0 [], .cntPreset (.vf 0) false 0 [],
    .time .pf false 4294967296 [], .timeSlot .pf false 4294967296 [], .timeSet .pf false 4294967296 [],
    .tsq .pf false 4294967296 [], .xactEpoch .pf false 4294967296 [], .xactMapEpoch .pf false 4294967296 [],
    .dmaFault .pf false 4294967296 [], .snapInfo .pf false 4294967296 [], .snapReg .pf false 4294967296 [],
    .cntPreset .pf false 4294967296 [], .time .pf false 0 (List.replicate 9 0),
    .timeSlot .pf false 0 (List.replicate 9 0), .timeSet .pf false 0 (List.replicate 9 0),
    .tsq .pf false 0 (List.replicate 9 0), .xactEpoch .pf false 0 (List.replicate 9 0),
    .xactMapEpoch .pf false 0 (List.replicate 9 0), .dmaFault .pf false 0 (List.replicate 9 0),
    .snapInfo .pf false 0 (List.replicate 9 0), .snapReg .pf false 0 (List.replicate 9 0),
    .cntPreset .pf false 0 (List.replicate 9 0)] : List Instr).all (fun i => !i.wf) = true := by decide

theorem test_wf_mailbox : ([
    .time .pf false 0 []] : List Instr).all Instr.wf = true := by decide

theorem test_wf_registers_refused : ([
    .guardWrite (.vf 0) 0 0, .guardWrite .pf 2 0, .guardWrite .pf 65536 0, .guardedWrite (.vf 0) 0 0 false,
    .guardedWrite .pf 1 0 false, .guardedWrite .pf 65536 0 false, .rwpWrite (.vf 0) 0 0, .rwpWrite .pf 3 0,
    .rwpWrite .pf 65536 0, .registerWrite (.vf 0) 0 0 true, .registerWrite .pf 0x60000 0 true, .rxCfgWrite .pf 4 0,
    .rxCfgWrite (.vf 0) 0 0, .rxHeadWrite .pf 4 0, .rxHeadWrite (.vf 0) 0 0] : List Instr).all (fun i => !i.wf) = true := by decide

theorem test_wf_registers : ([
    .guardWrite .pf 0x3A04 0, .registerWrite .pf 0x5FFFF 0 true, .rxCfgWrite .pf 3 0] : List Instr).all Instr.wf = true := by decide

theorem test_wf_ring_refused : ([
    .ringFrame false { (default : Frame) with da := 281474976710656 },
    .ringFrame false { (default : Frame) with sa := 281474976710656 },
    .ringFrame false { (default : Frame) with kind := 16 }, .ringFrame false { (default : Frame) with pri := 8 },
    .ringFrame false { (default : Frame) with ttl := 256 }, .ringFrame false { (default : Frame) with eth := 65536 },
    .ringFrame false { (default : Frame) with wire := 2001 }, .ringFrame false { (default : Frame) with wire := 63 },
    .ringFrame false { (default : Frame) with payload := [0], wire := 0 },
    .ringFrame false { (default : Frame) with sec := some ⟨4, 0, true, none⟩ },
    .ringFrame false { (default : Frame) with sec := some ⟨0, 4294967296, true, none⟩ },
    .commandFrame false { (default : Frame) with kind := 16 }, .token false ⟨65536, ⟨0, 0, false⟩⟩,
    .token false ⟨0, ⟨281474976710656, 0, false⟩⟩, .token false ⟨0, ⟨0, 256, false⟩⟩, .claim false 256 ⟨0, 0, false⟩ 0,
    .claim false 0 ⟨281474976710656, 0, false⟩ 0, .claim false 0 ⟨0, 0, false⟩ 4294967296,
    .pause ⟨281474976710656, 0, false, 0⟩ 0, .pause ⟨0, 281474976710656, false, 0⟩ 0, .pause ⟨0, 0, false, 256⟩ 0,
    .pause ⟨0, 0, false, 0⟩ 65536] : List Instr).all (fun i => !i.wf) = true := by decide

theorem test_wf_ring : ([
    .ringFrame false ⟨0, 0, 0, 0, false, false, 255, true, 0, none, [], 64⟩, .token false ⟨65535, ⟨0, 255, true⟩⟩,
    .claim false 255 ⟨0, 255, false⟩ 0, .pause ⟨0, 0, true, 255⟩ 65535] : List Instr).all Instr.wf = true := by decide

theorem test_wf_time_refused : ([
    .syncTmo 2, .pathHoldEnd 2, .followUp 2 0 default default, .followUp 0 65536 default default,
    .delayReqSend 2 default, .delayResp 2 0 default default default, .delayResp 0 65536 default default default,
    .syncMsg 2 false false 0 false 0 default default default, .syncMsg 0 false false 256 false 0 default default default,
    .syncMsg 0 false false 0 false 65536 default default default, .regAddr (some 65536) default] : List Instr).all (fun i => !i.wf) = true := by decide

theorem test_wf_time : ([
    .syncTmo 1, .pathHoldEnd 1, .regAddr (some 65535) default] : List Instr).all Instr.wf = true := by decide

theorem test_wf_basic_refused : ([
    .getInfo c { (default : GetInfoP) with item := 256 }, .setMode c { (default : SetModeP) with target := 256 },
    .snapshot c { (default : SnapshotP) with whn := 256 },
    .snapshot c { (default : SnapshotP) with at_ := ⟨281474976710656, 0⟩ },
    .snapshot c { (default : SnapshotP) with at_ := ⟨0, 4294967296⟩ },
    .fwStage c { (default : FwStageP) with addr := 18446744073709551616 },
    .fwStage c { (default : FwStageP) with length := 4294967296 },
    .fwActivate c { (default : FwActivateP) with whn := 256 },
    .bistRun c { (default : BistRunP) with suites := 4294967296 }] : List Instr).all (fun i => !i.wf) = true := by decide

theorem test_wf_basic : ([
    .getInfo c default, .setMode c default, .snapshot c default, .fwStage c default, .fwActivate c default,
    .bistRun c default] : List Instr).all Instr.wf = true := by decide

theorem test_wf_tables_refused : ([
    .tableRead c { (default : TableP) with table := 256 }, .tableRead c { (default : TableP) with first := 4294967296 },
    .tableRead c { (default : TableP) with count := 4294967296 },
    .tableRead c { (default : TableP) with addr := 18446744073709551616 },
    .tableWrite c { (default : TableP) with table := 256 },
    .tableWrite c { (default : TableP) with first := 4294967296 },
    .tableWrite c { (default : TableP) with count := 4294967296 },
    .tableWrite c { (default : TableP) with addr := 18446744073709551616 },
    .dmaResume c { (default : SlotSeqP) with slot := 65536 },
    .dmaResume c { (default : SlotSeqP) with seq := 4294967296 },
    .dmaAbort c { (default : SlotSeqP) with slot := 65536 }, .dmaAbort c { (default : SlotSeqP) with seq := 4294967296 }] : List Instr).all (fun i => !i.wf) = true := by decide

theorem test_wf_tables : ([
    .tableRead c default, .tableWrite c default, .dmaResume c default, .dmaAbort c default] : List Instr).all Instr.wf = true := by decide

theorem test_wf_pairing_refused : ([
    .pairTxn c { (default : PairTxnP) with xid := 4294967296 }, .pairTxn c { (default : PairTxnP) with count := 65536 },
    .pairTxn c { (default : PairTxnP) with addr := 18446744073709551616 },
    .pairCommit c { (default : PairCommitP) with xid := 4294967296 },
    .pairCommit c { (default : PairCommitP) with whn := 256 },
    .pairCommit c { (default : PairCommitP) with at_ := ⟨281474976710656, 0⟩ },
    .pairCommit c { (default : PairCommitP) with at_ := ⟨0, 4294967296⟩ },
    .pairAbort c { (default : PairAbortP) with xid := 4294967296 },
    .pairQuery c { (default : PairQueryP) with kind := 256 }, .pairQuery c { (default : PairQueryP) with domain := 256 },
    .pairQuery c { (default : PairQueryP) with xid := 4294967296 },
    .pairQuery c { (default : PairQueryP) with addr := 18446744073709551616 },
    .pairQuery c { (default : PairQueryP) with first := 65536 },
    .pairQuery c { (default : PairQueryP) with count := 65536 }, .portPark c { (default : PortParkP) with port := 65536 }] : List Instr).all (fun i => !i.wf) = true := by decide

theorem test_wf_pairing : ([
    .pairTxn c default, .pairCommit c default, .pairAbort c default, .pairQuery c default, .portPark c default] : List Instr).all Instr.wf = true := by decide

theorem test_wf_schedules_refused : ([
    .schLoad c { (default : SchLoadP) with kind := 256 }, .schLoad c { (default : SchLoadP) with first := 65536 },
    .schLoad c { (default : SchLoadP) with count := 65536 },
    .schLoad c { (default : SchLoadP) with addr := 18446744073709551616 },
    .schStart c { (default : SchStartP) with first := 65536 }, .schStart c { (default : SchStartP) with source := 256 },
    .schStart c { (default : SchStartP) with whn := 256 },
    .schStart c { (default : SchStartP) with at_ := ⟨281474976710656, 0⟩ },
    .schStart c { (default : SchStartP) with at_ := ⟨0, 4294967296⟩ },
    .schStop c { (default : SchStopP) with how := 256 }, .schJump c { (default : SchJumpP) with target := 65536 },
    .schStream c { (default : SchStreamP) with addr := 18446744073709551616 },
    .schStream c { (default : SchStreamP) with log2 := 256 },
    .schStream c { (default : SchStreamP) with start := 4294967296 }] : List Instr).all (fun i => !i.wf) = true := by decide

theorem test_wf_schedules : ([
    .schLoad c default, .schStart c default, .schStop c default, .schJump c default, .schStream c default] : List Instr).all Instr.wf = true := by decide

theorem test_wf_loops_refused : ([
    .loopCfg c { (default : LoopCfgP) with first := 65536 }, .loopCfg c { (default : LoopCfgP) with count := 65536 },
    .loopCfg c { (default : LoopCfgP) with words := 65536 },
    .loopCfg c { (default : LoopCfgP) with cfg := List.replicate 12 0 },
    .loopInject c { (default : LoopInjectP) with aperture := 65536 },
    .loopInject c { (default : LoopInjectP) with axis := 256 },
    .loopInject c { (default : LoopInjectP) with point := 256 },
    .loopInject c { (default : LoopInjectP) with wave := 256 },
    .loopInject c { (default : LoopInjectP) with start := 256 },
    .loopInject c { (default : LoopInjectP) with half := 65536 },
    .loopInject c { (default : LoopInjectP) with amp := 2147483648 },
    .loopInject c { (default : LoopInjectP) with duration := 4294967296 },
    .loopInject c { (default : LoopInjectP) with f0 := 65536 },
    .loopInject c { (default : LoopInjectP) with f1 := 65536 },
    .loopInject c { (default : LoopInjectP) with at_ := ⟨281474976710656, 0⟩ },
    .loopInject c { (default : LoopInjectP) with at_ := ⟨0, 4294967296⟩ },
    .captureArm c { (default : CaptureArmP) with unit := 256 },
    .captureArm c { (default : CaptureArmP) with axis := 256 },
    .captureArm c { (default : CaptureArmP) with aperture := 65536 },
    .captureArm c { (default : CaptureArmP) with trigger := 256 },
    .captureArm c { (default : CaptureArmP) with length := 65536 },
    .captureArm c { (default : CaptureArmP) with pre := 65536 },
    .captureArm c { (default : CaptureArmP) with level := 4294967296 },
    .captureArm c { (default : CaptureArmP) with at_ := ⟨281474976710656, 0⟩ },
    .captureArm c { (default : CaptureArmP) with at_ := ⟨0, 4294967296⟩ },
    .captureRead c { (default : CaptureReadP) with unit := 256 },
    .captureRead c { (default : CaptureReadP) with first := 65536 },
    .captureRead c { (default : CaptureReadP) with count := 65536 },
    .captureRead c { (default : CaptureReadP) with addr := 18446744073709551616 }] : List Instr).all (fun i => !i.wf) = true := by decide

theorem test_wf_loops : ([
    .loopCfg c default, .loopInject c default, .captureArm c default, .captureRead c default] : List Instr).all Instr.wf = true := by decide

theorem test_wf_calibration_refused : ([
    .calSensor c { (default : CalSensorP) with first := 65536 },
    .calSensor c { (default : CalSensorP) with count := 65536 },
    .calSensor c { (default : CalSensorP) with step := 256 },
    .calSensor c { (default : CalSensorP) with known := 32768 },
    .calSensor c { (default : CalSensorP) with frames := 65536 },
    .calSurvey c { (default : CalSurveyP) with firstRound := 65536 },
    .calSurvey c { (default : CalSurveyP) with rounds := 65536 },
    .calSurvey c { (default : CalSurveyP) with measFrames := 65536 },
    .calCommit c { (default : CalCommitP) with target := 256 },
    .calCommit c { (default : CalCommitP) with action := 256 },
    .aimUpload c { (default : AimUploadP) with addr := 18446744073709551616 },
    .aimUpload c { (default : AimUploadP) with first := 4294967296 },
    .aimUpload c { (default : AimUploadP) with count := 4294967296 },
    .aimUpload c { (default : AimUploadP) with set := 256 }] : List Instr).all (fun i => !i.wf) = true := by decide

theorem test_wf_calibration : ([
    .calSensor c default, .calSurvey c default, .calCommit c default, .aimUpload c default] : List Instr).all Instr.wf = true := by decide

theorem test_wf_operator_refused : ([
    .domainCfg c { (default : DomainCfgP) with domain := 256 },
    .domainCfg c { (default : DomainCfgP) with hopFirst := 65536 },
    .domainCfg c { (default : DomainCfgP) with hopCount := 65536 },
    .domainCfg c { (default : DomainCfgP) with tagQuota := 65536 },
    .ownerSet c { (default : OwnerSetP) with first := 65536 }, .ownerSet c { (default : OwnerSetP) with count := 65536 },
    .ownerSet c { (default : OwnerSetP) with domain := 256 },
    .policerSet c { (default : PolicerSetP) with first := 65536 },
    .policerSet c { (default : PolicerSetP) with count := 65536 },
    .policerSet c { (default : PolicerSetP) with rate := 4294967296 },
    .policerSet c { (default : PolicerSetP) with burst := 4294967296 },
    .policerSet c { (default : PolicerSetP) with overhead := 65536 },
    .policerSet c { (default : PolicerSetP) with pairCost := 65536 },
    .policerSet c { (default : PolicerSetP) with interval := 4294967296 },
    .drillSwap c { (default : DrillSwapP) with dwellMs := 4294967296 },
    .drillSwap c { (default : DrillSwapP) with abortAge := 65536 }] : List Instr).all (fun i => !i.wf) = true := by decide

theorem test_wf_operator : ([
    .domainCfg c default, .ownerSet c default, .policerSet c default, .drillSwap c default] : List Instr).all Instr.wf = true := by decide

/-- The state right after reset, in mode `m`. -/
def at_ (m : Mode) : State :=
  { State.reset with eng := { State.reset.eng with sys := { State.reset.eng.sys with mode := m } } }

-- the spec's worked examples --------------------------------------------------------------------------------------------------------

/-- R61: the CRC of the ASCII string "123456789" is 0x29B1. -/
theorem test_crc16_check : crc16 [0x31, 0x32, 0x33, 0x34, 0x35, 0x36, 0x37, 0x38, 0x39] = 0x29B1 := by decide +kernel

/-- "One row, worked": 47.0 °C between the sets of 45 and 70 °C gives w = 82. -/
theorem test_weight_47 : weightOf 1 752 = 82 := by decide

/-- "One row, worked": KX and FOCUS interpolated at w = 82. -/
theorem test_interp : interp 82 56318 56342 = 56320 ∧ interp 82 (-1210) (-1206) = -1210 := by decide

/-- "One row, worked": the three codes of row 39 from their breakpoints and fractions. -/
theorem test_codes_row39 : codeOf 46016 46962 80716 = 720 ∧ codeOf 49807 50754 90589 = 780 ∧ codeOf 33711 34658 432428 = 533 := by
  decide

/-- "One row, worked": the sums of R73 wrap to their phases. -/
theorem test_wrap : wrapPhase (-153011380) = 48315212 ∧ wrapPhase 169253164 = 35035436 := by decide

/-- "One row, worked": slope, focus and the Legendre terms of cell 0 of row 39. -/
theorem test_terms_row39 : 2 * 900928 * cellX 0 = -171176320 ∧ termP 1 39 0 = 16384 ∧ termP 4 39 0 = -16384 ∧ termP 1 39 47 = -8189 ∧
    termP 4 39 47 = 259 := by decide

/-- R37 and R4 for port 1,234: tile 68, and its partner in bypass pairing; its pair index toward port 3,001 is 5,061,166. -/
theorem test_port_1234 : tileOf 1234 = 68 ∧ regionOf 68 = 18 ∧ bypassPartner 1234 = 2861 ∧ aimIndex 1234 3001 = 5061166 := by decide

/-- R29: the steers of the station circuits as the table gives them. -/
theorem test_station_steers : stationSteer 4099 = (2, 2) ∧ stationSteer 4096 = (-2, -2) ∧ stationSteer 4098 = (-64, 2) ∧
    stationSteer 4097 = (64, -2) := by decide

/-- The gain example of R131: 0.20 dBm and 564.25 codes give TAP_GAIN 17,041. -/
theorem test_tap_gain : tapGain 9028 20 = 17041 := by decide +kernel

/-- R132: N = 1,020 and S = 980 codes give the balance gains 16,060 and 16,715. -/
theorem test_balance : balance 15680 16320 = 16060 ∧ balance 16320 15680 = 16715 := by decide +kernel

/-- "Pointing loops", worked frame: S[1,126] = 32,367 and S[1,638] = 19,276. -/
theorem test_sine : damselS 1126 = 32367 ∧ damselS 1638 = 19276 := by decide +kernel

/-- R294, worked: o = 2,621,440 takes i from −3,200 to −4,480 and adj to −24,960. -/
theorem test_servo : (-3200 : Int) - rnd (2048 * 2621440) 22 = -4480 ∧ (-4480 : Int) - rnd (32768 * 2621440) 22 = -24960 := by decide

/-- R193: a dwell of 7 ticks of 333.333333 ns ends at 2,330, 4,670 and 7,000 ns. -/
theorem test_boundaries_333 : boundaryTick 0 (7 * (333 * 16777216 + 0x555555)) = 2330 ∧
    boundaryTick 0 (14 * (333 * 16777216 + 0x555555)) = 4670 ∧ boundaryTick 0 (21 * (333 * 16777216 + 0x555555)) = 7000 := by decide

/-- R215, the packet of the chapter's example: domain 5, hopper 0x0A3, tag 0x017, 20 bytes of parameters. -/
theorem test_packet_header : (let h : List Byte := [0x01, 0x02, 0x00, 0x05, 0x17, 0x30, 0x0A, 0x00, 0x14, 0x00] ++ List.replicate 22 0
    (hOpcode h, hDomain h, hQueue h, hTag h, hPlen h, headerBad h, contEntries h)) = (0x0201, 5, 0x0A3, 0x017, 20, false, 1) := by decide

/-- R161, the same packet: PAIR_TXN of XID 0x0030 with the one entry 0x0BB9_04D2. -/
theorem test_packet_pair_txn : (match parseLow 0x0201 ⟨5, 0x0A3, 0x017⟩
      ([0x30, 0x00, 0x01, 0x00] ++ List.replicate 12 0 ++ [0xD2, 0x04, 0xB9, 0x0B]) with
    | some (.pairTxn _ p) => decide (p.xid = 0x30 ∧ p.count = 1 ∧ p.byAddr = false ∧ p.entries = [0x0BB904D2] ∧ p.rsv = 0)
    | _ => false) = true := by decide

/-- R379: firmware release 2.4, build 117 of a CB engine reads 0xB409_01C0_0204_0075 in item 0. -/
theorem test_info_item0 : infoItem0 (wrF Fd.SYS_ID_BAND 1 { State.reset.eng with sys := { State.reset.eng.sys with running := 0x02040075 } }) =
    0xB40901C002040075 := by decide

/-- R337: the record of a SHORT of tile 68, word by word as the chapter's example gives its bytes. -/
theorem test_history_words : (show Rec from
    { wire := false, timeValid := true, ns := 0x1B3A0C08, sec := 0x6553F17B, block := 18, inst := 68, code := 0, cls := 1,
      detail := 0x002504D2, clk := 0 }).words = [0x5B3A0C08, 0x6553F17B, 0x01001244, 0x002504D2] := by decide +kernel

/-- R312: a wrong complement for BKP_SPAN by requester 0 leaves 0x2000_3A00 in REG_GUARD_LAST. -/
theorem test_guard_last : rd (guardErr (guardReason (some ⟨0xFFFFFFFE, 0x3A00, 0⟩) 0x3A00 3 0 false) 0 0x3A00 State.reset.eng)
    Reg.REG_GUARD_LAST = 0x20003A00 := by decide

/-- R312: the same by the SMBus, requester 5, leaves 0x2500_3A00 there. -/
theorem test_guard_last_smbus : rqNum .smbus = 5 ∧ rd (guardErr 2 (rqNum .smbus) 0x3A00 State.reset.eng) Reg.REG_GUARD_LAST = 0x25003A00 := by
  decide

/-- R312: the reasons in their order, each at a boundary of its condition. -/
theorem test_guard_reasons : guardReason none 8 0 0 true = 5 ∧ guardReason none 8 0 0 false = 1 ∧
    guardReason (some ⟨0, 4, 0⟩) 8 0 0 false = 3 ∧ guardReason (some ⟨0xFFFFFFFF, 8, 0⟩) 8 0 1000001 false = 4 ∧
    guardReason (some ⟨0xFFFFFFFF, 8, 0⟩) 8 1 1000000 false = 2 ∧ guardReason (some ⟨0xFFFFFFFF, 8, 0⟩) 8 0 1000000 false = 0 := by decide

/-- R313: two copies outvote the third, and three that differ give the bitwise majority. -/
theorem test_vote : vote 5 5 2 = 5 ∧ vote 5 2 5 = 5 ∧ vote 2 5 5 = 5 ∧ vote 0b1100 0b1010 0b0110 = 0b1110 := by decide

/-- R191: from position 1,000 field 999 names 999, field 488 names 1,512 and field 489 names 489. -/
theorem test_field_positions : fieldPos 1000 999 = 999 ∧ fieldPos 1000 488 = 1512 ∧ fieldPos 1000 489 = 489 := by decide

/-- R83: round 0 pairs port 4,093 with port 2, and 3 with 4,092. -/
theorem test_round_0 : (roundPairs 0).take 2 = [(4093, 2), (3, 4092)] := by decide +kernel

/-- R233, R217: NOP of the operator in BYPASS completes, frees its tag and is counted as accepted. -/
theorem test_nop_completes : (match exec (.nop ⟨0, 0, 7⟩) (at_ .bypass) with
    | .next t => decide (t.eng.cmd.inflight = []) && decide (rd t.eng Reg.CMD_ACCEPT_CNT = 1)
    | _ => false) = true := by decide +kernel

/-- An empty queue: one tick passes (log 1). -/
theorem test_tick : (match step State.reset with | .next t => decide (t.eng.clk = 10) | _ => false) = true := by decide

/-- No bits spell a command (the opcode table gives no row any). -/
theorem test_no_word : Sys2Proof.decodeTableWord 32 0 = none ∧ State.reset.withFetchWord 32 0 = State.reset := by decide

-- the hypotheses of the statements ------------------------------------------------------------------------------------------------

/-- The state right after reset, in mode `m`, with the engine changed by `f`. -/
def put (m : Mode) (f : Engine → Engine) : State := { State.reset with eng := f (at_ m).eng }

/-- The same with PCI Express up. -/
def linked (m : Mode) : State := put m (fun e => { e with hif := { e.hif with up := true, numVfs := 4 } })

/-- The same with the guard latch of the physical function armed for `off` with the complement of `v`. -/
def latched (m : Mode) (off : Nat) (v : Word) : State :=
  put m (fun e => { e with hif := { e.hif with up := true }, guards := [(0, { word := ~~~ v, main := off, at_ := 0 })] })

/-- The same with the Leat station inserted and both links locked and up. -/
def ringed (m : Mode) (f : LrgSt → LrgSt) : State :=
  put m (fun e => { e with lrg := f { e.lrg with inserted := true, a := { e.lrg.a with lock := true, rxUp := true },
                                                 b := { e.lrg.b with lock := true, rxUp := true } } })

/-- What makes a command's way clear, as a test. -/
def clearB (cx : Cx) (i : CmdInfo) (ports : List Nat) (e : Engine) : Bool :=
  decide (e.sys.mode ∈ i.modes) && decide (e.sys.mode ∈ execModes) && decide (hopDom e cx.hopper = some cx.domain) &&
  (!i.operator || decide (cx.domain = 0)) && (!i.hostMem || !isRing cx.hopper) &&
  e.cmd.inflight.all (fun j => !decide (j.cx.hopper = cx.hopper ∧ j.cx.tag = cx.tag)) &&
  decide (looseTags e (fun c => c.hopper == cx.hopper && c.tag == cx.tag) = []) &&
  e.cmd.inflight.all (fun j => j.ports.all (fun p => !decide (p ∈ ports))) &&
  e.flt.parks.all (fun k => (k.scope e).all (fun p => !decide (p ∈ ports))) &&
  (!decide (i.opcode ∈ namingOps) || e.cmd.inflight.all (·.accepted) &&
    e.cmd.hoppers.all (fun x => decide (x.2.ring = []) && decide (x.2.before e.cmd.subs = 0)))

theorem clear_of {cx : Cx} {i : CmdInfo} {ports : List Nat} {e : Engine} (h : clearB cx i ports e = true) : Clear cx i ports e := by
  simp only [clearB, Bool.and_eq_true, Bool.or_eq_true, decide_eq_true_eq, Bool.not_eq_true', List.all_eq_true, decide_eq_false_iff_not] at h
  obtain ⟨⟨⟨⟨⟨⟨⟨⟨⟨h1, h2⟩, h3⟩, h4⟩, h5⟩, h6⟩, hl⟩, h7⟩, hp⟩, h8⟩ := h
  refine ⟨h1, h2, h3, fun a => ?_, fun a => ?_, h6, hl, h7, hp, fun a => ?_⟩
  · simpa [a] using h4
  · simpa [a] using h5
  · rcases h8 with h | h
    · exact absurd a h
    · exact h

theorem reaches_of {rq : Rq} {off : Nat} {e : Engine} (h : (reachable e rq && (match rq with | .vf _ => false | _ => true) &&
    decide (e.sys.mode ≠ .lockout) && (!unpowered e || millpond off) && decide (off < bar4At ∧ off % 4 = 0)) = true) : Reaches rq off e := by
  simp only [Bool.and_eq_true, Bool.or_eq_true, decide_eq_true_eq, Bool.not_eq_true'] at h
  obtain ⟨⟨⟨⟨h1, h2⟩, h3⟩, h4⟩, h5⟩ := h
  refine ⟨h1, fun d hd => by subst hd; exact absurd h2 (by simp), h3, fun a => ?_, h5⟩
  simpa [a] using h4

theorem quiet_of {e : Engine} (h : (e.xact.txns.all (fun t => !t.ready || t.group.isSome) && e.cmd.inflight.all (fun i => i.wait.isNone) &&
    e.tim.stepDefer.isNone && e.sys.setMode.isNone) = true) : Quiet e := by
  simp only [Bool.and_eq_true, List.all_eq_true, Bool.or_eq_true, Bool.not_eq_true', Option.isNone_iff_eq_none] at h
  obtain ⟨⟨⟨h1, h2⟩, h3⟩, h4⟩ := h
  exact ⟨fun t ht hr => by simpa [hr] using h1 t ht, h2, h3, fun j hj => by simp [h4] at hj⟩

theorem armed_of {rq : Rq} {off : Nat} {v : Word} {e : Engine} {x : Latch} (h1 : latchOf e (rqNum rq) = some x) (h2 : x.main = off)
    (h3 : e.clk ≤ x.at_ + 1000000) (h4 : x.word = ~~~ v) : Armed rq off v e := ⟨x, h1, h2, h3, h4⟩

/-- The tiles initialised at clk 1. -/
def tiled (e : Engine) : Engine := { e with sns := { e.sns with initAt := 1 } }

/-- Time slots 0 and 1 enabled, with a roster entry for their master, a Sync under way at slot 1 (its path measurement suspended
until 9), a complete one at slot 0 and a Delay_Req waiting there. -/
def slaved : State := put .bypass (fun e => wrF (Fd.TIM_DOM_CFG_EN.at 0 32) 1 (wrF (Fd.TIM_DOM_CFG_EN.at 1 32) 1
  { e with lrg := { (ringed .bypass id).eng.lrg with roster := [(0, 0x80000000 :: List.replicate 31 0)] },
           tim := { e.tim with s0 := { e.tim.s0 with sync := some ⟨7, 0, 0, 0, true⟩ }, tsq := [⟨0, false, 3, 0, 0, 0⟩], ho := some ⟨1, 0, 0, 0⟩,
                               s1 := { e.tim.s1 with sync := some ⟨7, 0, 0, 0, false⟩, pathHoldTo := some 9 } } }))

/-- In SERVICE, frame 5 begun, aperture 4099 a station circuit whose loop acquires. -/
def looping : State := put .service (fun e => tiled { e with
  bkp := { e.bkp with apers := [(4099, { actKind := 3 })], tiles := [(255, { frameAt := some 5 })] },
  loop := { e.loop with loops := [(4099, { st := .acquire })] } })

/-- Sequencer A owns tile 0. -/
def owned : State := put .bypass (fun e => tiled { e with bkp := { e.bkp with tiles := [(0, { token := 1 })] } })

/-- The physical function may master the bus. -/
def mastered : State := put .bypass (fun e => { e with hif := { e.hif with up := true, cfg := [(0, { master := true })] } })

/-- Hopper 0 has a command to fetch, and a stream of its class that waits has the turn. -/
def fetching : State := put .bypass (fun e => { e with
  cmd := { e.cmd with hoppers := [(0, { sqSize := 32, cqSize := 32, sqTail := 1 })] }, lrg := { e.lrg with roster := [] },
  dma := { e.dma with streams := [{ id := 0, kind := 3, dom := 0, iova := 0, len := 4, write := false, job := .flume 0 0 }], sqBefore := [0] } })

/-- A ring station whose buffer is above the low mark, one station paused. -/
def pausing : State := put .bypass (fun e => wrF Fd.LRG_CTL_EN 1 (wrF Fd.LRG_PAUSE_HWM 1
  { e with lrg := { (ringed .bypass id).eng.lrg with pausedBy := [⟨1, false, 0⟩], above := true, used := 1048576 } }))

theorem hyps_stepTakesFront :
    (∃ (c : Instr) (l : List Instr) (s : State), s.pending = c :: l) :=
  ⟨.nop c, [], { State.reset with pending := [.nop c] }, by decide +kernel⟩

theorem hyps_emptyQueueTicks :
    (∃ (s : State), s.pending = []) ∧
    (∃ (s : State), s.pending = [] ∧ unpowered s.eng = true) :=
  ⟨⟨State.reset, by decide +kernel⟩,
    ⟨(at_ .off), by decide +kernel, by decide +kernel⟩⟩

theorem hyps_invKept :
    (∃ (s : State) (t : State), Inv s ∧ step s = .next t) :=
  ⟨State.reset, State.reset.to (tick State.reset.start), ⟨by decide +kernel, by decide +kernel, by decide +kernel,
    by decide +kernel⟩, by rfl⟩

theorem hyps_bandAndWearKept :
    (∃ (s : State) (t : State), step s = .next t) :=
  ⟨State.reset, State.reset.to (tick State.reset.start), by rfl⟩

theorem hyps_basicCommandsAnswer :
    (∃ (s : State) (cx : Cx) (a : Engine), Clear cx cmdNop [] s.start ∧ a = accepted cx 0x0001 [] s.start) ∧
    (∃ (s : State) (cx : Cx) (p : GetInfoP) (a : Engine), Clear cx cmdGetInfo [] s.start ∧ a = accepted cx 0x0002 [] s.start) ∧
    (∃ (s : State) (cx : Cx) (p : BistRunP) (a : Engine), Clear cx cmdBist [] s.start ∧ a = accepted cx 0x0702 [] s.start) ∧
    (∃ (cx : Cx) (n : Nat) (a : Engine) (x : Engine), x = (if bit n 0 = true then beginMarch true (bistCtl a) a else a)) ∧
    (∃ (s : State) (cx : Cx) (p : FaultClearP) (a : Engine) (b : Engine) (x : Engine), Clear cx (cmdFaultClear cx) [] s.start ∧
      a = accepted cx 0x0703 [] s.start ∧ x = toMode .bypass (brakeOff 2 b) ∧ b = whenE p.clearHistory (fun e => wr
      Reg.FLT_HIST_OVF_CNT 0 { e with flt := { e.flt with hist := [] } }) (whenE p.clearCauses clearAllCauses a)) :=
  ⟨⟨(at_ .bypass), c, _, clear_of (by decide +kernel), rfl⟩,
    ⟨(at_ .bypass), c, default, _, clear_of (by decide +kernel), rfl⟩,
    ⟨(at_ .test), c, default, _, clear_of (by decide +kernel), rfl⟩,
    ⟨c, 31, (at_ .test).eng, _, rfl⟩,
    ⟨(at_ .safe), c, ⟨true, true, true, 0⟩, _, _, _, clear_of (by decide +kernel), rfl, rfl, rfl⟩⟩

theorem hyps_modeCommandsAct :
    (∃ (s : State) (cx : Cx) (p : SetModeP) (m : Mode) (a : Engine) (b : Engine), Clear cx cmdSetMode [] s.start ∧ p.rsv = 0 ∧
      a = accepted cx 0x0003 [] s.start ∧ b = failAll (fun _ => true) 0x0B { a with sys := { a.sys with setMode := none } } ∧
      Mode.ofCode p.target = some m ∧ m ∈ reaches s.eng.sys.mode s.eng.sys.zeroService ∧ s.eng.sys.setMode = none ∧ (m = .sleep
      → s.eng.pwr.auxA = true ∨ s.eng.pwr.auxB = true)) ∧
    (∃ (s : State) (cx : Cx) (p : SetModeP) (m : Mode) (a : Engine), s.eng.sys.mode = .hold ∧ isRing cx.hopper = true ∧ hopDom
      s.eng cx.hopper = some 0 ∧ cx.domain = 0 ∧ tagTaken cx s.eng = false ∧ p.rsv = 0 ∧ Mode.ofCode p.target = some m ∧
      s.eng.sys.setMode = none ∧ a = exitHold 1 .service (accepted cx 0x0003 [] s.start) ∧ (m = .service ∨ m ∈ reaches .service
      s.eng.sys.zeroService) ∧ (m = .sleep → s.eng.pwr.auxA = true ∨ s.eng.pwr.auxB = true)) ∧
    (∃ (s : State) (cx : Cx) (p : SnapshotP) (a : Engine), Clear cx { opcode := 0x0004 } [] s.start ∧ a = accepted cx 0x0004 []
      s.start ∧ p.rsv = 0) ∧
    (∃ (s : State) (cx : Cx) (p : FwStageP) (a : Engine), Clear cx cmdFwStage [] s.start ∧ a = accepted cx 0x0005 [] s.start ∧
      p.rsv = 0 ∧ 1 ≤ p.length ∧ p.length ≤ 16777216 ∧ iovaOk p.addr 4096 p.length = true ∧ s.eng.sys.fwBusy = false) ∧
    (∃ (s : State) (cx : Cx) (p : FwActivateP), Clear cx (cmdFwActivate p.whn) [] s.start ∧ p.rsv = 0 ∧ p.whn = 0 ∧
      s.eng.sys.staged.isSome = true) ∧
    (∃ (s : State) (cx : Cx) (p : FwActivateP), Clear cx (cmdFwActivate p.whn) [] s.start ∧ p.rsv = 0 ∧ p.whn = 1 ∧
      s.eng.sys.staged.isSome = true ∧ s.eng.sys.setMode = none) ∧
    (∃ (s : State) (cx : Cx) (p : FwActivateP), Clear cx (cmdFwActivate 0) [] s.start ∧ p.whn = 1 ∧ s.eng.sys.setMode.isSome =
      true) :=
  ⟨⟨(at_ .bypass), c, ⟨Mode.sleep.code, 0⟩, .sleep, _, _, clear_of (by decide +kernel), by decide +kernel, rfl, rfl,
    by decide +kernel, by decide +kernel, by decide +kernel, by decide +kernel⟩,
    ⟨(put .hold (fun e => { e with lrg := { e.lrg with roster := [(0, [0x80000000])] } })), ⟨0, 4080, 0⟩, ⟨Mode.schedule.code,
      0⟩, .schedule, _, by decide +kernel, by decide +kernel, by decide +kernel, by decide +kernel, by decide +kernel,
      by decide +kernel, by decide +kernel, by decide +kernel, rfl, by decide +kernel, by decide +kernel⟩,
    ⟨(at_ .bypass), c, default, _, clear_of (by decide +kernel), rfl, by decide +kernel⟩,
    ⟨(at_ .bypass), c, ⟨0, 16777216, 0⟩, _, clear_of (by decide +kernel), rfl, by decide +kernel, by decide +kernel,
      by decide +kernel, by decide +kernel, by decide +kernel⟩,
    ⟨(put .bypass (fun e => { e with sys := { e.sys with mode := .bypass, staged := some 1 } })), c, ⟨0, 0⟩, clear_of
      (by decide +kernel), by decide +kernel, by decide +kernel, by decide +kernel⟩,
    ⟨(put .service (fun e => { e with sys := { e.sys with mode := .service, staged := some 1 } })), c, ⟨1, 0⟩, clear_of
      (by decide +kernel), by decide +kernel, by decide +kernel, by decide +kernel, by decide +kernel⟩,
    ⟨(put .bypass (fun e =>
      { e with sys := { e.sys with mode := .bypass, setMode := some ⟨c, .sleep, .bypass, .sleepBrake⟩ } })), c, ⟨1, 0⟩,
      clear_of (by decide +kernel), by decide +kernel, by decide +kernel⟩⟩

theorem hyps_tableAndDmaCommandsAct :
    (∃ (s : State) (cx : Cx) (p : TableP) (a : Engine), Clear cx { opcode := 0x0101, operator := false, hostMem := true } []
      s.start ∧ a = accepted cx 0x0101 [] s.start ∧ p.rsv = 0 ∧ p.count ≠ 0 ∧ 1 ≤ p.table ∧ p.table ≤ 15 ∧ iovaOk p.addr 16
      (entrySize p.table * p.count) = true ∧ (p.table = 1 → (fillRead (unpin a) cx.domain p (entrySize p.table * p.count)
      p.count 0 []).2 = none) ∧ (copied p.table = true → (fillRead a cx.domain p (entrySize p.table * p.count) p.count 0 []).2
      = none)) ∧
    (∃ (s : State) (cx : Cx) (p : TableP) (a : Engine), Clear cx { opcode := 0x0102, operator := false, hostMem := true } []
      s.start ∧ a = accepted cx 0x0102 [] s.start) ∧
    (∃ (s : State) (cx : Cx) (p : SlotSeqP) (a : Engine) (r : FaultSlot), Clear cx { opcode := 0x0704, operator := false } []
      s.start ∧ a = accepted cx 0x0704 [] s.start ∧ p.rsv = 0 ∧ r = s.eng.slotRec p.slot) ∧
    (∃ (s : State) (cx : Cx) (p : SlotSeqP) (a : Engine) (r : FaultSlot), Clear cx { opcode := 0x0705, operator := false } []
      s.start ∧ a = accepted cx 0x0705 [] s.start ∧ p.rsv = 0 ∧ r = s.eng.slotRec p.slot) :=
  ⟨⟨(at_ .bypass), c, ⟨5, 0, 1, 0, 0⟩, _, clear_of (by decide +kernel), rfl, by decide +kernel, by decide +kernel,
    by decide +kernel, by decide +kernel, by decide +kernel, by decide +kernel, by decide +kernel⟩,
    ⟨(at_ .bypass), c, default, _, clear_of (by decide +kernel), rfl⟩,
    ⟨(at_ .bypass), c, default, _, _, clear_of (by decide +kernel), rfl, by decide +kernel, rfl⟩,
    ⟨(at_ .bypass), c, default, _, _, clear_of (by decide +kernel), rfl, by decide +kernel, rfl⟩⟩

theorem hyps_pairingCommandsAct :
    (∃ (s : State) (cx : Cx) (p : PairTxnP) (a : Engine) (l : List Word) (es : List Entry), Clear cx cmdPairTxn (listPorts l
      s.start) s.start ∧ Quiet s.eng ∧ a = accepted cx 0x0201 (listPorts l s.start) s.start ∧ p.rsv = 0 ∧ p.byAddr = false ∧
      p.count ≠ 0 ∧ pairTxnOk p = true ∧ l = listOf p ∧ validate s.eng cx.domain p.xid l = none ∧ es = l.map (parseEntry s.eng
      (listNames l))) ∧
    (∃ (s : State) (cx : Cx) (p : PairTxnP), Clear cx { cmdPairTxn with hostMem := true } [] s.start ∧ Quiet s.eng ∧ p.byAddr =
      true ∧ p.count ≠ 0 ∧ pairTxnOk p = true ∧ listStream s.eng cx = false) ∧
    (∃ (s : State) (cx : Cx) (p : PairTxnP), Clear cx cmdPairTxn [] s.start ∧ Quiet s.eng ∧ p.rsv = 0 ∧ p.count = 0 ∧ (p.byAddr
      = false ∨ isRing cx.hopper = false ∧ listStream s.eng cx = false)) ∧
    (∃ (s : State) (cx : Cx) (p : PairCommitP) (t : Txn), Clear cx cmdPairCommit (xidPorts cx.domain p.xid s.start) s.start ∧
      Quiet s.eng ∧ p.rsv = 0 ∧ byXid s.eng cx.domain p.xid = some t ∧ t.st = .opened ∧ whenOk p.whn p.at_ = true ∧
      s.eng.sys.zeroService = false) ∧
    (∃ (s : State) (cx : Cx) (p : PairAbortP) (t : Txn) (a : Engine), Clear cx cmdPairAbort (xidPorts cx.domain p.xid s.start)
      s.start ∧ Quiet s.eng ∧ p.rsv = 0 ∧ byXid s.eng cx.domain p.xid = some t ∧ a = accepted cx 0x0203 (xidPorts cx.domain
      p.xid s.start) s.start) ∧
    (∃ (s : State) (cx : Cx) (p : PairQueryP) (a : Engine), Clear cx (cmdPairQuery p.kind) [] s.start ∧ a = accepted cx 0x0204
      [] s.start ∧ p.rsv = 0 ∧ p.kind = 0) ∧
    (∃ (s : State) (cx : Cx) (p : PairQueryP) (a : Engine), Clear cx (cmdPairQuery p.kind) [] s.start ∧ a = accepted cx 0x0204
      [] s.start ∧ p.rsv = 0 ∧ p.kind ≠ 0) ∧
    (∃ (s : State) (cx : Cx) (p : PortParkP) (l : List Word) (es : List Entry), Clear cx cmdPortPark (listPorts l s.start)
      s.start ∧ Quiet s.eng ∧ p.rsv = 0 ∧ s.eng.sys.zeroService = false ∧ l = parkList p.port ∧ validate s.eng cx.domain 0 l =
      none ∧ es = l.map (parseEntry s.eng (listNames l)) ∧ es.flatMap (·.targets s.eng) ≠ []) :=
  ⟨⟨(at_ .service), c, { xid := 1, count := 1, addr := 0, entries := [0x00030002] }, _, _, _, clear_of (by decide +kernel),
    quiet_of (by decide +kernel), rfl, by decide +kernel, by decide +kernel, by decide +kernel, by decide +kernel, rfl,
    by decide +kernel, rfl⟩,
    ⟨(at_ .service), c, { xid := 1, count := 1, byAddr := true, addr := 0 }, clear_of (by decide +kernel), quiet_of
      (by decide +kernel), by decide +kernel, by decide +kernel, by decide +kernel, by decide +kernel⟩,
    ⟨(at_ .service), c, { xid := 1, count := 0, addr := 0 }, clear_of (by decide +kernel), quiet_of (by decide +kernel),
      by decide +kernel, by decide +kernel, by decide +kernel⟩,
    ⟨(put .service (fun e => { e with xact := { e.xact with txns := [{ id := 1, dom := 0, xid := 1, entries := [] }] } })), c,
      ⟨1, 0, false, ⟨0, 0⟩, 0⟩, { id := 1, dom := 0, xid := 1, entries := [] }, clear_of (by decide +kernel), quiet_of
      (by decide +kernel), by decide +kernel, by decide +kernel, by decide +kernel, by decide +kernel, by decide +kernel⟩,
    ⟨(put .service (fun e => { e with xact := { e.xact with txns := [{ id := 1, dom := 0, xid := 1, entries := [] }] } })), c,
      ⟨1, 0⟩, { id := 1, dom := 0, xid := 1, entries := [] }, _, clear_of (by decide +kernel), quiet_of (by decide +kernel),
      by decide +kernel, by decide +kernel, rfl⟩,
    ⟨(at_ .bypass), c, default, _, clear_of (by decide +kernel), rfl, by decide +kernel, by decide +kernel⟩,
    ⟨(at_ .bypass), c, ⟨1, 63, 0, 0, 0, 0, 0⟩, _, clear_of (by decide +kernel), rfl, by decide +kernel, by decide +kernel⟩,
    ⟨(at_ .service), c, ⟨2, 0⟩, _, _, clear_of (by decide +kernel), quiet_of (by decide +kernel), by decide +kernel,
      by decide +kernel, rfl, by decide +kernel, rfl, by decide +kernel⟩⟩

theorem hyps_scheduleCommandsAct :
    (∃ (s : State) (cx : Cx) (p : SchLoadP) (a : Engine), Clear cx cmdSchLoad [] s.start ∧ a = accepted cx 0x0301 [] s.start ∧
      p.rsv = 0 ∧ p.count ≠ 0 ∧ p.kind ≤ 1 ∧ p.first + p.count ≤ (if p.kind = 0 then 256 else 1024) ∧ (¬(p.kind = 1 ∧ p.cross =
      true)) ∧ iovaOk p.addr 32 ((if p.kind = 0 then 8192 else 16) * p.count) = true ∧ loadBusy s.eng p = false) ∧
    (∃ (s : State) (cx : Cx) (p : SchStartP) (t0 : Nat), Clear cx cmdSchStart [] s.start ∧ p.rsv = 0 ∧ whenOk p.whn p.at_ =
      true ∧ (p.source = 0 ∧ p.first < 1024 ∧ Tbl.get (fun _ => []) s.eng.sch.segs p.first ≠ [] ∧ tableBad s.eng = none ∨
      p.source = 1 ∧ p.first = 0 ∧ s.eng.sch.flume.isSome = true) ∧ 10 ≤ rdF s.eng Fd.SCH_CLK_INT_INT ∧ playerRuns s.eng =
      false ∧ (∀ x ∈ s.eng.sch.slots, ownersMatch s.eng x.2 = true) ∧ t0 = (if p.whn = 0 then gridUp (dNs s.eng + 4000) else if
      p.whn = 1 then gridUp (p.at_.sec * 1000000000 + p.at_.ns) else p.at_.sec * 1000000000 + p.at_.ns) ∧ (p.whn ≠ 0 → dNs
      s.eng + 4000 ≤ t0)) ∧
    (∃ (s : State) (cx : Cx) (p : SchStopP) (y : Engine), Clear cx cmdSchStop [] s.start ∧ p.rsv = 0 ∧ p.how ≤ 1 ∧ y = passDue
      (accepted cx 0x0303 [] s.start) ∧ playerRuns y = false) ∧
    (∃ (s : State) (cx : Cx) (p : SchStopP) (y : Engine), Clear cx cmdSchStop [] s.start ∧ p.rsv = 0 ∧ p.how ≤ 1 ∧ y = passDue
      (accepted cx 0x0303 [] s.start) ∧ playerRuns y = true ∧ y.sch.stopCx = none) ∧
    (∃ (s : State) (cx : Cx) (p : SchJumpP), Clear cx cmdSchJump [] s.start ∧ p.rsv = 0 ∧ p.target < 1024 ∧ playerRuns s.eng =
      true ∧ (s.eng.sch.stream = true ∨ (Tbl.get (fun _ => []) s.eng.sch.segs p.target ≠ [] ∧ (s.eng.slot (segSlot (Tbl.get
      (fun _ => []) s.eng.sch.segs p.target))).loaded = true))) ∧
    (∃ (s : State) (cx : Cx) (p : SchStreamP), Clear cx cmdSchStream [] s.start ∧ p.rsv = 0 ∧ 8 ≤ p.log2 ∧ p.log2 ≤ 16 ∧ iovaOk
      p.addr 256 (16 * 2 ^ p.log2) = true ∧ s.eng.sch.flume = none ∧ p.start < 4294967296) :=
  ⟨⟨(at_ .schedule), c, ⟨0, false, 255, 1, 0, 0⟩, _, clear_of (by decide +kernel), rfl, by decide +kernel, by decide +kernel,
    by decide +kernel, by decide +kernel, by decide +kernel, by decide +kernel, by decide +kernel⟩,
    ⟨(put .schedule (fun e =>
      { e with sys := { e.sys with mode := .schedule }, sch := { e.sch with flume := some (c, 0, 8) } })), c, ⟨0, 1, 0, ⟨0, 0⟩,
      0⟩, _, clear_of (by decide +kernel), by decide +kernel, by decide +kernel, by decide +kernel, by decide +kernel,
      by decide +kernel, by decide +kernel, rfl, by decide +kernel⟩,
    ⟨(at_ .schedule), c, ⟨1, 0⟩, _, clear_of (by decide +kernel), by decide +kernel, by decide +kernel, rfl,
      by decide +kernel⟩,
    ⟨(put .schedule (fun e => { e with sch := { e.sch with st := .playing } })), c, ⟨1, 0⟩, _, clear_of (by decide +kernel),
      by decide +kernel, by decide +kernel, rfl, by decide +kernel, by decide +kernel⟩,
    ⟨(put .schedule (fun e => { e with sch := { e.sch with st := .playing, stream := true } })), c, ⟨1023, 0⟩, clear_of
      (by decide +kernel), by decide +kernel, by decide +kernel, by decide +kernel, by decide +kernel⟩,
    ⟨(at_ .schedule), c, ⟨0, 16, false, 4294967295, 0⟩, clear_of (by decide +kernel), by decide +kernel, by decide +kernel,
      by decide +kernel, by decide +kernel, by decide +kernel, by decide +kernel⟩⟩

theorem hyps_loopCommandsAct :
    (∃ (s : State) (cx : Cx) (p : LoopCfgP), Clear cx { opcode := 0x0401, modes := loopModes } [] s.start ∧ p.rsv = 0 ∧ p.words
      < 2048 ∧ p.count ≠ 0 ∧ p.first + p.count ≤ 4100 ∧ cfgOk p.words p.cfg = true) ∧
    (∃ (s : State) (cx : Cx) (p : LoopInjectP) (o : List Inject), Clear cx { opcode := 0x0402, modes := loopModes } [] s.start
      ∧ p.rsv = 0 ∧ injectOk p = true ∧ o = s.eng.loop.inj.filter (fun x => x.ap != p.aperture) ∧ (p.wave ≠ 0 → o.length < 16)) ∧
    (∃ (s : State) (cx : Cx) (p : CaptureArmP), Clear cx { opcode := 0x0403, modes := loopModes } [] s.start ∧ p.rsv = 0 ∧
      captureArmOk p = true) ∧
    (∃ (s : State) (cx : Cx) (p : CaptureReadP) (u : Capture), Clear cx
      { opcode := 0x0404, hostMem := true, modes := loopModes } [] s.start ∧ p.rsv = 0 ∧ p.count ≠ 0 ∧ p.unit ≤ 3 ∧ iovaOk
      p.addr 32 (32 + 16 * p.count) = true ∧ u = Tbl.get (fun _ => {}) s.eng.loop.caps p.unit ∧ u.st ≠ 1 ∧ u.st ≠ 2 ∧ p.first +
      p.count ≤ u.recs.length) :=
  ⟨⟨(at_ .bypass), c, ⟨4099, 1, 0, false, [], 0⟩, clear_of (by decide +kernel), by decide +kernel, by decide +kernel,
    by decide +kernel, by decide +kernel, by decide +kernel⟩,
    ⟨(at_ .bypass), c, default, _, clear_of (by decide +kernel), by decide +kernel, by decide +kernel, rfl, by decide +kernel⟩,
    ⟨(at_ .bypass), c, default, clear_of (by decide +kernel), by decide +kernel, by decide +kernel⟩,
    ⟨(put .bypass (fun e => { e with loop := { e.loop with caps := [(3, { st := 3, recs := [⟨0, 0, 0, 0⟩] })] } })), c, ⟨3, 0,
      1, 0, 0⟩, _, clear_of (by decide +kernel), by decide +kernel, by decide +kernel, by decide +kernel, by decide +kernel,
      rfl, by decide +kernel, by decide +kernel, by decide +kernel⟩⟩

theorem hyps_calibrationCommandsAct :
    (∃ (s : State) (cx : Cx) (p : CalSensorP), Clear cx cmdCalSensor [] s.start ∧ p.rsv = 0 ∧ p.count ≠ 0 ∧ p.first + p.count ≤
      4100 ∧ p.step ≤ 2 ∧ (p.step = 1 → -300 ≤ p.known ∧ p.known ≤ 300) ∧ (p.step ≠ 1 → p.known = 0) ∧ (p.frames = 0 ∨ 16 ≤
      p.frames ∧ p.frames ≤ 4096) ∧ (p.step ≤ 1 → ∀ ap, p.first ≤ ap → ap < p.first + p.count → ordinary ap = true) ∧
      s.eng.sns.job = none) ∧
    (∃ (s : State) (cx : Cx) (p : CalSurveyP), Clear cx cmdCalSurvey [] s.start ∧ p.rsv = 0 ∧ p.firstRound ≤ 4090 ∧ (p.rounds ≠
      0 → p.firstRound + p.rounds ≤ 4091) ∧ p.measFrames ≤ 16 ∧ s.eng.syn.survey = none) ∧
    (∃ (s : State) (cx : Cx) (p : CalCommitP) (a : Engine) (b : Engine), Clear cx cmdCalCommit [] s.start ∧ a = accepted cx
      0x0503 [] s.start ∧ p.rsv = 0 ∧ 1 ≤ p.target ∧ p.target ≤ 3 ∧ p.action ≤ 1 ∧ (¬(p.target = 2 ∧ s.eng.syn.survey.isSome =
      true)) ∧ b = discardStage p.target (commitStage p.target a)) ∧
    (∃ (s : State) (cx : Cx) (p : AimUploadP), Clear cx cmdAimUpload [] s.start ∧ p.rsv = 0 ∧ p.count ≠ 0 ∧ p.set ≤ 3 ∧ p.first
      + p.count ≤ numRecords ∧ iovaOk p.addr 32 (32 * p.count) = true ∧ (∀ x ∈ s.eng.syn.aimStage, x.1 = p.set)) :=
  ⟨⟨(at_ .calibrate), c, ⟨2, 1, 1, -300, 4096, 0⟩, clear_of (by decide +kernel), by decide +kernel, by decide +kernel,
    by decide +kernel, by decide +kernel, by decide +kernel, by decide +kernel, by decide +kernel, by decide +kernel,
    by decide +kernel⟩,
    ⟨(at_ .calibrate), c, ⟨4090, 1, 16, false, 0⟩, clear_of (by decide +kernel), by decide +kernel, by decide +kernel,
      by decide +kernel, by decide +kernel, by decide +kernel⟩,
    ⟨(at_ .bypass), c, ⟨3, 1, 0⟩, _, _, clear_of (by decide +kernel), rfl, by decide +kernel, by decide +kernel,
      by decide +kernel, by decide +kernel, by decide +kernel, rfl⟩,
    ⟨(at_ .bypass), c, ⟨0, 16809999, 1, 3, 0⟩, clear_of (by decide +kernel), by decide +kernel, by decide +kernel,
      by decide +kernel, by decide +kernel, by decide +kernel, by decide +kernel⟩⟩

theorem hyps_operatorCommandsAct :
    (∃ (s : State) (cx : Cx) (p : DomainCfgP), Clear cx { opcode := 0x0601 } [] s.start ∧ Quiet s.eng ∧ p.rsv = 0 ∧ p.domain ≤
      63 ∧ p.hopCount ≤ 4080 ∧ p.tagQuota ≤ 4096 ∧ (p.domain = 0 → p.en = true ∧ p.vfEn = false) ∧ p.hopFirst + p.hopCount ≤
      4080 ∧ (∀ d, d < 64 → d ≠ p.domain → overlap p.hopFirst p.hopCount (s.eng.dom d).hopFirst (s.eng.dom d).hopCount = false)
      ∧ leaves (accepted cx 0x0601 [] s.start) p = false ∧ (p.en = false → domEn s.eng p.domain = false)) ∧
    (∃ (s : State) (cx : Cx) (p : OwnerSetP), Clear cx cmdOwnerSet ((span p.first p.count).filter (fun q => decide (q < 4096)))
      s.start ∧ Quiet s.eng ∧ p.rsv = 0 ∧ p.count ≠ 0 ∧ p.first + p.count ≤ 4096 ∧ p.domain ≤ 63 ∧ on s.eng
      Fd.CMD_OWN_LOCK_LOCK = false ∧ (∀ q ∈ span p.first p.count, reservedPort q = false ∧ (s.eng.port q).txn = none ∧ slotBusy
      s.eng q = false ∧ (paired s.eng q = true → partner s.eng q ∈ span p.first p.count ∨ (s.eng.port (partner s.eng q)).owner
      = p.domain))) ∧
    (∃ (s : State) (cx : Cx) (p : PolicerSetP) (a : Engine), Clear cx { opcode := 0x0603 } [] s.start ∧ a = accepted cx 0x0603
      [] s.start ∧ p.rsv = 0) ∧
    (∃ (s : State) (cx : Cx) (p : DrillSwapP), Clear cx
      { opcode := 0x0701, modes := [.bypass, .calibrate, .service, .schedule] } [] s.start ∧ p.rsv = 0 ∧ drillOk s.eng = true ∧
      1 ≤ p.dwellMs ∧ p.dwellMs ≤ 60000 ∧ (p.abortAge = 0 ∨ 768 ≤ p.abortAge ∧ p.abortAge ≤ 1023)) :=
  ⟨⟨(at_ .bypass), c, { domain := 63, hopFirst := 4080, hopCount := 0, tagQuota := 4096 }, clear_of (by decide +kernel),
    quiet_of (by decide +kernel), by decide +kernel, by decide +kernel, by decide +kernel, by decide +kernel,
    by decide +kernel, by decide +kernel, by decide +kernel, by decide +kernel, by decide +kernel⟩,
    ⟨(at_ .bypass), c, ⟨2, 2, 63, 0⟩, clear_of (by decide +kernel), quiet_of (by decide +kernel), by decide +kernel,
      by decide +kernel, by decide +kernel, by decide +kernel, by decide +kernel, by decide +kernel⟩,
    ⟨(at_ .bypass), c, default, _, clear_of (by decide +kernel), rfl, by decide +kernel⟩,
    ⟨(put .bypass (fun e =>
      { e with rfs := { e.rfs with hbA := some 0, hbB := some 0 }, bkp := { e.bkp with tiles := (List.range 256).map (fun t => (t, { token := 1 })) } })),
      c, ⟨60000, 1023, 0⟩, clear_of (by decide +kernel), by decide +kernel, by decide +kernel, by decide +kernel,
      by decide +kernel, by decide +kernel⟩⟩

theorem hyps_intakeCommandsAct :
    (∃ (s : State) (fn : Nat) (n : Nat) (v : Word) (b : Bool), fnOpen s.eng fn = false) ∧
    (∃ (s : State) (fn : Nat) (n : Nat) (v : Word) (b : Bool), fnOpen s.eng fn = true ∧ (dbTarget s.eng fn n = none ∨ b =
      false)) ∧
    (∃ (s : State) (fn : Nat) (n : Nat) (q : Nat) (v : Word), fnOpen s.eng fn = true ∧ dbTarget s.eng fn n = some q) ∧
    (∃ (s : State) (res : FetchRes) (e : Engine), e = catchUp s.start ∧ nextHopper e = none) ∧
    (∃ (s : State) (res : FetchRes) (e : Engine) (q : Nat) (r : RingEntry) (rest : List RingEntry) (h : Hopper), e = catchUp
      s.start ∧ nextHopper e = some q ∧ isRing q = true ∧ h = e.hop q ∧ h.ring = r :: rest) ∧
    (∃ (s : State) (res : FetchRes) (e : Engine) (q : Nat), e = catchUp s.start ∧ nextHopper e = some q ∧ isRing q = false ∧
      sqWaits e = true) ∧
    (∃ (s : State) (res : FetchRes) (e : Engine) (x : Engine) (q : Nat) (d : Nat) (h : Hopper) (got : List (Nat × Nat) ⊕ Nat ×
      Nat), e = catchUp s.start ∧ nextHopper e = some q ∧ isRing q = false ∧ sqWaits e = false ∧ d = (hopDom e q).getD 0 ∧ h =
      e.hop q ∧ moveRun d (h.sqBase + 32 * h.sqHead) 32 false res.head (eccMeets res.head (sqTurn (takeLink 1 e))) = (x, got)) :=
  ⟨⟨(at_ .bypass), 0, 0, 0, false, by decide +kernel⟩,
    ⟨(linked .bypass), 0, 4080, 0, false, by decide +kernel, by decide +kernel⟩,
    ⟨(linked .bypass), 0, 0, 0, 0, by decide +kernel, by decide +kernel⟩,
    ⟨(at_ .bypass), {}, _, rfl, by decide +kernel⟩,
    ⟨(put .bypass (fun e =>
      { e with cmd := { e.cmd with hoppers := [(4080, { ring := [⟨⟨0, 0, 0, 0, false⟩, [], 0⟩] })] }, lrg := { e.lrg with roster := [] } })),
      {}, _, 4080, ⟨⟨0, 0, 0, 0, false⟩, [], 0⟩, [], _, rfl, by decide +kernel, by decide +kernel, rfl, by decide +kernel⟩,
    ⟨fetching, {}, _, 0, rfl, by decide +kernel, by decide +kernel, by decide +kernel⟩,
    ⟨(put .bypass (fun e =>
      { e with cmd := { e.cmd with hoppers := [(0, { sqSize := 32, cqSize := 32, sqTail := 1 })] }, lrg := { e.lrg with roster := [] } })),
      {}, _, _, 0, _, _, _, rfl, by decide +kernel, by decide +kernel, by decide +kernel, rfl, rfl, Prod.mk.eta.symm⟩⟩

theorem hyps_hopperClocksRun :
    (∃ (s : State), ticking s.eng = true ∧ s.eng.cmd.us < dUs s.eng) ∧
    (∃ (s : State), ticking s.eng = true ∧ (∀ x ∈ s.eng.cmd.hoppers, x.2.sigPend = false)) ∧
    (∃ (s : State) (q : Nat) (h : Hopper) (l : List (Nat × Hopper)), ticking s.eng = true ∧ s.eng.cmd.hoppers.filter (fun x =>
      x.2.sigPend) = (q, h) :: l) ∧
    (∃ (s : State) (x : Engine) (y : Engine), ticking s.eng = true ∧ x = (if dUs s.eng / 1000 ≤ s.eng.cmd.ms then waitD
      ((s.eng.cmd.ms + 1) * 1000000) s.start else s.start) ∧ y = { x with cmd := { x.cmd with ms := dUs x / 1000 } }) ∧
    (∃ (s : State), ticking s.eng = false) :=
  ⟨⟨(put .bypass (fun e => { e with tim := { e.tim with d := 65536000 } })), by decide +kernel, by decide +kernel⟩,
    ⟨(at_ .bypass), by decide +kernel, by decide +kernel⟩,
    ⟨(put .bypass (fun e => { e with cmd := { e.cmd with hoppers := [(7, { sigPend := true })] } })), 7, { sigPend := true },
      [], by decide +kernel, by decide +kernel⟩,
    ⟨(at_ .bypass), _, _, by decide +kernel, rfl, rfl⟩,
    ⟨(at_ .lockout), by decide +kernel⟩⟩

theorem hyps_dmaEventsAct :
    (∃ (s : State) (st : Stream) (res : HostRes) (a : Engine), turn s.start = some st ∧ fetchFirst st s.start = false ∧ a = (if
      preempts s.start (kindClass st.kind) = true then inc Reg.DMA_PREEMPT_CNT s.start else s.start)) ∧
    (∃ (s : State) (id : Nat) (res : HostRes), (∀ st, turn s.start = some st → st.id ≠ id ∨ fetchFirst st s.start = true)) ∧
    (∃ (st : Stream) (n : Nat) (res : HostRes) (e : Engine) (x : Engine) (why : Nat) (l : Nat), (∀ k, st.job ≠ .leatRx k) ∧ n =
      min 256 (st.len - st.done) ∧ moveRun st.dom (st.iova + st.done) n st.write res e = (x, .inr (why, l))) ∧
    (∃ (st : Stream) (n : Nat) (res : HostRes) (e : Engine) (x : Engine) (parts : List (Nat × Nat)), (∀ k, st.job ≠ .leatRx k)
      ∧ n = min 256 (st.len - st.done) ∧ moveRun st.dom (st.iova + st.done) n st.write res e = (x, .inl parts)) ∧
    (∃ (st : Stream) (k : Nat) (res : HostRes) (e : Engine), st.job = .leatRx k) ∧
    (∃ (s : State) (n : Nat) (r : FaultSlot), r = s.eng.slotRec n ∧ n < 64 ∧ r.halted = true ∧ r.tmo ≠ 0) ∧
    (∃ (s : State) (n : Nat), (64 ≤ n ∨ (s.eng.slotRec n).halted = false ∨ (s.eng.slotRec n).tmo = 0)) ∧
    (∃ (s : State) (fn : Nat), s.eng.hif.up = true ∧ fnExists s.eng fn = true ∧ fn ∉ s.eng.hif.flrBusy) ∧
    (∃ (s : State) (fn : Nat), (s.eng.hif.up = false ∨ fnExists s.eng fn = false ∨ fn ∈ s.eng.hif.flrBusy)) :=
  ⟨⟨(put .bypass (fun e =>
    { e with dma := { e.dma with streams := [{ id := 0, kind := 5, dom := 0, iova := 0, len := 0, write := false, job := .flume 0 0 }] } })),
    { id := 0, kind := 5, dom := 0, iova := 0, len := 0, write := false, job := .flume 0 0 }, .ok, _, by decide +kernel,
    by decide +kernel, rfl⟩,
    ⟨(at_ .bypass), 0, .ok, by decide +kernel⟩,
    ⟨{ id := 0, kind := 5, dom := 0, iova := 0, len := 0, write := false, job := .flume 0 0 }, _, .ok, (at_ .bypass).eng, _, 7,
      0, fun _ h => DmaJob.noConfusion h, rfl, rfl⟩,
    ⟨{ id := 0, kind := 5, dom := 0, iova := 0, len := 0, write := false, job := .flume 0 0 }, _, .ok, mastered.eng, _, _, fun
      _ h => DmaJob.noConfusion h, rfl, rfl⟩,
    ⟨{ id := 0, kind := 5, dom := 0, iova := 0, len := 0, write := false, job := .leatRx 3 }, 3, .ok, (at_ .bypass).eng,
      by decide +kernel⟩,
    ⟨(put .bypass (fun e => { e with dma := { e.dma with slots := [(63, { halted := true, tmo := 1 })] } })), 63, _, rfl,
      by decide +kernel, by decide +kernel, by decide +kernel⟩,
    ⟨(at_ .bypass), 0, by decide +kernel⟩,
    ⟨(linked .bypass), 4, by decide +kernel, by decide +kernel, by decide +kernel⟩,
    ⟨(linked .bypass), 5, by decide +kernel⟩⟩

theorem hyps_pcieEventsAct :
    (∃ (s : State), s.eng.hif.up = true) ∧
    (∃ (s : State) (n : Nat), s.eng.sys.mode ≠ .off ∧ 1000 ≤ n) ∧
    (∃ (s : State) (n : Nat), (s.eng.sys.mode = .off ∨ n < 1000)) ∧
    (∃ (s : State), s.eng.hif.up = true) ∧
    (∃ (s : State) (v : Nat) (w : Nat), s.eng.sys.mode ≠ .off ∧ s.eng.sys.mode ≠ .cooldown ∧ 1 ≤ v ∧ v ≤ 5 ∧ w ∈ [1, 2, 4, 8]) ∧
    (∃ (s : State) (v : Nat) (w : Nat), (s.eng.sys.mode = .off ∨ s.eng.sys.mode = .cooldown ∨ v = 0 ∨ 5 < v ∨ w ∉ [1, 2, 4,
      8])) ∧
    (∃ (s : State) (n : Nat), s.eng.hif.up = true ∧ n < s.eng.hif.numVfs) ∧
    (∃ (s : State) (n : Nat), (s.eng.hif.up = false ∨ s.eng.hif.numVfs ≤ n)) ∧
    (∃ (s : State), s.eng.hif.up = true) ∧
    (∃ (s : State), s.eng.hif.up = false) :=
  ⟨⟨(linked .bypass), by decide +kernel⟩,
    ⟨(at_ .bypass), 1000, by decide +kernel, by decide +kernel⟩,
    ⟨(at_ .bypass), 999, by decide +kernel⟩,
    ⟨(linked .bypass), by decide +kernel⟩,
    ⟨(at_ .bypass), 5, 8, by decide +kernel, by decide +kernel, by decide +kernel, by decide +kernel, by decide +kernel⟩,
    ⟨(at_ .bypass), 0, 0, by decide +kernel⟩,
    ⟨(linked .bypass), 3, by decide +kernel, by decide +kernel⟩,
    ⟨(linked .bypass), 4, by decide +kernel⟩,
    ⟨(linked .bypass), by decide +kernel⟩,
    ⟨(at_ .bypass), by decide +kernel⟩⟩

theorem hyps_bootEventsAct :
    (∃ (s : State) (x : Engine), x =
      { s.start with hif := { s.eng.hif with cfg := Tbl.upd (fun _ => {}) s.eng.hif.cfg 0 (fun c => { c with power := 0 }) } }) ∧
    (∃ (s : State) (rq : Rq), (rq = .pf ∨ rq = .smbus) ∧ reachable s.eng rq = true) ∧
    (∃ (s : State) (rq : Rq), (reachable s.eng rq = false ∨ s.eng.sys.mode = .lockout ∨ (∃ d, rq = .vf d))) ∧
    (∃ (s : State) (n : Nat) (b : Bool) (l : List Nat), (s.eng.sys.mode = .lockout ∧ millpondOn s.eng = true)) ∧
    (∃ (s : State) (n : Nat) (b : Bool) (l : List Nat), (s.eng.sys.mode ≠ .lockout ∨ millpondOn s.eng = false)) ∧
    (∃ (s : State) (st : Nat) (er : Nat) (x : Engine), booting s.eng = true ∧ failsIn st er = true ∧ s.eng.sys.stage ≤ st ∧ x =
      bootTo (stageStart s.eng st) (bootTo (s.eng.sys.bootAt + 100000) s.start)) ∧
    (∃ (s : State) (st : Nat) (er : Nat), (booting s.eng = false ∨ failsIn st er = false ∨ st < s.eng.sys.stage)) ∧
    (∃ (s : State) (b : Bool) (x : Engine) (y : Engine), booting s.eng = true ∧ x = bootTo (s.eng.sys.bootAt + 100000) s.start
      ∧ y = bootTo (stageStart x 8) x) ∧
    (∃ (s : State) (b : Bool), booting s.eng = false) :=
  ⟨⟨(at_ .bypass), _, rfl⟩,
    ⟨(linked .bypass), .pf, by decide +kernel, by decide +kernel⟩,
    ⟨(at_ .bypass), (.vf 1), .inr (.inr ⟨1, rfl⟩)⟩,
    ⟨(at_ .lockout), 0, false, [], by decide +kernel⟩,
    ⟨(at_ .bypass), 0, false, [], by decide +kernel⟩,
    ⟨(at_ .boot), 7, 5, _, by decide +kernel, by decide +kernel, by decide +kernel, rfl⟩,
    ⟨(at_ .bypass), 0, 0, by decide +kernel⟩,
    ⟨(at_ .boot), false, _, _, by decide +kernel, rfl, rfl⟩,
    ⟨(at_ .bypass), false, by decide +kernel⟩⟩

theorem hyps_restartEventsAct :
    (∃ (s : State) (t0 : Nat), s.eng.sys.mode = .boot ∧ s.eng.sys.gateWaiting = true ∧ s.eng.sys.gateAt = some t0) ∧
    (∃ (s : State), (s.eng.sys.mode ≠ .boot ∨ s.eng.sys.gateWaiting = false ∨ s.eng.sys.gateAt = none)) ∧
    (∃ (s : State) (n : Nat), 20 ≤ n ∧ s.eng.sys.mode ≠ .lockout ∧ s.eng.sys.mode ≠ .off) ∧
    (∃ (s : State) (n : Nat), (n < 20 ∨ s.eng.sys.mode = .lockout ∨ s.eng.sys.mode = .off)) ∧
    (∃ (s : State), s.eng.pins.rstLow = true) ∧
    (∃ (s : State), s.eng.pins.rstLow = false) ∧
    (∃ (s : State) (t0 : Nat), s.eng.sys.mode = .cooldown ∧ s.eng.thm.coolOk = some t0) ∧
    (∃ (s : State), (s.eng.sys.mode ≠ .cooldown ∨ s.eng.thm.coolOk = none)) :=
  ⟨⟨(put .boot (fun e => { e with sys := { e.sys with gateWaiting := true, gateAt := some 0 } })), 0, by decide +kernel,
    by decide +kernel, by decide +kernel⟩,
    ⟨(at_ .bypass), by decide +kernel⟩,
    ⟨(at_ .bypass), 20, by decide +kernel, by decide +kernel, by decide +kernel⟩,
    ⟨(at_ .bypass), 19, by decide +kernel⟩,
    ⟨(put .boot (fun e => { e with pins := { e.pins with rstLow := true } })), by decide +kernel⟩,
    ⟨(at_ .bypass), by decide +kernel⟩,
    ⟨(put .cooldown (fun e => { e with thm := { e.thm with coolOk := some 0 } })), 0, by decide +kernel, by decide +kernel⟩,
    ⟨(at_ .bypass), by decide +kernel⟩⟩

theorem hyps_brakeEventsAct :
    (∃ (s : State) (n : Nat) (x : Engine), 20 ≤ n ∧ s.eng.pins.brakeLow = false ∧ x =
      { s.start with pins := { s.eng.pins with brakeLow := true } }) ∧
    (∃ (s : State) (n : Nat), (n < 20 ∨ s.eng.pins.brakeLow = true)) ∧
    (∃ (s : State), s.eng.bkp.zeroing = true) ∧
    (∃ (s : State), s.eng.bkp.zeroing = false) ∧
    (∃ (s : State) (l : List Nat), s.eng.bkp.zeroing = true ∧ (∃ k ∈ l, k < 256) ∧ s.eng.sys.mode ≠ .off) ∧
    (∃ (s : State) (l : List Nat), (s.eng.bkp.zeroing = false ∨ (∀ k ∈ l, 256 ≤ k))) ∧
    (∃ (s : State), s.eng.bkp.braking = true ∧ s.eng.bkp.zeroing = false ∧ s.eng.bkp.live = 0) ∧
    (∃ (s : State), (s.eng.bkp.braking = false ∨ s.eng.bkp.zeroing = true ∨ s.eng.bkp.live ≠ 0)) ∧
    (∃ (s : State) (j : SpanJob), s.eng.bkp.span = some j ∧ j.cancelled = false ∧ j.sluiced = true ∧ (∀ x ∈ s.eng.xact.jobs,
      x.owner ≠ .resynth)) ∧
    (∃ (s : State), (∀ j, s.eng.bkp.span = some j → j.cancelled = true ∨ j.sluiced = false ∨ ∃ x ∈ s.eng.xact.jobs, x.owner =
      .resynth)) ∧
    (∃ (s : State) (m : MarchRun) (l : List MarchRead) (x : Engine), marching s.eng = some m ∧ x = haltMarch m (waitClk m.endAt
      s.start)) ∧
    (∃ (s : State) (l : List MarchRead), marching s.eng = none) ∧
    (∃ (s : State) (a : Nat) (c : Nat), a < 4100 ∧ c < 96 ∧ bit (s.eng.aper a).shortMap c = false ∧ unpowered s.eng = false) ∧
    (∃ (s : State) (a : Nat) (c : Nat), (4100 ≤ a ∨ 96 ≤ c ∨ bit (s.eng.aper a).shortMap c = true ∨ unpowered s.eng = true)) ∧
    (∃ (s : State) (k : Nat) (l : List FsRead) (x : Engine) (y : Engine), (s.eng.tile k).islandRst = true ∧ x = marchEv
      s.eng.clk (.reset k false) (updTile k (fun y => { y with islandRst := false, initAt := s.eng.clk }) s.start) ∧ y = (if
      s.eng.flt.irst = some k then { x with flt := { x.flt with irst := none } } else x)) ∧
    (∃ (s : State) (k : Nat) (l : List FsRead), (s.eng.tile k).islandRst = false) ∧
    (∃ (s : State) (n : Nat) (x : Engine) (y : Engine), s.eng.flt.irst = some n ∧ 256 ≤ n ∧ x =
      { s.start with flt := { s.eng.flt with irst := none } } ∧ y =
      (match masterOf n with | some m => releaseMaster m x | none => x)) ∧
    (∃ (s : State), (∀ n, s.eng.flt.irst = some n → n < 256)) :=
  ⟨⟨(at_ .bypass), 20, _, by decide +kernel, by decide +kernel, rfl⟩,
    ⟨(at_ .bypass), 19, by decide +kernel⟩,
    ⟨(put .bypass (fun e => { e with bkp := { e.bkp with zeroing := true } })), by decide +kernel⟩,
    ⟨(at_ .bypass), by decide +kernel⟩,
    ⟨(put .bypass (fun e => { e with bkp := { e.bkp with zeroing := true } })), [255], by decide +kernel, by decide +kernel,
      by decide +kernel⟩,
    ⟨(at_ .bypass), default, by decide +kernel⟩,
    ⟨(put .bypass (fun e => { e with bkp := { e.bkp with live := 0 } })), by decide +kernel, by decide +kernel,
      by decide +kernel⟩,
    ⟨(at_ .bypass), by decide +kernel⟩,
    ⟨(put .service (fun e =>
      { e with bkp := { e.bkp with span := some { at_ := 0, saved := [], sluiced := true, rq := .pf } } })),
      { at_ := 0, saved := [], sluiced := true, rq := .pf }, by decide +kernel, by decide +kernel, by decide +kernel,
      by decide +kernel⟩,
    ⟨(at_ .bypass), by decide +kernel⟩,
    ⟨(put .test (fun e => { e with bkp := { e.bkp with march := some ⟨0x101, false, 0, [], none⟩ } })), ⟨0x101, false, 0, [],
      none⟩, [], _, by decide +kernel, rfl⟩,
    ⟨(at_ .bypass), default, by decide +kernel⟩,
    ⟨(at_ .bypass), 4099, 95, by decide +kernel, by decide +kernel, by decide +kernel, by decide +kernel⟩,
    ⟨(at_ .bypass), 4100, 96, by decide +kernel⟩,
    ⟨(put .bypass (fun e => { e with bkp := { e.bkp with tiles := [(255, { islandRst := true })] } })), 255, default, _, _,
      by decide +kernel, rfl, rfl⟩,
    ⟨(at_ .bypass), 0, default, by decide +kernel⟩,
    ⟨(put .bypass (fun e => { e with flt := { e.flt with irst := some 256 } })), 256, _, _, by decide +kernel,
      by decide +kernel, rfl, rfl⟩,
    ⟨(at_ .bypass), by decide +kernel⟩⟩

theorem hyps_transactionEventsAct :
    (∃ (s : State) (id : Nat) (r : List (Nat × Residue)) (e0 : Engine), e0 = settleBrake s.start) ∧
    (∃ (s : State) (id : Nat), id ≠ 0) ∧
    (∃ (s : State) (x : Engine), x =
      { s.start with flt := { s.eng.flt with parks := s.eng.flt.parks.filter (livePark s.start) } }) :=
  ⟨⟨(at_ .bypass), 0, default, _, rfl⟩,
    ⟨(at_ .bypass), 1, by decide +kernel⟩,
    ⟨(at_ .bypass), _, rfl⟩⟩

theorem hyps_scheduleEventsAct :
    (∃ (s : State) (cx : Cx) (whn : Nat) (t : Nat) (p : Play) (x : Engine), s.eng.sch.st = .waitStart ∧ s.eng.sch.nextB = [] ∧
      s.eng.sch.start = some (cx, whn, t) ∧ s.eng.sch.missing = some p ∧ x = waitD (t - 4000) s.start) ∧
    (∃ (s : State), s.eng.sch.st = .waitStart ∧ s.eng.sch.nextB = [] ∧ (s.eng.sch.start = none ∨ s.eng.sch.missing = none)) ∧
    (∃ (s : State) (p : Play) (t : Nat) (x : Engine) (y : Engine), (s.eng.sch.st ≠ .waitStart ∨ s.eng.sch.nextB ≠ []) ∧
      s.eng.sch.st ≠ .held ∧ playerRuns s.eng = true ∧ s.eng.sch.stopAfter = none ∧ lastPlay s.eng = some p ∧ awaitsEdge s.eng
      = false ∧ x = waitD (armPointAt s.eng p) (passQuiet (armPointAt s.eng p) s.eng.sch.nextB.length s.start) ∧ t =
      boundaryTick x.sch.base p.endE) ∧
    (∃ (s : State), (s.eng.sch.st ≠ .waitStart ∨ s.eng.sch.nextB ≠ []) ∧ (s.eng.sch.st = .held ∨ playerRuns s.eng = false ∨
      s.eng.sch.stopAfter.isSome = true ∨ lastPlay s.eng = none ∨ awaitsEdge s.eng = true)) ∧
    (∃ (s : State) (p : Play), s.eng.sch.st = .held ∧ s.eng.sch.missing = some p) ∧
    (∃ (s : State), (s.eng.sch.st ≠ .held ∨ s.eng.sch.missing = none)) :=
  ⟨⟨(put .schedule (fun e =>
    { e with sch := { e.sch with st := .waitStart, start := some (c, 1, 8000), missing := some ⟨0, 0, 0, 0, none⟩ } })), c, 1,
    8000, ⟨0, 0, 0, 0, none⟩, _, by decide +kernel, by decide +kernel, by decide +kernel, by decide +kernel, rfl⟩,
    ⟨(put .schedule (fun e => { e with sch := { e.sch with st := .waitStart } })), by decide +kernel, by decide +kernel,
      by decide +kernel⟩,
    ⟨(put .schedule (fun e => { e with sch := { e.sch with st := .playing, cur := some ⟨0, 0, 0, 0, none⟩ } })), ⟨0, 0, 0, 0,
      none⟩, _, _, (at_ .bypass).eng, by decide +kernel, by decide +kernel, by decide +kernel, by decide +kernel,
      by decide +kernel, by decide +kernel, rfl, rfl⟩,
    ⟨(at_ .bypass), by decide +kernel, by decide +kernel⟩,
    ⟨(put .schedule (fun e => { e with sch := { e.sch with st := .held, missing := some ⟨0, 0, 0, 0, none⟩ } })), ⟨0, 0, 0, 0,
      none⟩, by decide +kernel, by decide +kernel⟩,
    ⟨(at_ .bypass), by decide +kernel⟩⟩

theorem hyps_calibrationEventsAct :
    (∃ (s : State) (gen : Nat) (v : Survey), s.eng.syn.survey = some v ∧ v.ending = true ∧ v.meas ≤ v.frame ∧ gen =
      s.eng.syn.gen) ∧
    (∃ (s : State) (gen : Nat), (∀ v, s.eng.syn.survey = some v → v.ending = false ∨ v.frame < v.meas ∨ gen ≠ s.eng.syn.gen)) ∧
    (∃ (s : State) (j : CalJob) (x : Engine) (acc : Nat), s.eng.sns.job = some j ∧ x = waitClk (j.at_ + 5000 * calFrames j.p)
      s.start ∧ acc = ((span j.p.first j.p.count).filter (fun a => (calResult x j.p a (j.accOf a)).1 == 0)).length) ∧
    (∃ (s : State) (n : Nat), (∀ j, s.eng.sns.job = some j → n ≠ j.p.first)) ∧
    (∃ (s : State) (k : Nat), s.eng.syn.persist = some k) ∧
    (∃ (s : State) (k : Nat), s.eng.syn.persist = some k) ∧
    (∃ (s : State) (b : Bool), s.eng.syn.persist = none) ∧
    (∃ (s : State) (p : SweepP) (r : Region) (lo : Nat) (hi : Nat) (x : Engine) (n : Eff), sweeps s.eng p.index = true ∧
      rebuildWanted s.eng p.index = true ∧ r = s.eng.region (idxRegion p.index) ∧ lo = aimRec s.eng.syn.aims r.lo p.index ∧ hi
      = aimRec s.eng.syn.aims (r.lo + 1) p.index ∧ x = whenE (!checkOk lo) aimCrc (whenE (!checkOk hi) aimCrc s.start) ∧ n =
      buildEff x.syn.aims x.syn.deltas r p.index) ∧
    (∃ (s : State) (p : SweepP), (sweeps s.eng p.index = false ∨ rebuildWanted s.eng p.index = false)) ∧
    (∃ (s : State) (k : Nat) (lo : Nat) (x : Engine), x = startReloads s.start ∧ (x.tile k).reload = some lo) ∧
    (∃ (s : State) (k : Nat) (x : Engine), x = startReloads s.start ∧ (x.tile k).reload = none) :=
  ⟨⟨(put .calibrate (fun e =>
    { e with syn := { e.syn with survey := some { cx := c, first := 0, last := 0, meas := 1, round := 0, frame := 1, ending := true } } })),
    _, { cx := c, first := 0, last := 0, meas := 1, round := 0, frame := 1, ending := true }, by decide +kernel,
    by decide +kernel, by decide +kernel, rfl⟩,
    ⟨(at_ .bypass), 0, by decide +kernel⟩,
    ⟨(put .calibrate (fun e => { e with sns := { e.sns with job := some { cx := c, p := ⟨2, 1, 0, 0, 16, 0⟩, at_ := 0 } } })),
      { cx := c, p := ⟨2, 1, 0, 0, 16, 0⟩, at_ := 0 }, _, _, by decide +kernel, rfl, rfl⟩,
    ⟨(at_ .bypass), 0, by decide +kernel⟩,
    ⟨(put .bypass (fun e => { e with syn := { e.syn with persist := some 3 } })), 3, by decide +kernel⟩,
    ⟨(put .bypass (fun e => { e with syn := { e.syn with persist := some 1 } })), 1, by decide +kernel⟩,
    ⟨(at_ .bypass), false, by decide +kernel⟩,
    ⟨(put .bypass (fun e => { e with syn := { e.syn with sweep := [0] }, bkp := { e.bkp with braking := false } })),
      { index := 0 }, _, _, _, _, _, by decide +kernel, by decide +kernel, rfl, rfl, rfl, rfl, rfl⟩,
    ⟨(at_ .bypass), { index := 16810000 }, by decide +kernel⟩,
    ⟨(put .bypass (fun e => { e with bkp := { e.bkp with tiles := [(255, { deferred := some 3 })] } })), 255, 3, _, rfl,
      by decide +kernel⟩,
    ⟨(at_ .bypass), 0, _, rfl, by decide +kernel⟩⟩

theorem hyps_refreshEventsAct :
    (∃ (s : State) (b : Bool) (shadow : Bool) (a : Nat) (r : Nat) (l : List FsRead) (at_ : Nat) (x : Engine), refreshOn s.eng =
      true ∧ a < 4100 ∧ r < 80 ∧ ownedBy s.eng (if b = true then 2 else 1) (tileOf a) = true ∧ refreshable s.eng a shadow =
      true ∧ oldestRow s.eng a r shadow = true ∧ trimTakes s.eng a r shadow = false ∧ at_ = rowAt s.eng a r shadow ∧ x =
      waitClk (refreshAt s.eng a at_) s.start) ∧
    (∃ (s : State) (b : Bool) (shadow : Bool) (a : Nat) (r : Nat) (l : List FsRead), refreshOn s.eng = true ∧ a < 4100 ∧ r < 80
      ∧ ownedBy s.eng (if b = true then 2 else 1) (tileOf a) = true ∧ (refreshable s.eng a shadow = false ∨ oldestRow s.eng a r
      shadow = false ∨ trimTakes s.eng a r shadow = true)) ∧
    (∃ (s : State) (b : Bool) (shadow : Bool) (a : Nat) (r : Nat) (l : List FsRead), refreshOn s.eng = true ∧ a < 4100 ∧ r < 80
      ∧ ownedBy s.eng (if b = true then 2 else 1) (tileOf a) = false) ∧
    (∃ (s : State) (b : Bool) (shadow : Bool) (a : Nat) (r : Nat) (l : List FsRead), (refreshOn s.eng = false ∨ 4100 ≤ a ∨ 80 ≤
      r)) ∧
    (∃ (s : State) (b : Bool) (clean : Bool) (g : Option Nat), refreshOn s.eng = true ∧ selfCheck s.eng b clean = true ∧ g =
      (if (ownerIsB s.eng && on s.eng Fd.RFS_CTL_FAILBACK_EN) = true then some (if hbArrives s.eng false = true then
      s.eng.rfs.gapless.getD s.eng.clk else s.eng.clk) else none)) ∧
    (∃ (s : State) (b : Bool) (clean : Bool) (x : Engine), refreshOn s.eng = true ∧ selfCheck s.eng b clean = false ∧ x =
      { s.start with rfs := if b = true then { s.eng.rfs with checkB := s.eng.rfs.checkB && s.eng.rfs.rstB } else { s.eng.rfs with checkA := s.eng.rfs.checkA && s.eng.rfs.rstA, drill := s.eng.rfs.drill.map (fun d => { d with aFailed := true }) } }) ∧
    (∃ (s : State) (b : Bool) (x : Engine) (y : Engine), refreshOn s.eng = true ∧ x = waitClk (hbFrom s.eng b + 8000) s.start ∧
      y = (if b = true then x else { x with rfs := { s.eng.rfs with gapless := none } })) ∧
    (∃ (s : State) (b : Bool), refreshOn s.eng = false) ∧
    (∃ (s : State) (b : Bool) (n : Nat) (x : Engine) (y : Engine), refreshOn s.eng = true ∧ b = ownerIsB s.eng ∧ hbArrives
      s.eng b = false ∧ (if b = true then s.eng.rfs.rstA else s.eng.rfs.rstB) = false ∧ firstAged s.eng (ownedBy s.eng (if b =
      true then 2 else 1)) 1536 = some n ∧ x = claimAll (if b = true then 1 else 2) (waitClk (n + 1) s.start) ∧ y = setLive
      Fd.RFS_CAUSE_LIVE_SILENT false (setLive Fd.RFS_CAUSE_LIVE_HB_LINK false x)) ∧
    (∃ (s : State) (b : Bool), b = ownerIsB s.eng ∧ (hbArrives s.eng b = true ∨ (if b = true then s.eng.rfs.rstA else
      s.eng.rfs.rstB) = true ∨ firstAged s.eng (ownedBy s.eng (if b = true then 2 else 1)) 1536 = none)) ∧
    (∃ (b : Nat) (k : Nat) (e : Engine), k < 256) ∧
    (∃ (s : State) (g : Nat) (x : Engine), s.eng.rfs.gapless = some g ∧ refreshOn s.eng = true ∧ ownerIsB s.eng = true ∧ on
      s.eng Fd.RFS_CTL_FAILBACK_EN = true ∧ autoOwner s.eng = true ∧ s.eng.rfs.drill = none ∧ selfA s.eng = true ∧ x = waitClk
      (g + 10000000000) s.start) ∧
    (∃ (s : State), (s.eng.rfs.gapless = none ∨ ownerIsB s.eng = false ∨ on s.eng Fd.RFS_CTL_FAILBACK_EN = false ∨ autoOwner
      s.eng = false ∨ s.eng.rfs.drill.isSome = true ∨ selfA s.eng = false)) ∧
    (∃ (s : State) (d : Drill) (due : Nat), s.eng.rfs.drill = some d ∧ due = d.at_ + d.dwell * 1000000) ∧
    (∃ (s : State), s.eng.rfs.drill = none) ∧
    (∃ (s : State) (d : Drill), s.eng.rfs.drill = some d) :=
  ⟨⟨(put .bypass (fun e => tiled { e with bkp := { e.bkp with tiles := [(255, { token := 1 })] } })), false, false, 4099, 79,
    [], _, _, by decide +kernel, by decide +kernel, by decide +kernel, by decide +kernel, by decide +kernel, by decide +kernel,
    by decide +kernel, rfl, rfl⟩,
    ⟨(put .bypass (fun e => tiled { e with bkp := { e.bkp with tiles := [(255, { token := 1, islandRst := true })] } })),
      false, false, 4099, 79, [], by decide +kernel, by decide +kernel, by decide +kernel, by decide +kernel,
      by decide +kernel⟩,
    ⟨(put .bypass tiled), true, false, 4099, 79, [], by decide +kernel, by decide +kernel, by decide +kernel,
      by decide +kernel⟩,
    ⟨(put .bypass tiled), false, false, 4100, 79, [], by decide +kernel⟩,
    ⟨(put .bypass tiled), false, true, _, by decide +kernel, by decide +kernel, rfl⟩,
    ⟨(put .bypass tiled), false, false, _, by decide +kernel, by decide +kernel, rfl⟩,
    ⟨(put .bypass tiled), false, _, _, by decide +kernel, rfl, rfl⟩,
    ⟨(at_ .bypass), false, by decide +kernel⟩,
    ⟨owned, _, (firstAged owned.eng (ownedBy owned.eng 1) 1536).getD 0, _, _, by decide +kernel, rfl, by decide +kernel,
      by decide +kernel, by decide +kernel, rfl, rfl⟩,
    ⟨(at_ .bypass), _, rfl, by decide +kernel⟩,
    ⟨0, 0, (at_ .bypass).eng, by decide +kernel⟩,
    ⟨(put .bypass (fun e => tiled
      { e with bkp := { e.bkp with tiles := [(0, { token := 2 })] }, rfs := { e.rfs with gapless := some 0 } })), 0, _,
      by decide +kernel, by decide +kernel, by decide +kernel, by decide +kernel, by decide +kernel, by decide +kernel,
      by decide +kernel, rfl⟩,
    ⟨(at_ .bypass), by decide +kernel⟩,
    ⟨(put .bypass (fun e => tiled
      { e with rfs := { e.rfs with drill := some { cx := c, at_ := 0, dwell := 1, abort := 896 } } })),
      { cx := c, at_ := 0, dwell := 1, abort := 896 }, _, by decide +kernel, rfl⟩,
    ⟨(at_ .bypass), by decide +kernel⟩,
    ⟨(put .bypass (fun e => tiled
      { e with rfs := { e.rfs with drill := some { cx := c, at_ := 0, dwell := 1, abort := 896 } } })),
      { cx := c, at_ := 0, dwell := 1, abort := 896 }, by decide +kernel⟩⟩

theorem hyps_sensingEventsAct :
    (∃ (s : State) (l : List Nat) (here : List Nat) (ok : List Nat) (x : Engine) (y : Engine), on s.eng Fd.SNS_CTL_FRAME_SRC =
      false ∧ tilesUp s.eng = true ∧ s.eng.sys.mode ≠ .boot ∧ here = (List.range 256).filter (fun t => !decide (t ∈ l)) ∧ ok =
      here.filter (edgeOk s.eng) ∧ x = (if here.any (edgeEarly s.eng) = true then note Fd.SNS_CAUSE_SYNC_EARLY (inc
      Reg.SNS_SYNC_EARLY_CNT s.start) else s.start) ∧ y = (if 0 ∈ ok then inc Reg.SNS_FRAME_CNT (each ok acceptEdge x) else
      each ok acceptEdge x)) ∧
    (∃ (k : Nat) (e : Engine), k < 256) ∧
    (∃ (s : State) (l : List Nat), (on s.eng Fd.SNS_CTL_FRAME_SRC = true ∨ tilesUp s.eng = false ∨ s.eng.sys.mode = .boot)) ∧
    (∃ (s : State) (k : Nat) (x : Engine), tilesUp s.eng = true ∧ (s.eng.tile k).lost = false ∧ (s.eng.tile k).islandRst =
      false ∧ x = mark Fd.SNS_CAUSE_SYNC_LOSS (noteTile Fd.TILE_CAUSE_SYNC_LOSS k 0 (waitClk (edgeFrom s.eng k + 10000)
      s.start))) ∧
    (∃ (s : State) (k : Nat), (tilesUp s.eng = false ∨ (s.eng.tile k).lost = true ∨ (s.eng.tile k).islandRst = true)) ∧
    (∃ (s : State) (k : Nat), tilesUp s.eng = true ∧ (s.eng.tile k).lost = true ∧ (s.eng.tile k).islandRst = false) ∧
    (∃ (s : State) (k : Nat), (tilesUp s.eng = false ∨ (s.eng.tile k).lost = false ∨ (s.eng.tile k).islandRst = true)) ∧
    (∃ (s : State) (a : Nat) (k : Nat) (f : Nat) (cs : List Conv) (os : Option Conv), a < 4100 ∧ framing s.eng (tileOf a) =
      some f ∧ inTurn s.eng a f = true) ∧
    (∃ (s : State) (t : Nat) (k : Nat) (f : Nat) (cs : List Conv) (os : Option Conv), t < 256 ∧ framing s.eng t = some f) ∧
    (∃ (s : State) (a : Nat) (k : Nat) (cs : List Conv) (os : Option Conv), (a < 4100 ∧ ∀ f, framing s.eng (tileOf a) = some f
      → inTurn s.eng a f = false) ∨ (4100 ≤ a ∧ framing s.eng (a - 4100) = none) ∨ 4356 ≤ a) ∧
    (∃ (s : State) (k : Nat), unpowered s.eng = false) ∧
    (∃ (s : State) (k : Nat), unpowered s.eng = true) :=
  ⟨⟨(put .bypass tiled), [255], _, _, _, _, by decide +kernel, by decide +kernel, by decide +kernel, rfl, rfl, rfl, rfl⟩,
    ⟨255, (at_ .bypass).eng, by decide +kernel⟩,
    ⟨(at_ .bypass), [], by decide +kernel⟩,
    ⟨(put .bypass tiled), 255, _, by decide +kernel, by decide +kernel, by decide +kernel, rfl⟩,
    ⟨(at_ .bypass), 0, by decide +kernel⟩,
    ⟨(put .bypass (fun e => tiled { e with bkp := { e.bkp with tiles := [(255, { lost := true })] } })), 255,
      by decide +kernel, by decide +kernel, by decide +kernel⟩,
    ⟨(at_ .bypass), 0, by decide +kernel⟩,
    ⟨(put .bypass (fun e => tiled { e with bkp := { e.bkp with tiles := [(255, { frameAt := some 5 })] } })), 4099, 0, 5, [],
      none, by decide +kernel, by decide +kernel, by decide +kernel⟩,
    ⟨(put .bypass (fun e => tiled { e with bkp := { e.bkp with tiles := [(255, { frameAt := some 5 })] } })), 255, 0, 5, [],
      none, by decide +kernel, by decide +kernel⟩,
    ⟨(at_ .bypass), 4356, 0, [], none, by decide +kernel⟩,
    ⟨(at_ .bypass), 0, by decide +kernel⟩,
    ⟨(at_ .off), 0, by decide +kernel⟩⟩

theorem hyps_evaluationEventsAct :
    (∃ (s : State) (a : Nat) (n : Nat) (b : Bool) (res : Residue) (l : List FsRead) (y : Engine), loopDue s.eng a = true ∧ n =
      max (if samplesHere s.eng a b = true then arrivalAt s.eng a else ownFrame s.eng a + 4500) (s.eng.tile (tileOf
      a)).loopFree ∧ y = waitClk (n + 50) (updLoop a (fun z => { z with evalAt := ownFrame s.eng a }) (updTile (tileOf a) (fun
      z => { z with loopFree := n + 20 }) s.start))) ∧
    (∃ (s : State) (a : Nat) (b : Bool) (res : Residue) (l : List FsRead), loopDue s.eng a = false) ∧
    (∃ (s : State) (g : Nat) (l : List (Nat × Int)) (rs : List (Nat × Int)) (ok : List Nat) (x : Engine) (y : Engine) (z :
      Engine) (w : Engine), measured s.eng g = true ∧ x =
      (match (s.eng.thm.lastAt).getD g none with | some t => waitClk (t + intervalNs s.eng g) s.start | none => s.start) ∧ y =
      { x with thm := { x.thm with lastAt := x.thm.lastAt.set g (some x.clk) } } ∧ rs = groupReadings y g l ∧ z = each rs (fun
      r => sensorRead r.1 r.2) y ∧ ok = (rs.map (·.1)).filter (fun i => !(z.sensor i).failed) ∧ (w = each ok (fun i e =>
      fastCheck i (if g = 0 ∨ g = 2 then riseCheck i e else e)) z)) ∧
    (∃ (s : State) (g : Nat) (l : List (Nat × Int)), measured s.eng g = false) :=
  ⟨⟨looping, 4099, _, false, {}, default, _, by decide +kernel, rfl, rfl⟩,
    ⟨(at_ .bypass), 0, false, {}, default, by decide +kernel⟩,
    ⟨(at_ .bypass), 0, default, _, _, _, _, _, _, by decide +kernel, rfl, rfl, rfl, rfl, rfl, rfl⟩,
    ⟨(at_ .bypass), 5, [], by decide +kernel⟩⟩

theorem hyps_supplyEventsAct :
    (∃ (s : State) (b : Bool) (x : Engine), feedOf s.eng b = true ∧ x = setFeed b false s.start) ∧
    (∃ (s : State) (b : Bool), feedOf s.eng b = false) ∧
    (∃ (s : State) (b : Bool) (x : Engine), unfed s.eng = false ∧ x = brakeOff 3 (setLive Fd.PWR_CAUSE_LIVE_BROWNOUT false
      (setLive (if b = true then Fd.PWR_CAUSE_LIVE_FEED_B_LOSS else Fd.PWR_CAUSE_LIVE_FEED_A_LOSS) false (setFeed b true
      s.start)))) ∧
    (∃ (s : State) (b : Bool), unfed s.eng = true) ∧
    (∃ (s : State) (x : Engine), s.eng.sys.mode ≠ .off ∧ on s.eng Fd.PWR_CAUSE_LIVE_BROWNOUT = false ∧ x = setLive
      Fd.PWR_CAUSE_LIVE_BROWNOUT true s.start) ∧
    (∃ (s : State), (s.eng.sys.mode = .off ∨ on s.eng Fd.PWR_CAUSE_LIVE_BROWNOUT = true)) ∧
    (∃ (s : State), on s.eng Fd.PWR_CAUSE_LIVE_BROWNOUT = true ∧ unpowered s.eng = false ∧ standbyOn s.eng = false) ∧
    (∃ (s : State), on s.eng Fd.PWR_CAUSE_LIVE_BROWNOUT = true ∧ unpowered s.eng = false ∧ standbyOn s.eng = true) ∧
    (∃ (s : State), (on s.eng Fd.PWR_CAUSE_LIVE_BROWNOUT = false ∨ unpowered s.eng = true)) ∧
    (∃ (s : State) (x : Engine), x = note Fd.PWR_CAUSE_RAIL_WARN s.start) ∧
    (∃ (s : State) (b : Bool) (x : Engine), auxOf s.eng b = true ∧ x = setAux b false s.start) ∧
    (∃ (s : State) (b : Bool), auxOf s.eng b = false) ∧
    (∃ (s : State) (b : Bool) (x : Engine), x = setAux b true s.start) ∧
    (∃ (s : State), unfed s.eng = false) ∧
    (∃ (s : State), unfed s.eng = true) :=
  ⟨⟨(at_ .bypass), false, _, by decide +kernel, rfl⟩,
    ⟨(put .bypass (fun e => { e with pwr := { e.pwr with feedA := false } })), false, by decide +kernel⟩,
    ⟨(at_ .bypass), false, _, by decide +kernel, rfl⟩,
    ⟨(at_ .off), false, by decide +kernel⟩,
    ⟨(at_ .bypass), _, by decide +kernel, by decide +kernel, rfl⟩,
    ⟨(at_ .off), by decide +kernel⟩,
    ⟨(put .bypass (fun e => setLive Fd.PWR_CAUSE_LIVE_BROWNOUT true
      { e with pwr := { e.pwr with auxA := false, auxB := false } })), by decide +kernel, by decide +kernel,
      by decide +kernel⟩,
    ⟨(put .bypass (setLive Fd.PWR_CAUSE_LIVE_BROWNOUT true)), by decide +kernel, by decide +kernel, by decide +kernel⟩,
    ⟨(at_ .bypass), by decide +kernel⟩,
    ⟨(at_ .bypass), _, rfl⟩,
    ⟨(at_ .bypass), false, _, by decide +kernel, rfl⟩,
    ⟨(put .bypass (fun e => { e with pwr := { e.pwr with auxA := false } })), false, by decide +kernel⟩,
    ⟨(at_ .bypass), false, _, rfl⟩,
    ⟨(at_ .bypass), by decide +kernel⟩,
    ⟨(at_ .off), by decide +kernel⟩⟩

theorem hyps_referenceEventsAct :
    (∃ (s : State) (b : Bool) (x : Engine), s.eng.sys.mode ≠ .off ∧ refLost s.eng b = false ∧ x = tbCheck (setLive (if b = true
      then Fd.PWR_CAUSE_LIVE_REFCLK_B_LOSS else Fd.PWR_CAUSE_LIVE_REFCLK_A_LOSS) true (note (if b = true then
      Fd.PWR_CAUSE_REFCLK_B_LOSS else Fd.PWR_CAUSE_REFCLK_A_LOSS) (setRef b false s.start)))) ∧
    (∃ (s : State) (b : Bool), s.eng.sys.mode ≠ .off ∧ refLost s.eng b = true) ∧
    (∃ (s : State) (b : Bool), s.eng.sys.mode = .off) ∧
    (∃ (s : State) (b : Bool), s.eng.sys.mode ≠ .off ∧ refOk s.eng b = false) ∧
    (∃ (s : State) (b : Bool), (s.eng.sys.mode = .off ∨ refOk s.eng b = true)) ∧
    (∃ (s : State) (p : Bool), p = on s.eng Fd.PWR_TB_CTL_PREF ∧ s.eng.sys.mode ≠ .off ∧ on s.eng Fd.PWR_TB_CTL_REVERT = true ∧
      p ≠ s.eng.pwr.tbB ∧ otherTb s.eng = true) ∧
    (∃ (s : State), (s.eng.sys.mode = .off ∨ on s.eng Fd.PWR_TB_CTL_REVERT = false ∨ on s.eng Fd.PWR_TB_CTL_PREF =
      s.eng.pwr.tbB ∨ otherTb s.eng = false)) :=
  ⟨⟨(at_ .bypass), false, _, by decide +kernel, by decide +kernel, rfl⟩,
    ⟨(put .bypass (fun e => { e with pwr := { e.pwr with lostA := true } })), false, by decide +kernel, by decide +kernel⟩,
    ⟨(at_ .off), false, by decide +kernel⟩,
    ⟨(at_ .bypass), false, by decide +kernel, by decide +kernel⟩,
    ⟨(at_ .off), false, by decide +kernel⟩,
    ⟨(put .bypass (fun e => { e with pwr := { e.pwr with tbB := true, refA := true, refAAt := some 0 } })), _, rfl,
      by decide +kernel, by decide +kernel, by decide +kernel, by decide +kernel⟩,
    ⟨(at_ .bypass), by decide +kernel⟩⟩

theorem hyps_faultEventsAct :
    (∃ (s : State) (b : Nat) (i : Nat) (c : Nat) (off : Nat) (x : Engine), s.eng.sys.mode ≠ .off ∧ hasReporter b i c = true ∧
      reporter b i c ∉ s.eng.flt.wires ∧ causeOff b i = some off ∧ x = mark Fd.FLT_CAUSE_WIRE (inc Reg.FLT_WIRE_CNT (noteRec
      (mkRec s.start true b i c (classOf b c) 0) off
      { s.start with flt := { s.eng.flt with wires := s.eng.flt.wires ++ [reporter b i c] } }))) ∧
    (∃ (s : State) (b : Nat) (i : Nat) (c : Nat), (s.eng.sys.mode = .off ∨ hasReporter b i c = false ∨ reporter b i c ∈
      s.eng.flt.wires ∨ causeOff b i = none)) ∧
    (∃ (s : State) (b : Nat) (i : Nat) (c : Nat), s.eng.sys.mode ≠ .off ∧ reporter b i c ∈ s.eng.flt.wires) ∧
    (∃ (s : State) (b : Nat) (i : Nat) (c : Nat), (s.eng.sys.mode = .off ∨ reporter b i c ∉ s.eng.flt.wires)) ∧
    (∃ (s : State) (m : Nat) (a : Nat), unpowered s.eng = false ∧ m < 8 ∧ masterHeld s.eng m = false) ∧
    (∃ (s : State) (m : Nat) (a : Nat), (unpowered s.eng = true ∨ 8 ≤ m ∨ masterHeld s.eng m = true)) ∧
    (∃ (m : Nat) (e : Engine), m < 8) ∧
    (∃ (s : State) (k : Nat) (x : Engine), unpowered s.eng = false ∧ k < 256 ∧ (s.eng.tile k).hsStall = false ∧ x = updTile k
      (fun y => { y with hsStall := true }) (setLive (tileCause Fd.TILE_CAUSE_LIVE_HS_ERR k) true (noteTile
      Fd.TILE_CAUSE_HS_ERR k 0 s.start))) ∧
    (∃ (s : State) (k : Nat), (unpowered s.eng = true ∨ 256 ≤ k ∨ (s.eng.tile k).hsStall = true)) ∧
    (∃ (s : State), s.eng.flt.graveBusy = true) ∧
    (∃ (s : State) (b : Bool), s.eng.flt.graveBusy = false) ∧
    (∃ (s : State) (x : Engine) (y : Engine), s.eng.flt.risePend = true ∧ x = waitClk s.eng.flt.holdUntil s.start ∧ y =
      { x with flt := { x.flt with risePend := false, holdUntil := x.clk + 1000 * rdF x Fd.ATN_CTL_HOLDOFF } }) ∧
    (∃ (s : State), s.eng.flt.risePend = false) :=
  ⟨⟨(at_ .bypass), 0, 0, 0, ((causeOff 0 0).getD 0), _, by decide +kernel, by decide +kernel, by decide +kernel,
    by decide +kernel, rfl⟩,
    ⟨(at_ .off), 0, 0, 0, by decide +kernel⟩,
    ⟨(put .bypass (fun e => { e with flt := { e.flt with wires := [(0, 0, 0)] } })), 0, 0, 0, by decide +kernel,
      by decide +kernel⟩,
    ⟨(at_ .bypass), 0, 0, 0, by decide +kernel⟩,
    ⟨(at_ .bypass), 7, 0, by decide +kernel, by decide +kernel, by decide +kernel⟩,
    ⟨(at_ .bypass), 8, 0, by decide +kernel⟩,
    ⟨0, (at_ .bypass).eng, by decide +kernel⟩,
    ⟨(at_ .bypass), 255, _, by decide +kernel, by decide +kernel, by decide +kernel, rfl⟩,
    ⟨(at_ .bypass), 256, by decide +kernel⟩,
    ⟨(put .bypass (fun e => { e with flt := { e.flt with graveBusy := true } })), by decide +kernel⟩,
    ⟨(at_ .bypass), false, by decide +kernel⟩,
    ⟨(put .bypass (fun e => { e with flt := { e.flt with risePend := true } })), _, _, by decide +kernel, rfl, rfl⟩,
    ⟨(at_ .bypass), by decide +kernel⟩⟩

theorem hyps_snapshotEventsAct :
    (∃ (s : State) (u : Nat) (x : Engine), snapTick s.eng = some u ∧ x = waitD u s.start) ∧
    (∃ (s : State), snapTick s.eng = none) ∧
    (∃ (s : State) (sh : Shadows) (x : Engine), s.eng.snap.latched = some sh ∧ x = waitClk s.eng.snap.copyTo s.start) ∧
    (∃ (e : Engine) (u : Nat) (late : Bool), u = tickAfter (dNs e) ∧ late = (e.snap.atPend.isSome && decide (e.snap.atTick <
      u))) ∧
    (∃ (s : State), s.eng.snap.latched = none) ∧
    (∃ (s : State) (off : Nat) (v : Word), s.eng.nvr.busy = some (off, v)) ∧
    (∃ (s : State) (off : Nat) (v : Word), s.eng.nvr.busy = some (off, v)) ∧
    (∃ (s : State) (b : Bool), s.eng.nvr.busy = none) :=
  ⟨⟨(put .bypass (fun e => { e with snap := { e.snap with nowWait := [none] } })), 0, _, by decide +kernel, rfl⟩,
    ⟨(at_ .bypass), by decide +kernel⟩,
    ⟨(put .bypass (fun e => { e with snap := { e.snap with latched := some {} } })), {}, _, by decide +kernel, rfl⟩,
    ⟨(at_ .bypass).eng, _, _, rfl, rfl⟩,
    ⟨(at_ .bypass), by decide +kernel⟩,
    ⟨(put .bypass (fun e => { e with nvr := { e.nvr with busy := some (0, 0) } })), 0, 0, by decide +kernel⟩,
    ⟨(put .bypass (fun e => { e with nvr := { e.nvr with busy := some (0, 0) } })), 0, 0, by decide +kernel⟩,
    ⟨(at_ .bypass), false, by decide +kernel⟩⟩

theorem hyps_mailboxRowsAct :
    (∃ (c : Rq → Bool → Nat → List Word → Instr) (sel : Nat) (r : Engine → Nat → List Word) (s : State) (rq : Rq) (i : Nat) (d
      : List Word), (c, sel, r) ∈ [(Instr.time, 1, fun e _ => timeRead e), (.timeSlot, 2, timeSlotRead), (.tsq, 4, fun e i =>
      match e.tim.tsq[i]? with | some t => tsWords t | none => []), (.xactEpoch, 0x10, fun e _ => twoWords e.xact.epoch),
      (.xactMapEpoch, 0x11, fun e _ => twoWords e.xact.pubEpoch), (.dmaFault, 0x20, fun e i => if faultRec e i = {} then []
      else (faultRec e i).words i), (.snapInfo, 0x30, fun e _ => snapInfoWords e), (.snapReg, 0x31, fun e i => (List.range
      8).map (fun k => if isCounter (i + 4 * k) = true then Tbl.get (fun _ => 0) e.snap.cur.counters (i + 4 * k) else 0))] ∧
      mbxOpen s.eng rq = true ∧ (s.eng.mbxOf (rqNum rq)).busy = false ∧ i < 4294967296 ∧ idxOk s.eng sel i = true ∧ (rqNum rq <
      16 ∨ (vfMay sel = true ∧ (sel ≠ 0x20 ∨ faultRec s.eng i = {} ∨ (faultRec s.eng i).dom = rqNum rq - 16)))) ∧
    (∃ (s : State) (rq : Rq) (d : List Word) (x : Engine) (p : Engine × Bool), mbxOpen s.eng rq = true ∧ (s.eng.mbxOf (rqNum
      rq)).busy = false ∧ rqNum rq < 16 ∧ x = updMbx (rqNum rq) (fun m =>
      { m with sel := 3, idx := 0, write := true, data := pad8 d, busy := true, valid := false, err := 0, gen := 0 }) s.start ∧
      p = timeSet (pad8 d) x) ∧
    (∃ (s : State) (rq : Rq) (i : Nat) (d : List Word), mbxOpen s.eng rq = true ∧ (s.eng.mbxOf (rqNum rq)).busy = false ∧ rqNum
      rq < 16 ∧ i < 4294967296 ∧ isCounter i = true) ∧
    (∃ (c : Rq → Bool → Nat → List Word → Instr) (sel : Nat) (s : State) (rq : Rq) (w : Bool) (i : Nat) (d : List Word), (c,
      sel) ∈ [(Instr.time, 1), (.timeSlot, 2), (.timeSet, 3), (.tsq, 4), (.xactEpoch, 0x10), (.xactMapEpoch, 0x11), (.dmaFault,
      0x20), (.snapInfo, 0x30), (.snapReg, 0x31), (.cntPreset, 0x32)]) :=
  ⟨⟨Instr.time, 1, fun e _ => timeRead e, (linked .bypass), .pf, 0, [], List.mem_cons_self, by decide +kernel,
    by decide +kernel, by decide +kernel, by decide +kernel, by decide +kernel⟩,
    ⟨(linked .bypass), .pf, [], _, _, by decide +kernel, by decide +kernel, by decide +kernel, rfl, rfl⟩,
    ⟨(linked .bypass), .pf, Reg.SYS_MODE_CNT, [], by decide +kernel, by decide +kernel, by decide +kernel, by decide +kernel,
      by decide +kernel⟩,
    ⟨Instr.time, 1, (linked .bypass), .pf, false, 0, [], List.mem_cons_self⟩⟩

theorem hyps_tokenEventsAct :
    (∃ (s : State) (b : Bool) (o : Origin) (g : Nat) (bid : Nat) (n : Nat), (p2p s.eng = true ∨ hears s.eng b = false)) ∧
    (∃ (s : State) (b : Bool) (o : Origin) (g : Nat) (bid : Nat) (n : Nat) (f : Frame) (c : Frame) (y : Engine), p2p s.eng =
      false ∧ hears s.eng b = true ∧ y = ringRun s.start ∧ p2p y = false ∧ f = ctlFrom o 1 b (leBytes 2 g) ∧ c = ctlFrom o 2 b
      (leBytes 1 bid ++ [0] ++ leBytes 4 n)) ∧
    (∃ (tx : Bool) (t : Nat) (x : Transit) (l : List Transit) (e : Engine), (ringOf e tx).transit = x :: l) ∧
    (∃ (s : State) (b : Bool) (tmo : Nat), tmo = rdF s.eng Fd.LRG_TRT_TRT_TMO) :=
  ⟨⟨(at_ .bypass), false, ⟨1, 255, false⟩, 0, 0, 0, by decide +kernel⟩,
    ⟨(ringed .bypass id), false, ⟨1, 255, false⟩, 0, 0, 0, _, _, _, by decide +kernel, by decide +kernel, rfl,
      by decide +kernel, rfl, rfl⟩,
    ⟨false, 0, ⟨{ da := 1, sa := 2 }, none⟩, [], (ringed .bypass (fun l =>
      { l with a := { l.a with transit := [⟨{ da := 1, sa := 2 }, none⟩] } })).eng, by decide +kernel⟩,
    ⟨(at_ .bypass), false, _, rfl⟩⟩

theorem hyps_linkEventsAct :
    (∃ (e : Engine) (t : Nat), t = (e.clk + 99999) / 100000 * 100000) ∧
    (∃ (s : State) (b : Bool) (ra : Bool) (rb : Bool) (fresh : Bool) (x : Engine), p2p s.eng = false ∧ hears s.eng b = true ∧
      fresh = hellosTo s.eng b s.eng.clk ∧ x = updRing (!b) (fun r => { r with heard := if b = true then ra else rb }) (updRing
      b (fun r =>
      { r with helloAt := some s.eng.clk, goodAt := if (fresh && r.goodAt.isSome) = true then r.goodAt else some s.eng.clk })
      s.start)) ∧
    (∃ (s : State) (b : Bool) (ra : Bool) (rb : Bool), (p2p s.eng = true ∨ hears s.eng b = false)) ∧
    (∃ (s : State) (b : Bool) (lock : Bool) (x : Engine) (y : Engine) (z : Engine), s.eng.lrg.inserted = true ∧ (p2p s.eng =
      false ∨ lock = true) ∧ (ringOf s.eng b).rxUp = true ∧ x = (if lock = true then loseLock b s.start else s.start) ∧ y =
      waitClk (downAt x (ringOf x b)) x ∧ z = note Fd.LRG_CAUSE_LINK_DOWN (updRing b (fun r =>
      { r with rxUp := false, goodAt := none }) y)) ∧
    (∃ (s : State) (b : Bool) (lock : Bool), s.eng.lrg.inserted = true ∧ (p2p s.eng = false ∨ lock = true) ∧ (ringOf s.eng
      b).rxUp = false) ∧
    (∃ (s : State) (b : Bool) (lock : Bool), (s.eng.lrg.inserted = false ∨ (p2p s.eng = true ∧ lock = false))) ∧
    (∃ (s : State) (b : Bool) (g : Nat) (x : Engine) (y : Engine), s.eng.lrg.inserted = true ∧ (ringOf s.eng b).rxUp = false ∧
      (ringOf s.eng b).lock = true ∧ (ringOf s.eng b).goodAt = some g ∧ hellosTo s.eng b (max s.eng.clk (g + 10000000)) = true
      ∧ x = waitClk (g + 10000000) s.start ∧ y = updRing b (fun r => { r with rxUp := true }) x) ∧
    (∃ (s : State) (b : Bool), (s.eng.lrg.inserted = false ∨ (ringOf s.eng b).rxUp = true ∨ (ringOf s.eng b).lock = false ∨ (∀
      g, (ringOf s.eng b).goodAt = some g → hellosTo s.eng b (max s.eng.clk (g + 10000000)) = false))) ∧
    (∃ (s : State) (b : Bool), s.eng.lrg.inserted = true ∧ (ringOf s.eng b).lock = false) ∧
    (∃ (s : State) (b : Bool), (s.eng.lrg.inserted = false ∨ (ringOf s.eng b).lock = true)) ∧
    (∃ (s : State) (t : Nat) (x : Engine), s.eng.lrg.primaryAt = some t ∧ p2p s.eng = true ∧ s.eng.lrg.inserted = true ∧
      s.eng.lrg.secondary = true ∧ s.eng.lrg.a.rxUp = true ∧ x = waitClk (t + 1000000000) s.start) ∧
    (∃ (s : State), (s.eng.lrg.primaryAt = none ∨ p2p s.eng = false ∨ s.eng.lrg.inserted = false ∨ s.eng.lrg.secondary = false
      ∨ s.eng.lrg.a.rxUp = false)) :=
  ⟨⟨(at_ .bypass).eng, _, rfl⟩,
    ⟨(ringed .bypass id), false, false, false, _, _, by decide +kernel, by decide +kernel, rfl, rfl⟩,
    ⟨(at_ .bypass), false, false, false, by decide +kernel⟩,
    ⟨(ringed .bypass id), false, false, _, _, _, by decide +kernel, by decide +kernel, by decide +kernel, rfl, rfl, rfl⟩,
    ⟨(ringed .bypass (fun l => { l with a := { l.a with rxUp := false } })), false, false, by decide +kernel,
      by decide +kernel, by decide +kernel⟩,
    ⟨(at_ .bypass), false, false, by decide +kernel⟩,
    ⟨(ringed .bypass (fun l => { l with a := { l.a with rxUp := false, goodAt := some 0, helloAt := some 10000000 } })), false,
      0, _, _, by decide +kernel, by decide +kernel, by decide +kernel, by decide +kernel, by decide +kernel, rfl, rfl⟩,
    ⟨(ringed .bypass id), false, by decide +kernel⟩,
    ⟨(ringed .bypass (fun l => { l with a := { l.a with lock := false } })), false, by decide +kernel, by decide +kernel⟩,
    ⟨(ringed .bypass id), false, by decide +kernel⟩,
    ⟨(put .bypass (fun e => wrF Fd.LRG_CTL_MODE 1
      { e with lrg := { e.lrg with inserted := true, secondary := true, primaryAt := some 0, a := { e.lrg.a with rxUp := true } } })),
      0, _, by decide +kernel, by decide +kernel, by decide +kernel, by decide +kernel, by decide +kernel, rfl⟩,
    ⟨(at_ .bypass), by decide +kernel⟩⟩

theorem hyps_pauseEventsAct :
    (∃ (s : State) (p : PauseIn) (q : Nat), hears s.eng p.onB = false) ∧
    (∃ (s : State) (p : PauseIn) (q : Nat) (y : Engine), hears s.eng p.onB = true ∧ y = ringRun s.start ∧ p2p y = true) ∧
    (∃ (s : State) (p : PauseIn) (q : Nat) (f : Frame) (x : Engine) (y : Engine), hears s.eng p.onB = true ∧ y = ringRun
      s.start ∧ p2p y = false ∧ f = { da := p.da, sa := p.sa, ttl := p.ttl, eth := 0x8808, payload := pauseBytes q } ∧ x =
      stranger y) ∧
    (∃ (q : Nat) (e : Engine) (x : Engine), x = inc Reg.LRG_PAUSE_RX_CNT e) ∧
    (∃ (s : State) (t : Nat) (x : Engine), s.eng.lrg.pauseTo = some t ∧ x = waitClk t s.start) ∧
    (∃ (s : State), s.eng.lrg.pauseTo = none) ∧
    (∃ (s : State) (p : Paused) (l : List Paused) (x : Engine) (due : Paused → Bool), s.eng.lrg.pausedBy = p :: l ∧
      s.eng.lrg.above = true ∧ lwm s.eng < s.eng.lrg.used ∧ pauses s.eng = true ∧ x = waitClk (((p :: l).map (fun p => p.at_ +
      halfPause s.eng)).foldl min (p.at_ + halfPause s.eng)) s.start ∧ due = (fun p => decide (p.at_ + halfPause x ≤ x.clk))) ∧
    (∃ (s : State), (s.eng.lrg.pausedBy = [] ∨ pauses s.eng = false ∨ s.eng.lrg.above = false ∨ s.eng.lrg.used ≤ lwm s.eng)) ∧
    (∃ (q : Nat) (p : Paused) (e : Engine), pauses e = false) :=
  ⟨⟨(at_ .bypass), ⟨1, 2, false, 255⟩, 0, by decide +kernel⟩,
    ⟨(put .bypass (fun e => wrF Fd.LRG_CTL_EN 1 (wrF Fd.LRG_CTL_MODE 1 (ringed .bypass id).eng))), ⟨1, 2, false, 255⟩, 0, _,
      by decide +kernel, rfl, by decide +kernel⟩,
    ⟨(ringed .bypass id), ⟨1, 2, false, 255⟩, 0, _, _, _, by decide +kernel, rfl, by decide +kernel, rfl, rfl⟩,
    ⟨0, (at_ .bypass).eng, _, rfl⟩,
    ⟨(ringed .bypass (fun l => { l with pauseTo := some 5 })), 5, _, by decide +kernel, rfl⟩,
    ⟨(at_ .bypass), by decide +kernel⟩,
    ⟨pausing, ⟨1, false, 0⟩, [], _, _, by decide +kernel, by decide +kernel, by decide +kernel, by decide +kernel, rfl, rfl⟩,
    ⟨(at_ .bypass), by decide +kernel⟩,
    ⟨0, ⟨1, false, 0⟩, (wrF Fd.LRG_CTL_EN 0 (at_ .bypass).eng), by decide +kernel⟩⟩

theorem hyps_pulseEventsAct :
    (∃ (s : State) (x : Engine) (y : Engine) (ns : Int) (u : Int), unpowered s.eng = false ∧ x = wr Reg.TIM_PPSIN_NS (dNsF
      s.eng) (wr Reg.TIM_PPSIN_SEC (dSec s.eng) s.start) ∧ y = { x with tim := { x.tim with ppsInAt := some s.eng.clk } } ∧ u =
      stamp ((s.eng.tim.d % 65536000000000 : Nat) : Int) ∧ ns = (if u ≥ 32768000000000 then u - 65536000000000 else u)) ∧
    (∃ (s : State) (x : Engine), unpowered s.eng = false ∧ s.eng.tim.syncHigh = true ∧ x = waitClk ((s.eng.tim.syncRise.getD 0)
      + 2500) s.start) ∧
    (∃ (s : State), unpowered s.eng = false ∧ s.eng.tim.syncHigh = false) ∧
    (∃ (s : State) (x : Engine), unpowered s.eng = false ∧ s.eng.tim.ppsHigh = true ∧ x = waitClk ((s.eng.tim.ppsRise.getD 0) +
      1000000 * ppsWidth s.eng) s.start) ∧
    (∃ (s : State) (x : Engine), unpowered s.eng = false ∧ s.eng.tim.ppsHigh = false ∧ x = waitD ((dSec s.eng + 1) *
      1000000000) s.start) ∧
    (∃ (s : State), unpowered s.eng = true) :=
  ⟨⟨(at_ .bypass), _, _, _, _, by decide +kernel, rfl, rfl, rfl, rfl⟩,
    ⟨(put .bypass (fun e => { e with tim := { e.tim with syncHigh := true } })), _, by decide +kernel, by decide +kernel, rfl⟩,
    ⟨(at_ .bypass), by decide +kernel, by decide +kernel⟩,
    ⟨(put .bypass (fun e => { e with tim := { e.tim with ppsHigh := true } })), _, by decide +kernel, by decide +kernel, rfl⟩,
    ⟨(at_ .bypass), _, by decide +kernel, by decide +kernel, rfl⟩,
    ⟨(at_ .off), by decide +kernel⟩⟩

theorem hyps_eventFrame :
    (∃ (c : Fld) (inst : Nat) (detail : Nat) (o : Nat) (e : Engine), o ≠ c.off ∧ o ≠ Reg.FLT_CAUSE ∧ o ≠ Reg.FLT_EVENT_CNT ∧ o
      ≠ Reg.FLT_HIST_OVF_CNT) ∧
    (∃ (c : Fld) (inst : Nat) (detail : Nat) (e : Engine), c.lo < 32 ∧ c.off ≠ Reg.FLT_EVENT_CNT ∧ c.off ≠
      Reg.FLT_HIST_OVF_CNT) ∧
    (∃ (c : Fld) (inst : Nat) (detail : Nat) (e : Engine), classOf (blockNo c.off) c.lo < 3 ∧ e.flt.hist.length < 32 ∧ c.off ≠
      Reg.FLT_EVENT_CNT ∧ c.off ≠ Reg.FLT_HIST_OVF_CNT) :=
  ⟨⟨Fd.SYS_CAUSE_FW_STAGED, 0, 0, 0, (at_ .bypass).eng, by decide +kernel, by decide +kernel, by decide +kernel,
    by decide +kernel⟩,
    ⟨Fd.SYS_CAUSE_FW_STAGED, 0, 0, (at_ .bypass).eng, by decide +kernel, by decide +kernel, by decide +kernel⟩,
    ⟨Fd.SYS_CAUSE_FW_STAGED, 0, 0, (at_ .bypass).eng, by decide +kernel, by decide +kernel, by decide +kernel,
      by decide +kernel⟩⟩

theorem hyps_hostMemoryWrites :
    (∃ (a : Nat) (l : List Byte) (e : Engine), Memory.wf e.hostMem = true) ∧
    (∃ (parts : List (Nat × Nat)) (l : List Byte) (e : Engine) (x : Nat), (∀ p ∈ parts, ¬(p.1 ≤ x ∧ x < p.1 + p.2))) ∧
    (∃ (a : Nat) (n : Nat) (b : Nat) (m : Nat) (l : List Byte) (e : Engine), l.length = n + m ∧ (a + n ≤ b ∨ b + m ≤ a)) ∧
    (∃ (parts : List (Nat × Nat)) (x : Nat), (∀ p ∈ parts, ¬(p.1 ≤ x ∧ x < p.1 + p.2)) ∧ parts = [(4094, 2), (8192, 3)] ∧ x =
      8195) :=
  ⟨⟨0, [1, 2, 3], (at_ .bypass).eng, by decide +kernel⟩,
    ⟨[(4094, 2), (8192, 3)], [1, 2, 3, 4, 5], (at_ .bypass).eng, 4093, by decide +kernel⟩,
    ⟨4094, 2, 8192, 3, [1, 2, 3, 4, 5], (at_ .bypass).eng, by decide +kernel, by decide +kernel⟩,
    ⟨_, _, by decide +kernel, rfl, rfl⟩⟩

/-- A ring station. -/
def stationed : State := put .bypass (fun e => wrF Fd.LRG_CTL_EN 1 { e with lrg := (ringed .bypass id).eng.lrg })

/-- A state in which `c` is in flight, from an enabled hopper with no room in its completion ring. -/
def flying : State := put .bypass (fun e =>
  { e with cmd := { e.cmd with hoppers := [(0, { sqSize := 5, cqSize := 5 })], inflight := [{ cx := c, opcode := 1 }] } })

/-- A command a ring station may send. -/
def nopInfo : CmdInfo := { opcode := 1, operator := false }

/-- Another station's frame at it. -/
theorem foreign : ∃ (s : State) (b : Bool) (f : Frame) (y : Engine), y = ringRun s.start ∧ hears s.eng b = true ∧ 64 ≤ f.wire ∧
    f.wire ≤ 2000 ∧ p2p y = false ∧
    f.sa ≠ ownMac y ∧ 1 < f.ttl ∧ f.fcsOk = true ∧ f.kind = 0 ∧ isRepeater y = false ∧ rosterFrom y f.sa = none := by
  obtain ⟨n, hn⟩ : ∃ n, n ≠ ownMac (ringRun stationed.start) := ⟨_, Nat.succ_ne_self _⟩
  exact ⟨stationed, false, { da := 1, sa := n, wire := 64 }, _, rfl, by decide +kernel, Nat.le_refl 64, Nat.le_of_ble_eq_true rfl,
    by decide +kernel, hn, Nat.le_of_ble_eq_true rfl, rfl, rfl, by decide +kernel, by rfl⟩

theorem hyps_frameEventsAct :
    (∃ (s : State) (b : Bool) (f : Frame), hears s.eng b = false ∨ f.wire < 64 ∨ 2000 < f.wire) ∧
    (∃ (s : State) (b : Bool) (f : Frame) (y : Engine), hears s.eng b = true ∧ 64 ≤ f.wire ∧ f.wire ≤ 2000 ∧ y = ringRun s.start ∧ p2p y = true) ∧
    (∃ (s : State) (b : Bool) (f : Frame) (x y : Engine), hears s.eng b = true ∧ 64 ≤ f.wire ∧ f.wire ≤ 2000 ∧ y = ringRun s.start ∧
      p2p y = false ∧ f.sa = ownMac y ∧ isRepeater y = false ∧ x = inc Reg.LRG_STRIP_CNT y) ∧
    (∃ (s : State) (b : Bool) (f : Frame) (y : Engine), y = ringRun s.start ∧ hears s.eng b = true ∧ 64 ≤ f.wire ∧ f.wire ≤ 2000 ∧
      p2p y = false ∧ f.sa ≠ ownMac y ∧ 1 < f.ttl ∧ f.fcsOk = true ∧ f.kind = 0 ∧ isRepeater y = false ∧ rosterFrom y f.sa = none) ∧
    (∃ (s : State) (f : Frame), f.eth = 0x88B5 ∧ f.kind = 0 ∧ f.da = ownMac s.eng) ∧
    (∃ (s : State) (f : Frame), f.eth ≠ 0x88B5 ∨ f.kind ≠ 0 ∨ f.da ≠ ownMac s.eng) ∧
    (∃ (i : Nat) (f : Frame) (t : SecTag) (e : Engine), f.sec = some t ∧ secCheck i t e = none) :=
  ⟨⟨ringed .bypass id, false, { da := 1, sa := 2, wire := 2001 }, .inr (.inr (by decide))⟩,
    ⟨put .bypass (fun e => wrF Fd.LRG_CTL_EN 1 (wrF Fd.LRG_CTL_MODE 1 { e with lrg := (ringed .bypass id).eng.lrg })), false,
      { da := 1, sa := 2, wire := 2000 }, _, by decide +kernel, by decide, by decide, rfl, by decide +kernel⟩,
    ⟨stationed, false, { da := 1, sa := ownMac (ringRun stationed.start), wire := 64 }, _, _, by decide +kernel, by decide, by decide, rfl,
      by decide +kernel, rfl, by decide +kernel, rfl⟩,
    foreign,
    ⟨stationed, { da := ownMac stationed.eng, sa := 2, eth := 0x88B5 }, rfl, rfl, rfl⟩,
    ⟨stationed, { da := 1, sa := 2 }, .inl (by decide)⟩,
    ⟨0, { da := 1, sa := 2, sec := some ⟨0, 0, false, none⟩ }, _, (at_ .bypass).eng, rfl, by rfl⟩⟩

theorem hyps_smbusRowsAct :
    (∃ s : State, smbOn s.eng = true ∧ pecMust s.eng = false ∧ s.eng.flt.smbAlert = true) ∧
    (∃ s : State, smbOn s.eng = true ∧ pecMust s.eng = true) ∧
    (∃ s : State, smbOn s.eng = false) ∧ (∃ v, bits v 1 0 = 0) ∧ (∃ v, bits v 1 0 ≠ 0) :=
  ⟨⟨put .bypass (fun e => { e with flt := { e.flt with smbAlert := true } }), by decide +kernel, by decide +kernel, rfl⟩,
    ⟨put .bypass (fun e => { e with pins := { e.pins with straps := 63 } }), by decide +kernel, by decide +kernel⟩,
    ⟨put .off (fun e => { e with pwr := { e.pwr with feedA := false, feedB := false, auxA := false, auxB := false } }), by decide +kernel⟩,
    ⟨0x3FFC, by decide⟩, ⟨0x3FFF, by decide⟩⟩

theorem hyps_tapRowsAct :
    (∃ s : State, tapOn s.eng = true) ∧ (∃ s : State, tapOn s.eng = false) ∧
    (∃ e : Engine, 3 ≤ e.pins.jtagIr ∧ inMode e [.bypass, .test, .safe] = false) :=
  ⟨⟨put .bypass (fun e => { e with pins := { e.pins with trstLow := false } }), by decide +kernel⟩, ⟨at_ .off, by decide +kernel⟩,
    ⟨(put .service (fun e => { e with pins := { e.pins with jtagIr := 3 } })).eng, by decide +kernel, by decide +kernel⟩⟩

theorem hyps_slaveEventsAct :
    (∃ s : State, slotHears s.eng 1 = true ∧ isRepeater s.eng = false) ∧ (∃ s : State, slotHears s.eng 1 = false) ∧
    (∃ (s : State) (r : SyncRec), slotHears s.eng 1 = true ∧ (s.eng.tim.slot 1).sync = some r ∧ r.seq = 7 ∧ r.complete = false) ∧
    (∃ (s : State) (x : Engine) (q : TsEntry) (y : Engine) (r : SyncRec), slotHears s.eng 0 = true ∧
      x = tsqPrune (updSlotT 0 (fun z => { z with reqEvery := 5 }) s.start) ∧
      x.tim.tsq.find? (fun t => t.slot == 0 && t.seq == 3) = some q ∧
      y = { x with tim := { x.tim with tsq := x.tim.tsq.filter (fun t => t != q) } } ∧
      (y.tim.slot 0).sync = some r ∧ r.complete = true ∧ pathHeld y 0 = false) ∧
    (∃ s : State, (s.eng.tim.slot 1).pathHoldTo = some 9) ∧ (∃ s : State, (s.eng.tim.slot 1).pathHoldTo = none) ∧
    (∃ (s : State) (q : TsEntry) (l : List TsEntry), s.eng.tim.tsq = q :: l) ∧ (∃ s : State, s.eng.tim.tsq = []) ∧
    (∃ (s : State) (h : Handover), unpowered s.eng = false ∧ s.eng.tim.ho = some h ∧ joinable s.eng h = true) ∧
    (∃ (s : State) (h : Handover), unpowered s.eng = false ∧ s.eng.tim.ho = some h ∧ joinable s.eng h = false) :=
  ⟨⟨slaved, by decide +kernel, by decide +kernel⟩, ⟨at_ .bypass, by decide +kernel⟩, ⟨slaved, _, by decide +kernel, rfl, rfl, rfl⟩,
    ⟨slaved, _, _, _, _, by decide +kernel, rfl, rfl, rfl, rfl, rfl, by decide +kernel⟩, ⟨slaved, rfl⟩, ⟨at_ .bypass, rfl⟩,
    ⟨slaved, _, _, rfl⟩, ⟨at_ .bypass, rfl⟩,
    ⟨slaved, _, by decide +kernel, rfl, by decide +kernel⟩, ⟨put .bypass (fun e => { e with tim := { e.tim with ho := some ⟨1, 1000000000, 0, 0⟩ } }), _, by decide +kernel, rfl, by decide +kernel⟩⟩

theorem hyps_firmwareEventsAct :
    (∃ (s : State) (x : Cx × List Byte), s.eng.sys.fwStage = some x) ∧ (∃ s : State, s.eng.sys.fwStage = none) ∧
    (∃ (s : State) (r : FwRestart), s.eng.sys.fwRestart = some r) ∧ (∃ s : State, s.eng.sys.fwRestart = none) ∧
    (∃ (s : State) (x : BistJob), s.eng.sys.bist = some x) ∧ (∃ s : State, s.eng.sys.bist = none) :=
  ⟨⟨put .bypass (fun e => { e with sys := { e.sys with fwStage := some (c, []) } }), _, rfl⟩, ⟨at_ .bypass, rfl⟩,
    ⟨put .bypass (fun e => { e with sys := { e.sys with fwRestart := some ⟨c, false, 0⟩ } }), _, rfl⟩, ⟨at_ .bypass, rfl⟩,
    ⟨put .test (fun e => { e with sys := { e.sys with bist := some ⟨c, 31, 5, some 7⟩ } }), _, rfl⟩, ⟨at_ .test, rfl⟩⟩

theorem hyps_guardedWritesAct :
    (∃ (s : State) (off : Nat), Reaches .pf (off + 4) s.eng ∧ guardMain (off + 4) = some off) ∧
    (∃ s : State, reachable s.eng .pf = false) ∧
    (∃ (s : State) (r : RegInfo), Reaches .pf Reg.FLT_GRAVE_CLR s.eng ∧ guardMain Reg.FLT_GRAVE_CLR = none ∧
      regInfo Reg.FLT_GRAVE_CLR = some r ∧ r.kind = .guarded ∧ r.readOnly = false ∧ locked s.eng Reg.FLT_GRAVE_CLR = false ∧
      Armed .pf Reg.FLT_GRAVE_CLR 1 s.eng) ∧
    (∃ s : State, Reaches .pf Reg.BKP_SPAN s.eng ∧ Armed .pf Reg.BKP_SPAN 2 s.eng) ∧
    (∃ s : State, Reaches .pf (Reg.TILE_CTL + 0x40 * 255) s.eng ∧ Armed .pf (Reg.TILE_CTL + 0x40 * 255) 3 s.eng) ∧
    (∃ s : State, Reaches .pf Reg.FLT_IRST s.eng ∧ Armed .pf Reg.FLT_IRST 0x80000100 s.eng) ∧
    (∃ s : State, Reaches .pf Reg.RFS_OVR s.eng ∧ Armed .pf Reg.RFS_OVR 2 s.eng) ∧
    (∃ s : State, Reaches .pf Reg.CMD_DOM_EN1 s.eng ∧ Armed .pf Reg.CMD_DOM_EN1 0x80000000 s.eng) ∧
    (∃ s : State, Reaches .pf Reg.SYS_REMAP s.eng ∧ Armed .pf Reg.SYS_REMAP 1 s.eng) :=
  ⟨⟨linked .bypass, Reg.BKP_SPAN, reaches_of (by decide +kernel), by decide +kernel⟩, ⟨at_ .bypass, by decide +kernel⟩,
    ⟨latched .bypass Reg.FLT_GRAVE_CLR 1, (regInfo Reg.FLT_GRAVE_CLR).getD { base := 0 }, reaches_of (by decide +kernel),
      by decide +kernel, by decide +kernel, by decide +kernel, by decide +kernel, by decide +kernel, armed_of rfl rfl (by decide +kernel) rfl⟩,
    ⟨latched .bypass Reg.BKP_SPAN 2, reaches_of (by decide +kernel), armed_of rfl rfl (by decide +kernel) rfl⟩,
    ⟨latched .bypass (Reg.TILE_CTL + 0x40 * 255) 3, reaches_of (by decide +kernel), armed_of rfl rfl (by decide +kernel) rfl⟩,
    ⟨latched .bypass Reg.FLT_IRST 0x80000100, reaches_of (by decide +kernel), armed_of rfl rfl (by decide +kernel) rfl⟩,
    ⟨latched .bypass Reg.RFS_OVR 2, reaches_of (by decide +kernel), armed_of rfl rfl (by decide +kernel) rfl⟩,
    ⟨latched .bypass Reg.CMD_DOM_EN1 0x80000000, reaches_of (by decide +kernel), armed_of rfl rfl (by decide +kernel) rfl⟩,
    ⟨latched .bypass Reg.SYS_REMAP 1, reaches_of (by decide +kernel), armed_of rfl rfl (by decide +kernel) rfl⟩⟩

theorem hyps_guardDecides :
    (∃ (s : State) (r : RegInfo), Reaches .pf Reg.BKP_SPAN s.eng ∧ guardMain Reg.BKP_SPAN = none ∧ regInfo Reg.BKP_SPAN = some r ∧
      r.kind = .guarded ∧ r.readOnly = false ∧ locked s.eng Reg.BKP_SPAN = false ∧ Armed .pf Reg.BKP_SPAN 2 s.eng) ∧
    (∃ (s : State) (r : RegInfo), Reaches .pf Reg.BKP_SPAN s.eng ∧ guardMain Reg.BKP_SPAN = none ∧ regInfo Reg.BKP_SPAN = some r ∧
      r.kind = .guarded ∧ r.readOnly = false ∧ locked s.eng Reg.BKP_SPAN = false ∧ latchOf s.eng 0 = none) ∧
    (∃ (s : State) (x : Latch), latchOf s.eng 0 = some x ∧ x.main ≠ Reg.BKP_SPAN) ∧
    (∃ (s : State) (x : Latch), latchOf s.eng 0 = some x ∧ x.main = Reg.BKP_SPAN ∧ x.at_ + 1000000 < s.eng.clk) ∧
    (∃ (s : State) (x : Latch), latchOf s.eng 0 = some x ∧ x.main = Reg.BKP_SPAN ∧ s.eng.clk ≤ x.at_ + 1000000 ∧ x.word ≠ ~~~ (1 : Word)) :=
  ⟨⟨latched .bypass Reg.BKP_SPAN 2, (regInfo Reg.BKP_SPAN).getD { base := 0 }, reaches_of (by decide +kernel), by decide +kernel,
      by decide +kernel, by decide +kernel, by decide +kernel, by decide +kernel, armed_of rfl rfl (by decide +kernel) rfl⟩,
    ⟨linked .bypass, (regInfo Reg.BKP_SPAN).getD { base := 0 }, reaches_of (by decide +kernel), by decide +kernel,
      by decide +kernel, by decide +kernel, by decide +kernel, by decide +kernel, rfl⟩,
    ⟨latched .bypass Reg.RFS_OVR 2, _, rfl, by decide⟩,
    ⟨put .bypass (fun e => { e with clk := 1000001, guards := [(0, { word := 0, main := Reg.BKP_SPAN, at_ := 0 })] }), _, rfl, rfl, by decide +kernel⟩,
    ⟨latched .bypass Reg.BKP_SPAN 2, _, rfl, rfl, by decide +kernel, by decide⟩⟩

theorem plain_reached : [Reg.BKP_MARCH_CTL, Reg.SCH_FLUME_PI, Reg.RFS_CTL, Reg.SNS_OS_CTL, Reg.SNS_REFSEL + 60, Reg.LOOP_DAMSEL, Reg.PWR_TB_CTL,
        Reg.SNAP_CTL, Reg.CMD_CTL, Reg.TIM_CTL, Reg.LRG_RX_CFG + 96, Reg.LRG_RX_HEAD + 96].all (fun off =>
      reachable (linked .bypass).eng .pf && (match Rq.pf with | .vf _ => false | _ => true) && decide ((linked .bypass).eng.sys.mode ≠ .lockout) &&
      (!unpowered (linked .bypass).eng || millpond off) && decide (off < bar4At ∧ off % 4 = 0)) = true := by decide +kernel

theorem hyps_plainWritesAct :
    (∃ (s : State) (rq : Rq) (off : Nat), (rq = .pf → off < cfgAt) ∧ reachable s.eng rq = false) ∧
    (∃ s : State, reachable s.eng (.vf 4) = true ∧ s.eng.sys.mode ≠ .lockout ∧ unpowered s.eng = false) ∧
    (∃ s : State, reachable s.eng .pf = true ∧ s.eng.sys.mode ≠ .lockout ∧ unpowered s.eng = false) ∧
    (∃ (s : State) (off m : Nat), Reaches .pf off s.eng ∧ guardMain off = some m) ∧
    (∃ (s : State) (off : Nat), Reaches .pf off s.eng ∧ guardMain off = none ∧ regInfo off = none) ∧
    (∃ (s : State) (r : RegInfo), Reaches .pf Reg.LOOP_CTL s.eng ∧ guardMain Reg.LOOP_CTL = none ∧
      regInfo Reg.LOOP_CTL = some r ∧ r.kind = .plain ∧ r.readOnly = false) ∧
    (∃ x : Engine, (marching x).isSome = true) ∧ (∃ x : Engine, marching x = none ∧ x.sys.mode ≠ .test) ∧
    (∃ x : Engine, marching x = none ∧ x.sys.mode = .test ∧ rdF x Fd.BKP_MARCH_CTL_ALGO ≤ 6 ∧ rdF x Fd.BKP_MARCH_CTL_BACKGROUND ≤ 3 ∧
      on x Fd.BKP_MARCH_CTL_ACTIVE = true) ∧
    (∀ off ∈ [Reg.BKP_MARCH_CTL, Reg.SCH_FLUME_PI, Reg.RFS_CTL, Reg.SNS_OS_CTL, Reg.SNS_REFSEL + 60, Reg.LOOP_DAMSEL, Reg.PWR_TB_CTL,
        Reg.SNAP_CTL, Reg.CMD_CTL, Reg.TIM_CTL, Reg.LRG_RX_CFG + 96, Reg.LRG_RX_HEAD + 96], ∃ s : State, Reaches .pf off s.eng) :=
  ⟨⟨at_ .bypass, .pf, 0, fun _ => by decide, by decide +kernel⟩,
    ⟨linked .bypass, by decide +kernel, by decide +kernel, by decide +kernel⟩,
    ⟨linked .bypass, by decide +kernel, by decide +kernel, by decide +kernel⟩,
    ⟨linked .bypass, Reg.BKP_SPAN + 4, Reg.BKP_SPAN, reaches_of (by decide +kernel), by decide +kernel⟩,
    ⟨linked .bypass, 0xFFFC, reaches_of (by decide +kernel), by decide +kernel, by decide +kernel⟩,
    ⟨linked .bypass, (regInfo Reg.LOOP_CTL).getD { base := 0 }, reaches_of (by decide +kernel), by decide +kernel, by decide +kernel,
      by decide +kernel, by decide +kernel⟩,
    ⟨(put .test (fun e => { e with bkp := { e.bkp with march := some ⟨0x101, false, 0, [], none⟩ } })).eng, rfl⟩,
    ⟨(at_ .bypass).eng, rfl, by decide +kernel⟩,
    ⟨(put .test (wrF Fd.BKP_MARCH_CTL_ACTIVE 1)).eng, rfl, rfl, by decide +kernel, by decide +kernel, by decide +kernel⟩,
    fun off h => ⟨linked .bypass, reaches_of (List.all_eq_true.1 plain_reached off h)⟩⟩

theorem hyps_lockoutIgnoresWrites : ∃ (s : State) (rq : Rq) (off n : Nat), s.eng.sys.mode = .lockout ∧ (rq = .pf → off < cfgAt) ∧ n < 256 :=
  ⟨at_ .lockout, .pf, cfgAt - 4, 255, rfl, fun _ => by decide, by decide⟩

theorem hyps_severeAndGrave :
    classOf (blockNo Fd.SYS_CAUSE_FW_STAGED.off) Fd.SYS_CAUSE_FW_STAGED.lo < 3 ∧
    classOf (blockNo Fd.PWR_CAUSE_BROWNOUT.off) Fd.PWR_CAUSE_BROWNOUT.lo = 3 ∧ classOf (blockNo Reg.FLT_CAUSE) 7 = 4 ∧
    (∃ e : Engine, e.sys.mode ∉ [.off, .lockout, .cooldown, .boot] ∧ e.thm.coolPend = none ∧ e.flt.graveValid = false) :=
  ⟨by decide, by decide, by decide, (at_ .bypass).eng, by decide +kernel, rfl, rfl⟩

theorem hyps_reservedKept :
    (∃ (r : RegInfo) (e : Engine), e.sys.mode ≠ .test ∧ rsvChange r (rd e 0) 0 = 0) ∧
    (∃ (r : RegInfo) (e : Engine), rsvChange r (rd e 0) 0x80000000 ≠ 0 ∧ e.sys.mode ≠ .test) ∧
    (∃ (r : RegInfo) (e : Engine), r.isW1 = false ∧ e.sys.mode = .test ∧ r.rsv.testBit 31 = true) :=
  ⟨⟨{ base := 0 }, (at_ .bypass).eng, by decide +kernel, by decide +kernel⟩,
    ⟨{ base := 0, rw := 1, rsv := 0x80000000 }, (put .bypass (wr 0 0)).eng, by decide +kernel, by decide +kernel⟩,
    ⟨{ base := 0, rw := 1, rsv := 0x80000000 }, (at_ .test).eng, by decide, rfl, by decide⟩⟩

theorem hyps_historyPushesOut :
    (∃ (r h : Rec) (l : List Rec) (e : Engine), e.flt.hist = h :: l ∧ (h :: l).length = 32 ∧
      r = mkRec e false (blockNo Fd.SYS_CAUSE_FW_STAGED.off) 0 Fd.SYS_CAUSE_FW_STAGED.lo
        (classOf (blockNo Fd.SYS_CAUSE_FW_STAGED.off) Fd.SYS_CAUSE_FW_STAGED.lo) 0 ∧
      min (rdF e Fd.FLT_CTL_LOG_MIN) 4 ≤ r.cls ∧ on e Fd.FLT_CTL_COALESCE_EN = false ∧
      ¬(Fd.SYS_CAUSE_FW_STAGED.off = Reg.FLT_CAUSE ∧ Fd.SYS_CAUSE_FW_STAGED.lo = 1) ∧ h.clk ≠ r.clk) :=
  ⟨_, { clk := 5 }, List.replicate 31 {}, (put .bypass (fun e => wr Reg.FLT_CTL 0 { e with flt := { e.flt with hist := { clk := 5 } :: List.replicate 31 {} } })).eng,
    rfl, rfl, rfl, by decide +kernel, by decide +kernel, by decide +kernel, by decide +kernel⟩

theorem hyps_overpowerRuns :
    ∃ (w : Nat) (e : Engine), bit w 31 = false ∧ bit w 30 = true ∧ bit w 27 = false ∧ Tbl.get (fun _ => 0) e.flt.runs 4095 = 199 ∧
      e.flt.hist.length < 32 :=
  ⟨0x40000000, (put .bypass (fun e => { e with flt := { e.flt with runs := [(4095, 199)] } })).eng, by decide, by decide, by decide,
    by decide +kernel, by decide +kernel⟩

theorem hyps_completionFreesTag :
    (∃ (cx : Cx) (e : Engine), e.sys.mode ≠ .lockout ∧ (e.hop cx.hopper).enabled = false ∧ isRing cx.hopper = false) ∧
    (∃ (cx : Cx) (e : Engine), e.sys.mode ≠ .lockout ∧ isRing cx.hopper = true) ∧
    (∃ (cx : Cx) (e : Engine) (j : Infl), e.sys.mode ≠ .lockout ∧ j ∈ (complete cx 0 0 e).cmd.inflight ∧ j.cx = cx) ∧
    (∃ e : Engine, e.sys.mode = .lockout) :=
  ⟨⟨c, (put .bypass (fun e => { e with cmd := { e.cmd with hoppers := [(0, {})] } })).eng, by decide +kernel, by decide +kernel, by decide +kernel⟩, ⟨⟨0, 4095, 0⟩, (at_ .bypass).eng, by decide +kernel, by decide⟩,
    ⟨c, flying.eng, { cx := c, opcode := 1, done := true }, by decide +kernel, by decide +kernel, rfl⟩, ⟨(at_ .lockout).eng, rfl⟩⟩

theorem hyps_checksInOrder :
    (∃ e : Engine, Clear c { nopInfo with modes := execModes } [] e) ∧ (∃ e : Engine, executing e c = false) :=
  ⟨⟨(at_ .bypass).eng, clear_of (by decide +kernel)⟩, ⟨(at_ .off).eng, by decide +kernel⟩⟩

theorem hyps_fieldPositions : (∃ e : Engine, e.sch.stream = false) ∧ (∃ e : Engine, e.sch.stream = true) :=
  ⟨⟨(at_ .schedule).eng, rfl⟩, ⟨(put .schedule (fun e => { e with sch := { e.sch with stream := true } })).eng, rfl⟩⟩

/-- The indices of the statements about the tile map, the record index and the survey rounds, at the ends of their ranges. -/
theorem hyps_indices :
    (∃ t k ap : Nat, t < 256 ∧ (tileAps t)[k]? = some ap) ∧ (∃ a b, a < 4100 ∧ b < 4100 ∧ a ≠ b) ∧
    (∃ i, i < 16805900) ∧ (∃ i, 16805900 ≤ i ∧ i < numRecords) ∧
    (∃ k p, k < 4091 ∧ ordinary p = true) ∧ (∃ a b, ordinary a = true ∧ ordinary b = true ∧ a ≠ b) ∧
    (∃ base E F : Nat, boundaryTick base E = base + 10 * 1 ∧ E ≤ F) ∧
    (∃ (e : Engine) (off o : Nat), off ≠ o ∧ raw e off = copy1 e off) :=
  ⟨⟨255, 16, 4099, by decide, by decide +kernel⟩, ⟨4098, 4099, by decide, by decide, by decide⟩, ⟨16805899, by decide⟩,
    ⟨16809999, by decide, by decide⟩, ⟨4090, 4093, by decide, by decide⟩, ⟨2, 4093, by decide, by decide, by decide⟩,
    ⟨0, 167772160, 167772160, by decide, le_refl _⟩, ⟨(at_ .bypass).eng, 0, 4, by decide, rfl⟩⟩

/-- Within the statements' clauses: a mailbox that a register write has made busy, a MAJOR event's park that may go and one that is held,
and a run of BOOT that comes to its last stage. -/
theorem hyps_within :
    (∃ s : State, mbxOpen s.eng .pf = true ∧ (s.eng.mbxOf 0).busy = true) ∧
    (∃ (k : MajorPark) (s : State), s.eng.flt.parks.find? (fun k => k.job.isNone) = some k ∧ k.live s.eng = true ∧ parkHeld s.eng k = false) ∧
    (∃ (k : MajorPark) (s : State), s.eng.flt.parks.find? (fun k => k.job.isNone) = some k ∧ k.live s.eng = true ∧ parkHeld s.eng k = true) ∧
    (∃ s : State, booting s.eng = true ∧ failsIn 7 5 = true ∧ s.eng.sys.stage ≤ 7) :=
  ⟨⟨put .bypass (fun e => { e with hif := { e.hif with up := true, numVfs := 4 }, mbx := [(0, { busy := true })] }), by decide +kernel, by decide +kernel⟩,
    ⟨⟨[5], 0, none⟩, put .service (fun e => { e with
        flt := { e.flt with parks := [⟨[5], 0, none⟩] }
        bkp := { e.bkp with zero := false } }), by decide +kernel, by decide +kernel,
      by decide +kernel⟩,
    ⟨⟨[5], 1, none⟩, put .service (fun e => { e with
        flt := { e.flt with parks := [⟨[5], 1, none⟩] }
        bkp := { e.bkp with zero := false }
        cmd := { e.cmd with inflight := [{ cx := c, opcode := 0x0201, ports := [5] }] } }), by decide +kernel, by decide +kernel, by decide +kernel⟩,
    ⟨at_ .boot, by decide +kernel, by decide +kernel, by decide +kernel⟩⟩

end Sys2Proof.Tests
end

section
/-! The statement of the guarded register writes (spec/14_registers.md, R310-R312): what `GUARDED_WRITE` comes to, when it is discarded
and for which reason, and what a discarded and an applied write leave of the latch and of the registers. -/

open Sys2Proof

namespace Sys2Proof.Machine

-- the reason ------------------------------------------------------------------------------------------------------------------------

/-- The latch `l` of a requester gives the reason `why` to discard a write of `v` to the guarded register `off` at `clk`, as
the first half of an 8-byte write or not (R312). -/
def Discards (l : Option Latch) (off : Nat) (v : Word) (clk : Nat) (eight : Bool) (why : Nat) : Prop :=
  (eight = true ∧ why = 5) ∨ (eight = false ∧ l = none ∧ why = 1) ∨
    (eight = false ∧ ∃ x, l = some x ∧
      ((x.main ≠ off ∧ why = 3) ∨ (x.main = off ∧ x.at_ + 1000000 < clk ∧ why = 4) ∨
       (x.main = off ∧ clk ≤ x.at_ + 1000000 ∧ x.word ≠ ~~~ v ∧ why = 2)))

theorem wd_ne_complement {v w : Word} (h : w ≠ ~~~ v) : wd v.toNat ≠ ~~~ w := by
  intro hv
  have hvw : v = ~~~ w := by simpa [wd] using hv
  exact h (by rw [hvw, BitVec.not_not])

/-- The model's reason is the one that R312 names, and it is never 0. -/
theorem Discards.guardReason_eq {l : Option Latch} {off : Nat} {v : Word} {clk why : Nat} {eight : Bool}
    (h : Discards l off v clk eight why) : guardReason l off v.toNat clk eight = why ∧ why ≠ 0 := by
  obtain ⟨rfl, rfl⟩ | ⟨rfl, rfl, rfl⟩ | ⟨rfl, x, rfl, hx⟩ := h
  · exact ⟨rfl, by decide⟩
  · exact ⟨rfl, by decide⟩
  · obtain ⟨hm, rfl⟩ | ⟨hm, ht, rfl⟩ | ⟨hm, ht, hw, rfl⟩ := hx
    · simp [guardReason, hm]
    · simp [guardReason, hm, ht]
    · simp [guardReason, hm, Nat.not_lt.mpr ht, wd_ne_complement hw]

-- the row ---------------------------------------------------------------------------------------------------------------------------

/-- A write to a guarded main address that reaches the register fabric is `guardedWrite`. -/
theorem Reaches.exec_guardedWrite {rq : Rq} {off : Nat} {v : Word} {r : RegInfo} {eight : Bool} {s : State} (h : Reaches rq off s.eng)
    (hg : guardMain off = none) (hr : regInfo off = some r) (hk : r.kind = .guarded) (hro : r.readOnly = false) :
    exec (.guardedWrite rq off v eight) s = .next (s.to (guardedWrite rq r off v.toNat eight s.start)) := by
  have hb : busWrite rq off v eight true s.start = guardedWrite rq r off v.toNat eight s.start := by
    rw [Reaches.go (e := s.start) h]
    simp [barWrite, hg, hr, hk, hro]
  exact exec_run rfl hb

/-- A write with a reason to discard it uses its requester's latch up and is flagged. -/
theorem guardedWrite_of_reason {rq : Rq} {r : RegInfo} {off v why : Nat} {eight : Bool} {e : Engine}
    (h : guardReason (latchOf e (rqNum rq)) off v e.clk eight = why) (h0 : why ≠ 0) :
    guardedWrite rq r off v eight e = guardErr why (rqNum rq) off (unlatched rq e) := by
  subst h
  exact if_pos h0

-- the latch -------------------------------------------------------------------------------------------------------------------------

@[simp] theorem latchOf_unlatched (rq : Rq) (e : Engine) : latchOf (unlatched rq e) (rqNum rq) = none := latchOf_del e _

@[simp] theorem latchOf_written (off : Nat) (v : Word) (e : Engine) (k : Nat) : latchOf (written off v e).1 k = latchOf e k := by
  obtain h | h := written_guards off v e
  · exact latchOf_congr h k
  · rw [h]

@[simp] theorem latchOf_guardedApply (rq : Rq) (off v : Nat) (e : Engine) (k : Nat) :
    latchOf (guardedApply rq off v e) k = latchOf e k :=
  latchOf_congr ((moves_guardedApply).part .guards rfl) k

@[simp] theorem latchOf_guardErr (why m off : Nat) (e : Engine) (k : Nat) : latchOf (guardErr why m off e) k = latchOf e k :=
  latchOf_congr ((moves_guardErr).part .guards rfl) k

-- what a discarded write leaves -----------------------------------------------------------------------------------------------------

/-- The flag GUARD_ERR, its log and count, and the fault block's own registers: all that a discarded write may change. -/
def guardErrRegs : List Nat :=
  [Reg.REG_CAUSE, Reg.REG_GUARD_CNT, Reg.REG_GUARD_LAST, Reg.FLT_CAUSE, Reg.FLT_EVENT_CNT, Reg.FLT_HIST_OVF_CNT]

theorem rd_guardErr_ne (why k off : Nat) (e : Engine) {o : Nat} (h : o ∉ guardErrRegs) : rd (guardErr why k off e) o = rd e o := by
  simp only [guardErrRegs, List.mem_cons, List.not_mem_nil, or_false, not_or] at h
  obtain ⟨hcause, hcnt, hlast, hfault⟩ := h
  have hf : o ∉ faultRegs := by simpa [faultRegs] using hfault
  rw [guardErr, rd_wr_ne _ _ _ _ (Ne.symm hlast), rd_inc_ne _ _ _ (Ne.symm hcnt), rd_note_ne _ _ _ hf (Ne.symm hcause)]

theorem rd_unlatched_start (rq : Rq) (s : State) (o : Nat) : rd (unlatched rq s.start) o = rd s.eng o := rd_congr rfl rfl rfl o

theorem unlatched_start_unchanged (rq : Rq) (s : State) : Unchanged [.guards, .out] s.eng (unlatched rq s.start) := by
  intro p hp
  cases p
  case guards => exact absurd (by decide) hp
  case out => exact absurd (by decide) hp
  all_goals rfl

/-- What a discarded write to `off` for the reason `why` does between `e` and `t` (R312). -/
structure Discarded (rq : Rq) (off why : Nat) (e t : Engine) : Prop where
  latch : latchOf t (rqNum rq) = none
  regs : ∀ o, o ∉ guardErrRegs → rd t o = rd e o
  flag : on t Fd.REG_CAUSE_GUARD_ERR = true
  count : rd t Reg.REG_GUARD_CNT = (rd e Reg.REG_GUARD_CNT + 1) % 4294967296
  last : rd t Reg.REG_GUARD_LAST = (why <<< 28 + (rqNum rq % 16) <<< 24 + off % 65536) % 4294967296
  parts : Unchanged [.regs, .trip1, .trip2, .reach, .guards, .flt, .hif, .out] e t

theorem discarded_guardErr (rq : Rq) (off why : Nat) (s : State) :
    Discarded rq off why s.eng (guardErr why (rqNum rq) off (unlatched rq s.start)) := by
  obtain ⟨-, -, hflag, hcount, hlast⟩ := guardErr_reads why (rqNum rq) off (unlatched rq s.start)
  exact {
    latch := by rw [latchOf_guardErr, latchOf_unlatched]
    regs := fun o ho => by rw [rd_guardErr_ne _ _ _ _ ho, rd_unlatched_start]
    flag := hflag
    count := by rw [hcount, rd_unlatched_start]
    last := hlast
    parts := ((unlatched_start_unchanged rq s).mono (by decide)).trans ((moves_guardErr).unchanged _ (by decide)) }

-- the statement ---------------------------------------------------------------------------------------------------------------------

/-- Settles O54: an armed latch gives no reason to discard the write, so it is applied; each of R312's reasons leads to `guardErr`
on the engine whose latch is used up, and to nothing else. -/
theorem guardDecides : Obligations.guardDecides := by
  intro s rq off v r eight hreach hmain hr hk hro hlock
  refine ⟨?applied, ?discarded⟩
  case applied =>
    rintro p rfl harmed rfl
    have hb := busDword_guarded (e := s.start) hreach harmed rfl hmain hr hk hro hlock
    exact ⟨exec_run rfl hb, by simp⟩
  case discarded =>
    intro why hwhy
    obtain ⟨heq, h0⟩ := Discards.guardReason_eq (l := latchOf s.eng (rqNum rq)) hwhy
    have hexec : exec (.guardedWrite rq off v eight) s = .next (s.to (guardErr why (rqNum rq) off (unlatched rq s.start))) := by
      rw [hreach.exec_guardedWrite hmain hr hk hro, guardedWrite_of_reason (e := s.start) heq h0]
    have hd := discarded_guardErr rq off why s
    exact ⟨_, hexec, rfl, hd.latch, hd.regs off (guarded_bad off r hr hk), hd.regs, hd.flag, hd.count, hd.last, hd.parts⟩

end Sys2Proof.Machine
end

section
/-! The statement of the OVERPOWER run counts (spec/15_faults_attention.md, R403): what a port's tap sample makes of the counts, at which
sample the event is raised, and the live bit. -/

open Sys2Proof

namespace Sys2Proof.Machine

-- the run counts --------------------------------------------------------------------------------------------------------------------

/-- Port `p`'s run count. -/
def runOf (p : Nat) (e : Engine) : Nat := Tbl.get (fun _ => 0) e.flt.runs p

/-- The run count `n` of a port after its tap sample `w`: one more after OVR in range H, zero after a valid sample without OVR (R403). -/
def runAfter (n w : Nat) : Nat :=
  if bit w 31 = false ∧ bit w 30 = true ∧ bit w 27 = false then n + 1
  else if bit w 31 = false ∧ bit w 30 = false ∧ bit w 28 = false then 0 else n

@[simp] theorem runOf_overpower_same (p w : Nat) (e : Engine) : runOf p (overpower p w e) = runAfter (runOf p e) w := by
  unfold runOf runAfter
  rw [overpower_step]
  split
  · exact Tbl.get_put_same _ _ _ _
  · split
    · exact Tbl.get_put_same _ _ _ _
    · rfl

theorem runOf_overpower_ne {p q : Nat} (w : Nat) (e : Engine) (h : q ≠ p) : runOf q (overpower p w e) = runOf q e := by
  unfold runOf
  rw [overpower_step]
  split
  · exact Tbl.get_put_ne _ _ _ _ _ h.symm
  · split
    · exact Tbl.get_put_ne _ _ _ _ _ h.symm
    · rfl

/-- Over a run of samples, a port's count goes sample by sample. -/
theorem runOf_overpowers_same (p : Nat) (ws : List Nat) (e : Engine) :
    runOf p (ws.foldl (fun e w => overpower p w e) e) = ws.foldl runAfter (runOf p e) :=
  (List.foldl_hom (runOf p) fun e w => (runOf_overpower_same p w e).symm).symm

theorem runOf_overpowers_ne {p q : Nat} (ws : List Nat) (e : Engine) (h : q ≠ p) :
    runOf q (ws.foldl (fun e w => overpower p w e) e) = runOf q e :=
  calc runOf q (ws.foldl (fun e w => overpower p w e) e)
      = ws.foldl (fun n _ => n) (runOf q e) := (List.foldl_hom (runOf q) fun e w => (runOf_overpower_ne w e h).symm).symm
    _ = runOf q e := List.foldl_fixed ws

-- the event -------------------------------------------------------------------------------------------------------------------------

/-- The sample brings the port's count to 200. -/
def Reaches200 (p w : Nat) (e : Engine) : Prop :=
  bit w 31 = false ∧ bit w 30 = true ∧ bit w 27 = false ∧ runOf p e = 199

/-- The engine with port `p`'s run count at `n`. -/
def setRun (p n : Nat) (e : Engine) : Engine := { e with flt := { e.flt with runs := Tbl.put (fun _ => 0) e.flt.runs p n } }

@[simp] theorem rd_setRun (p n : Nat) (e : Engine) (o : Nat) : rd (setRun p n e) o = rd e o := rd_setFlt _ _ _

/-- A sample that does not bring the count to 200 does nothing but set the count, if that. -/
theorem overpower_of_not_reaches {p w : Nat} {e : Engine} (h : ¬ Reaches200 p w e) :
    overpower p w e = e ∨ ∃ n, overpower p w e = setRun p n e := by
  unfold overpower
  dsimp only
  split
  · rename_i hw
    refine Or.inr ⟨_, if_neg fun hn => h ?_⟩
    have hn : runOf p e = 199 := Nat.succ.inj hn
    simpa [Reaches200, hn] using hw
  · split
    · exact Or.inr ⟨0, rfl⟩
    · exact Or.inl rfl

/-- The sample that brings the count to 200 does to the registers what the event OVERPOWER does to them: the park it asks for is
no register. -/
theorem rd_overpower_of_reaches {p w : Nat} {e : Engine} (h : Reaches200 p w e) (o : Nat) :
    rd (overpower p w e) o = rd (noteD Fd.FLT_CAUSE_OVERPOWER 0 p (setRun p 200 e)) o := by
  obtain ⟨h31, h30, h27, hn⟩ := h
  have hn : Tbl.get (fun _ => 0) e.flt.runs p = 199 := hn
  unfold overpower
  dsimp only
  rw [if_pos (by simp [h31, h30, h27]), hn, if_pos rfl, raise_overpower]
  split
  · exact rd_wantPark _ _ _
  · rfl

/-- An event's own sticky bit reads 1 after it, in FLT_CAUSE too. -/
theorem bit_noteD_own {c : Fld} (i d : Nat) (e : Engine) (hl : c.lo < 32) (h1 : c.off ≠ Reg.FLT_EVENT_CNT)
    (h2 : c.off ≠ Reg.FLT_HIST_OVF_CNT) : bit (rd (noteD c i d e) c.off) c.lo = true := by
  refine bit_noteRec _ _ _ _ _ hl (bit_logEvent _ _ _ _ hl h1 h2 ?_)
  rw [rd_inc_ne _ _ _ h1.symm, rd_setCause_same]
  exact bit_or _ _ hl

/-- A one-bit field is on where its bit is 1. -/
theorem on_of_bit {e : Engine} {f : Fld} (hf : f.hi = f.lo) (h : bit (rd e f.off) f.lo = true) : on e f = true := by
  rw [on, rdF, bits, hf, Nat.add_sub_cancel_left, pow_one]
  exact h

-- the live bit ----------------------------------------------------------------------------------------------------------------------

theorem bit_liveNow_overpower (e : Engine) :
    bit (liveNow e Reg.FLT_CAUSE) 19 = e.flt.runs.any (fun x => decide (200 ≤ x.2)) := liveFlt _ _ _ _ _

-- the statement ---------------------------------------------------------------------------------------------------------------------

/-- Settles O53: reading a port's count turns each sample into `runAfter`, the only sample that does more than set the count is the
one that brings it to 200, and that one is the event OVERPOWER. -/
theorem overpowerRuns : Obligations.overpowerRuns := by
  refine ⟨?counts, ?silent, ?raised, ?live⟩
  case counts => exact fun p ws e => ⟨runOf_overpowers_same p ws e, fun q hq => runOf_overpowers_ne ws e hq⟩
  case silent =>
    intro p w e h o
    obtain h | ⟨n, h⟩ := overpower_of_not_reaches (p := p) h
    · rw [h]
    · rw [h, rd_setRun]
  case raised =>
    intro p w e h31 h30 h27 hn
    have hrd := rd_overpower_of_reaches (p := p) (w := w) (e := e) ⟨h31, h30, h27, hn⟩
    refine ⟨on_of_bit rfl ?_, fun hroom => ?_⟩
    · rw [hrd]
      exact bit_noteD_own 0 p _ (by decide) (by decide) (by decide)
    · have hcls : classOf (blockNo Fd.FLT_CAUSE_OVERPOWER.off) Fd.FLT_CAUSE_OVERPOWER.lo < 3 := by decide
      have hcount := noteD_count (inst := 0) (detail := p) (e := setRun p 200 e) hcls hroom (by decide)
      rw [hrd, hcount, rd_setRun]
  case live =>
    intro e
    rw [bit_liveNow_overpower]
    simp

end Sys2Proof.Machine
end

section
/-! The statements about the whole machine: every step's invariant, what every command leaves alone, the queue, an empty queue, and reset. -/

open Sys2Proof

namespace Sys2Proof.Machine

/-- Settles O5: the invariant is four of the facts that every effect keeps. -/
theorem invKept : Obligations.invKept := by
  intro s t ⟨hmem, hregs, hhist, htsq⟩ hstep
  have hkeeps := step_keeps hstep
  exact ⟨hkeeps.mem hmem, hkeeps.regs hregs, hkeeps.hist hhist, hkeeps.tsq htsq⟩

/-- Settles O6: the band fuse and the wear counts are among what every effect keeps. -/
theorem bandAndWearKept : Obligations.bandAndWearKept := by
  intro s t hstep
  have hkeeps := step_keeps hstep
  exact ⟨hkeeps.band, hkeeps.wear⟩

theorem start_unchanged (s : State) : Unchanged [.out] s.eng s.start := by
  intro p hp
  cases p
  case out => exact absurd (by decide) hp
  all_goals rfl

theorem out_mem_touches (c : Instr) : Part.out ∈ touches c := by
  cases c <;> exact List.contains_iff_mem.mp rfl

/-- Settles O7: a command's effect lies within the mask of the parts that `touches` names for it. -/
theorem everyCommandKeepsTheRest : Obligations.everyCommandKeepsTheRest := by
  intro c s
  obtain ⟨t, hexec, hpending, hmoves⟩ := (exec_acts c s).next
  refine ⟨t, hexec, hpending, fun p hp => ?_⟩
  have hstart : same p s.eng s.start := start_unchanged s p fun hout => hp (by
    rw [List.mem_singleton.mp hout]; exact out_mem_touches c)
  exact hstart.trans (hmoves.kept p hp)

/-- Settles O1: `step` takes the queue apart, and `exec` answers a next state with the queue it was given. -/
theorem stepTakesFront : Obligations.stepTakesFront := by
  rintro c l s hs
  have hstep : step s = exec c { s with pending := l } := by
    conv_lhs => rw [show s = { s with pending := c :: l } by rw [← hs]]
    exact step_cons c l s
  obtain ⟨t, hexec, hpending, -⟩ := exec_next c { s with pending := l }
  exact ⟨hstep, t, hstep.trans hexec, hpending⟩

/-- An engine that has lost its power within the cycle of 10 ns in which FAULT_CLEAR left SAFE: the command is still to complete. -/
def unpoweredLeavingSafe : State :=
  { eng := { sys := { mode := .off, leaving := some (⟨0, 0, 0⟩, 0) } } }

theorem leaveEnd_leaving (e : Engine) : (leaveEnd e).sys.leaving = none := by
  unfold leaveEnd
  split
  · assumption
  · rw [complete_sys]

/-- Refutes O2: a tick ends the cycle of 10 ns in which FAULT_CLEAR left SAFE and completes the command, whether or not the engine
has power; so without power it does more than let time pass. -/
theorem not_emptyQueueTicks : ¬ Obligations.emptyQueueTicks := by
  rintro ⟨-, hpass⟩
  have hstep : step unpoweredLeavingSafe = .next (unpoweredLeavingSafe.to (pass 10 unpoweredLeavingSafe.start)) :=
    hpass unpoweredLeavingSafe rfl rfl
  have htick : tick unpoweredLeavingSafe.start = pass 10 unpoweredLeavingSafe.start := by
    injection hstep with hstep
    exact congrArg State.eng hstep
  have hoff : unpowered (leaveEnd (pass 10 unpoweredLeavingSafe.start)) = true := rfl
  have hleave : tick unpoweredLeavingSafe.start = leaveEnd (pass 10 unpoweredLeavingSafe.start) := by
    rw [tick, if_pos hoff]
  have hnone := leaveEnd_leaving (pass 10 unpoweredLeavingSafe.start)
  rw [← hleave, htick] at hnone
  exact absurd hnone (by decide)

/-- Settles O3: a register that nothing has written reads its default, the reset column, in all three copies. -/
theorem resetHolds : Obligations.resetHolds := by
  have hcopy : ∀ off, wd (raw State.reset.eng off) = resetVal off := fun off => by simp [wd, raw, State.reset, Tbl.get]
  have h1 : ∀ off, copy1 State.reset.eng off = raw State.reset.eng off := fun off => congrArg BitVec.toNat (hcopy off)
  have h2 : ∀ off, copy2 State.reset.eng off = raw State.reset.eng off := fun off => congrArg BitVec.toNat (hcopy off)
  have hread : ∀ off, rd State.reset.eng off = (resetVal off).toNat := fun off => by
    rw [rd, h1, h2, vote, majority_self]
    rfl
  exact ⟨rfl, hread, fun off => ⟨(h1 off).symm, (h2 off).symm⟩, fun _ => rfl, rfl, rfl, rfl, rfl, rfl⟩

/-- Settles O4: at reset every list that the invariant bounds is empty. -/
theorem invAtReset : Obligations.invAtReset := by
  unfold Obligations.invAtReset Inv
  decide

end Sys2Proof.Machine
end

section
/-! The statements about the grid of apertures, the record indices, the rounds of a survey, the positions of a schedule and the three copies of a register (R3, R37, R63, R83, R191, R192, R313). -/

open Sys2Proof

namespace Sys2Proof.Machine

-- tiles -------------------------------------------------------------------

/-- The station aperture of a corner tile, in its slot 16, and no other (R3). -/
theorem stationSlot_iff (t k ap : Nat) :
    (if t = 0 then [4096] else if t = 15 then [4097] else if t = 240 then [4098] else if t = 255 then [4099] else [])[k]? = some ap ↔
      k = 0 ∧ (t = 0 ∧ ap = 4096 ∨ t = 15 ∧ ap = 4097 ∨ t = 240 ∧ ap = 4098 ∨ t = 255 ∧ ap = 4099) := by
  have hone : ∀ x : Nat, [x][k]? = some ap ↔ k = 0 ∧ ap = x := fun x => by
    rw [List.getElem?_singleton]
    split <;> simp_all [eq_comm]
  split
  · rw [hone]; omega
  split
  · rw [hone]; omega
  split
  · rw [hone]; omega
  split
  · rw [hone]; omega
  · simp; omega

/-- What a tile's list names: the ports of its block in slots 0 to 15, and a corner tile's station aperture in slot 16. -/
theorem tileAps_getElem?_iff (t k ap : Nat) : (tileAps t)[k]? = some ap ↔
    (k < 16 ∧ ap = 64 * (4 * (t / 16) + k / 4) + 4 * (t % 16) + k % 4) ∨
    (k = 16 ∧ (t = 0 ∧ ap = 4096 ∨ t = 15 ∧ ap = 4097 ∨ t = 240 ∧ ap = 4098 ∨ t = 255 ∧ ap = 4099)) := by
  unfold tileAps
  by_cases hk : k < 16
  · rw [List.getElem?_append_left (by simpa using hk)]
    simp only [List.getElem?_map, List.getElem?_range hk, Option.map_some, Option.some.injEq]
    omega
  · rw [List.getElem?_append_right (by simpa using hk), stationSlot_iff]
    simp only [List.length_map, List.length_range]
    omega

/-- Settles O45: the tile and the slot of an aperture are the digits of its row and column in the grid. -/
theorem tileMap : Obligations.tileMap := by
  refine ⟨?block, ?slot, ?list, ?length⟩
  case block =>
    intro t p ht hp
    rw [tileOf, if_pos hp]
    omega
  case slot =>
    intro ap hap
    rw [tileAps_getElem?_iff]
    unfold tileOf slotOf
    split
    · omega
    · split_ifs <;> omega
  case list =>
    intro t k ap ht h
    rw [tileAps_getElem?_iff] at h
    unfold tileOf slotOf
    obtain ⟨hk, rfl⟩ | ⟨rfl, h⟩ := h
    · rw [if_pos (by omega), if_pos (by omega)]
      omega
    · obtain ⟨rfl, rfl⟩ | ⟨rfl, rfl⟩ | ⟨rfl, rfl⟩ | ⟨rfl, rfl⟩ := h <;> decide
  case length =>
    intro t _
    rw [tileAps, List.length_append, List.length_map, List.length_range]
    split_ifs <;> simp_all

-- record indices -------------------------------------------------------------------

/-- The index of a direction and its two apertures determine each other: the index is that of row `a` of a table of 4,099 columns,
the column of `a` itself left out (R63). -/
theorem aimIndex_eq_iff {a b i : Nat} (ha : a < 4100) (hb : b < 4100) (hab : a ≠ b) :
    aimIndex a b = i ↔ i / 4099 = a ∧ (if b < a then i % 4099 = b else i % 4099 + 1 = b) := by
  unfold aimIndex
  split <;> omega

/-- Settles O46. -/
theorem recordIndex : Obligations.recordIndex := by
  refine ⟨?source, ?parkSource, ?inj, ?onto, ?parkOnto⟩
  case source =>
    intro a b ha hb hab
    obtain ⟨hrow, -⟩ := (aimIndex_eq_iff ha hb hab).mp rfl
    have hlt : aimIndex a b < 16805900 := by omega
    exact ⟨hlt, by rw [indexSource, if_pos hlt, hrow]⟩
  case parkSource =>
    intro a ha
    unfold indexSource parkIndex numRecords
    rw [if_neg (by omega)]
    omega
  case inj =>
    intro a b c d ha hb hc hd hab hcd h
    obtain ⟨hrow, hcol⟩ := (aimIndex_eq_iff ha hb hab).mp h
    obtain ⟨hrow', hcol'⟩ := (aimIndex_eq_iff hc hd hcd).mp rfl
    split at hcol <;> split at hcol' <;> omega
  case onto =>
    intro i hi
    by_cases hcol : i % 4099 < i / 4099
    · exact ⟨i / 4099, i % 4099, by omega, by omega, by omega, (aimIndex_eq_iff (by omega) (by omega) (by omega)).mpr ⟨rfl, by rw [if_pos hcol]⟩⟩
    · exact ⟨i / 4099, i % 4099 + 1, by omega, by omega, by omega,
        (aimIndex_eq_iff (by omega) (by omega) (by omega)).mpr ⟨rfl, by rw [if_neg (by omega)]⟩⟩
  case parkOnto =>
    intro i h1 h2
    unfold numRecords at h2
    exact ⟨i - 16805900, by omega, by unfold parkIndex; omega⟩

-- survey rounds -------------------------------------------------------------------

/-- Two ports below 4093 that are equally far from a round's centre, on either side of it, are a circuit of the round: the converse
of `roundPairs_sum`. -/
theorem mem_roundPairs_of_sum {k a b : Nat} (hk : k < 4091) (ha : 2 ≤ a ∧ a < 4093) (hb : 2 ≤ b ∧ b < 4093) (hab : a ≠ b)
    (hsum : (a + b) % 4091 = (2 * k + 4) % 4091) : (a, b) ∈ roundPairs k ∨ (b, a) ∈ roundPairs k := by
  have hdiff : a + b = 2 * k + 4 ∨ a + b = 2 * k + 4 + 4091 ∨ a + b + 4091 = 2 * k + 4 := by omega
  rw [mem_roundPairs, mem_roundPairs]
  by_cases hnear : (a + 4091 - (k + 2)) % 4091 ≤ 2045
  · refine Or.inl (Or.inr ⟨(a + 4091 - (k + 2)) % 4091, ?_⟩)
    obtain h | h | h := hdiff <;> omega
  · refine Or.inr (Or.inr ⟨(b + 4091 - (k + 2)) % 4091, ?_⟩)
    obtain h | h | h := hdiff <;> omega

/-- The port that `p` meets in round `k`: 4093 meets the centre, any other port the one as far from the centre on its other side. -/
def partnerIn (k p : Nat) : Nat :=
  if p = 4093 then k + 2 else if p = k + 2 then 4093 else (2 * k + 8184 - p) % 4091 + 2

/-- Only the centre is its own mirror image. -/
theorem mirror_ne {k p : Nat} (hk : k < 4091) (hp : 2 ≤ p ∧ p < 4093) (hc : p ≠ k + 2) : p ≠ (2 * k + 8184 - p) % 4091 + 2 := by
  intro h
  obtain ⟨q, hq, hle⟩ : ∃ q, 2 * k + 8186 = 4091 * q + 2 * p ∧ q ≤ 3 := ⟨(2 * k + 8184 - p) / 4091, by omega, by omega⟩
  clear h
  interval_cases q <;> omega

theorem partnerIn_mem {k p : Nat} (hk : k < 4091) (hp : ordinary p = true) :
    (p, partnerIn k p) ∈ roundPairs k ∨ (partnerIn k p, p) ∈ roundPairs k := by
  rw [ordinary_iff] at hp
  unfold partnerIn
  split
  · exact Or.inl (mem_roundPairs.mpr (Or.inl ⟨by assumption, rfl⟩))
  · split
    · exact Or.inr (mem_roundPairs.mpr (Or.inl ⟨rfl, by assumption⟩))
    · exact mem_roundPairs_of_sum hk (by omega) (by omega) (mirror_ne hk (by omega) ‹_›) (by omega)

theorem mem_roundPairs_4093 {k b : Nat} (hk : k < 4091) : (4093, b) ∈ roundPairs k ∨ (b, 4093) ∈ roundPairs k ↔ b = k + 2 := by
  rw [mem_roundPairs, mem_roundPairs]
  constructor
  · rintro ((⟨-, h⟩ | ⟨j, h⟩) | (⟨h, h'⟩ | ⟨j, h⟩)) <;> omega
  · exact fun h => Or.inl (Or.inl ⟨rfl, h⟩)

/-- Settles O47. -/
theorem surveyRounds : Obligations.surveyRounds := by
  refine ⟨?circuits, ?everyPort, ?once⟩
  case circuits =>
    intro k hk
    refine ⟨by simp [roundPairs, span], fun p hp => ?_⟩
    obtain ⟨a, b⟩ := p
    simp only [ordinary_iff]
    obtain ⟨rfl, rfl⟩ | ⟨j, hj1, hj2, rfl, rfl⟩ := mem_roundPairs.mp hp <;> omega
  case everyPort => exact fun k p hk hp => ⟨partnerIn k p, partnerIn_mem hk hp⟩
  case once =>
    intro a b ha hb hab
    rw [ordinary_iff] at ha hb
    by_cases ha' : a = 4093
    · subst ha'
      exact ⟨b - 2, by omega, (mem_roundPairs_4093 (by omega)).mpr (by omega), fun j hj h => by
        have := (mem_roundPairs_4093 hj).mp h
        omega⟩
    by_cases hb' : b = 4093
    · subst hb'
      exact ⟨a - 2, by omega, ((mem_roundPairs_4093 (by omega)).mpr (by omega)).symm, fun j hj h => by
        have := (mem_roundPairs_4093 hj).mp h.symm
        omega⟩
    have hsum : ∃ k, k < 4091 ∧ (a + b) % 4091 = (2 * k + 4) % 4091 :=
      ⟨(a + b + 8178 + 4091 * ((a + b) % 2)) / 2 % 4091, by omega, by omega⟩
    obtain ⟨k, hk, hsum⟩ := hsum
    refine ⟨k, hk, mem_roundPairs_of_sum hk (by omega) (by omega) hab hsum, fun j hj h => ?_⟩
    exact double_mod hj hk ((roundPairs_sum hj (by omega) (by omega) h).symm.trans hsum)

-- schedule positions -------------------------------------------------------------------

/-- Settles O48: the tick is the quotient by 10 ns of the offset and half of it. -/
theorem boundaryRounding : Obligations.boundaryRounding := by
  unfold Obligations.boundaryRounding boundaryTick
  refine ⟨fun base E n => ?_, fun base E => ?_, fun base E F h => ?_⟩ <;> omega

/-- Settles O49. -/
theorem fieldPositions : Obligations.fieldPositions := by
  refine ⟨fun e r f hs hf => ?table, fun e r f hs hf hr => ?stream⟩
  case table => simp [resolveField, hs, Nat.mod_eq_of_lt hf]
  case stream =>
    have hpos : resolveField e r f = fieldPos r f := by rw [resolveField, if_pos hs]
    unfold fieldPos at hpos
    dsimp only at hpos
    rw [hpos]
    split_ifs
    · refine ⟨?_, ?_, ?_, fun q h1 h2 h3 => ?_⟩ <;> omega
    · refine ⟨?_, ?_, ?_, fun q h1 h2 h3 => ?_⟩ <;> omega

-- copies -----------------------------------------------------------------------

theorem majority_testBit (a b c i : Nat) : (majority a b c).testBit i =
    (a.testBit i && b.testBit i || a.testBit i && c.testBit i || b.testBit i && c.testBit i) := by
  simp only [majority, Nat.testBit_or, Nat.testBit_and]

theorem majority_left (a c : Nat) : majority a a c = a := by
  refine Nat.eq_of_testBit_eq fun i => ?_
  rw [majority_testBit]
  cases a.testBit i <;> cases c.testBit i <;> rfl

theorem majority_outer (a b : Nat) : majority a b a = a := by
  refine Nat.eq_of_testBit_eq fun i => ?_
  rw [majority_testBit]
  cases a.testBit i <;> cases b.testBit i <;> rfl

theorem majority_right (a b : Nat) : majority a b b = b := by
  refine Nat.eq_of_testBit_eq fun i => ?_
  rw [majority_testBit]
  cases a.testBit i <;> cases b.testBit i <;> rfl

theorem raw_wr_same (off v : Nat) (e : Engine) : raw (wr off v e) off = v % 4294967296 := by simp [raw, wr, wd_toNat]

theorem copy1_wr_same (off v : Nat) (e : Engine) : copy1 (wr off v e) off = v % 4294967296 := by
  have hdel : (wr off v e).trip1 = Tbl.del e.trip1 off := rfl
  rw [copy1, hdel, Tbl.get_del_same, raw_wr_same, wd_toNat, Nat.mod_mod]

theorem copy2_wr_same (off v : Nat) (e : Engine) : copy2 (wr off v e) off = v % 4294967296 := by
  have hdel : (wr off v e).trip2 = Tbl.del e.trip2 off := rfl
  rw [copy2, hdel, Tbl.get_del_same, raw_wr_same, wd_toNat, Nat.mod_mod]

/-- Settles O50: a write makes the three copies agree, and a read is their majority. -/
theorem copiesVote : Obligations.copiesVote := by
  refine ⟨?written, ?others, ?agree, ?bits⟩
  case written => exact fun e off v => ⟨raw_wr_same off v e, copy1_wr_same off v e, copy2_wr_same off v e, rd_wr_same off v e⟩
  case others => exact fun e off o v h => ⟨raw_wr_ne off o v e h, rd_wr_ne off o v e h⟩
  case agree =>
    refine fun e off => ⟨fun h => ?_, fun h => ?_, fun h => ?_⟩
    · rw [rd, vote, ← h, majority_left]
    · rw [rd, vote, ← h, majority_outer]
    · rw [rd, vote, ← h, majority_right]
  case bits => exact fun e off i => majority_testBit _ _ _ i

end Sys2Proof.Machine
end

section
/-! The statements about completions and the order of a command's checks (R218, R404). -/

open Sys2Proof

namespace Sys2Proof.Machine

-- completions ------------------------------------------------------------------

/-- No command of hopper and tag `cx` is in flight. -/
def Gone (cx : Cx) (e : Engine) : Prop := ∀ j ∈ e.cmd.inflight, j.cx ≠ cx

/-- A command of hopper and tag `cx` that is in flight is done, and its own completion waits in its hopper (R218). -/
def TagHeld (cx : Cx) (e : Engine) : Prop :=
  ∀ j ∈ e.cmd.inflight, j.cx = cx → j.done = true ∧ ∃ h ∈ (e.hop cx.hopper).held, h.cx = cx ∧ h.own = true

theorem Gone.tagHeld {cx : Cx} {e : Engine} (h : Gone cx e) : TagHeld cx e := fun j hj hc => absurd hc (h j hj)

theorem Gone.less {cx : Cx} {a b : Engine} (h : Gone cx a) (hl : Less a b) : Gone cx b := by
  intro j hj hc
  obtain ⟨i, hi, hcx, -⟩ := hl j hj
  exact h i hi (hcx.trans hc)

theorem gone_of_infl_none {cx : Cx} {e : Engine} (h : e.infl cx = none) : Gone cx e := by
  intro j hj hc
  exact List.find?_eq_none.mp h j hj (by simp [hc])

theorem gone_release (cx : Cx) (e : Engine) : Gone cx (release cx e) := by
  intro j hj
  simpa using (List.mem_filter.mp hj).2

theorem gone_free {h : Held} (ho : h.own = true) (e : Engine) : Gone h.cx (h.free e) := by
  rw [Held.free, if_pos ho]
  exact gone_release _ _

/-- The commands in flight and what every hopper holds are the same. -/
structure SameTags (a b : Engine) : Prop where
  inflight : b.cmd.inflight = a.cmd.inflight
  held : ∀ q, (b.hop q).held = (a.hop q).held

theorem SameTags.of_cmd {a b : Engine} (h : b.cmd = a.cmd) : SameTags a b :=
  ⟨by rw [h], fun q => congrArg Hopper.held (hop_congr (by rw [h]) q)⟩

theorem SameTags.trans {a b c : Engine} (h : SameTags a b) (g : SameTags b c) : SameTags a c :=
  ⟨g.inflight.trans h.inflight, fun q => (g.held q).trans (h.held q)⟩

theorem TagHeld.same {cx : Cx} {a b : Engine} (h : TagHeld cx a) (hs : SameTags a b) : TagHeld cx b := by
  intro j hj hc
  rw [hs.inflight] at hj
  rw [hs.held]
  exact h j hj hc

theorem sameTags_updHop (q : Nat) (f : Hopper → Hopper) (hf : ∀ x, (f x).held = x.held) (e : Engine) : SameTags e (updHop q f e) := by
  refine ⟨rfl, fun p => ?_⟩
  by_cases hp : q = p
  · subst hp
    rw [hop_updHop, hf]
  · exact congrArg Hopper.held (Tbl.get_upd_ne _ _ _ _ _ hp)

theorem sameTags_countPosted (q : Nat) (e : Engine) : SameTags e (countPosted q e) := by
  unfold countPosted
  refine SameTags.trans (b := updHop q _ e) ?_ (.of_cmd (inc_cmd _ _))
  exact sameTags_updHop q _ (by intro _; rfl) e

theorem sameTags_signalHopper (q : Nat) (e : Engine) : SameTags e (signalHopper q e) := by
  unfold signalHopper
  dsimp only
  split
  · exact .of_cmd rfl
  · split
    · exact .of_cmd (by simp)
    · split
      · exact sameTags_updHop q _ (by intro _; rfl) e
      · refine SameTags.trans (b := updHop q _ e) ?_ (.of_cmd (signalMsix_cmd _ _ _))
        exact sameTags_updHop q _ (by intro _; rfl) e

/-- A hopper that is disabled frees the tags of all that it holds. -/
theorem gone_each_free {cx : Cx} (l : List Held) (e : Engine) (h : Gone cx e ∨ ∃ h ∈ l, h.cx = cx ∧ h.own = true) :
    Gone cx (each l (fun h e => cqDrop (h.free e)) e) := by
  unfold each
  induction l generalizing e with
  | nil => simpa using h
  | cons x l ih =>
    refine ih _ ?_
    obtain hg | ⟨y, hy, hcx, hown⟩ := h
    · exact Or.inl (hg.less ((less_free x e).trans (less_drop _)))
    · obtain rfl | hy := List.mem_cons.mp hy
      · exact Or.inl (hcx ▸ (gone_free hown e).less (less_drop _))
      · exact Or.inr ⟨y, hy, hcx, hown⟩

theorem gone_endCq {cx : Cx} {e : Engine} (h : TagHeld cx e) : Gone cx (endCq cx.hopper e) := by
  unfold endCq disableHopper orphanHopper
  refine gone_each_free _ _ ?_
  by_cases hg : Gone cx e
  · refine Or.inl fun j hj => ?_
    obtain ⟨i, hi, rfl⟩ := List.mem_map.mp hj
    split
    · exact hg i hi
    · exact hg i hi
  · simp only [Gone, not_forall, not_not] at hg
    obtain ⟨j, hj, hc⟩ := hg
    rw [hop_updHop]
    exact Or.inr (h j hj hc).2

/-- Posting one completion frees its tag and no other. -/
theorem tagHeld_postOne {cx : Cx} {e x : Engine} (h : TagHeld cx e) (hx : postOne cx.hopper e = some x) : TagHeld cx x := by
  unfold postOne at hx
  dsimp only at hx
  split at hx
  · cases hx
    exact h
  · rename_i c rest hheld
    split at hx
    · rename_i y parts hm
      have hy : y.cmd = e.cmd := (congrArg (fun p => p.1.cmd) hm).symm.trans (by simp)
      injection hx with hx
      subst hx
      refine TagHeld.same ?_ ((sameTags_countPosted cx.hopper _).trans (sameTags_signalHopper cx.hopper _))
      by_cases hc : c.cx = cx ∧ c.own = true
      · exact (hc.1 ▸ gone_free hc.2 _).tagHeld
      · intro j hj hjc
        have hj : j ∈ e.cmd.inflight := by
          unfold Held.free at hj
          split at hj
          · have := (List.mem_filter.mp hj).1
            simpa [updHop, hy] using this
          · simpa [updHop, hy] using hj
        obtain ⟨hdone, k, hk, hkc, hko⟩ := h j hj hjc
        have hk : k ∈ rest := by
          rw [hheld] at hk
          obtain rfl | hk := List.mem_cons.mp hk
          · exact absurd ⟨hkc, hko⟩ hc
          · exact hk
        refine ⟨hdone, k, ?_, hkc, hko⟩
        have hhop : ∀ z : Engine, (c.free z).hop cx.hopper = z.hop cx.hopper := fun z => by
          unfold Held.free
          split <;> rfl
        rw [hhop, hop_updHop]
        exact hk
    · rename_i y why l hm
      have hy : y.cmd = e.cmd := (congrArg (fun p => p.1.cmd) hm).symm.trans (by simp)
      split at hx
      · rename_i z hz
        injection hx with hx
        subst hx
        exact h.same (.of_cmd (by rw [haltStream_cmd hz, openStream_cmd, hy]))
      · injection hx with hx
        subst hx
        exact (gone_endCq (h.same (.of_cmd (by simp [hy])))).tagHeld

theorem tagHeld_flushHeld {cx : Cx} {e : Engine} (h : TagHeld cx e) : TagHeld cx (flushHeld cx.hopper e) := by
  unfold flushHeld
  generalize List.range _ = l
  induction l generalizing e with
  | nil => exact h
  | cons n l ih =>
    refine ih ?_
    dsimp only
    split
    · exact h
    · cases hx : postOne cx.hopper e with
      | none => exact h
      | some x => exact tagHeld_postOne h hx

/-- A delivered completion of a command of its own frees the tag at once where it is not kept, by ring or in a disabled hopper. -/
theorem gone_deliver {cx : Cx} {r : Option RingRef} (head st n : Nat) {e : Engine}
    (h : r.isSome = true ∨ isRing cx.hopper = true ∨ (e.hop cx.hopper).enabled = false) : Gone cx (deliver cx true r head st n e) := by
  have hfree : ∀ b, Gone cx (Held.free ⟨cx, true, b⟩ e) := fun b => gone_free (h := ⟨cx, true, b⟩) rfl e
  unfold deliver
  dsimp only
  cases r with
  | some r => exact (hfree _).less (less_ring _ _ _ _ _ _)
  | none =>
    dsimp only
    split
    · exact (hfree _).less (.of_cmd (inc_cmd _ _))
    · split
      · exact (hfree _).less (less_drop _)
      · simp_all

theorem tagHeld_deliver {cx : Cx} {r : Option RingRef} (head st n : Nat) {e : Engine}
    (hdone : ∀ j ∈ e.cmd.inflight, j.cx = cx → j.done = true) : TagHeld cx (deliver cx true r head st n e) := by
  by_cases h : r.isSome = true ∨ isRing cx.hopper = true ∨ (e.hop cx.hopper).enabled = false
  · exact (gone_deliver head st n h).tagHeld
  · obtain ⟨hr, hring, hen⟩ : r = none ∧ isRing cx.hopper = false ∧ (e.hop cx.hopper).enabled = true := by
      simpa [not_or] using h
    subst hr
    unfold deliver
    simp only [hring, hen, Bool.false_eq_true, if_false, Bool.not_true]
    refine tagHeld_flushHeld fun j hj hc => ⟨hdone j hj hc, ?_⟩
    rw [hop_updHop]
    exact ⟨_, List.mem_append_right _ (List.mem_singleton.mpr rfl), rfl, rfl⟩

/-- Outside LOCKOUT a completion is one of four: none of its command is in flight, the command's hopper was disabled since, or it is
delivered for the command, marked as done. -/
theorem complete_cases (cx : Cx) (st r : Nat) {e : Engine} (h : e.sys.mode ≠ .lockout) : Gone cx (complete cx st r e) ∨
    ∃ i : Infl, complete cx st r e = deliver cx true i.ring i.sqHead st r (updInfl cx (fun x => { x with done := true }) e) := by
  unfold complete
  rw [if_neg h]
  cases hi : e.infl cx with
  | none => exact Or.inl ((gone_of_infl_none hi).less (less_deliver _ _ _ _ _ _ _))
  | some i =>
    dsimp only
    split
    · exact Or.inl ((gone_release cx e).less (less_drop _))
    · exact Or.inr ⟨i, rfl⟩

theorem done_of_updInfl {cx : Cx} {e : Engine} : ∀ j ∈ (updInfl cx (fun x => { x with done := true }) e).cmd.inflight,
    j.cx = cx → j.done = true := by
  intro j hj hc
  obtain ⟨i, -, rfl⟩ := List.mem_map.mp hj
  split at hc
  · rw [if_pos (by assumption)]
  · exact absurd hc (by assumption)

/-- Settles O57: a completion either frees its tag or leaves the command done with its completion held, which posting keeps. -/
theorem completionFreesTag : Obligations.completionFreesTag := by
  refine ⟨?held, ?freed, ?others, ?domains, ?lockout⟩
  case held =>
    intro cx st r e hmode
    obtain hg | ⟨i, hi⟩ := complete_cases cx st r hmode
    · exact hg.tagHeld
    · rw [hi]
      exact tagHeld_deliver _ _ _ done_of_updInfl
  case freed =>
    intro cx st r e hmode hoff
    obtain hg | ⟨i, hi⟩ := complete_cases cx st r hmode
    · exact hg
    · rw [hi]
      exact gone_deliver _ _ _ (Or.inr hoff)
  case others => exact less_complete
  case domains => exact complete_domains
  case lockout =>
    intro cx st r e hmode
    rw [complete, if_pos hmode]

-- the order of checks ----------------------------------------------------------------

/-- Settles O58. -/
theorem checksInOrder : Obligations.checksInOrder :=
  ⟨fun _ _ _ _ body _ hclear => runCmd_order body hclear, fun cx i rsv ports body e h => by rw [runCmd, h]; rfl⟩

end Sys2Proof.Machine
end

section
/-! The statements about events and their classes, reserved bits, host memory and LOCKOUT (R242, R314, R331-R333, R338, R341). -/

open Sys2Proof

namespace Sys2Proof.Machine

-- events ------------------------------------------------------------------

/-- A bit that is set stays set through an event, in its own cause register and in every register but the fault block's counters. -/
theorem bit_noteD_keep {o k : Nat} (c : Fld) (i d : Nat) (e : Engine) (hk : k < 32) (h1 : o ≠ Reg.FLT_EVENT_CNT)
    (h2 : o ≠ Reg.FLT_HIST_OVF_CNT) (h : bit (rd e o) k = true) : bit (rd (noteD c i d e) o) k = true := by
  refine bit_noteRec _ _ _ _ _ hk (bit_logEvent _ _ _ _ hk h1 h2 ?_)
  rw [rd_inc_ne _ _ _ h1.symm]
  exact bit_setCause _ _ _ _ _ hk h

/-- An event below SEVERE with room in the queue changes its own cause register and counts, and no more. -/
theorem rd_noteD_low {c : Fld} {i d : Nat} {e : Engine} (hc : classOf (blockNo c.off) c.lo < 3) (hh : e.flt.hist.length < 32) (o : Nat)
    (h1 : o ≠ Reg.FLT_EVENT_CNT) (h2 : c.off ≠ o) : rd (noteD c i d e) o = rd e o := by
  rw [noteD, noteRec_low _ _ _ hc, logEvent_room, rd_inc_ne _ _ _ h1.symm, rd_setCause_ne _ _ _ _ h2]
  rw [inc_flt, setCause_hist]
  exact hh

/-- Settles O51. -/
theorem eventFrame : Obligations.eventFrame := by
  refine ⟨?parts, ?others, ?sticky, ?low⟩
  case parts => exact fun c i d e => moves_noteD.unchanged _ (by decide)
  case others =>
    intro c i d o e hown hcause hcount hovf
    exact rd_noteD_ne _ _ _ _ _ (by simp [faultRegs, hcause, hcount, hovf]) hown.symm
  case sticky =>
    intro c i d e hlo h1 h2
    exact ⟨bit_noteD_own i d e hlo h1 h2, fun k hset hk => bit_noteD_keep c i d e hk h1 h2 hset⟩
  case low =>
    intro c i d e hcls hroom h1 h2
    exact ⟨noteD_count hcls hroom h1, rd_noteD_low hcls hroom _ (by decide) h2, rd_noteD_low hcls hroom _ (by decide)⟩

-- classes ---------------------------------------------------------------------

/-- The part of an event that every class has: its sticky bit, its count and its record. -/
def told (r : Rec) (off : Nat) (e : Engine) : Engine := logEvent r (inc Reg.FLT_EVENT_CNT (setCause off r.code e))

theorem noteRec_severe {r : Rec} (off : Nat) (e : Engine) (h : r.cls = 3) : noteRec r off e =
    { setCause Reg.FLT_CAUSE 6 (told r off e) with flt := { (setCause Reg.FLT_CAUSE 6 (told r off e)).flt with smbAlert := true } } := by
  unfold noteRec
  simp [h, told]

theorem noteRec_grave {r : Rec} (off : Nat) (e : Engine) (h : r.cls = 4) : noteRec r off e =
    { persistGrave r (setCause Reg.FLT_CAUSE 7 (told r off e)) with
      flt := { (persistGrave r (setCause Reg.FLT_CAUSE 7 (told r off e))).flt with smbAlert := true } } := by
  unfold noteRec
  simp [h, told]

@[simp] theorem setCause_graveValid (off code : Nat) (e : Engine) : (setCause off code e).flt.graveValid = e.flt.graveValid := by
  obtain ⟨a, b, h⟩ := setCause_flt off code e
  rw [h]

theorem logEvent_graveValid (r : Rec) (e : Engine) : (logEvent r e).flt.graveValid = e.flt.graveValid := by
  unfold logEvent
  split
  · rfl
  · split
    · split
      · rfl
      · dsimp only
        split
        · rfl
        · rw [setCause_graveValid]
          rfl
    · rfl

theorem told_graveValid (r : Rec) (off : Nat) (e : Engine) : (told r off e).flt.graveValid = e.flt.graveValid := by
  rw [told, logEvent_graveValid, inc_flt, setCause_graveValid]

/-- The first GRAVE event is the one that is persisted (R342). -/
theorem persistGrave_first {r : Rec} {e : Engine} (h : e.flt.graveValid = false) : persistGrave r e =
    { e with flt := { e.flt with graveValid := true, graveBusy := true, graveCount := 1, graveRec := r } } := by
  unfold persistGrave
  rw [h]
  rfl

/-- Settles O59. -/
theorem severeAndGrave : Obligations.severeAndGrave := by
  refine ⟨?low, ?severe, ?grave, ?severeTold, ?graveTold⟩
  case low =>
    intro c i d e h
    rw [raiseD, react, if_neg (by omega), if_neg (by omega)]
  case severe =>
    intro c i d e h hmode hcool
    rw [raiseD, react, h, if_neg (by decide), if_pos rfl]
    exact enterSafe_mode _ (by rwa [noteD_sys]) (by rwa [noteD_thm])
  case grave =>
    intro c i d e h hmode
    rw [raiseD, react, if_pos h]
    exact enterLockout_mode _ (by rwa [noteD_sys])
  case severeTold =>
    intro c i d e h
    rw [noteD, noteRec_severe _ _ h]
    refine ⟨on_of_bit rfl ?_, rfl⟩
    rw [rd_setFlt, rd_setCause_same]
    exact bit_or _ _ (by decide)
  case graveTold =>
    intro c i d e h hvalid
    rw [noteD, h, noteRec_grave _ _ rfl, persistGrave_first (by rw [setCause_graveValid, told_graveValid, hvalid])]
    refine ⟨on_of_bit rfl ?_, rfl, rfl, rfl⟩
    rw [rd_setFlt, rd_setFlt, rd_setCause_same]
    exact bit_or _ _ (by decide)

-- reserved bits --------------------------------------------------------------

theorem testBit_allOnes {i : Nat} (h : i < 32) : Nat.testBit 0xFFFFFFFF i = true := by
  rw [show 0xFFFFFFFF = 2 ^ 32 - 1 from rfl, Nat.testBit_two_pow_sub_one]
  exact decide_eq_true h

/-- The word that takes its reserved bits from `held` and the others from `v`. -/
theorem testBit_kept (v held rsv : Nat) {i : Nat} (h : i < 32) :
    ((v &&& (0xFFFFFFFF ^^^ rsv)) ||| (held &&& rsv)).testBit i = if rsv.testBit i = true then held.testBit i else v.testBit i := by
  simp only [Nat.testBit_or, Nat.testBit_and, Nat.testBit_xor, testBit_allOnes h]
  cases rsv.testBit i <;> simp

/-- What `rsvKeep` answers where the write changes no reserved bit, and outside TEST (R314). -/
theorem rsvKeep_of_unchanged {r : RegInfo} {off v : Nat} {e : Engine} (h : rsvChange r (rd e off) v = 0) :
    rsvKeep r off v e = (e, (v &&& (0xFFFFFFFF ^^^ r.rsv)) ||| (rd e off &&& r.rsv)) := by
  unfold rsvKeep
  exact if_pos h

theorem rsvKeep_of_changed {r : RegInfo} {off v : Nat} {e : Engine} (h : rsvChange r (rd e off) v ≠ 0) (hm : e.sys.mode ≠ .test) :
    rsvKeep r off v e = (rsvFlag e, (v &&& (0xFFFFFFFF ^^^ r.rsv)) ||| (rd e off &&& r.rsv)) := by
  unfold rsvKeep
  exact (if_neg h).trans (if_neg hm)

theorem rsvKeep_in_test {r : RegInfo} {off v : Nat} {e : Engine} (h : rsvChange r (rd e off) v ≠ 0) (hm : e.sys.mode = .test)
    (hw : r.isW1 = false) : rsvKeep r off v e = (wr off (rd e off ^^^ rsvChange r (rd e off) v) e,
      ((v &&& (0xFFFFFFFF ^^^ r.rsv)) ||| (rd e off &&& r.rsv)) ^^^ rsvChange r (rd e off) v) := by
  unfold rsvKeep
  exact ((if_neg h).trans (if_pos hm)).trans (if_neg (by simp [hw]))

/-- Settles O55. -/
theorem reservedKept : Obligations.reservedKept := by
  refine ⟨?word, ?silent, ?flagged, ?test⟩
  case word =>
    intro r off v i e hmode hi _
    by_cases h : rsvChange r (rd e off) v = 0
    · rw [rsvKeep_of_unchanged h, testBit_kept _ _ _ hi]
    · rw [rsvKeep_of_changed h hmode, testBit_kept _ _ _ hi]
  case silent =>
    intro r off v e h
    rw [rsvKeep_of_unchanged h]
  case flagged =>
    intro r off v e h hmode
    rw [rsvKeep_of_changed h hmode]
    refine ⟨?_, ?_, fun o ho => ?_⟩
    · refine on_of_bit rfl ?_
      rw [rsvFlag, rd_inc_ne _ _ _ (by decide)]
      exact bit_note _ _ (by decide) (by decide)
    · rw [rsvFlag, rd_inc_same, rd_note_ne _ _ _ (by decide) (by decide)]
    · simp only [List.mem_cons, List.not_mem_nil, or_false, not_or] at ho
      obtain ⟨hcause, hcnt, hfault⟩ := ho
      rw [rsvFlag, rd_inc_ne _ _ _ (Ne.symm hcnt), rd_note_ne _ _ _ (by simpa [faultRegs] using hfault) (Ne.symm hcause)]
  case test =>
    intro r off v i e hw hmode hi hr hv
    have hbit : (rsvChange r (rd e off) v).testBit i = (v.testBit i ^^ (rd e off).testBit i) := by
      simp [rsvChange, hw, hr, Nat.testBit_xor]
    by_cases h : rsvChange r (rd e off) v = 0
    · rw [h, Nat.zero_testBit] at hbit
      have heq : v.testBit i = (rd e off).testBit i := by simpa using hbit.symm
      rw [rsvKeep_of_unchanged h]
      exact ⟨heq.symm, by rw [testBit_kept _ _ _ hi, if_pos hr, heq]⟩
    · rw [rsvKeep_in_test h hmode hw]
      refine ⟨?_, ?_⟩
      · rw [rd_wr_same, show (4294967296 : Nat) = 2 ^ 32 from rfl, Nat.testBit_mod_two_pow, Nat.testBit_xor, hbit]
        cases v.testBit i <;> cases (rd e off).testBit i <;> simp [hi]
      · rw [Nat.testBit_xor, testBit_kept _ _ _ hi, if_pos hr, hbit]
        cases v.testBit i <;> cases (rd e off).testBit i <;> rfl

-- host memory -----------------------------------------------------------------

/-- A write over parts changes no byte outside them. -/
theorem rdByte_writeRun_ne (parts : List (Nat × Nat)) (l : List Byte) (e : Engine) (x : Nat)
    (h : ∀ p ∈ parts, ¬(p.1 ≤ x ∧ x < p.1 + p.2)) : rdByte (writeRun parts l e) x = rdByte e x := by
  induction parts generalizing l e with
  | nil => rfl
  | cons p parts ih =>
    obtain ⟨a, n⟩ := p
    have hp : ¬(a ≤ x ∧ x < a + n) := h _ List.mem_cons_self
    rw [writeRun, ih _ _ fun q hq => h q (List.mem_cons_of_mem _ hq), rdByte_wrBytes, if_neg]
    rw [List.length_take]
    omega

/-- Settles O56. -/
theorem hostMemoryWrites : Obligations.hostMemoryWrites := by
  refine ⟨rdByte_wrBytes, rdBytes_wrBytes, fun a l e h => wf_putBytes _ _ _ h, rdByte_writeRun_ne, ?two⟩
  case two =>
    intro a n b m l e hl hab
    have h1 : (l.take n).length = n := by rw [List.length_take]; omega
    have h2 : ((l.drop n).take m).length = m := by rw [List.length_take, List.length_drop]; omega
    have hfirst : rdBytes (wrBytes b ((l.drop n).take m) (wrBytes a (l.take n) e)) a n = l.take n := by
      rw [rdBytes_wrBytes_ne _ _ _ _ _ (by omega)]
      simpa only [h1] using rdBytes_wrBytes a (l.take n) e
    have hsecond : rdBytes (wrBytes b ((l.drop n).take m) (wrBytes a (l.take n) e)) b m = (l.drop n).take m := by
      simpa only [h2] using rdBytes_wrBytes b ((l.drop n).take m) (wrBytes a (l.take n) e)
    simp only [readRun, writeRun, List.flatMap_cons, List.flatMap_nil, List.append_nil, hfirst, hsecond]
    rw [List.take_of_length_le (l := l.drop n) (by rw [List.length_drop]; omega), List.take_append_drop]

-- LOCKOUT --------------------------------------------------------------------

/-- A row that is one dword write, through a requester that meets LOCKOUT, does nothing. -/
theorem busDword_lockout {rq : Rq} {off : Nat} {v : Word} {e : Engine} (h : e.sys.mode = .lockout) (hc : rq = .pf → off < cfgAt) :
    busDword rq off v e = e := busWrite_lockout h hc

theorem doorbell_lockout {fn n : Nat} {v : Word} {b : Bool} {put : Nat → Nat → Engine → Engine} {e : Engine}
    (h : e.sys.mode = .lockout) : doorbell fn n v b put e = e := by
  have hshut : fnOpen e fn = false := by simp [fnOpen, h]
  rw [doorbell, hshut]
  rfl

theorem mbxOp_lockout {rq : Rq} {sel : Nat} {w : Bool} {i : Nat} {d : List Word} {e : Engine} (h : e.sys.mode = .lockout) :
    mbxOp rq sel w i d e = e := mbxOp_shut (by simp [mbxOpen, h])

theorem whenE_same {b : Bool} {f : Engine → Engine} {e : Engine} (h : f e = e) : whenE b f e = e := by
  unfold whenE
  split
  · exact h
  · rfl

/-- An SMBus write in LOCKOUT is ignored, but for the NACK of a mandatory PEC that is missing (R333, R398). -/
theorem smbWrite_ignored (pec : Option Bool) {f : Engine → Engine} {e : Engine} (h : f e = e) :
    smbWrite pec f e = if pec = none ∧ pecMust e = true then emit .smbNack e else e := by
  unfold smbWrite
  cases pec with
  | none => simp [h]
  | some ok => cases ok <;> simp [h]

/-- What an SMBus write in LOCKOUT comes to: nothing, or the NACK of a mandatory PEC that is missing. -/
def smbIgnored (pec : Option Bool) (s : State) : Engine :=
  if smbOn s.eng = true ∧ pec = none ∧ pecMust s.eng = true then emit .smbNack s.start else s.start

theorem smbGuarded_ignored (pec : Option Bool) {f : Engine → Engine} {s : State} (h : f s.start = s.start) :
    (if !smbOn s.start then s.start else smbWrite pec f s.start) = smbIgnored pec s := by
  have hon : smbOn s.start = smbOn s.eng := rfl
  have hmust : pecMust s.start = pecMust s.eng := rfl
  rw [smbWrite_ignored pec h, hon, hmust, smbIgnored]
  cases smbOn s.eng <;> simp

theorem exec_regData_lockout {s : State} (h : s.eng.sys.mode = .lockout) (v : Word) (pec : Option Bool) :
    exec (.regData (some v) pec) s = .next (s.to (smbIgnored pec s)) :=
  exec_run rfl (smbGuarded_ignored pec (busDword_lockout h nofun))

theorem exec_regAddr_lockout {s : State} (h : s.eng.sys.mode = .lockout) {off : Nat} (haligned : bits off 1 0 = 0) (pec : Option Bool) :
    exec (.regAddr (some off) pec) s = .next (s.to (smbIgnored pec s)) := by
  have hpoint : smbPoint off s.start = s.start := if_pos h
  refine exec_run rfl ((?_ : _ = _).trans (smbGuarded_ignored pec hpoint))
  dsimp only
  rw [if_neg (c := bits off 1 0 ≠ 0) (not_not.mpr haligned)]

/-- Settles O60: every row is a write over the register fabric, a doorbell, a mailbox operation or an SMBus write, and LOCKOUT turns
each of them away. -/
theorem lockoutIgnoresWrites : Obligations.lockoutIgnoresWrites := by
  intro s rq v off n b hmode hcfg hn
  have hstart : s.start.sys.mode = .lockout := hmode
  have hany : ∀ x y, busWrite rq off v x y s.start = s.start := fun x y => busWrite_lockout hstart hcfg
  have hrow : ∀ {o : Nat} {w : Word}, o < cfgAt → busDword rq o w s.start = s.start := fun ho => busDword_lockout hstart fun _ => ho
  have htile : Reg.TILE_CTL + 0x40 * n < cfgAt := by unfold Reg.TILE_CTL cfgAt; omega
  have hbell : ∀ put : Nat → Nat → Engine → Engine, doorbell off n v b put s.start = s.start := fun put => doorbell_lockout hstart
  refine ⟨exec_run rfl (hany _ _), exec_run rfl (hany _ _), exec_run rfl (hany _ _), exec_run rfl (hany _ _),
    exec_run rfl (hrow (by decide)), exec_run rfl (hrow (by decide)), exec_run rfl (hrow htile), exec_run rfl (hrow htile),
    exec_run rfl (hrow (by decide)), exec_run rfl (hrow (by decide)), exec_run rfl (hrow (by decide)), exec_run rfl (hrow (by decide)),
    exec_run rfl (hrow (by decide)), exec_run rfl ?refsel, exec_run rfl (hrow (by decide)), exec_run rfl (hrow (by decide)),
    exec_run rfl (hrow (by decide)), exec_run rfl (hrow (by decide)), exec_run rfl (hrow ?domEn), exec_run rfl (hrow (by decide)),
    exec_run rfl (hrow (by decide)), exec_run rfl (hrow (by decide)), exec_run rfl ?rxCfg, exec_run rfl ?rxHead,
    exec_run rfl (hrow (by decide)), exec_run rfl (hrow (by decide)), exec_run rfl (hbell _), exec_run rfl (hbell _),
    ?mailbox, fun pec => ⟨?smbus, ?point⟩⟩
  case refsel => exact whenE_same (hrow (by unfold Reg.SNS_REFSEL cfgAt; omega))
  case domEn => split <;> decide
  case rxCfg => exact whenE_same (hrow (by unfold Reg.LRG_RX_CFG cfgAt; omega))
  case rxHead => exact whenE_same (hrow (by unfold Reg.LRG_RX_HEAD cfgAt; omega))
  case mailbox =>
    intro w i d c hc
    simp only [List.mem_cons, List.not_mem_nil, or_false] at hc
    obtain rfl | rfl | rfl | rfl | rfl | rfl | rfl | rfl | rfl | rfl := hc
    all_goals exact exec_run rfl (mbxOp_lockout hstart)
  case smbus => exact exec_regData_lockout hmode v pec
  case point => exact fun haligned => (exec_regAddr_lockout hmode haligned pec).trans (exec_regData_lockout hmode v pec).symm

end Sys2Proof.Machine
end

section
/-! What `exec` answers of a command that names no ports and whose way is clear (R404). -/

open Sys2Proof

namespace Sys2Proof.Machine

theorem next_congr {s : State} {x y : Engine} (h : x = y) :
    (Host.Outcome.next (s.to x) : Host.Outcome State Fault Refusal) = .next (s.to y) := by rw [h]

/-- What each round leaves as it is, all of them do. -/
theorem each_same {α β : Type} (g : Engine → β) (l : List α) (f : α → Engine → Engine) (hf : ∀ x e, g (f x e) = g e) (e : Engine) :
    g (each l f e) = g e := by
  unfold each
  induction l generalizing e with
  | nil => rfl
  | cons x l ih => exact (ih _).trans (hf x e)

theorem rdF_accepted (cx : Cx) (op : Nat) (ps : List Nat) (e : Engine) (f : Fld) (h1 : Reg.CMD_ACCEPT_CNT ≠ f.off)
    (h2 : Fd.CMD_TAG_HWM_HWM.off ≠ f.off) : rdF (accepted cx op ps e) f = rdF e f := by
  unfold rdF
  rw [rd_accepted _ _ _ _ _ h1 h2]

/-- A command that names no ports, its way clear: what `exec` answers. -/
theorem exec_clear_noPorts {c : Instr} {s : State} {op : Bool} {cx : Cx} {i : CmdInfo} {rsv n : Nat} {body : Engine → Engine} {a : Engine}
    (hx : exec c s = .next (s.run (arriveAs op cx (runCmd i cx rsv noPorts body)))) (h : Clear cx i [] s.start)
    (ho : op = true → i.operator = true) (hn : i.opcode = n) (ha : a = accepted cx n [] s.start) :
    exec c s = .next (s.to (if rsv ≠ 0 then complete cx stBadParam 0 a else body a)) := by
  subst hn
  exact exec_clear hx h ho ha

/-- The same with the reserved fields 0. -/
theorem exec_clear0_noPorts {c : Instr} {s : State} {op : Bool} {cx : Cx} {i : CmdInfo} {rsv n : Nat} {body : Engine → Engine}
    {a : Engine} (hx : exec c s = .next (s.run (arriveAs op cx (runCmd i cx rsv noPorts body)))) (h : Clear cx i [] s.start)
    (ho : op = true → i.operator = true) (hn : i.opcode = n) (ha : a = accepted cx n [] s.start) (h0 : rsv = 0) :
    exec c s = .next (s.to (body a)) := by
  rw [exec_clear_noPorts hx h ho hn ha, if_neg (by simp [h0])]

/-- The disciplined time of a command's acceptance is the time at which it is taken in. -/
theorem accepted_at {cx : Cx} {op : Nat} {e : Engine} {i : CmdInfo} (h : Clear cx i [] e) :
    (((accepted cx op [] e).infl cx).map (·.at_)).getD (dNs (accepted cx op [] e)) = dNs e := by
  rw [accepted_infl (infl_none h.tag)]
  rfl

end Sys2Proof.Machine
end

section
/-! The statement about NOP, GET_INFO, BIST_RUN and FAULT_CLEAR (R349, R380, R404). -/

open Sys2Proof

namespace Sys2Proof.Machine

theorem severeResult_of_some {e : Engine} {c : Nat × Nat} (h : severeLive e = some c) : severeResult e = c.1 * 256 + c.2 * 65536 := by
  rw [severeResult, h]

/-- What FAULT_CLEAR has cleared when it looks at the mode (R349). -/
def faultCleared (p : FaultClearP) (a : Engine) : Engine :=
  whenE p.clearHistory (fun e => wr Reg.FLT_HIST_OVF_CNT 0 { e with flt := { e.flt with hist := [] } })
    (whenE p.clearCauses clearAllCauses a)

theorem clearAllCauses_sys (e : Engine) : (clearAllCauses e).sys = e.sys := moves_clearAllCauses.part .sys rfl

theorem faultCleared_mode (p : FaultClearP) (a : Engine) : (faultCleared p a).sys.mode = a.sys.mode := by
  unfold faultCleared whenE
  split <;> split <;> simp [clearAllCauses_sys]

/-- What FAULT_CLEAR does once its reserved field is 0 (R349). -/
theorem faultClearBody_eq (cx : Cx) (p : FaultClearP) (a : Engine) : faultClearBody cx p a =
    (if p.exitSafe = false ∧ p.clearCauses = false ∧ p.clearHistory = false then complete cx stBadParam 0 a
     else if p.exitSafe = true ∧ (faultCleared p a).sys.mode = .safe then
       if (severeLive (faultCleared p a)).isSome then complete cx stWrongMode (severeResult (faultCleared p a)) (faultCleared p a)
       else
         { toMode .bypass (brakeOff 2 (faultCleared p a)) with
           sys := { (toMode .bypass (brakeOff 2 (faultCleared p a))).sys with
             leaving := some (cx, (toMode .bypass (brakeOff 2 (faultCleared p a))).clk) } }
     else if p.exitSafe = true ∧ p.clearCauses = false ∧ p.clearHistory = false then complete cx stEmpty 0 (faultCleared p a)
     else complete cx stOk 0 (faultCleared p a)) := by
  unfold faultClearBody faultCleared
  simp only [Bool.not_eq_true']

/-- Settles O8. -/
theorem basicCommandsAnswer : Obligations.basicCommandsAnswer := by
  refine ⟨?nop, ?info, ?bist, ?bistGo, ?clear⟩
  case nop =>
    intro s cx a hclear ha
    refine (exec_clear0_noPorts (op := false) rfl hclear nofun rfl ha rfl).trans ?_
    rw [ha, accepted_at hclear]
    rfl
  case info =>
    intro s cx p a hclear ha
    refine (exec_clear_noPorts (op := false) rfl hclear nofun rfl ha).trans ?_
    by_cases hrsv : p.rsv = 0 <;> simp [hrsv]
  case bist =>
    intro s cx p a hclear ha
    have hbist : a.sys.bist = s.eng.sys.bist := by rw [ha, accepted_sys]; rfl
    refine (exec_clear_noPorts (op := true) rfl hclear (fun _ => rfl) rfl ha).trans ?_
    rw [bistBody, hbist]
    rfl
  case bistGo =>
    rintro cx n a x rfl
    unfold bistGo whenE
    rfl
  case clear =>
    intro s cx p a b x hclear ha hx hb
    refine (exec_clear_noPorts (op := true) rfl hclear (fun _ => rfl) rfl ha).trans ?_
    have hfc : b = faultCleared p a := hb
    have hmode : b.sys.mode = s.eng.sys.mode := by
      rw [hfc, faultCleared_mode, ha, accepted_sys]
      rfl
    by_cases hrsv : p.rsv = 0
    · have hbody := faultClearBody_eq cx p a
      rw [← hfc, ← hx] at hbody
      rw [hrsv, if_neg (not_not.mpr rfl), hbody, hmode]
      refine next_congr ?_
      simp only [ne_eq, not_true_eq_false, false_or]
      cases hlive : severeLive b with
      | none => rfl
      | some c => rw [severeResult_of_some hlive]; rfl
    · simp [hrsv]

end Sys2Proof.Machine
end

section
/-! The statement about SET_MODE, SNAPSHOT and the firmware commands (R46, R59, R370): refuted by a SET_MODE toward SLEEP under a brake. -/

open Sys2Proof

namespace Sys2Proof.Machine

/-- An engine in TEST 1.0 µs after the brake of a march run's end: its sluice, at 0.8 µs, has opened and its release, at 2.0 µs, is
still to come (R46, R59). -/
def brakedTest : State :=
  { State.reset with eng := { State.reset.eng with
      clk := 1000
      sys := { State.reset.eng.sys with mode := .test }
      bkp := { State.reset.eng.bkp with braking := true, zeroing := false, live := 0, brakeAt := 0 }
      pwr := { State.reset.eng.pwr with auxA := true } } }

/-- SET_MODE toward SLEEP of the operator. -/
def toSleep : Instr := .setMode ⟨0, 0, 0⟩ { (default : SetModeP) with target := 7 }

theorem clear_brakedTest : Clear ⟨0, 0, 0⟩ cmdSetMode [] brakedTest.start where
  mode := by decide
  exec := by decide
  dom := by decide
  operator := by decide
  host := by decide
  tag := by decide
  loose := by decide
  free := by decide
  parked := by decide
  first := by decide

theorem exec_toSleep : (match exec toSleep brakedTest with | .next t => t.eng.sys.mode | _ => .test) = .sleep := by
  decide +kernel

/-- Refutes O9: where a brake whose sluice has opened still holds the array, SET_MODE toward SLEEP has no sluice to wait for and
enters SLEEP at once. -/
theorem not_modeCommandsAct : ¬ Obligations.modeCommandsAct := by
  intro h
  obtain ⟨t, ht, hkeep⟩ := h.1 brakedTest ⟨0, 0, 0⟩ { (default : SetModeP) with target := 7 } .sleep _ _ clear_brakedTest (by decide) rfl rfl
    (by decide) (by decide) (by decide) (by decide)
  have hsleep := exec_toSleep
  rw [toSleep, ht] at hsleep
  have htest : t.eng.sys.mode = .test := hkeep.2.1
  exact absurd (htest.symm.trans hsleep) (by decide)

end Sys2Proof.Machine
end

section
/-! The statement about the tables and the halted streams (R233, R242). -/

open Sys2Proof

namespace Sys2Proof.Machine

theorem tableOk_iff (p : TableP) : tableOk p = true ↔ 1 ≤ p.table ∧ p.table ≤ 15 ∧ iovaOk p.addr 16 (entrySize p.table * p.count) = true := by
  simp only [tableOk, Bool.and_eq_true, decide_eq_true_eq, and_assoc]

/-- What TABLE_READ opens its stream on, where no refusal meets its first entry. -/
theorem tableReadBody_opens {cx : Cx} {p : TableP} {a : Engine} (hn : p.count ≠ 0) (hok : tableOk p = true)
    (hmap : p.table = 1 → (fillRead (unpin a) cx.domain p (entrySize p.table * p.count) p.count 0 []).2 = none)
    (hcopy : copied p.table = true → (fillRead a cx.domain p (entrySize p.table * p.count) p.count 0 []).2 = none) :
    ∃ l buf e, tableReadBody cx p a = openRead cx p l buf e := by
  unfold tableReadBody
  rw [if_neg hn, hok]
  dsimp only [Bool.not_true, Bool.false_eq_true, if_false]
  by_cases h1 : p.table = 1
  · have hnone := hmap h1
    rw [if_pos h1]
    generalize fillRead (unpin a) cx.domain p (entrySize p.table * p.count) p.count 0 [] = r at hnone ⊢
    obtain ⟨l, st⟩ := r
    obtain rfl : st = none := hnone
    exact ⟨_, _, _, rfl⟩
  · rw [if_neg h1]
    by_cases hc : copied p.table = true
    · have hnone := hcopy hc
      rw [if_pos hc]
      generalize fillRead a cx.domain p (entrySize p.table * p.count) p.count 0 [] = r at hnone ⊢
      obtain ⟨l, st⟩ := r
      obtain rfl : st = none := hnone
      cases l <;> exact ⟨_, _, _, rfl⟩
    · rw [if_neg hc]
      exact ⟨_, _, _, rfl⟩

theorem slotRec_congr {x y : Engine} (h : x.dma = y.dma) (n : Nat) : x.slotRec n = y.slotRec n := by rw [Engine.slotRec, h]; rfl

theorem clearSlot_slotRec (n : Nat) (e : Engine) : (clearSlot n e).slotRec n = { e.slotRec n with halted := false } := by
  simp [clearSlot, Engine.slotRec]

/-- A command of a fault slot that waits (DMA_RESUME, DMA_ABORT): refused by its owner, by the slot, or done. -/
theorem slot_checks {s : State} {cx : Cx} {p : SlotSeqP} {a : Engine} (hdma : a.dma = s.eng.dma) (refuse bad go : Engine) :
    (if slotDenied a cx p then refuse else if !slotHolds a p then bad else go) =
    (if cx.domain ≠ 0 ∧ p.slot < 64 ∧ (s.eng.slotRec p.slot).halted = true ∧ (s.eng.slotRec p.slot).dom ≠ cx.domain then refuse
     else if p.slot < 64 ∧ (s.eng.slotRec p.slot).halted = true ∧ (s.eng.slotRec p.slot).seq = p.seq then go else bad) := by
  have hrec : a.slotRec p.slot = s.eng.slotRec p.slot := slotRec_congr hdma p.slot
  simp only [slotDenied, slotHolds, hrec, Bool.and_eq_true, bne_iff_ne, decide_eq_true_eq, and_assoc, Bool.not_eq_true',
    ← Bool.not_eq_true, ite_not, beq_iff_eq]

/-- Settles O10. -/
theorem tableAndDmaCommandsAct : Obligations.tableAndDmaCommandsAct := by
  refine ⟨?read, ?write, ?resume, ?abort⟩
  case read =>
    intro s cx p a hclear ha hrsv hn hlo hhi hiova hmap hcopy
    obtain ⟨l, buf, e, hopen⟩ := tableReadBody_opens hn ((tableOk_iff p).mpr ⟨hlo, hhi, hiova⟩) hmap hcopy
    have hexec := exec_clear0_noPorts (c := .tableRead cx p) (op := false) rfl hclear nofun rfl ha hrsv
    refine Goes.to hexec ?_
    rw [hopen]
    exact openRead_has cx p l buf e
  case write =>
    intro s cx p a hclear ha
    refine (exec_clear_noPorts (op := false) rfl hclear nofun rfl ha).trans (next_congr ?_)
    simp only [tableWriteBody, Bool.not_eq_true', ← Bool.not_eq_true, tableOk_iff, ite_not]
    rfl
  case resume =>
    intro s cx p a r hclear ha hrsv hr
    refine (exec_clear0_noPorts (op := false) rfl hclear nofun rfl ha hrsv).trans (next_congr ?_)
    have hdma : a.dma = s.eng.dma := by rw [ha, accepted_dma]; rfl
    have hrec : a.slotRec p.slot = r := by rw [hr, slotRec_congr hdma]
    rw [dmaResumeBody, slot_checks hdma, hrec, ← hr]
  case abort =>
    intro s cx p a r hclear ha hrsv hr
    refine (exec_clear0_noPorts (op := false) rfl hclear nofun rfl ha hrsv).trans (next_congr ?_)
    have hdma : a.dma = s.eng.dma := by rw [ha, accepted_dma]; rfl
    have hslot : ((inc Reg.DMA_ABORT_CNT (clearSlot p.slot a)).slotRec p.slot).stream = r.stream := by
      rw [slotRec_congr (inc_dma _ _), clearSlot_slotRec, slotRec_congr hdma, hr]
    simp only [dmaAbortBody, slot_checks hdma, hslot, ← hr]

end Sys2Proof.Machine
end

section
/-! The statement about the pairing commands (R161, R170, R171, R182, R183). -/

open Sys2Proof

namespace Sys2Proof.Machine

/-- A command that names ports, its way clear: it does its own part, and what that frees follows. -/
theorem exec_clear_port {c self : Instr} {s : State} {op : Bool} {cx : Cx} {i : CmdInfo} {rsv n : Nat} {ports : Engine → List Nat}
    {l : List Nat} {body : Engine → Engine} {a : Engine}
    (hx : exec c s = .next (s.run (arriveAs op cx (settled (runPort i self cx rsv ports body))))) (hl : ports s.start = l)
    (h : Clear cx i l s.start) (ho : op = true → i.operator = true) (hn : i.opcode = n) (hname : n ∈ namingOps)
    (hp : ∀ x : Engine, x.xact = s.eng.xact → (∀ j ∈ x.cmd.inflight, j ∈ s.eng.cmd.inflight ∨ j.wait = some self) → ports x = l)
    (ha : a = accepted cx n l s.start) (h0 : rsv = 0) : exec c s = .next (s.to (settle (body a))) := by
  subst hn hl ha
  rw [hx, State.run_to, arriveAs_go _ h ho, settled, runPort_clear body hname h0 hp h]

theorem quiet_start {s : State} (h : Quiet s.eng) : Quiet s.start := ⟨h.groups, h.tags, h.step, h.sleep⟩

/-- A command that is taken in whose way is clear leaves nothing that waits. -/
theorem quiet_taken {s : State} {cx : Cx} {i : CmdInfo} {l : List Nat} {n : Nat} {a : Engine} (h : Quiet s.eng) (hc : Clear cx i l s.start)
    (ha : a = accepted cx n l s.start) : Quiet a := ha ▸ quiet_accepted (quiet_start h) (infl_none hc.tag)

theorem listPorts_nil (e : Engine) : listPorts [] e = [] := rfl

theorem listOf_zero {p : PairTxnP} (h : p.count = 0) : listOf p = [] := by rw [listOf, h]; rfl

/-- PAIR_TXN of no entries (R161). -/
theorem pairTxnGo_empty {s : Engine} {cx : Cx} {p : PairTxnP} (hc : Clear cx cmdPairTxn [] s) (hn : p.count = 0) (h0 : p.rsv = 0) :
    pairTxnGo cx p s = complete cx stEmpty 0 (accepted cx 0x0201 [] s) := by
  have hports : ∀ x, listPorts (listOf p) x = [] := fun x => by rw [listOf_zero hn, listPorts_nil]
  rw [pairTxnGo, runPort_clear (pairTxnBody cx p) (by decide) h0 (fun x _ _ => by rw [hports, hports]) (by rw [hports]; exact hc), hports,
    pairTxnBody, if_pos hn]
  rfl

/-- The transaction of an accepted PAIR_TXN is checked against the engine as it was. -/
theorem pairTxnBody_ok {cx : Cx} {p : PairTxnP} {a e : Engine} (hx : a.xact = e.xact) (hb : a.bkp = e.bkp) (hk : a.clk = e.clk)
    (hn : p.count ≠ 0) (hok : pairTxnOk p = true) (hv : validate e cx.domain p.xid (listOf p) = none) :
    pairTxnBody cx p a = complete cx stOk
      (p.count + (((listOf p).map (parseEntry e (listNames (listOf p)))).flatMap (·.targets e)).length * 65536)
      (openTxn cx.domain p.xid ((listOf p).map (parseEntry e (listNames (listOf p)))) a) := by
  have hparse : parseEntry a (listNames (listOf p)) = parseEntry e (listNames (listOf p)) := funext fun w => parse_congr hx _ w
  have htargets : (fun n : Entry => n.targets a) = (fun n : Entry => n.targets e) := funext fun n => targets_congr hb hk n
  simp only [pairTxnBody, if_neg hn, hok, Bool.not_true, Bool.false_eq_true, if_false, validate_congr hx hb, hv, hparse, htargets]


/-- PAIR_TXN that fetches its list: the command is in flight, not accepted, and the stream is open (R161, R180). -/
def listOpened (cx : Cx) (q : PairTxnP) (e : Engine) : Engine :=
  openCmd 3 cx q.addr (4 * q.count) false (.list cx q)
    (updInfl cx (fun i => { i with accepted := false }) (takeIn cx 0x0201 [] false e))

theorem takeIn_held {cx : Cx} {op : Nat} {ps : List Nat} {e : Engine} (h : e.infl cx = none) :
    takeIn cx op ps false e = withInfl (e.cmd.inflight ++ [{ inflOf cx op ps e with accepted := false }])
      (hwmNext { inflOf cx op ps e with accepted := false } e) := by
  unfold takeIn
  rw [h]
  exact holdTag_eq _ e

theorem accepted_accepts {cx : Cx} {op : Nat} {ps : List Nat} {e : Engine} (h : e.infl cx = none) :
    (accepted cx op ps e).cmd.accepts = e.cmd.accepts + 1 := by
  have hcount : ∀ q x, (countAccept q x).cmd.accepts = x.cmd.accepts + 1 := fun _ _ => rfl
  rw [accepted_eq h, hcount, withInfl, hwmNext_cmd]

theorem quiet_listOpened {cx : Cx} {q : PairTxnP} {e : Engine} (hq : Quiet e) (hn : e.infl cx = none) : Quiet (listOpened cx q e) := by
  have hfr : Frame 65564 e (takeIn cx 0x0201 [] false e) := moves_takeIn.frame
  refine ⟨?_, fun i hi => ?_, ?_, ?_⟩
  · rw [show (listOpened cx q e).xact = e.xact from hfr .xact rfl]
    exact hq.groups
  · rw [show (listOpened cx q e).cmd = (updInfl cx (fun i => { i with accepted := false }) (takeIn cx 0x0201 [] false e)).cmd from rfl] at hi
    obtain ⟨j, hj, rfl⟩ := List.mem_map.mp hi
    rw [takeIn_held hn] at hj
    have hwait : j.wait = none := by
      rcases List.mem_append.mp hj with hj | hj
      · exact hq.tags j hj
      · rw [List.mem_singleton.mp hj]
        rfl
    split
    · exact hwait
    · exact hwait
  · rw [show (listOpened cx q e).tim = e.tim from hfr .tim rfl]
    exact hq.step
  · rw [show (listOpened cx q e).sys = e.sys from hfr .sys rfl]
    exact hq.sleep

theorem pairTxnNow_byAddr {s : Engine} {cx : Cx} {p : PairTxnP} (hx : executing s cx = true) (haddr : p.byAddr = true)
    (hr : isRing cx.hopper = false) (hls : listStream s cx = false) :
    pairTxnNow cx p s =
      if p.count = 0 ∨ pairTxnOk p = false then pairTxnGo cx { p with entries := [] } s else listOpened cx { p with entries := [] } s := by
  simp [pairTxnNow, haddr, hx, hr, hls, headerRefusal, cmdPairTxn]
  rfl

/-- PAIR_TXN whose list is in its packet. -/
theorem exec_pairTxn_list {s : State} {cx : Cx} {p : PairTxnP} (haddr : p.byAddr = false) :
    exec (.pairTxn cx p) s = .next (s.run (arriveAs false cx (settled
      (runPort cmdPairTxn (.pairTxn cx p) cx p.rsv (listPorts (listOf p)) (pairTxnBody cx p))))) := by
  have hnow : pairTxnNow cx p = pairTxnGo cx p := by
    funext e
    simp [pairTxnNow, haddr]
  refine (show exec (.pairTxn cx p) s = .next (s.run (arriveAs false cx (settled (pairTxnNow cx p)))) from rfl).trans ?_
  rw [hnow]
  rfl

theorem openTxn_nextId (dom xid : Nat) (es : List Entry) (e : Engine) : (openTxn dom xid es e).xact.nextId = e.xact.nextId + 1 := by
  unfold openTxn
  exact (each_same (·.xact.nextId) _ _ (by intro _ _; rfl) _).trans rfl

/-- PORT_PARK of a port that has to move opens a transaction of its own and commits it (R182). -/
theorem portParkBody_opens {cx : Cx} {p : PortParkP} {a e : Engine} {l : List Word} {es : List Entry} (hx : a.xact = e.xact)
    (hb : a.bkp = e.bkp) (hk : a.clk = e.clk) (hs : a.sys = e.sys) (hl : l = parkList p.port) (hzero : e.sys.zeroService = false)
    (hv : validate e cx.domain 0 l = none) (hes : es = l.map (parseEntry e (listNames l))) (hne : es.flatMap (·.targets e) ≠ []) :
    portParkBody cx p a = commitTxn a.xact.nextId 0 0 false cx (openTxn cx.domain 0 es a) := by
  have hparse : parseEntry a (listNames l) = parseEntry e (listNames l) := funext fun w => parse_congr hx _ w
  have htargets : (fun n : Entry => n.targets a) = (fun n : Entry => n.targets e) := funext fun n => targets_congr hb hk n
  have hz : zeroService a = false := by rw [zeroService, hs, hzero]
  simp only [portParkBody, hz, ← hl, validate_congr hx hb, hv, hparse, ← hes, htargets, hne, Bool.false_eq_true, if_false,
    openTxn_nextId, Nat.add_sub_cancel]

/-- Settles O11. -/
theorem pairingCommandsAct : Obligations.pairingCommandsAct := by
  refine ⟨?txn, ?byAddr, ?empty, ?commit, ?abort, ?epoch, ?record, ?park⟩
  case txn =>
    intro s cx p a l es hc hq ha h0 haddr hn hok hl hv hes
    subst hl hes
    refine (exec_clear_port (exec_pairTxn_list haddr) rfl hc nofun rfl (by decide) (fun x hx _ => listPorts_congr _ hx) ha h0).trans
      (next_congr ?_)
    rw [pairTxnBody_ok (e := s.eng) (by rw [ha, accepted_xact]; rfl) (by rw [ha, accepted_bkp]; rfl) (by rw [ha, accepted_clk]; rfl) hn hok hv]
    exact settle_quiet (quiet_complete (quiet_openTxn _ _ _ (quiet_taken hq hc ha)))
  case byAddr =>
    intro s cx p hc hq haddr hn hok hls
    have hnow : settle (pairTxnNow cx p s.start) = listOpened cx { p with entries := [] } s.start := by
      rw [pairTxnNow_byAddr (executing_of hc) haddr (hc.host rfl) hls, if_neg (by simp [hn, hok])]
      exact settle_quiet (quiet_listOpened (quiet_start hq) (infl_none hc.tag))
    refine Goes.to (exec_run (f := arriveAs false cx (settled (pairTxnNow cx p))) rfl ((arriveAs_go (op := false) _ hc (by intro h; cases h)).trans hnow)) ?_
    have hdma : (takeIn cx 0x0201 [] false s.start).dma = s.eng.dma := moves_takeIn.frame .dma rfl
    simp only [listOpened, openCmd, openStream, updInfl_dma, hdma]
  case empty =>
    intro s cx p hc hq h0 hn hway
    have hend : settle (complete cx stEmpty 0 (accepted cx 0x0201 [] s.start)) = complete cx stEmpty 0 (accepted cx 0x0201 [] s.start) :=
      settle_quiet (quiet_complete (quiet_taken hq hc rfl))
    refine exec_run (f := arriveAs false cx (settled (pairTxnNow cx p))) rfl ((arriveAs_go (op := false) _ hc (by intro h; cases h)).trans ?_)
    cases haddr : p.byAddr with
    | false =>
      have hnow : pairTxnNow cx p s.start = pairTxnGo cx p s.start := by simp [pairTxnNow, haddr]
      rw [settled, hnow, pairTxnGo_empty hc hn h0, hend]
    | true =>
      obtain ⟨hr, hls⟩ := hway.resolve_left (by simp [haddr])
      rw [settled, pairTxnNow_byAddr (executing_of hc) haddr hr hls, if_pos (.inl hn), pairTxnGo_empty (p := { p with entries := [] }) hc hn h0,
        hend]
  case commit =>
    intro s cx p t hc hq h0 ht hst hwhen hzero
    obtain ⟨a, ha⟩ : ∃ a, a = accepted cx 0x0202 (xidPorts cx.domain p.xid s.start) s.start := ⟨_, rfl⟩
    have hx : a.xact = s.eng.xact := by rw [ha, accepted_xact]; rfl
    have hz : zeroService a = false := by
      rw [ha, zeroService, accepted_sys]
      exact hzero
    have hcommit : settle (pairCommitBody cx p a) = commitTxn t.id p.whn (At.toNs p.at_) p.early cx a := by
      simp only [pairCommitBody, byXid_congr hx, ht, hst, hwhen, hz, ne_eq, not_true_eq_false, if_false, Bool.not_true, Bool.false_eq_true]
      exact settle_quiet (quiet_commitTxn _ _ _ _ _ (quiet_taken hq hc ha))
    refine Goes.to (exec_clear_port (op := false) rfl rfl hc nofun rfl (by decide)
      (xidPorts_quiet cx.domain p.xid _ hq (by intro _ _ h; cases h)) ha h0) ?_
    rw [hcommit]
    refine ⟨ha ▸ accepted_accepts (infl_none hc.tag), ?_⟩
    have hin : a.infl cx = some (inflOf cx 0x0202 (xidPorts cx.domain p.xid s.start) s.start) := ha ▸ accepted_infl (infl_none hc.tag)
    rw [commitTxn, hin]
    simp only [updTxn, hx]
    rfl
  case abort =>
    intro s cx p t a hc hq h0 ht ha
    have hacc : Quiet a := quiet_taken hq hc ha
    have hx : a.xact = s.eng.xact := by rw [ha, accepted_xact]; rfl
    refine (exec_clear_port (op := false) rfl rfl hc nofun rfl (by decide)
      (xidPorts_quiet cx.domain p.xid _ hq (by intro _ _ h; cases h)) ha h0).trans (next_congr ?_)
    simp only [pairAbortBody, byXid_congr hx, ht]
    split
    · exact settle_quiet (quiet_complete hacc)
    · exact settle_quiet (quiet_complete (quiet_failTxn _ _ _ hacc))
  case epoch =>
    intro s cx p a hc ha h0 hk
    refine (exec_clear0_noPorts (op := false) rfl hc nofun rfl ha h0).trans (next_congr ?_)
    have hx : a.xact = s.eng.xact := by rw [ha, accepted_xact]; rfl
    simp only [pairQueryBody, if_pos hk, completeAt, hx, Bool.not_eq_true']
  case record =>
    intro s cx p a hc ha h0 hk
    refine (exec_clear0_noPorts (op := false) rfl hc nofun rfl ha h0).trans (next_congr ?_)
    have hx : a.xact = s.eng.xact := by rw [ha, accepted_xact]; rfl
    have hd : a.dma = s.eng.dma := by rw [ha, accepted_dma]; rfl
    have hbad : p.kind > 1 ↔ p.kind ≠ 1 := by omega
    simp only [pairQueryBody, if_neg hk, recordOf, byXid_congr hx, hx, hd, hbad, Bool.not_eq_true']
    rfl
  case park =>
    intro s cx p l es hc hq h0 hzero hl hv hes hne
    obtain ⟨a, ha⟩ : ∃ a, a = accepted cx 0x0205 (listPorts l s.start) s.start := ⟨_, rfl⟩
    have hbody := portParkBody_opens (cx := cx) (p := p) (e := s.eng) (a := a) (by rw [ha, accepted_xact]; rfl) (by rw [ha, accepted_bkp]; rfl)
      (by rw [ha, accepted_clk]; rfl) (by rw [ha, accepted_sys]; rfl) hl hzero hv hes hne
    have hx : a.xact = s.eng.xact := by rw [ha, accepted_xact]; rfl
    refine Goes.to (exec_clear_port (op := false) rfl (by rw [hl]) hc nofun rfl (by decide)
      (fun x hx _ => hl ▸ listPorts_congr _ hx) ha h0) ?_
    rw [hbody, settle_quiet (quiet_commitTxn _ _ _ _ _ (quiet_openTxn _ _ _ (quiet_taken hq hc ha)))]
    rw [commitTxn, updTxn, openTxn_txns]
    refine ⟨_, List.mem_map.mpr ⟨_, List.mem_append_right _ (List.mem_singleton.mpr rfl), if_pos rfl⟩, ?_⟩
    simp [hx]

end Sys2Proof.Machine
end

section
/-! The statement about the schedule commands (R190, R191, R198). -/

open Sys2Proof

namespace Sys2Proof.Machine

/-- A start in order waits for its time (R190). -/
theorem schStartBody_waits {cx : Cx} {p : SchStartP} {a : Engine} {t0 : Nat} (hw : whenOk p.whn p.at_ = true)
    (hsrc : p.source = 0 ∧ p.first < 1024 ∧ Tbl.get (fun _ => []) a.sch.segs p.first ≠ [] ∧ tableBad a = none ∨
      p.source = 1 ∧ p.first = 0 ∧ a.sch.flume.isSome = true)
    (hint : 10 ≤ rdF a Fd.SCH_CLK_INT_INT) (hruns : playerRuns a = false) (hown : ∀ x ∈ a.sch.slots, ownersMatch a x.2 = true)
    (ht0 : t0 = if p.whn = 0 then gridUp (dNs a + 4000) else if p.whn = 1 then gridUp (At.toNs p.at_) else At.toNs p.at_)
    (hlate : p.whn ≠ 0 → dNs a + 4000 ≤ t0) :
    schStartBody cx p a =
      { a with sch := { a.sch with
          st := .waitStart, stream := p.source == 1, reason := 0, start := some (cx, p.whn, t0), cur := none, nextB := [], jump := none,
          missing := some { pos := if p.source = 1 then a.sch.startPos else p.first, left := 0, endE := 0, at_ := t0 },
          visit := [], visitSlot := none, stopAfter := none, stopCx := none } } := by
  have hbad : ¬(p.source > 1 ∨ (!whenOk p.whn p.at_) = true ∨ (p.source = 0 ∧ p.first ≥ 1024) ∨
      (p.source = 1 ∧ (p.first ≠ 0 ∨ a.sch.flume.isNone = true)) ∨ rdF a Fd.SCH_CLK_INT_INT < 10) := by
    have hnone : a.sch.flume.isNone = true ↔ ¬ a.sch.flume.isSome = true := by cases a.sch.flume <;> simp
    rw [hw, hnone]
    rcases hsrc with ⟨h1, h2, _, _⟩ | ⟨h1, h2, h3⟩
    · simp only [Bool.not_true, Bool.false_eq_true, false_or]; omega
    · simp only [Bool.not_true, Bool.false_eq_true, false_or, h3, not_true_eq_false, or_false]; omega
  have hseg : ¬(p.source = 0 ∧ Tbl.get (fun _ => []) a.sch.segs p.first = []) := by
    rcases hsrc with ⟨_, _, h3, _⟩ | ⟨h1, _⟩
    · exact fun h => h3 h.2
    · exact fun h => absurd (h.1.symm.trans h1) (by decide)
  have htbl : (if p.source = 0 then tableBad a else none) = none := by
    rcases hsrc with ⟨_, _, _, h4⟩ | ⟨h1, _⟩
    · rw [h4, ite_self]
    · rw [if_neg (by omega)]
  have hany : a.sch.slots.any (fun x => !ownersMatch a x.2) = false := by
    rw [List.any_eq_false]
    intro x hx
    simp [hown x hx]
  have htime : ¬(p.whn ≠ 0 ∧ t0 < dNs a + 4000) := fun h => absurd (hlate h.1) (by omega)
  rw [ht0] at htime
  unfold schStartBody
  rw [if_neg hbad, hruns, if_neg Bool.false_ne_true, if_neg hseg, hany, if_neg Bool.false_ne_true, htbl]
  dsimp only
  rw [if_neg htime, ← ht0]

/-- A schedule that is stopped at once (R198). -/
theorem stopNow_sch {reason : Nat} {e : Engine} (h : playerRuns e = true) : (stopNow reason e).sch.st = .stopped ∧
    (stopNow reason e).sch.reason = reason ∧ (stopNow reason e).sch.cur = none ∧ (stopNow reason e).sch.nextB = [] := by
  unfold stopNow
  rw [h]
  simp only [Bool.not_true, Bool.false_eq_true, if_false, note_sch, and_self]

theorem schStopBody_idle {cx : Cx} {p : SchStopP} {a y : Engine} (hhow : p.how ≤ 1) (hy : y = passDue a) (hr : playerRuns y = false) :
    schStopBody cx p a = complete cx stEmpty 0 y := by
  have h : ¬ p.how > 1 := by omega
  simp only [schStopBody, if_neg h, ← hy, hr, Bool.not_false, if_true]

theorem schStopBody_running {cx : Cx} {p : SchStopP} {a y : Engine} (hhow : p.how ≤ 1) (hy : y = passDue a) (hr : playerRuns y = true)
    (hstop : y.sch.stopCx = none) : schStopBody cx p a =
    (if (latchedSlot y).isSome then { y with sch := { y.sch with stopAfter := some 1, stopCx := some (cx, p.how) } }
     else finishStop cx p.how (stopNow 1 y)) := by
  have h : ¬ p.how > 1 := by omega
  simp only [schStopBody, if_neg h, ← hy, hr, hstop, Bool.not_true, Bool.false_eq_true, if_false, Option.isSome_none]

theorem tableBad_congr {x y : Engine} (hs : x.sch = y.sch) (hi : rdF x Fd.SCH_CLK_INT_INT = rdF y Fd.SCH_CLK_INT_INT)
    (hf : rdF x Fd.SCH_CLK_FRAC_FRAC = rdF y Fd.SCH_CLK_FRAC_FRAC) : tableBad x = tableBad y := by
  unfold tableBad segOk longEnough playLen tickPeriod Engine.slot
  simp only [hs, hi, hf]

theorem ownersMatch_congr {x y : Engine} (h : x.xact = y.xact) (l : Slot) : ownersMatch x l = ownersMatch y l := by
  unfold ownersMatch Engine.port
  rw [h]

/-- Settles O12. -/
theorem scheduleCommandsAct : Obligations.scheduleCommandsAct := by
  refine ⟨?load, ?start, ?stopIdle, ?stop, ?jump, ?stream⟩
  case load =>
    intro s cx p a hc ha h0 hn hk hrange hcross hiova hbusy
    refine (exec_clear0_noPorts (op := true) rfl hc (fun _ => rfl) rfl ha h0).trans (next_congr ?_)
    have hb : loadBusy a p = false := by
      rw [← hbusy, ha]
      unfold loadBusy playerRuns segOf
      rw [accepted_sch]
      rfl
    have hok : ¬(p.kind > 1 ∨ p.first + p.count > (if p.kind = 0 then 256 else 1024) ∨ (p.kind = 1 ∧ p.cross) ∨
        !iovaOk p.addr 32 (loadSize p.kind * p.count)) := by
      rw [loadSize, hiova]
      simp only [Bool.not_true, Bool.false_eq_true, or_false, not_or]
      exact ⟨by omega, by omega, hcross⟩
    rw [schLoadBody, if_neg hn, if_neg hok, hb, if_neg Bool.false_ne_true]
    rfl
  case start =>
    intro s cx p t0 hc h0 hw hsrc hint hruns hown ht0 hlate
    obtain ⟨a, ha⟩ : ∃ a, a = accepted cx 0x0302 [] s.start := ⟨_, rfl⟩
    have hs : a.sch = s.eng.sch := by rw [ha, accepted_sch]; rfl
    have hx : a.xact = s.eng.xact := by rw [ha, accepted_xact]; rfl
    have hr : rdF a Fd.SCH_CLK_INT_INT = rdF s.eng Fd.SCH_CLK_INT_INT := by rw [ha, rdF_accepted _ _ _ _ _ (by decide) (by decide)]; rfl
    have hfrac : rdF a Fd.SCH_CLK_FRAC_FRAC = rdF s.eng Fd.SCH_CLK_FRAC_FRAC := by
      rw [ha, rdF_accepted _ _ _ _ _ (by decide) (by decide)]
      rfl
    have hd : dNs a = dNs s.eng := by rw [ha, dNs, accepted_tim]; rfl
    have htbl : tableBad a = tableBad s.eng := tableBad_congr hs hr hfrac
    refine Goes.to (exec_clear0_noPorts (op := true) rfl hc (fun _ => rfl) rfl ha h0) ?_
    rw [schStartBody_waits (t0 := t0) hw (by rw [hs, htbl]; exact hsrc) (by rw [hr]; exact hint) (by rw [playerRuns, hs]; exact hruns)
      (fun x hx' => by rw [ownersMatch_congr hx]; exact hown x (hs ▸ hx')) (by rw [hd]; exact ht0) (by rw [hd]; exact hlate)]
    rw [hs]
    exact ⟨rfl, rfl, rfl, rfl, rfl, rfl⟩
  case stopIdle =>
    intro s cx p y hc h0 hhow hy hruns
    refine (exec_clear0_noPorts (op := true) (n := 0x0303) rfl hc (fun _ => rfl) rfl rfl h0).trans (next_congr ?_)
    exact schStopBody_idle hhow hy hruns
  case stop =>
    intro s cx p y hc h0 hhow hy hruns hstop
    refine Goes.to (exec_clear0_noPorts (op := true) (n := 0x0303) rfl hc (fun _ => rfl) rfl rfl h0) ?_
    rw [schStopBody_running hhow hy hruns hstop]
    split
    · rfl
    · rw [finishStop_sch]
      exact stopNow_sch hruns
  case jump =>
    intro s cx p hc h0 htgt hruns hseg
    obtain ⟨a, ha⟩ : ∃ a, a = accepted cx 0x0304 [] s.start := ⟨_, rfl⟩
    have hs : a.sch = s.eng.sch := by rw [ha, accepted_sch]; rfl
    refine Goes.to (exec_clear0_noPorts (op := true) rfl hc (fun _ => rfl) rfl ha h0) ?_
    have hslot : ∀ n, a.slot n = s.eng.slot n := fun n => by rw [Engine.slot, hs]; rfl
    have hok : ¬((!s.eng.sch.stream) = true ∧ (Tbl.get (fun _ => []) s.eng.sch.segs p.target = [] ∨
        (!(s.eng.slot (segSlot (Tbl.get (fun _ => []) s.eng.sch.segs p.target))).loaded) = true)) := by
      rintro ⟨h1, h2⟩
      rcases hseg with h | ⟨h3, h4⟩
      · simp [h] at h1
      · simp [h3, h4] at h2
    have hr : playerRuns a = true := by rw [playerRuns, hs]; exact hruns
    simp only [schJumpBody, hs, hslot, hr, if_neg hok, Bool.not_true, Bool.false_eq_true, if_false, if_neg (show ¬ p.target ≥ 1024 by omega)]
    split <;> simp only [complete_sch]
  case stream =>
    intro s cx p hc h0 hlo hhi hiova hfl hstart
    obtain ⟨a, ha⟩ : ∃ a, a = accepted cx 0x0305 [] s.start := ⟨_, rfl⟩
    have hs : a.sch = s.eng.sch := by rw [ha, accepted_sch]; rfl
    refine Goes.to (exec_clear0_noPorts (op := true) rfl hc (fun _ => rfl) rfl ha h0) ?_
    have hok : ¬(p.log2 < 8 ∨ p.log2 > 16 ∨ (!iovaOk p.addr 256 (16 * 2 ^ p.log2)) = true) := by
      rw [hiova]
      simp only [Bool.not_true, Bool.false_eq_true, or_false]
      omega
    simp only [schStreamBody, if_neg hok, hs, hfl, Option.isSome_none, Bool.false_eq_true, if_false]
    by_cases hres : p.resume = true
    · simp only [hres, if_true, flumeFetch_sch]
      exact ⟨trivial, trivial, trivial⟩
    · simp only [hres, Bool.false_eq_true, if_false]
      refine ⟨rfl, rfl, rfl, rfl, ?_, ?_⟩
      · rw [rd_wr_same, Nat.mod_eq_of_lt hstart]
      · rw [rd_wr_ne _ _ _ _ (by decide), rd_wr_same, Nat.mod_eq_of_lt hstart]

end Sys2Proof.Machine
end

section
/-! The statement about the loop and capture commands (R137, R155, R157). -/

open Sys2Proof

namespace Sys2Proof.Machine

/-- A restart of the loops of a range leaves their words. -/
theorem cfgOf_restarted (b : Bool) (l : List Nat) (e : Engine) (ap : Nat) :
    cfgOf (if b then each l loopRestart e else e) ap = cfgOf e ap := by
  cases b with
  | false => rfl
  | true => exact each_same (fun x => cfgOf x ap) l loopRestart (by intro _ _; rfl) e

theorem captureHeader_length (u : Capture) : (captureHeader u).length = 32 := by
  simp only [captureHeader, List.length_append, leBytes_length]

theorem capRec_bytes_length (r : CapRec) : r.bytes.length = 16 := by
  simp only [CapRec.bytes, List.length_append, leBytes_length]

theorem records_length (l : List CapRec) : (l.flatMap CapRec.bytes).length = 16 * l.length := by
  induction l with
  | nil => rfl
  | cons r l ih =>
    rw [List.flatMap_cons, List.length_append, ih, capRec_bytes_length, List.length_cons]
    omega

/-- The bytes of a read of a capture unit (R157). -/
theorem captureData_length (u : Capture) {first count : Nat} (h : first + count ≤ u.recs.length) :
    (captureHeader u ++ ((u.recs.reverse.drop first).take count).flatMap CapRec.bytes).length = 32 + 16 * count := by
  rw [List.length_append, captureHeader_length, records_length, List.length_take, List.length_drop, List.length_reverse]
  congr 2
  omega

/-- Settles O13. -/
theorem loopCommandsAct : Obligations.loopCommandsAct := by
  refine ⟨?cfg, ?inject, ?arm, ?read⟩
  case cfg =>
    intro s cx p hc h0 hw hn hrange hok
    obtain ⟨a, ha⟩ : ∃ a, a = accepted cx 0x0401 [] s.start := ⟨_, rfl⟩
    refine Goes.to (exec_clear0_noPorts (op := true) rfl hc (fun _ => rfl) rfl ha h0) ?_
    intro ap w hlt
    have hbad : ¬(p.first + p.count > 4100 ∨ (!cfgOk p.words p.cfg) = true) := by
      rw [hok]
      simp only [Bool.not_true, Bool.false_eq_true, or_false]
      omega
    have hcfg : cfgOf a ap = cfgOf s.eng ap := cfgOf_congr (by rw [ha, accepted_loop]; rfl) (by rw [ha, accepted_sys]; rfl) ap
    rw [loopCfgBody, if_neg (by omega), if_neg hn, if_neg hbad]
    dsimp only
    rw [cfgOf_congr (congrArg LoopSt.cfg (complete_loop _ _ _ _)) (complete_sys _ _ _ _), cfgOf_restarted, cfgPut_each _ _ _ _ _ _ hlt, hcfg]
    simp only [mem_span, and_assoc]
  case inject =>
    intro s cx p o hc h0 hok ho hroom
    obtain ⟨a, ha⟩ : ∃ a, a = accepted cx 0x0402 [] s.start := ⟨_, rfl⟩
    have hl : a.loop = s.eng.loop := by rw [ha, accepted_loop]; rfl
    refine Goes.to (exec_clear0_noPorts (op := true) rfl hc (fun _ => rfl) rfl ha h0) ?_
    have hof : (a.loopOf p.aperture) = s.eng.loopOf p.aperture := by rw [Engine.loopOf, hl]; rfl
    simp only [loopInjectBody, hok, hl, ← ho, hof, Bool.not_true, Bool.false_eq_true, if_false]
    by_cases hz : p.wave = 0
    · simp only [hz, if_true, complete_loop]
    · rw [if_neg hz, if_neg (by have := hroom hz; omega), if_neg hz, complete_loop]
  case arm =>
    intro s cx p hc h0 hok
    obtain ⟨a, ha⟩ : ∃ a, a = accepted cx 0x0403 [] s.start := ⟨_, rfl⟩
    have hl : a.loop = s.eng.loop := by rw [ha, accepted_loop]; rfl
    refine Goes.to (exec_clear0_noPorts (op := true) rfl hc (fun _ => rfl) rfl ha h0) ?_
    have hof : (a.loopOf p.aperture) = s.eng.loopOf p.aperture := by rw [Engine.loopOf, hl]; rfl
    simp only [captureArmBody, hok, hl, hof, Bool.not_true, Bool.false_eq_true, if_false, complete_loop]
    exact ⟨Tbl.get_put_same _ _ _ _, fun u hu => Tbl.get_put_ne _ _ _ _ _ (Ne.symm hu)⟩
  case read =>
    intro s cx p u hc h0 hn hunit hiova hu h1 h2 hrecs
    obtain ⟨a, ha⟩ : ∃ a, a = accepted cx 0x0404 [] s.start := ⟨_, rfl⟩
    have hl : a.loop = s.eng.loop := by rw [ha, accepted_loop]; rfl
    refine Goes.to (exec_clear0_noPorts (op := true) rfl hc (fun _ => rfl) rfl ha h0) ?_
    have hbad : ¬(p.unit > 3 ∨ (!iovaOk p.addr 32 (32 + 16 * p.count)) = true) := by
      rw [hiova]
      simp only [Bool.not_true, Bool.false_eq_true, or_false]
      omega
    have hlen := captureData_length u hrecs
    rw [captureReadBody, if_neg hn]
    simp only [hl, ← hu, if_neg hbad, if_neg (show ¬ u.recs.length < p.first + p.count by omega),
      if_neg (show ¬(u.st = 1 ∨ u.st = 2) by simp [h1, h2])]
    refine ⟨_, List.mem_map.mpr ⟨_, List.mem_append_right _ (List.mem_singleton.mpr rfl), if_pos rfl⟩, ?_⟩
    simp [hlen]

end Sys2Proof.Machine
end

section
/-! The statement about the calibration commands (R84, R89, R130, R131). -/

open Sys2Proof

namespace Sys2Proof.Machine

/-- The job of a survey's round is on the list, of group 13 (R84). -/
theorem surveyJob_has (round : Nat) (last : Bool) (t : Nat) (e : Engine) :
    ∃ j ∈ (surveyJob round last t e).xact.jobs, j.owner = .survey round last ∧ j.grp = 13 :=
  ⟨_, List.mem_append_right _ (List.mem_singleton.mpr rfl), rfl, rfl⟩

theorem stageEmpty_congr {x y : Engine} (hs : x.syn = y.syn) (hn : x.sns = y.sns) (n : Nat) : stageEmpty x n = stageEmpty y n := by
  unfold stageEmpty
  rw [hs, hn]

/-- The checks of CAL_SENSOR, all passed (R131). -/
theorem calSensorBody_runs {cx : Cx} {p : CalSensorP} {a : Engine} (hn : p.count ≠ 0) (hrange : p.first + p.count ≤ 4100) (hstep : p.step ≤ 2)
    (hk : p.step = 1 → -300 ≤ p.known ∧ p.known ≤ 300) (hz : p.step ≠ 1 → p.known = 0)
    (hf : p.frames = 0 ∨ 16 ≤ p.frames ∧ p.frames ≤ 4096)
    (hord : p.step ≤ 1 → ∀ ap, p.first ≤ ap → ap < p.first + p.count → ordinary ap = true) (hjob : a.sns.job = none) :
    calSensorBody cx p a = { a with sns := { a.sns with job := some { cx := cx, p := p, at_ := a.clk } } } := by
  have hbad : (decide (p.first + p.count > 4100) || decide (p.step > 2) ||
      (if p.step = 1 then decide (p.known < -300 ∨ p.known > 300) else p.known != 0) ||
      (p.frames != 0 && (decide (p.frames < 16) || decide (p.frames > 4096)))) = false := by
    have h1 : ¬ p.first + p.count > 4100 := by omega
    have h2 : ¬ p.step > 2 := by omega
    have h3 : (if p.step = 1 then decide (p.known < -300 ∨ p.known > 300) else p.known != 0) = false := by
      split
      case isTrue h => have := hk h; simp; omega
      case isFalse h => simp [hz h]
    have h4 : (p.frames != 0 && (decide (p.frames < 16) || decide (p.frames > 4096))) = false := by
      rcases hf with h | ⟨h, h'⟩
      · simp [h]
      · simp; omega
    rw [h3, h4]
    simp [h1, h2]
  have hres : ¬(p.step ≤ 1 ∧ (span p.first p.count).any (fun a => !ordinary a) = true) := by
    rintro ⟨h1, h2⟩
    obtain ⟨ap, hap, hno⟩ := List.any_eq_true.mp h2
    obtain ⟨hlo, hhi⟩ := (mem_span _ _ _).mp hap
    simp [hord h1 ap hlo hhi] at hno
  unfold calSensorBody
  dsimp only
  rw [if_neg hn, hbad, if_neg Bool.false_ne_true, if_neg hres, hjob]
  rfl

/-- Settles O14. -/
theorem calibrationCommandsAct : Obligations.calibrationCommandsAct := by
  refine ⟨?sensor, ?survey, ?commit, ?upload⟩
  case sensor =>
    intro s cx p hc h0 hn hrange hstep hk hz hf hord hjob
    obtain ⟨a, ha⟩ : ∃ a, a = accepted cx 0x0501 [] s.start := ⟨_, rfl⟩
    have hs : a.sns = s.eng.sns := by rw [ha, accepted_sns]; rfl
    have hclk : a.clk = s.eng.clk := by rw [ha, accepted_clk]; rfl
    refine Goes.to (exec_clear0_noPorts (op := true) rfl hc (fun _ => rfl) rfl ha h0) ?_
    rw [calSensorBody_runs hn hrange hstep hk hz hf hord (hs ▸ hjob), hs, hclk]
  case survey =>
    intro s cx p hc h0 hfirst hlast hmeas hidle
    obtain ⟨a, ha⟩ : ∃ a, a = accepted cx 0x0502 [] s.start := ⟨_, rfl⟩
    have hs : a.syn = s.eng.syn := by rw [ha, accepted_syn]; rfl
    have hp : stationP0 a = stationP0 s.eng := by
      unfold stationP0 tapNow Engine.sens
      rw [show a.sns = s.eng.sns by rw [ha, accepted_sns]; rfl]
    have hbad : ¬(p.firstRound > 4090 ∨ (if p.rounds = 0 then 4090 else p.firstRound + p.rounds - 1) > 4090 ∨ p.measFrames > 16) := by
      rintro (h | h | h)
      · omega
      · split at h
        · omega
        · have := hlast (by assumption); omega
      · omega
    refine Goes.to (exec_clear0_noPorts (op := true) rfl hc (fun _ => rfl) rfl ha h0) ?_
    unfold calSurveyBody
    dsimp only
    rw [if_neg hbad, hs, hidle, Option.isSome_none, if_neg Bool.false_ne_true, hp]
    refine ⟨?_, ?_, fun hkeep => ?_, fun hkeep => ?_, surveyJob_has _ _ _ _⟩
    all_goals simp only [surveyJob_syn, wr_syn]
    · simp [hkeep]
    · simp [hkeep]
  case commit =>
    intro s cx p a b hc ha h0 hlo hhi hact hfree hb
    refine (exec_clear0_noPorts (op := true) rfl hc (fun _ => rfl) rfl ha h0).trans (next_congr ?_)
    have hs : a.syn = s.eng.syn := by rw [ha, accepted_syn]; rfl
    have hn : a.sns = s.eng.sns := by rw [ha, accepted_sns]; rfl
    have hbad : ¬(p.target = 0 ∨ p.target > 3 ∨ p.action > 1) := by omega
    rw [calCommitBody, if_neg hbad, hs, if_neg hfree, stageEmpty_congr hs hn, ← hb]
  case upload =>
    intro s cx p hc h0 hn hset hrange hiova hstage
    obtain ⟨a, ha⟩ : ∃ a, a = accepted cx 0x0504 [] s.start := ⟨_, rfl⟩
    have hs : a.syn = s.eng.syn := by rw [ha, accepted_syn]; rfl
    have hd : a.dma = s.eng.dma := by rw [ha, accepted_dma]; rfl
    refine Goes.to (exec_clear0_noPorts (op := true) rfl hc (fun _ => rfl) rfl ha h0) ?_
    have hbad : ¬(p.set > 3 ∨ p.first + p.count > numRecords ∨ (!iovaOk p.addr 32 (32 * p.count)) = true ∨
        a.syn.aimStage.any (fun x => x.1 != p.set) = true) := by
      rw [hiova, hs]
      have hany : ¬ s.eng.syn.aimStage.any (fun x => x.1 != p.set) = true := by
        cases hst : s.eng.syn.aimStage with
        | none => simp
        | some x => simp [hstage x hst]
      simp only [Bool.not_true, Bool.false_eq_true, hany, or_false]
      omega
    rw [aimUploadBody, if_neg hn, if_neg hbad]
    refine ⟨by simp only [openCmd, openStream, hd], ?_⟩
    simp only [openCmd, openStream, aimArea, hs]
    cases hst : s.eng.syn.aimStage with
    | none => exact ⟨_, rfl, rfl⟩
    | some x => exact ⟨x.2, by rw [← hstage x hst]; rfl, rfl⟩

end Sys2Proof.Machine
end

section
/-! The statement about the operator commands (R104, R227, R229). -/

open Sys2Proof

namespace Sys2Proof.Machine

/-- The checks of OWNER_SET, all passed (R229). -/
theorem ownerSetBody_sets {cx : Cx} {p : OwnerSetP} {a : Engine} (hn : p.count ≠ 0) (hrange : p.first + p.count ≤ 4096) (hd : p.domain ≤ 63)
    (hlock : on a Fd.CMD_OWN_LOCK_LOCK = false)
    (hports : ∀ q ∈ span p.first p.count, reservedPort q = false ∧ (a.port q).txn = none ∧ slotBusy a q = false ∧
      (paired a q = true → partner a q ∈ span p.first p.count ∨ (a.port (partner a q)).owner = p.domain)) :
    ∃ n, ownerSetBody cx p a = complete cx stOk n (each (span p.first p.count) (fun q => updPort q (fun x => { x with owner := p.domain })) a) := by
  have hres : (span p.first p.count).any reservedPort = false := by
    rw [List.any_eq_false]
    intro q hq
    simp [(hports q hq).1]
  have hbusy : (span p.first p.count).any (fun q => (a.port q).txn.isSome || slotBusy a q) = false := by
    rw [List.any_eq_false]
    intro q hq
    obtain ⟨_, htxn, hslot, _⟩ := hports q hq
    simp [htxn, hslot]
  have hpair : (span p.first p.count).any
      (fun q => paired a q && decide (partner a q ∉ span p.first p.count) && (a.port (partner a q)).owner != p.domain) = false := by
    rw [List.any_eq_false]
    intro q hq hno
    obtain ⟨_, _, _, hp⟩ := hports q hq
    simp only [Bool.and_eq_true, decide_eq_true_eq, bne_iff_ne] at hno
    obtain ⟨⟨h1, h2⟩, h3⟩ := hno
    exact (hp h1).elim h2 h3
  refine ⟨((span p.first p.count).filter (fun q => (a.port q).owner != p.domain)).length, ?_⟩
  unfold ownerSetBody
  dsimp only
  rw [if_neg hn, if_neg (by omega), hlock, if_neg Bool.false_ne_true, hres, if_neg Bool.false_ne_true, hbusy, if_neg Bool.false_ne_true,
    hpair, if_neg Bool.false_ne_true]

/-- The domain entry that DOMAIN_CFG writes (R227). -/
def configuredDomain (p : DomainCfgP) : Domain :=
  { vfEn := p.vfEn, ringEn := p.ringEn, tagQuota := p.tagQuota, hopFirst := p.hopFirst, hopCount := p.hopCount }

/-- The checks of DOMAIN_CFG, all passed (R227). -/
theorem domainCfgBody_sets {cx : Cx} {p : DomainCfgP} {a : Engine} (hd : p.domain ≤ 63) (hcount : p.hopCount ≤ 4080) (hquota : p.tagQuota ≤ 4096)
    (h0 : p.domain = 0 → p.en = true ∧ p.vfEn = false) (hrange : p.hopFirst + p.hopCount ≤ 4080)
    (hover : ∀ d, d < 64 → d ≠ p.domain → overlap p.hopFirst p.hopCount (a.dom d).hopFirst (a.dom d).hopCount = false)
    (hleaves : leaves a p = false) :
    domainCfgBody cx p a = complete cx stOk 0 (setDomEn p.domain p.en (updDom p.domain (fun _ => configuredDomain p) a)) := by
  have hzero : ¬(p.domain = 0 ∧ ((!p.en) = true ∨ p.vfEn = true)) := by
    rintro ⟨h, h'⟩
    obtain ⟨h1, h2⟩ := h0 h
    simp [h1, h2] at h'
  have hany : (List.range 64).any (fun d => d != p.domain && overlap p.hopFirst p.hopCount (a.dom d).hopFirst (a.dom d).hopCount) = false := by
    rw [List.any_eq_false]
    intro d hd' hno
    simp only [Bool.and_eq_true, bne_iff_ne] at hno
    simp [hover d (List.mem_range.mp hd') hno.1] at hno
  unfold domainCfgBody
  rw [if_neg (by omega), if_neg hzero, if_neg (by omega), hany, if_neg Bool.false_ne_true, hleaves, if_neg Bool.false_ne_true]
  rfl

/-- Enables of a domain that loses none of them are one register's word. -/
theorem setDomEn_eq {d : Nat} {b : Bool} {e : Engine} (h : b = false → domEn e d = false) :
    setDomEn d b e = e ∨ ∃ o v, setDomEn d b e = wr o v e := by
  unfold setDomEn
  split
  · exact .inl rfl
  · refine .inr ⟨_, _, if_neg ?_⟩
    cases b with
    | true => simp
    | false => simp [h rfl]

theorem quiet_congr {x y : Engine} (h : Quiet x) (ht : y.xact.txns = x.xact.txns) (hc : y.cmd.inflight = x.cmd.inflight)
    (hm : y.tim = x.tim) (hs : y.sys = x.sys) : Quiet y :=
  ⟨by rw [ht]; exact h.groups, by rw [hc]; exact h.tags, by rw [hm]; exact h.step, by rw [hs]; exact h.sleep⟩

theorem quiet_setDomEn {d : Nat} {b : Bool} {e : Engine} (h : Quiet e) (hb : b = false → domEn e d = false) : Quiet (setDomEn d b e) := by
  rcases setDomEn_eq hb with heq | ⟨o, v, heq⟩
  · rwa [heq]
  · rw [heq]
    exact quiet_congr h rfl rfl rfl rfl

theorem accepted_domains {cx : Cx} {op : Nat} {ps : List Nat} {e : Engine} (h : e.infl cx = none) :
    (accepted cx op ps e).cmd.domains = e.cmd.domains := by
  have hcount : ∀ q x, (countAccept q x).cmd.domains = x.cmd.domains := fun _ _ => rfl
  rw [accepted_eq h, hcount, withInfl, hwmNext_cmd]

theorem domEn_accepted (cx : Cx) (op : Nat) (e : Engine) (d : Nat) : domEn (accepted cx op [] e) d = domEn e d := by
  unfold domEn
  rw [rd_accepted _ _ _ _ _ (by decide) (by decide), rd_accepted _ _ _ _ _ (by decide) (by decide)]

theorem domEn_of_cpl {x y : Engine} (h : Cpl x y) (d : Nat) : domEn y d = domEn x d := by
  unfold domEn
  rw [h.2 _ (by decide), h.2 _ (by decide)]

theorem drillOk_congr {x y : Engine} (hb : x.bkp = y.bkp) (hr : x.rfs = y.rfs) (hk : x.clk = y.clk)
    (ho : rdF x Fd.RFS_OVR_OWNER = rdF y Fd.RFS_OVR_OWNER) : drillOk x = drillOk y := by
  unfold drillOk allOwn tokenNow hbArrives autoOwner Engine.tile
  rw [hb, hr, hk, ho]

theorem strobeEnd_congr {x y : Engine} (hb : x.bkp = y.bkp) (hk : x.clk = y.clk) (k : Nat) : strobeEnd x k = strobeEnd y k := by
  unfold strobeEnd Engine.aper
  rw [hb, hk]

/-- Settles O15. -/
theorem operatorCommandsAct : Obligations.operatorCommandsAct := by
  refine ⟨?domain, ?owner, ?policer, ?drill⟩
  case domain =>
    intro s cx p hc hq h0 hd hcount hquota hzero hrange hover hleaves hen
    obtain ⟨a, ha⟩ : ∃ a, a = accepted cx 0x0601 [] s.start := ⟨_, rfl⟩
    have hdom : ∀ d, a.dom d = s.eng.dom d := dom_congr (ha ▸ accepted_domains (infl_none hc.tag))
    have hover' : ∀ d, d < 64 → d ≠ p.domain → overlap p.hopFirst p.hopCount (a.dom d).hopFirst (a.dom d).hopCount = false :=
      fun d h1 h2 => by rw [hdom]; exact hover d h1 h2
    have hbody := domainCfgBody_sets (cx := cx) hd hcount hquota hzero hrange hover' (ha ▸ hleaves)
    generalize hb : updDom p.domain (fun _ => configuredDomain p) a = b at hbody
    have hen' : p.en = false → domEn b p.domain = false := by
      intro h
      rw [← hen h, ← hb, ha]
      exact domEn_accepted cx 0x0601 s.start p.domain
    have hqb : Quiet (setDomEn p.domain p.en b) :=
      quiet_setDomEn (hb ▸ quiet_congr (quiet_taken hq hc ha) rfl rfl rfl rfl) hen'
    have hend : exec (.domainCfg cx p) s = .next (s.to (complete cx stOk 0 (setDomEn p.domain p.en b))) := by
      refine exec_run (f := arriveAs true cx (settled (runCmd { opcode := 0x0601 } cx p.rsv noPorts (domainCfgBody cx p)))) rfl
        ((arriveAs_go _ hc (fun _ => rfl)).trans ?_)
      rw [settled, runCmd_clear (ports := noPorts) _ hc, if_neg (not_not.mpr h0)]
      rw [show accepted cx _ (noPorts s.start) s.start = a from ha.symm, hbody, settle_quiet (quiet_complete hqb)]
    obtain ⟨hcmd, _, hon⟩ := setDomEn_on p.domain p.en b hen'
    have hcpl := cpl_complete cx stOk 0 (setDomEn p.domain p.en b)
    have hnew : ∀ d, (complete cx stOk 0 (setDomEn p.domain p.en b)).dom d = b.dom d := dom_congr (hcpl.1.trans (congrArg CmdSt.domains hcmd))
    refine Goes.to hend ⟨?_, ?_, fun d hne => ?_⟩
    · rw [domEn_of_cpl hcpl]
      exact hon (by omega)
    · rw [hnew, ← hb]
      simp [Engine.dom, updDom, configuredDomain]
    · rw [hnew, ← hb, ← hdom]
      simp [Engine.dom, updDom, Tbl.get_upd_ne _ _ _ _ _ (Ne.symm hne)]
  case owner =>
    intro s cx p hc hq h0 hn hrange hd hlock hports
    obtain ⟨a, ha⟩ : ∃ a, a = accepted cx 0x0602 ((span p.first p.count).filter (fun q => decide (q < 4096))) s.start := ⟨_, rfl⟩
    have hx : a.xact = s.eng.xact := by rw [ha, accepted_xact]; rfl
    have hsch : a.sch = s.eng.sch := by rw [ha, accepted_sch]; rfl
    have hlock' : on a Fd.CMD_OWN_LOCK_LOCK = false := by
      rw [← hlock, on, ha, rdF_accepted _ _ _ _ _ (by decide) (by decide)]
      rfl
    have hport : ∀ q, a.port q = s.eng.port q := fun q => by rw [Engine.port, hx]; rfl
    have hpart : ∀ q, partner a q = partner s.eng q := fun q => by rw [partner, Engine.pair, hx]; rfl
    have hports' : ∀ q ∈ span p.first p.count, reservedPort q = false ∧ (a.port q).txn = none ∧ slotBusy a q = false ∧
        (paired a q = true → partner a q ∈ span p.first p.count ∨ (a.port (partner a q)).owner = p.domain) := by
      intro q hq'
      rw [paired, hport, hpart, hport, slotBusy, playerRuns, hsch]
      exact hports q hq'
    obtain ⟨n, hbody⟩ := ownerSetBody_sets (cx := cx) hn hrange hd hlock' hports'
    have hquiet : Quiet (each (span p.first p.count) (fun q => updPort q (fun x => { x with owner := p.domain })) a) := by
      refine quiet_congr (quiet_taken hq hc ha) (each_same (·.xact.txns) _ _ (by intro _ _; rfl) a)
        (each_same (·.cmd.inflight) _ _ (by intro _ _; rfl) a) (each_same (·.tim) _ _ (by intro _ _; rfl) a)
        (each_same (·.sys) _ _ (by intro _ _; rfl) a)
    refine Goes.to (exec_clear_port (op := true) rfl rfl hc (fun _ => rfl) rfl (by decide) (fun _ _ _ => rfl) ha h0) ?_
    rw [hbody, settle_quiet (quiet_complete hquiet)]
    intro q
    rw [Engine.port, complete_xact]
    refine (each_updPort_owner _ _ _ _).trans ?_
    rw [hport]
    simp only [mem_span]
  case policer =>
    intro s cx p a hc ha h0
    exact (exec_clear0_noPorts (op := true) rfl hc (fun _ => rfl) rfl ha h0).trans rfl
  case drill =>
    intro s cx p hc h0 hok hlo hhi habort
    obtain ⟨a, ha⟩ : ∃ a, a = accepted cx 0x0701 [] s.start := ⟨_, rfl⟩
    have hb : a.bkp = s.eng.bkp := by rw [ha, accepted_bkp]; rfl
    have hk : a.clk = s.eng.clk := by rw [ha, accepted_clk]; rfl
    have hok' : drillOk a = true := by
      rw [← hok]
      exact drillOk_congr hb (by rw [ha, accepted_rfs]; rfl) hk (by rw [ha, rdF_accepted _ _ _ _ _ (by decide) (by decide)]; rfl)
    refine Goes.to (exec_clear0_noPorts (op := true) rfl hc (fun _ => rfl) rfl ha h0) ?_
    rw [drillBody, hok', Bool.not_true, if_neg Bool.false_ne_true, if_neg (by omega)]
    refine ⟨fun k hlt => ?_, ?_⟩
    · have hstrobe : ∀ r, strobeEnd { a with rfs := r } k = strobeEnd s.eng k := fun r => strobeEnd_congr hb hk k
      rw [claimAll_tile _ _ _ hlt, hstrobe]
      simp only [hk, Engine.tile, hb]
    · rw [claimAll_rfs, hk]

end Sys2Proof.Machine
end

section
/-! The statement about doorbells and the fetch of commands (R180, R213, R216). -/

open Sys2Proof

namespace Sys2Proof.Machine

theorem doorbell_shut {fn n : Nat} {v : Word} {b : Bool} {put : Nat → Nat → Engine → Engine} {e : Engine} (h : fnOpen e fn = false) :
    doorbell fn n v b put e = e := by simp [doorbell, h]

/-- What a doorbell of an open function does once it is counted (R213). -/
theorem doorbell_open {fn n : Nat} {v : Word} {b : Bool} {put : Nat → Nat → Engine → Engine} {e : Engine} (h : fnOpen e fn = true) :
    doorbell fn n v b put e = match dbTarget e fn n with
      | none => dbBad (inc Reg.CMD_DB_CNT e)
      | some q => if b = true then put q v.toNat (inc Reg.CMD_DB_CNT e) else dbBad (inc Reg.CMD_DB_CNT e) := by
  have ht : dbTarget (inc Reg.CMD_DB_CNT e) fn n = dbTarget e fn n := domOf_congr (inc_cmd _ _) (inc_lrg _ _) fn n
  simp only [doorbell, h, ht, Bool.not_true, Bool.false_eq_true, if_false] <;> rfl

/-- What a counted doorbell whose value is discarded leaves (R213). -/
theorem dbBad_counted (e : Engine) : (dbBad (inc Reg.CMD_DB_CNT e)).cmd = e.cmd ∧
    rd (dbBad (inc Reg.CMD_DB_CNT e)) Reg.CMD_DB_CNT = (rd e Reg.CMD_DB_CNT + 1) % 4294967296 ∧
    rd (dbBad (inc Reg.CMD_DB_CNT e)) Reg.CMD_DB_BAD_CNT = (rd e Reg.CMD_DB_BAD_CNT + 1) % 4294967296 ∧
    on (dbBad (inc Reg.CMD_DB_CNT e)) Fd.CMD_CAUSE_DB_BAD = true := by
  obtain ⟨hcnt, hon⟩ := dbBad_reads (inc Reg.CMD_DB_CNT e)
  refine ⟨by rw [dbBad_cmd, inc_cmd], ?_, ?_, hon⟩
  · unfold dbBad
    rw [rd_note_ne _ _ _ (by decide) (by decide), rd_inc_ne _ _ _ (by decide), rd_inc_same]
  · rw [hcnt, rd_inc_ne _ _ _ (by decide)]

theorem domainOffCheck_cmd (q : Nat) (e : Engine) : (domainOffCheck q e).cmd = e.cmd := by
  unfold domainOffCheck
  split
  · split
    · rfl
    · rw [note_cmd]
  · rfl

theorem rd_domainOffCheck (q : Nat) (e : Engine) : rd (domainOffCheck q e) Reg.CMD_DB_CNT = rd e Reg.CMD_DB_CNT := by
  unfold domainOffCheck
  split
  · split
    · rfl
    · rw [rd_note_ne _ _ _ (by decide) (by decide)]
  · rfl

theorem sqTailPut_bad {q v : Nat} {e : Engine}
    (h : ¬((e.hop q).enabled = true ∧ v < (e.hop q).sqSize ∧ (e.hop q).depth ≤ ringDist (e.hop q).sqSize (e.hop q).sqHead v)) :
    sqTailPut q v e = dbBad e := by
  refine if_pos ?_
  cases hen : (e.hop q).enabled with
  | false => exact .inl rfl
  | true =>
    simp only [hen, true_and] at h
    right
    omega

/-- A tail that is taken is the hopper's, and the doorbell has its place in the order of submission (R180, R213). -/
theorem sqTailPut_takes {q v : Nat} {e : Engine}
    (h : (e.hop q).enabled = true ∧ v < (e.hop q).sqSize ∧ (e.hop q).depth ≤ ringDist (e.hop q).sqSize (e.hop q).sqHead v) :
    ∃ x, sqTailPut q v e = domainOffCheck q x ∧ (x.hop q).sqTail = v ∧ (x.hop q).sqHead = (e.hop q).sqHead ∧
      (x.hop q).sqSize = (e.hop q).sqSize ∧ x.cmd.subs = e.cmd.subs + 1 ∧ rd x Reg.CMD_DB_CNT = rd e Reg.CMD_DB_CNT := by
  obtain ⟨hen, hlt, hd⟩ := h
  have hno : ¬((!(e.hop q).enabled) = true ∨ v ≥ (e.hop q).sqSize ∨ ringDist (e.hop q).sqSize (e.hop q).sqHead v < (e.hop q).depth) := by
    rw [hen]
    simp only [Bool.not_true, Bool.false_eq_true, false_or]
    omega
  refine ⟨_, if_neg hno, ?_, ?_, ?_, rfl, rfl⟩
  all_goals rw [hop_updHop]
  · rfl
  · rfl

theorem cqHeadPut_bad {q v : Nat} {e : Engine}
    (h : ¬((e.hop q).enabled = true ∧ v < (e.hop q).cqSize ∧
      ringDist (e.hop q).cqSize (e.hop q).cqHead v ≤ ringDist (e.hop q).cqSize (e.hop q).cqHead (e.hop q).cqTail)) :
    cqHeadPut q v e = dbBad e := by
  refine if_pos ?_
  cases hen : (e.hop q).enabled with
  | false => exact .inl rfl
  | true =>
    simp only [hen, true_and] at h
    right
    omega

theorem cqHeadPut_takes {q v : Nat} {e : Engine}
    (h : (e.hop q).enabled = true ∧ v < (e.hop q).cqSize ∧
      ringDist (e.hop q).cqSize (e.hop q).cqHead v ≤ ringDist (e.hop q).cqSize (e.hop q).cqHead (e.hop q).cqTail) :
    cqHeadPut q v e = domainOffCheck q (updHop q (fun h => { h with cqHead := v }) e) := by
  obtain ⟨hen, hlt, hd⟩ := h
  refine if_neg ?_
  rw [hen]
  simp only [Bool.not_true, Bool.false_eq_true, false_or]
  omega

/-- Settles O16. -/
theorem intakeCommandsAct : Obligations.intakeCommandsAct := by
  refine ⟨?shut, ?bad, ?put, ?idle, ?ring, ?waits, ?host⟩
  case shut =>
    exact fun s fn n v b h => ⟨exec_run rfl (doorbell_shut (e := s.start) h), exec_run rfl (doorbell_shut (e := s.start) h)⟩
  case bad =>
    intro s fn n v b hopen hbad
    have hgo : ∀ put, doorbell fn n v b put s.start = dbBad (inc Reg.CMD_DB_CNT s.start) := by
      intro put
      rw [doorbell_open (e := s.start) hopen]
      rcases hbad with h | h
      · rw [show dbTarget s.start fn n = none from h]
      · subst h
        cases dbTarget s.start fn n <;> rfl
    obtain ⟨hcmd, hdb, hcnt, hon⟩ := dbBad_counted s.start
    exact ⟨Goes.to (exec_run rfl (hgo _)) ⟨hcmd, hdb, hcnt, hon⟩, Goes.to (exec_run rfl (hgo _)) ⟨hcmd, hdb, hcnt, hon⟩⟩
  case put =>
    intro s fn n q v hopen htarget
    have hgo : ∀ put, doorbell fn n v true put s.start = put q v.toNat (inc Reg.CMD_DB_CNT s.start) := by
      intro put
      rw [doorbell_open (e := s.start) hopen, show dbTarget s.start fn n = some q from htarget]
      rfl
    have hhop : (inc Reg.CMD_DB_CNT s.start).hop q = s.eng.hop q := rfl
    obtain ⟨hcmd, hdb, hcnt, hon⟩ := dbBad_counted s.start
    refine ⟨Goes.to (exec_run rfl (hgo _)) ?_, Goes.to (exec_run rfl (hgo _)) ?_⟩
    · by_cases h : (s.eng.hop q).enabled = true ∧ v.toNat < (s.eng.hop q).sqSize ∧
          (s.eng.hop q).depth ≤ ringDist (s.eng.hop q).sqSize (s.eng.hop q).sqHead v.toNat
      · obtain ⟨x, heq, htail, hhead, hsize, hsubs, hr⟩ := sqTailPut_takes (e := inc Reg.CMD_DB_CNT s.start) h
        rw [if_pos h, heq, rd_domainOffCheck, hr, rd_inc_same, hop_congr (congrArg CmdSt.hoppers (domainOffCheck_cmd q x)),
          domainOffCheck_cmd, hsubs, Hopper.depth, htail, hhead, hsize]
        refine ⟨rfl, rfl, rfl, rfl, if_neg ?_⟩
        rw [hhop]
        omega
      · rw [if_neg h, sqTailPut_bad (e := inc Reg.CMD_DB_CNT s.start) h]
        exact ⟨hdb, hcmd, hon, hcnt⟩
    · by_cases h : (s.eng.hop q).enabled = true ∧ v.toNat < (s.eng.hop q).cqSize ∧
          ringDist (s.eng.hop q).cqSize (s.eng.hop q).cqHead v.toNat ≤
            ringDist (s.eng.hop q).cqSize (s.eng.hop q).cqHead (s.eng.hop q).cqTail
      · rw [if_pos h, cqHeadPut_takes (e := inc Reg.CMD_DB_CNT s.start) h, rd_domainOffCheck, hop_congr (congrArg CmdSt.hoppers (domainOffCheck_cmd q _))]
        exact ⟨(rd_congr rfl rfl rfl _).trans (rd_inc_same Reg.CMD_DB_CNT s.start), (hop_updHop _ _ _).trans rfl⟩
      · rw [if_neg h, cqHeadPut_bad (e := inc Reg.CMD_DB_CNT s.start) h]
        exact ⟨hdb, hcmd, hon, hcnt⟩
  case idle =>
    intro s res e he hn
    refine exec_run (f := fetchNow res) rfl ?_
    simp only [fetchNow, ← he, hn]
  case ring =>
    intro s res e q r rest h he hn hr hh hring
    refine exec_run (f := fetchNow res) rfl ?_
    have hdom : (intakeDom e q).getD 0 = r.ref.dom := by
      rw [intakeDom, hr, if_pos rfl, ← hh, hring]
      rfl
    simp only [fetchNow, ← he, hn, hr, if_true, hdom, fetchRing, ← hh, hring]
  case waits =>
    intro s res e q he hn hr hw
    refine exec_run (f := fetchNow res) rfl ?_
    simp only [fetchNow, ← he, hn, hr, hw, Bool.false_eq_true, if_false, if_true]
  case host =>
    intro s res e x q d h got he hn hr hw hd hh hmove
    have hdom : (intakeDom e q).getD 0 = d := by rw [intakeDom, hr, if_neg Bool.false_ne_true, hd]
    have hnow : fetchNow res s.start = fullFlags (settle (fetchHost q d res e)) := by
      simp only [fetchNow, ← he, hn, hr, hw, hdom, Bool.false_eq_true, if_false]
    refine ⟨fun why l hgot => ?_, fun parts y n a why l hgot hnum hread => ?_, fun parts y hdr body n hgot hhdr hnum hread => ?_⟩
    all_goals
      refine exec_run (f := fetchNow res) rfl (hnow.trans ?_)
      subst hgot
      rw [fetchHost, ← hh, hmove]
    · dsimp only
      rw [← hnum, hread]
    · dsimp only
      subst hhdr
      rw [← hnum, hread]
      rfl

end Sys2Proof.Machine
end

section
/-! The statement about the policer, the shaper, the completion signals and the hopper samples (R220, R223, R225, R226). -/

open Sys2Proof

namespace Sys2Proof.Machine

/-- The microseconds that have begun pass at once (R223, R225). -/
theorem catchUp_late {e : Engine} (h : e.cmd.us < dUs e) : catchUp e =
    { e with cmd := { e.cmd with
        hoppers := Tbl.mapAll (fun _ => {}) (fun _ h => h.passUs e.cmd.us (dUs e)) e.cmd.hoppers, us := dUs e } } := by
  rw [catchUp, if_neg (Nat.not_le.mpr h)]

theorem nextUs_late {e : Engine} (h : e.cmd.us < dUs e) : nextUs e = e := if_neg (Nat.not_le.mpr h)

/-- Settles O17. -/
theorem hopperClocksRun : Obligations.hopperClocksRun := by
  refine ⟨?late, fun s => rfl, fun s => ?shaper, ?none, ?signal, ?sample, fun s h => ⟨?idle1, ?idle2⟩⟩
  case late =>
    intro s ht hlate
    refine Goes.to (exec_run (f := fun e => whenE (ticking e) (fun e => catchUp (nextUs e)) e) rfl
      (show whenE (ticking s.eng) (fun e => catchUp (nextUs e)) s.start = catchUp s.start from ?_)) ?_
    · rw [ht, whenE, if_pos rfl, nextUs_late (e := s.start) hlate]
    · rw [catchUp_late (e := s.start) hlate]
      exact ⟨rfl, rfl, rfl⟩
  case shaper =>
    refine exec_run (f := fun e => whenE (ticking e && shaped e) (fun e => catchUp (nextUs e)) e) rfl ?_
    simp only [whenE, Bool.and_eq_true]
    rfl
  case none =>
    intro s ht hnone
    refine exec_run (f := fun e => whenE (ticking e) signalNow e) rfl (show whenE (ticking s.eng) signalNow s.start = s.start from ?_)
    have hl : s.start.cmd.hoppers.filter (fun x => x.2.sigPend) = [] := by
      rw [List.filter_eq_nil_iff]
      intro x hx
      simp [hnone x hx]
    rw [ht, whenE, if_pos rfl, signalNow, hl]
  case signal =>
    intro s q h l ht hl
    refine exec_run (f := fun e => whenE (ticking e) signalNow e) rfl (show whenE (ticking s.eng) signalNow s.start = _ from ?_)
    rw [ht, whenE, if_pos rfl, signalNow, show s.start.cmd.hoppers.filter (fun x => x.2.sigPend) = (q, h) :: l from hl]
  case sample =>
    intro s x y ht hx hy
    refine exec_run (f := fun e => whenE (ticking e) sampleNow e) rfl (show whenE (ticking s.eng) sampleNow s.start = _ from ?_)
    rw [ht, whenE, if_pos rfl]
    subst hy hx
    rfl
  case idle1 =>
    exact exec_run (f := fun e => whenE (ticking e) signalNow e) rfl (show whenE (ticking s.eng) signalNow s.start = s.start by rw [h]; rfl)
  case idle2 =>
    exact exec_run (f := fun e => whenE (ticking e) sampleNow e) rfl (show whenE (ticking s.eng) sampleNow s.start = s.start by rw [h]; rfl)

end Sys2Proof.Machine
end

section
/-! The statement about the chunks of streams, halt timeouts and function-level resets (R241, R246, R253). -/

open Sys2Proof

namespace Sys2Proof.Machine

theorem flrDomain_fnCfg (fn : Nat) (e : Engine) : (flrDomain fn e).fnCfg fn = {} := Tbl.get_del_same _ _ _

/-- What a function-level reset leaves of its function (R246, R253). -/
theorem flrDomain_hif (fn : Nat) (e : Engine) : fn ∈ (flrDomain fn e).hif.flrBusy ∧ fn ∉ (flrDomain fn e).hif.opened ∧
    (∀ x ∈ (flrDomain fn e).hif.vecs, x.1 / 64 ≠ fn) := by
  refine ⟨List.mem_cons_self, ?_, fun x hx => ?_⟩
  · intro h
    simpa using (List.mem_filter.mp h).2
  · simpa using (List.mem_filter.mp hx).2

/-- A chunk of a stream that moves host memory of its own address range (R241). -/
theorem moveChunk_host {st : Stream} {res : HostRes} {e : Engine} (hjob : ∀ k, st.job ≠ .leatRx k) : moveChunk st res e =
    match moveRun st.dom (st.iova + st.done) (min 256 (st.len - st.done)) st.write res e with
    | (x, .inr (why, l)) => haltOrEnd st.id why l x
    | (x, .inl parts) => if st.write then writeChunk st (min 256 (st.len - st.done)) parts x else readChunk st (readRun x parts) x := by
  unfold moveChunk
  split
  · exact absurd ‹_› (hjob _)
  · rfl

theorem turn_exec {s : State} {id : Nat} {res : HostRes} {st : Stream} (h : turn s.start = some st) (hid : st.id = id)
    (hf : fetchFirst st s.start = false) : chunkNow id res s.start = toBack id (moveChunk st res (eccMeets res
      (if preempts s.start (kindClass st.kind) = true then inc Reg.DMA_PREEMPT_CNT s.start else s.start))) := by
  rw [chunkNow, h]
  dsimp only
  rw [hid, hf, if_neg (by simp)]

/-- Settles O18. -/
theorem dmaEventsAct : Obligations.dmaEventsAct := by
  refine ⟨?chunk, ?other, fun st e => rfl, ?fault, ?moved, ?rx, ?halt, ?noHalt, ?flr, ?noFlr, fun s fn => rfl⟩
  case chunk =>
    intro s st res a hturn hf ha
    subst ha
    have hexec := exec_run (c := .chunk st.id res) rfl (turn_exec (res := res) hturn rfl hf)
    exact ⟨hexec, Goes.to hexec rfl⟩
  case other =>
    intro s id res h
    refine exec_run (f := chunkNow id res) rfl ?_
    unfold chunkNow
    cases ht : turn s.start with
    | none => rfl
    | some st => exact if_pos (h st ht)
  case fault =>
    intro st n res e x why l hjob hn hmove
    rw [moveChunk_host hjob, ← hn, hmove]
  case moved =>
    intro st n res e x parts hjob hn hmove
    rw [moveChunk_host hjob, ← hn, hmove]
  case rx =>
    intro st k res e hjob
    rw [moveChunk, hjob] <;> rfl
  case halt =>
    intro s n r hr hlt hhalt htmo
    refine exec_run (f := haltTmoNow n) rfl ?_
    have hno : ¬(n ≥ 64 ∨ (!r.halted) = true ∨ r.tmo = 0) := by
      rw [hhalt]
      simp only [Bool.not_true, Bool.false_eq_true, false_or]
      omega
    rw [haltTmoNow, show s.start.slotRec n = r from hr.symm]
    exact if_neg hno
  case noHalt =>
    intro s n h
    refine exec_run (f := haltTmoNow n) rfl (if_pos ?_)
    rcases h with h | h | h
    · exact .inl h
    · exact .inr (.inl (by rw [show s.start.slotRec n = s.eng.slotRec n from rfl, h]; rfl))
    · exact .inr (.inr h)
  case flr =>
    intro s fn hup hex hbusy
    have hgo : flrNow fn s.start = flrOne fn s.start := by
      refine if_neg ?_
      rw [show s.start.hif = s.eng.hif from rfl, show fnExists s.start fn = fnExists s.eng fn from rfl, hup, hex]
      simpa using hbusy
    have hexec := exec_run (c := .flr fn) rfl hgo
    obtain ⟨hb, ho, hv⟩ := flrDomain_hif fn s.start
    refine ⟨hexec, Goes.to hexec ?_⟩
    have hcore : hifCore (flrOne fn s.start).hif = hifCore (flrDomain fn s.start).hif := by
      rw [flrOne, note_core, inc_hif]
    refine ⟨bit_note _ _ (by decide) (by decide), ?_, ?_, ?_, ?_, ?_⟩
    · exact (congrArg HifSt.flrBusy hcore).symm ▸ hb
    · have hcfg : (flrOne fn s.start).hif.cfg = (flrDomain fn s.start).hif.cfg :=
        show (hifCore _).cfg = (hifCore _).cfg from congrArg HifSt.cfg hcore
      show (flrOne fn s.start).fnCfg fn = {}
      rw [Engine.fnCfg, hcfg]
      exact flrDomain_fnCfg fn s.start
    · exact (congrArg HifSt.opened hcore).symm ▸ ho
    · exact (congrArg HifSt.vecs hcore).symm ▸ hv
    · rw [flrOne, note_clk, inc_clk, flrDomain_clk]
      rfl
  case noFlr =>
    intro s fn h
    refine exec_run (f := flrNow fn) rfl (if_pos ?_)
    rw [show s.start.hif = s.eng.hif from rfl, show fnExists s.start fn = fnExists s.eng fn from rfl]
    rcases h with h | h | h <;> simp [h]

end Sys2Proof.Machine
end

section
/-! The statement about the PCI Express events (R239, R240, R262). -/

open Sys2Proof

namespace Sys2Proof.Machine

theorem inMode_eq_true {e : Engine} {l : List Mode} : inMode e l = true ↔ e.sys.mode ∈ l := by simp [inMode]

theorem pass_hif (n : Nat) (e : Engine) : (pass n e).hif = e.hif := moves_pass.part .hif rfl

/-- A link that trains at a speed and a width it has (R239; log 60). -/
theorem linkTrained_up {v w : Nat} {e : Engine} (hoff : e.sys.mode ≠ .off) (hcool : e.sys.mode ≠ .cooldown) (h1 : 1 ≤ v) (h5 : v ≤ 5)
    (hw : w ∈ [1, 2, 4, 8]) : ∃ x, linkTrained v w e = (if v < 5 ∨ w < 8 then note Fd.HIF_CAUSE_DEGRADED x else x) ∧
      x.hif.up = true ∧ x.hif.speed = v ∧ x.hif.width = w ∧ x.hif.numVfs = if e.hif.numVfs = 0 then 63 else e.hif.numVfs := by
  have hno : ¬(inMode e [.off, .cooldown] = true ∨ v = 0 ∨ v > 5 ∨ w ∉ [1, 2, 4, 8]) := by
    rw [inMode_eq_true]
    simp only [List.mem_cons, List.not_mem_nil, or_false, hoff, hcool, false_or, not_or] at hw ⊢
    omega
  generalize hh : ({ e.hif with up := true, speed := v, width := w } : HifSt) = h
  generalize hk : (if e.hif.numVfs = 0 then configured h else h) = k
  obtain ⟨hup, hspeed, hwidth, hvfs⟩ : k.up = true ∧ k.speed = v ∧ k.width = w ∧ k.numVfs = if e.hif.numVfs = 0 then 63 else e.hif.numVfs := by
    rw [← hk]
    split <;> subst hh
    · exact ⟨rfl, rfl, rfl, rfl⟩
    · exact ⟨rfl, rfl, rfl, rfl⟩
  have hdeg : degraded { e with hif := k } = true ↔ v < 5 ∨ w < 8 := by simp [degraded, hup, hspeed, hwidth]
  refine ⟨{ e with hif := k }, ?_, hup, hspeed, hwidth, hvfs⟩
  unfold linkTrained
  rw [if_neg hno]
  simp only [hh, hk, hdeg]

theorem linkTrained_not {v w : Nat} {e : Engine} (h : e.sys.mode = .off ∨ e.sys.mode = .cooldown ∨ v = 0 ∨ 5 < v ∨ w ∉ [1, 2, 4, 8]) :
    linkTrained v w e = e := by
  refine if_pos ?_
  rw [inMode_eq_true]
  simp only [List.mem_cons, List.not_mem_nil, or_false] at h ⊢
  rcases h with h | h | h | h | h <;> simp [h]

/-- Settles O19. -/
theorem pcieEventsAct : Obligations.pcieEventsAct := by
  refine ⟨?hot, ?perst, ?noPerst, ?down, ?up, ?noUp, ?vf, ?noVf, ?aer, ?unlinked⟩
  case hot =>
    intro s h
    obtain ⟨h1, h2, h3, h4, h5, h6, h7⟩ := resetFunctions_after s.start
    exact Goes.to (exec_run (f := fun e => if e.hif.up then resetFunctions e else e) rfl (if_pos h)) ⟨h1, h2, h3, h4, h5, h6, h7⟩
  case perst =>
    intro s n hm hn
    obtain ⟨h1, h2, h3, h4, h5, h6, h7⟩ := resetFunctions_after (pass 1000 s.start)
    refine Goes.to (exec_run (f := fun e => if e.sys.mode = .off ∨ n < 1000 then e else resetFunctions (pass 1000 e)) rfl
      (if_neg (not_or.mpr ⟨hm, by omega⟩))) ⟨h1, h2, h3, h4, ?_, h6, ?_⟩
    · rw [h5, pass_hif]
      rfl
    · rw [h7]
      rfl
  case noPerst =>
    intro s n h
    exact exec_run (f := fun e => if e.sys.mode = .off ∨ n < 1000 then e else resetFunctions (pass 1000 e)) rfl (if_pos h)
  case down =>
    intro s h
    obtain ⟨h1, h2, h3, h4, h5, h6, h7⟩ := resetFunctions_after s.start
    refine Goes.to (exec_run (f := fun e => if e.hif.up then note Fd.HIF_CAUSE_DOWN { resetFunctions e with
      hif := { (resetFunctions e).hif with up := false, speed := 0, width := 0 } } else e) rfl (if_pos h)) ?_
    obtain ⟨g1, g2, g3, g4, g5, g6⟩ := core_up (note_core Fd.HIF_CAUSE_DOWN { resetFunctions s.start with
      hif := { (resetFunctions s.start).hif with up := false, speed := 0, width := 0 } })
    refine ⟨g1, g2, g3, g4.trans h1, g5.trans h2, g6.trans h5, ?_, bit_note _ _ (by decide) (by decide)⟩
    rw [note_dma]
    exact h6
  case up =>
    intro s v w hoff hcool h1 h5 hw
    obtain ⟨x, hx, hup, hspeed, hwidth, hvfs⟩ := linkTrained_up (e := s.start) hoff hcool h1 h5 hw
    refine Goes.to (exec_run (f := linkTrained v w) rfl hx) ?_
    by_cases hd : v < 5 ∨ w < 8
    · rw [if_pos hd]
      obtain ⟨g1, g2, g3, g4, -, -⟩ := core_up (note_core Fd.HIF_CAUSE_DEGRADED x)
      exact ⟨g1.trans hup, g2.trans hspeed, g3.trans hwidth, g4.trans hvfs, fun _ => bit_note _ _ (by decide) (by decide)⟩
    · rw [if_neg hd]
      exact ⟨hup, hspeed, hwidth, hvfs, fun h => absurd h hd⟩
  case noUp =>
    intro s v w h
    exact exec_run (f := linkTrained v w) rfl (linkTrained_not (e := s.start) h)
  case vf =>
    intro s n hup hlt
    have hno : ¬((!s.start.hif.up) = true ∨ n ≥ s.start.hif.numVfs) := by
      rw [show s.start.hif = s.eng.hif from rfl, hup]
      simp only [Bool.not_true, Bool.false_eq_true, false_or]
      omega
    exact Goes.to (exec_run (f := vfDisableNow n) rfl (if_neg hno)) rfl
  case noVf =>
    intro s n h
    exact exec_run (f := vfDisableNow n) rfl (if_pos (h.imp (fun h => by rw [show s.start.hif = s.eng.hif from rfl, h]; rfl) id))
  case aer =>
    intro s hup
    have hno : ¬(!s.start.hif.up) = true := by
      rw [show s.start.hif = s.eng.hif from rfl, hup]
      decide
    refine Goes.to (exec_run (f := aerNow) rfl (if_neg hno)) ⟨bit_note _ _ (by decide) (by decide), ?_, ?_⟩
    · rw [note_cmd]
      rfl
    · rw [note_dma]
      rfl
  case unlinked =>
    intro s h
    have hno : ¬ s.start.hif.up = true := by
      rw [show s.start.hif = s.eng.hif from rfl, h]
      decide
    refine ⟨exec_run (f := fun e => if e.hif.up then resetFunctions e else e) rfl (if_neg hno), exec_run (f := aerNow) rfl (if_pos ?_),
      exec_run (f := fun e => if e.hif.up then note Fd.HIF_CAUSE_DOWN { resetFunctions e with
        hif := { (resetFunctions e).hif with up := false, speed := 0, width := 0 } } else e) rfl (if_neg hno)⟩
    rw [show s.start.hif = s.eng.hif from rfl, h]
    rfl

end Sys2Proof.Machine
end

section
/-! The statement about power-on, BOOT, wake and the end of HOLD (R45, R112, R358, R369, R373, R374). -/

open Sys2Proof

namespace Sys2Proof.Machine

-- what fails transactions leaves of the system block --------------------------

/-- A fact of the system block that does not hang on whether SERVICE stands at zero phase. -/
def BesideZero {β : Type} (g : SysSt → β) : Prop := ∀ x b, g { x with zeroService := b } = g x

theorem restoreFailed_beside {β : Type} {g : SysSt → β} (hg : BesideZero g) (t : Txn) (c i : Nat) (e : Engine) :
    g (restoreFailed t c i e).sys = g e.sys := by
  unfold restoreFailed
  have h : ∀ l, (each l (fun j : Job => dropJob j.id) e).sys = e.sys := fun l => each_sys l _ (by simp) e
  dsimp only
  split
  · rw [openRestore_sys, h]
  · split
    · refine (hg _ _).trans ?_
      simp [h]
    · simp [h]

theorem failTxn_beside {β : Type} {g : SysSt → β} (hg : BesideZero g) (id c i : Nat) (e : Engine) : g (failTxn id c i e).sys = g e.sys := by
  unfold failTxn
  split
  · rfl
  · dsimp only
    cases Txn.commit _ <;> simp [apply_ite Engine.sys, apply_ite g, restoreFailed_beside hg]

theorem failTxns_beside {β : Type} {g : SysSt → β} (hg : BesideZero g) (l : List Txn) (c : Nat) (e : Engine) :
    g (each l (fun t => failTxn t.id c 0xFFFF) e).sys = g e.sys :=
  each_same (fun x => g x.sys) _ _ (fun _ _ => failTxn_beside hg _ _ _ _) e

theorem brakeStop_beside {β : Type} {g : SysSt → β} (hg : BesideZero g) (b : Bool) (e : Engine) : g (brakeStop b e).sys = g e.sys := by
  unfold brakeStop
  simp only [loopsOff_sys, zeroShadows_sys, stopMarch_sys, endCalSensor_sys, endSurvey_sys, stopPlayer_sys]
  refine Eq.trans (congrArg g (each_sys _ _ (fun j e => by cases j.owner <;> simp) _)) ?_
  cases b
  · exact failTxns_beside hg _ _ _
  · exact failTxns_beside hg _ _ _

theorem brakeOn_beside {β : Type} {g : SysSt → β} (hg : BesideZero g) (b : Nat) (e : Engine) : g (brakeOn b e).sys = g e.sys := by
  unfold brakeOn brakeStart
  rw [brakeStop_beside hg]
  split <;> simp

theorem cancelSpan_beside {β : Type} {g : SysSt → β} (hg : BesideZero g) (e : Engine) : g (cancelSpan e).sys = g e.sys := by
  unfold cancelSpan
  split
  · rfl
  · split
    · rfl
    · have hjobs : ∀ l e, (each l (fun x : Job => dropJob x.id) e).sys = e.sys := fun l e => each_sys l _ (by simp) e
      dsimp only
      repeat' split
      all_goals simp [failTxns_beside hg, hjobs]

/-- A trigger of the brake leaves the system block but for the zero phase of SERVICE (R45). -/
theorem trigger_beside {β : Type} {g : SysSt → β} (hg : BesideZero g) (b : Nat) (e : Engine) : g (trigger b e).sys = g e.sys := by
  unfold trigger
  split
  · rfl
  · dsimp only
    repeat' split
    all_goals simp [brakeOn_beside hg, cancelSpan_beside hg]

-- BOOT ------------------------------------------------------------------------

theorem toMode_sys (m : Mode) (e : Engine) : (toMode m e).sys =
    { e.sys with prev := e.sys.mode, mode := m, zeroService := e.sys.zeroService && (m == .service || m == .hold) } := by
  unfold toMode
  rw [updStation_sys, note_sys, inc_sys]
  dsimp only
  split <;> simp

/-- What the build of the library leaves of a register that no event of its own touches. -/
theorem rd_bootBuild {o : Nat} (hf : o ∉ faultRegs) (hc : Fd.SYN_CAUSE_AIM_CRC.off ≠ o) (hn : Reg.SYN_AIM_CRC_CNT ≠ o)
    (hr : Fd.SYS_REMAP_REMAP.off ≠ o) (e : Engine) : rd (bootBuild e) o = rd e o := by
  unfold bootBuild
  rw [rd_wrF_ne _ _ _ _ hr]
  refine (each_same (fun x => rd x o) _ _ (fun _ x => ?_) _).trans ?_
  · rw [aimCrc, rd_note_ne _ _ _ hf hc, rd_inc_ne _ _ _ hn]
  · exact rd_congr (moves_tilesInit.part .regs rfl) (moves_tilesInit.part .trip1 rfl) (moves_tilesInit.part .trip2 rfl) o

/-- The engine at the end of BOOT, before its mode is chosen (R369, R374). -/
def bootShown (b : Bool) (e : Engine) : Engine :=
  let e := bootBuild e
  let ms := min ((e.clk - e.sys.bootAt - e.sys.gateNs) / 1000000) 0xFFFFFF
  let e := { e with sys := { e.sys with bootDone := true, stage := 8, err := 0, bootMs := ms, bootEnd := e.clk, uptimeOn := true } }
  brakeOff 5 (note Fd.SYS_CAUSE_BOOT_END (if b then note Fd.SYS_CAUSE_BIST_FAIL e else e))

theorem bootDone_eq (b : Bool) (e : Engine) : bootDone b e =
    if (bootShown b e).sys.severeSeen then
      toMode .safe (trigger 2 { bootShown b e with sys := { (bootShown b e).sys with severeSeen := false } })
    else if restores (bootShown b e) then
      openRestore (restoreEntries (bootShown b e).thm.restore) 0 (toMode .service (bootShown b e))
    else toMode .bypass (bootShown b e) := rfl

theorem bootShown_sys (b : Bool) (e : Engine) : (bootShown b e).sys.severeSeen = e.sys.severeSeen ∧ (bootShown b e).sys.from_ = e.sys.from_ ∧
    (bootShown b e).sys.bootDone = true ∧ (bootShown b e).sys.stage = 8 ∧ (bootShown b e).sys.err = 0 := by
  unfold bootShown
  dsimp only
  cases b <;> simp

theorem restores_bootShown (b : Bool) (e : Engine) : restores (bootShown b e) = restores e := by
  obtain ⟨hsev, hfrom, -, -, -⟩ := bootShown_sys b e
  have hthm : (bootShown b e).thm = e.thm := by
    unfold bootShown
    dsimp only
    cases b <;> simp
  have hrd : rd (bootShown b e) Reg.THM_RESTORE = rd e Reg.THM_RESTORE := by
    have hold : ∀ (c : Fld) (x : Engine), c.off ∉ [Reg.THM_RESTORE] → rd (note c x) Reg.THM_RESTORE = rd x Reg.THM_RESTORE :=
      fun c x h => rd_note_ne _ _ _ (by decide) (by simpa using h)
    have hbuild := rd_bootBuild (o := Reg.THM_RESTORE) (by decide) (by decide) (by decide) (by decide) e
    unfold bootShown
    dsimp only
    refine (rd_congr (brakeOff_regs _ _) (brakeOff_trip1 _ _) (brakeOff_trip2 _ _) _).trans ?_
    rw [hold _ _ (by decide)]
    cases b
    · exact (rd_congr rfl rfl rfl _).trans hbuild
    · rw [if_pos rfl, hold _ _ (by decide)]
      exact (rd_congr rfl rfl rfl _).trans hbuild
  unfold restores on rdF
  rw [hsev, hfrom, hthm, hrd]

/-- Where BOOT ends (R358, R369, R374). -/
theorem bootDone_ends (b : Bool) (e : Engine) :
    (bootDone b e).sys.mode = (if e.sys.severeSeen = true then .safe else if restores e = true then .service else .bypass) ∧
      (bootDone b e).sys.bootDone = true ∧ (bootDone b e).sys.stage = 8 ∧ (bootDone b e).sys.err = 0 := by
  obtain ⟨hsev, -, hdone, hstage, herr⟩ := bootShown_sys b e
  rw [bootDone_eq, restores_bootShown, hsev]
  split
  · have hbeside : BesideZero fun x => (x.bootDone, x.stage, x.err) := fun _ _ => rfl
    have h := trigger_beside hbeside 2 { bootShown b e with sys := { (bootShown b e).sys with severeSeen := false } }
    simp only [Prod.mk.injEq] at h
    obtain ⟨h1, h2, h3⟩ := h
    simp only [toMode_sys]
    exact ⟨trivial, h1.trans hdone, h2.trans hstage, h3.trans herr⟩
  · split
    · simp only [openRestore_sys, toMode_sys]
      exact ⟨trivial, hdone, hstage, herr⟩
    · simp only [toMode_sys]
      exact ⟨trivial, hdone, hstage, herr⟩


-- SYS_WAKE ----------------------------------------------------------------------

/-- Outside TEST the word that is applied has the register's own reserved bits (R314). -/
theorem rsvKeep_word {r : RegInfo} {off v : Nat} {e : Engine} (hm : e.sys.mode ≠ .test) :
    (rsvKeep r off v e).2 = (v &&& (0xFFFFFFFF ^^^ r.rsv)) ||| (rd e off &&& r.rsv) := by
  by_cases h : rsvChange r (rd e off) v = 0
  · rw [rsvKeep_of_unchanged h]
  · rw [rsvKeep_of_changed h hm]

/-- A write of SYS_WAKE that reaches the fabric outside TEST (R112, R373). -/
theorem wake_reached {rq : Rq} {e : Engine} {v : Word} (hr : rq = .pf ∨ rq = .smbus) (hreach : reachable e rq = true)
    (hlock : e.sys.mode ≠ .lockout) (htest : e.sys.mode ≠ .test) :
    ∃ x w, busDword rq Reg.SYS_WAKE v e = wakeApply rq w x ∧ x.sys = e.sys ∧ bit w 0 = bit v.toNat 0 ∧ bit w 1 = bit v.toNat 1 := by
  have hreaches : Reaches rq Reg.SYS_WAKE e :=
    ⟨hreach, by rintro d rfl; simp at hr, hlock, fun _ => by decide, by decide, by decide⟩
  have hinfo : regInfo Reg.SYS_WAKE = some { base := Reg.SYS_WAKE, wo := 0x3, rsv := 0xFFFFFFFC } := by decide
  refine ⟨_, _, (busDword_plain hreaches (by decide) hinfo rfl (by decide)).trans rfl, moves_rsvKeep.part .sys rfl, ?_, ?_⟩
  all_goals
    rw [rsvKeep_word htest, bit_iff, bit_iff, testBit_kept _ _ _ (by decide)]
    rfl

theorem wake_row {rq : Rq} {s : State} (hr : rq = .pf ∨ rq = .smbus) (hreach : reachable s.eng rq = true)
    (hm : s.eng.sys.mode = .sleep) : (busDword rq Reg.SYS_WAKE 1 s.start).sys.mode = .boot := by
  have hmode : s.start.sys.mode = .sleep := hm
  obtain ⟨x, w, hx, hsys, h0, h1⟩ := wake_reached (v := 1) hr (e := s.start) hreach (by rw [hmode]; decide) (by rw [hmode]; decide)
  have hmay : mayWake rq = true := by rcases hr with rfl | rfl <;> rfl
  rw [hx, wakeApply, hmay, h0, h1]
  exact wakeNow_boot x (hsys ▸ hmode)

theorem holdExit_row {rq : Rq} {s : State} (hr : rq = .pf ∨ rq = .smbus) (hreach : reachable s.eng rq = true)
    (hm : s.eng.sys.mode = .hold) : (busDword rq Reg.SYS_WAKE 2 s.start).sys.mode = .service := by
  have hmode : s.start.sys.mode = .hold := hm
  obtain ⟨x, w, hx, hsys, h0, h1⟩ := wake_reached (v := 2) hr (e := s.start) hreach (by rw [hmode]; decide) (by rw [hmode]; decide)
  have hmay : mayWake rq = true := by rcases hr with rfl | rfl <;> rfl
  rw [hx, wakeApply, hmay, h0, h1]
  show (holdExitNow x).sys.mode = .service
  rw [holdExitNow, if_pos (hsys ▸ hmode), exitHold_mode]

/-- A write of SYS_WAKE that does not reach the fabric, or comes through a virtual function, or in LOCKOUT, does nothing. -/
theorem wake_unheard {rq : Rq} {v : Word} {e : Engine} (h : reachable e rq = false ∨ e.sys.mode = .lockout ∨ ∃ d, rq = .vf d) :
    busDword rq Reg.SYS_WAKE v e = e := by
  rcases h with h | h | ⟨d, rfl⟩
  · simp [busDword, busWrite, h]
  · exact busDword_lockout h (fun _ => by decide)
  · have hwin : vfWrite d Reg.SYS_WAKE v.toNat e = e := (if_neg (by decide)).trans (if_neg (by decide))
    have halign : Reg.SYS_WAKE % 4 = 0 := by decide
    unfold busDword busWrite
    simp [hwin, halign]

/-- Settles O20. -/
theorem bootEventsAct : Obligations.bootEventsAct := by
  refine ⟨?d0, ?row, ?unheard, ?locked, ?powerOn, ?timeout, ?noTimeout, ?bootEnd, ?noEnd, fun e => rfl, ?fails⟩
  case d0 =>
    intro s x hx
    have hx' : d3hotLeave s.start = wakeNow x := by rw [hx]; rfl
    have hmode : x.sys.mode = s.eng.sys.mode := by rw [hx]; rfl
    refine ⟨fun h => ⟨exec_run (f := d3hotLeave) rfl (hx'.trans (if_pos (hmode.trans h))), ?_⟩,
      fun h => exec_run (f := d3hotLeave) rfl (hx'.trans (if_neg (hmode ▸ h)))⟩
    exact Goes.to (exec_run (f := d3hotLeave) rfl hx') (wakeNow_boot x (hmode.trans h))
  case row =>
    exact fun s rq hr hreach => ⟨fun h => Goes.to (exec_run (f := busDword rq Reg.SYS_WAKE 1) rfl rfl) (wake_row hr hreach h),
      fun h => Goes.to (exec_run (f := busDword rq Reg.SYS_WAKE 2) rfl rfl) (holdExit_row hr hreach h)⟩
  case unheard =>
    exact fun s rq h => ⟨exec_run (f := busDword rq Reg.SYS_WAKE 1) rfl (wake_unheard (e := s.start) h),
      exec_run (f := busDword rq Reg.SYS_WAKE 2) rfl (wake_unheard (e := s.start) h)⟩
  case locked =>
    exact fun s n b l h => exec_run (f := powerOnNow n b l) rfl (if_pos h)
  case powerOn =>
    intro s n b l h
    have hgo : powerOnNow n b l s.start = beginBoot (loadNv l (porEngine (n % 32) b s.start)) := by
      refine if_neg ?_
      rintro ⟨h1, h2⟩
      rcases h with h | h
      · exact h h1
      · exact absurd (h.symm.trans h2) (by decide)
    refine Goes.to (exec_run (f := powerOnNow n b l) rfl hgo) ⟨beginBoot_boot _ (by rw [loadNv_sys]; rfl), ?_, ?_, ?_⟩
    · rw [beginBoot_pins, loadNv_pins]
      rfl
    · rw [beginBoot_nvr, loadNv_nvr]
      rfl
    · rw [beginBoot_clk, loadNv_clk]
      rfl
  case timeout =>
    intro s st er x hb hf hst hx
    have hno : ¬((!booting s.start) = true ∨ (!failsIn st er) = true ∨ st < s.start.sys.stage) := by
      rw [show booting s.start = true from hb, hf, show s.start.sys = s.eng.sys from rfl]
      simp only [Bool.not_true, Bool.false_eq_true, false_or]
      omega
    have hgo : bootTimeoutNow st er s.start = if (!booting x) = true ∨ x.sys.stage ≠ st then x
        else bootFail er (if er = 5 then waitClk (stageStart x st + stageBound st) x else x) := by
      rw [hx]
      exact if_neg hno
    refine ⟨fun hb hs => ?_, fun h => ?_⟩
    · refine Goes.to (exec_run (f := bootTimeoutNow st er) rfl (hgo.trans (if_neg (by simp [hb, hs])))) ?_
      by_cases h5 : er = 5
      · rw [if_pos h5, if_pos h5]
        exact ⟨by rw [bootFail, waitClk_sys], by rw [bootFail, waitClk_clk]⟩
      · rw [if_neg h5, if_neg h5]
        exact ⟨rfl, rfl⟩
    · exact exec_run (f := bootTimeoutNow st er) rfl (hgo.trans (if_pos (h.imp (fun h => by rw [h]; rfl) id)))
  case noTimeout =>
    intro s st er h
    refine exec_run (f := bootTimeoutNow st er) rfl (if_pos ?_)
    rcases h with h | h | h
    · exact .inl (by rw [show booting s.start = false from h]; rfl)
    · exact .inr (.inl (by rw [h]; rfl))
    · exact .inr (.inr h)
  case bootEnd =>
    intro s b x y hb hx hy
    have hgo : bootEndNow b s.start = if (!booting x) = true then x else if booting y then bootDone b y else y := by
      rw [hy, hx]
      exact if_neg (by rw [show booting s.start = true from hb]; decide)
    refine ⟨fun h1 h2 => ?_, fun h1 h2 => ?_, fun h1 => ?_⟩
    · refine Goes.to (exec_run (f := bootEndNow b) rfl (hgo.trans ?_)) (bootDone_ends b y)
      rw [h1, h2]
      rfl
    · refine exec_run (f := bootEndNow b) rfl (hgo.trans ?_)
      rw [h1, h2]
      rfl
    · refine exec_run (f := bootEndNow b) rfl (hgo.trans ?_)
      rw [h1]
      rfl
  case noEnd =>
    exact fun s b h => exec_run (f := bootEndNow b) rfl (if_pos (by rw [show booting s.start = false from h]; rfl))
  case fails =>
    intro st er
    simp only [failsIn, Bool.or_eq_true, decide_eq_true_eq, Bool.and_eq_true, beq_iff_eq]

end Sys2Proof.Machine
end

section
/-! The statement about the thermal gate, RST_N and the end of COOLDOWN (R356, R357, R393). -/

open Sys2Proof

namespace Sys2Proof.Machine

/-- What COOLDOWN leaves in the registers at its end (R356). -/
def cooled (e : Engine) : Engine :=
  wr Reg.THM_COOL_STAT (min ((e.clk - e.thm.coolAt) / 1000000000) 0xFFFFFFFF) (inc Reg.THM_SHUT_CNT (note Fd.THM_CAUSE_RESTART e))

theorem cooled_clk (e : Engine) : (cooled e).clk = e.clk := by rw [cooled, wr_clk, inc_clk, note_clk]

theorem cooled_restarts {t : Nat} {e : Engine} (hm : e.sys.mode = .cooldown) (hok : e.thm.coolOk = some t) :
    cooldownEndNow e = beginBoot (resetEngine false .cooldown (darkArray (cooled (waitClk (t + 60000000000) e)))) := by
  unfold cooldownEndNow
  rw [if_pos hm, hok]
  rfl

theorem gate_opens {t : Nat} {e : Engine} (hm : e.sys.mode = .boot ∧ e.sys.gateWaiting = true) (hat : e.sys.gateAt = some t) :
    gateReleaseNow e = gateEnd (waitClk (t + 60000000000) e) := by
  unfold gateReleaseNow
  rw [if_pos hm, hat]

/-- BOOT as it goes on once the gate opens at `n` (R357). -/
theorem gate_goes {n : Nat} {s : State} (hm : s.eng.sys.mode = .boot) (h : gateReleaseNow s.start = gateEnd (waitClk n s.start)) :
    Goes .thermalGateRelease s (fun t => t.sys.mode = .boot ∧ t.sys.gateWaiting = false ∧ t.sys.gateAt = none ∧ t.pwr.rails = true ∧
      t.sys.gateNs = t.clk - (s.eng.sys.bootAt + 100000) ∧ t.clk = max s.eng.clk n) := by
  have hsys : (waitClk n s.start).sys = s.eng.sys := waitClk_sys _ _
  refine Goes.to (exec_run (f := gateReleaseNow) rfl h) ⟨?_, rfl, rfl, rfl, ?_, waitClk_clk n s.start⟩
  · exact (congrArg SysSt.mode hsys).trans hm
  · exact congrArg (fun y : SysSt => (waitClk n s.start).clk - (y.bootAt + 100000)) hsys

/-- Settles O21. -/
theorem restartEventsAct : Obligations.restartEventsAct := by
  refine ⟨?gate, ?noGate, ?rst, ?noRst, ?rise, ?noRise, ?cool, ?noCool⟩
  case gate =>
    intro s t0 hm hw hat
    exact gate_goes hm (gate_opens (e := s.start) ⟨hm, hw⟩ hat)
  case noGate =>
    intro s h
    refine exec_run (f := gateReleaseNow) rfl ?_
    unfold gateReleaseNow
    split
    case isFalse => rfl
    case isTrue hb =>
      have hnone : s.start.sys.gateAt = none := by
        rcases h with h | h | h
        · exact absurd hb.1 h
        · exact absurd (h.symm.trans hb.2) (by decide)
        · exact h
      rw [hnone]
  case rst =>
    intro s n hn hlock hoff
    refine Goes.to (exec_run (f := rstNow n) rfl (if_neg ?_)) ⟨beginBoot_boot _ rfl, ?_, ?_⟩
    · rw [inMode_eq_true]
      simp only [List.mem_cons, List.not_mem_nil, or_false, not_or]
      exact ⟨by omega, hlock, hoff⟩
    · rw [beginBoot_pins]
    · have htrig : ∀ x, (trigger 5 x).pins.straps = x.pins.straps := fun x => by rw [trigger_pins]
      rw [beginBoot_pins]
      refine Eq.trans ?_ (htrig s.start)
      show (resetEngine false .rst (if unpowered s.start = true then darkArray (trigger 5 s.start) else trigger 5 s.start)).pins.straps = _
      split
      · exact congrArg PinSt.straps (moves_darkArray.part .pins rfl)
      · rfl
  case noRst =>
    intro s n h
    refine exec_run (f := rstNow n) rfl (if_pos ?_)
    rw [inMode_eq_true]
    simpa using h
  case rise =>
    intro s h
    have hclk := waitClk_clk (s.eng.pins.rstAt + 10000) s.start
    obtain ⟨hsys, hpins, -⟩ := waitClk_same (s.eng.pins.rstAt + 10000) s.start
    have hgo : rstReleaseNow s.start = { waitClk (s.eng.pins.rstAt + 10000) s.start with
        pins := { (waitClk (s.eng.pins.rstAt + 10000) s.start).pins with rstLow := false }
        sys := { (waitClk (s.eng.pins.rstAt + 10000) s.start).sys with bootAt := (waitClk (s.eng.pins.rstAt + 10000) s.start).clk } } :=
      if_pos h
    refine Goes.to (exec_run rfl hgo) ⟨?_, hclk, ?_⟩
    · rw [hpins]
      rfl
    · rw [hsys]
      rfl
  case noRise =>
    exact fun s h => exec_run (f := rstReleaseNow) rfl (if_neg (by rw [show s.start.pins.rstLow = false from h]; decide))
  case cool =>
    intro s t0 hm hok
    have hgo := cooled_restarts (e := s.start) hm hok
    have hclk := waitClk_clk (t0 + 60000000000) s.start
    generalize waitClk (t0 + 60000000000) s.start = x at hgo hclk
    refine Goes.to (exec_run rfl hgo) ⟨beginBoot_boot _ (resetEngine_mode _ _ _), ?_⟩
    rw [beginBoot_clk, resetEngine_clk, darkArray_clk, cooled_clk, hclk]
    rfl
  case noCool =>
    intro s h
    refine exec_run (f := cooldownEndNow) rfl ?_
    unfold cooldownEndNow
    split
    case isFalse => rfl
    case isTrue hm =>
      rw [show s.start.thm.coolOk = none from h.resolve_left (not_not.mpr hm)]

end Sys2Proof.Machine
end

section
/-! The statement about the brake, march runs, shorts and island resets (R45-R59, R342, R393). -/

open Sys2Proof

namespace Sys2Proof.Machine

/-- A step of a busy aperture leaves its short map. -/
theorem strobed_shortMap (x : Aper) (clk : Nat) : (x.strobed clk).shortMap = x.shortMap := by
  have ha : (x.armed_ clk).shortMap = x.shortMap := by unfold Aper.armed_; split <;> rfl
  rw [Aper.strobed, ← ha]
  unfold Aper.trimmed
  split
  · rfl
  · split
    · rfl
    · dsimp only
      split
      · rfl
      · split <;> rfl

theorem aper_noteTile (f : Fld) (k d a : Nat) (e : Engine) : (noteTile f k d e).aper a = e.aper a := by
  have hclk : (noteTile f k d e).clk = e.clk := (moves_noteTile).part .clk rfl
  rw [Engine.aper, noteTile_bkp, hclk, ← Engine.aper]

/-- The causes of the tiles lie behind the counter of the shorts (R53, R335). -/
theorem rd_noteTile_shortCnt (k d : Nat) (e : Engine) :
    rd (noteTile Fd.TILE_CAUSE_SHORT k d e) Reg.BKP_SHORT_CNT = rd e Reg.BKP_SHORT_CNT := by
  refine rd_noteD_ne _ _ _ _ _ (by decide) ?_
  show 0x8004 + k * 0x40 ≠ 0x3A24
  omega

/-- What a short that is met leaves (R53). -/
theorem shortNow_met {a c : Nat} {e : Engine} (ha : a < 4100) (hc : c < 96) (hb : bit (e.aper a).shortMap c = false)
    (hp : unpowered e = false) :
    ((shortNow a c e).aper a).shortMap = (e.aper a).shortMap ||| (1 <<< c) ∧
      rd (shortNow a c e) Reg.BKP_SHORT_CNT = (rd e Reg.BKP_SHORT_CNT + 1) % 4294967296 := by
  have hno : ¬(a ≥ 4100 ∨ c ≥ 96 ∨ bit (e.aper a).shortMap c ∨ unpowered e) := by
    simp [ha, hc, hb, hp]
  unfold shortNow
  rw [if_neg hno]
  constructor
  · rw [Engine.aper, inc_bkp, inc_clk, ← Engine.aper, aper_noteTile, aper_updAper, strobed_shortMap]
  · rw [rd_inc_same, rd_noteTile_shortCnt]
    rfl

/-- The brake releases once no trigger is left (R48). -/
theorem settleBrake_ends {e : Engine} (hb : e.bkp.braking = true) (hz : e.bkp.zeroing = false) (hl : e.bkp.live = 0) :
    (settleBrake e).bkp = { e.bkp with braking := false } ∧ (settleBrake e).clk = max e.clk (e.bkp.brakeAt + 2000) := by
  unfold settleBrake
  simp [hb, hz, hl, waitClk_clk]

theorem settleBrake_stays {e : Engine} (h : e.bkp.braking = false ∨ e.bkp.zeroing = true ∨ e.bkp.live ≠ 0) : settleBrake e = e := by
  unfold settleBrake
  refine if_neg ?_
  obtain h | h | h := h <;> simp [h]

theorem waitClk_xact (n : Nat) (e : Engine) : (waitClk n e).xact = e.xact := (moves_waitClk).part .xact rfl

/-- A re-synthesis that may begin leaves a job of its own that waits (R52). -/
theorem resynthStart_waits {j : SpanJob} {e : Engine} (hj : e.bkp.span = some j) (hc : j.cancelled = false) (hs : j.sluiced = true)
    (hno : ∀ x ∈ e.xact.jobs, x.owner ≠ .resynth) :
    ∃ x ∈ (resynthStart e).xact.jobs, x.owner = .resynth ∧ x.grp = 13 ∧ x.phase = .waiting := by
  unfold resynthStart
  have hany : ¬(j.cancelled = true ∨ (!j.sluiced) = true ∨ e.xact.jobs.any (fun x => x.owner == .resynth) = true) := by
    simpa [hc, hs] using hno
  simp only [hj]
  rw [if_neg hany]
  exact ⟨_, List.mem_append_right _ (List.mem_singleton_self _), rfl, rfl, rfl⟩

theorem resynthStart_not {e : Engine}
    (h : ∀ j, e.bkp.span = some j → j.cancelled = true ∨ j.sluiced = false ∨ ∃ x ∈ e.xact.jobs, x.owner = .resynth) :
    resynthStart e = e := by
  unfold resynthStart
  split
  · rfl
  case _ j hj =>
    refine if_pos ?_
    simpa using h j hj

/-- What listed tiles are left of a BRAKE_FAIL (R47). -/
theorem silentTiles_nil (l : List Nat) : dedup (l.filter (fun t => decide (t < 256))) = [] ↔ ∀ k ∈ l, 256 ≤ k := by
  simp [dedup_nil, List.filter_eq_nil_iff]

theorem marchEndNow_of {m : MarchRun} {e : Engine} (l : List MarchRead) (h : marching e = some m) :
    marchEndNow l e = testBrake (whenE m.bist bistMarch (wrF Fd.BKP_MARCH_CTL_GO 0 (marchResults m l (haltMarch m (waitClk m.endAt e))))) := by
  rw [marchEndNow, h]

theorem marchEndNow_clk {m : MarchRun} {e : Engine} (l : List MarchRead) (h : marching e = some m) :
    (marchEndNow l e).clk = max e.clk m.endAt := by
  have hb (x : Engine) : (testBrake x).clk = x.clk := (moves_testBrake).part .clk rfl
  have hm (x : Engine) : (whenE m.bist bistMarch x).clk = x.clk := by
    unfold whenE; split
    · exact (moves_bistMarch).part .clk rfl
    · rfl
  have hr (x : Engine) : (marchResults m l x).clk = x.clk := (moves_marchResults).part .clk rfl
  rw [marchEndNow_of l h, hb, hm, wrF_clk, hr, show ∀ x : Engine, (haltMarch m x).clk = x.clk from fun _ => rfl, waitClk_clk]

theorem marchEv_flt (c : Nat) (v : MarchEv) (e : Engine) : (marchEv c v e).flt = e.flt := (moves_marchEv).part .flt rfl

/-- The end of a control island's reset (R109, R342). -/
theorem irstEndNow_of {n : Nat} {e : Engine} (h : e.flt.irst = some n) (hn : 256 ≤ n) :
    irstEndNow e =
      (let x : Engine := { e with flt := { e.flt with irst := none } }
       let y := (match masterOf n with | some m => releaseMaster m x | none => x)
       if n = 262 then { y with rfs := { y.rfs with rstA := false, checkA := true, gapless := none } }
       else if n = 263 then { y with rfs := { y.rfs with rstB := false, checkB := true } }
       else if n = 257 then each (y.cmd.hoppers.map (·.1)) flushHeld y
       else if n = 264 ∨ n = 265 then tbCheck y else y) := by
  unfold irstEndNow
  simp only [h]
  rw [if_neg (by omega)] <;> rfl

theorem irstEndNow_not {e : Engine} (h : ∀ n, e.flt.irst = some n → n < 256) : irstEndNow e = e := by
  unfold irstEndNow
  split
  · rfl
  case _ n hn => exact if_pos (h n hn)

/-- Settles O22: each row by the condition of its occasion. -/
theorem brakeEventsAct : Obligations.brakeEventsAct := by
  unfold Obligations.brakeEventsAct
  refine ⟨?pin, ?pinNot, ?rise, ?sluice, ?sluiceNot, ?fail, ?failNot, ?release, ?releaseNot, ?resynth, ?resynthNot,
    ?march, ?marchNot, ?short, ?shortNot, ?reset, ?resetNot, ?irst, ?irstNot⟩
  case pin =>
    rintro s n x hn hlow rfl
    refine exec_run (f := brakeNNow n) rfl ?_
    have hno : ¬(n < 20 ∨ s.start.pins.brakeLow = true) := by
      rw [show s.start.pins = s.eng.pins from rfl, hlow]; simp; omega
    have hif : (on s.eng Fd.BKP_BRAKE_EN_PIN_EN && !unpowered s.eng) = true ↔
        on s.eng Fd.BKP_BRAKE_EN_PIN_EN = true ∧ unpowered s.eng = false := by simp
    rw [brakeNNow, if_neg hno]
    exact ite_congr (propext hif) (fun _ => rfl) (fun _ => rfl)
  case pinNot =>
    intro s n h
    exact exec_run (f := brakeNNow n) rfl (if_pos h)
  case rise => intro s; exact ⟨_, rfl, rfl, rfl, rfl⟩
  case sluice =>
    intro s h
    exact exec_run (f := brakeSluiceNow) rfl (if_pos h)
  case sluiceNot =>
    intro s h
    exact exec_run (f := brakeSluiceNow) rfl (if_neg (by rw [show s.start.bkp = s.eng.bkp from rfl, h]; decide))
  case fail =>
    rintro s l hz ⟨k, hk, hlt⟩ hoff
    refine Goes.of (f := brakeFailNow l) rfl ?_
    have hne : dedup (l.filter (fun t => decide (t < 256))) ≠ [] := by
      rw [Ne, silentTiles_nil]
      exact fun h => absurd (h k hk) (by omega)
    rw [brakeFailNow, if_pos ⟨hz, hne⟩]
    refine enterLockout_mode _ ?_
    rw [each_same (fun x : Engine => x.sys) _ brakeFailTile brakeFailTile_sys, brakeSluice_sys, brakeInstant_sys]
    exact hoff
  case failNot =>
    intro s l h
    refine exec_run (f := brakeFailNow l) rfl (if_neg ?_)
    rintro ⟨hz, hl⟩
    obtain h | h := h
    · exact Bool.noConfusion (h.symm.trans hz)
    · exact hl ((silentTiles_nil l).2 h)
  case release =>
    intro s hb hz hl
    exact Goes.of (f := settleBrake) rfl (settleBrake_ends (e := s.start) hb hz hl)
  case releaseNot =>
    intro s h
    exact exec_run (f := settleBrake) rfl (settleBrake_stays (e := s.start) h)
  case resynth =>
    intro s j hj hc hs hno
    exact Goes.of (f := resynthStart) rfl (resynthStart_waits (e := s.start) hj hc hs hno)
  case resynthNot =>
    intro s h
    exact exec_run (f := resynthStart) rfl (resynthStart_not (e := s.start) h)
  case march =>
    rintro s m l x hm rfl
    exact ⟨exec_run (f := marchEndNow l) rfl (marchEndNow_of (e := s.start) l hm),
      Goes.of (f := marchEndNow l) rfl (marchEndNow_clk (e := s.start) l hm)⟩
  case marchNot =>
    intro s l h
    refine exec_run (f := marchEndNow l) rfl ?_
    rw [marchEndNow, show marching s.start = none from h]
  case short =>
    intro s a c ha hc hb hp
    exact Goes.of (f := shortNow a c) rfl (shortNow_met (e := s.start) ha hc hb hp)
  case shortNot =>
    intro s a c h
    exact exec_run (f := shortNow a c) rfl (if_pos h)
  case reset =>
    rintro s k l x y h hx hy
    refine exec_run (f := settled (islandResetEndNow k l)) rfl (congrArg settle ?_)
    have hflt : x.flt = s.eng.flt := by rw [hx, marchEv_flt]; rfl
    have hy' : (if x.flt.irst = some k then { x with flt := { x.flt with irst := none } } else x) = y := by
      rw [hy]
      exact ite_congr (by rw [hflt]) (fun _ => rfl) (fun _ => rfl)
    rw [← hy', hx, islandResetEndNow, if_neg (by rw [show s.start.tile k = s.eng.tile k from rfl, h]; decide)]
    rfl
  case resetNot =>
    intro s k l h
    refine exec_run (f := settled (islandResetEndNow k l)) rfl (congrArg settle ?_)
    rw [islandResetEndNow, if_pos (by rw [show s.start.tile k = s.eng.tile k from rfl, h]; decide)]
  case irst =>
    rintro s n x y h hn rfl rfl
    refine exec_run (f := irstEndNow) rfl ?_
    rw [irstEndNow_of (e := s.start) h hn] <;> rfl
  case irstNot =>
    intro s h
    exact exec_run (f := irstEndNow) rfl (irstEndNow_not (e := s.start) h)

end Sys2Proof.Machine
end

section
/-! The statement about the events of transactions (R39-R41, R165-R177, R334). -/

open Sys2Proof

namespace Sys2Proof.Machine

/-- Time that passes defers no step of the clock (R304). -/
theorem runMs_stepDefer {ramp : Int} {next : Nat → Nat → TimSt → TimSt} (hn : ∀ a b t, (next a b t).stepDefer = t.stepDefer)
    (clk n : Nat) (t : TimSt) : (TimSt.runMs ramp next clk n t).stepDefer = t.stepDefer := by
  unfold TimSt.runMs
  split
  · rfl
  · dsimp only
    split
    · rfl
    · exact hn _ _ _

theorem run_stepDefer (ramp : Int) (k clk n : Nat) (t : TimSt) : (TimSt.run ramp k clk n t).stepDefer = t.stepDefer := by
  induction k generalizing clk n t with
  | zero => rfl
  | succ k ih => exact runMs_stepDefer ih clk n t

theorem pass_stepDefer {n : Nat} {e : Engine} (h : e.tim.stepDefer = none) : (pass n e).tim.stepDefer = none := by
  unfold pass
  dsimp only
  split
  · exact h
  · unfold TimSt.passed
    rw [h]
    exact (run_stepDefer _ _ _ _ _).trans h

theorem waitClk_stepDefer {n : Nat} {e : Engine} (h : e.tim.stepDefer = none) : (waitClk n e).tim.stepDefer = none := by
  unfold waitClk
  split
  · exact pass_stepDefer h
  · exact h

theorem waitClk_cmd (n : Nat) (e : Engine) : (waitClk n e).cmd = e.cmd := (moves_waitClk).part .cmd rfl

theorem quiet_waitClk {n : Nat} {e : Engine} (h : Quiet e) : Quiet (waitClk n e) :=
  ⟨by rw [waitClk_xact]; exact h.groups, by rw [waitClk_cmd]; exact h.tags, waitClk_stepDefer h.step, by rw [waitClk_sys]; exact h.sleep⟩

/-- The wait for the end of the pin of a read. -/
def waitPin (x : Option (Cx × Nat)) (e : Engine) : Engine :=
  match x with
  | some (_, t) => waitClk (t + 8000) e
  | none => e

theorem waitPin_xact (x : Option (Cx × Nat)) (e : Engine) : (waitPin x e).xact = e.xact := by
  unfold waitPin; split
  · exact waitClk_xact _ _
  · rfl

theorem quiet_waitPin {x : Option (Cx × Nat)} {e : Engine} (h : Quiet e) : Quiet (waitPin x e) := by
  unfold waitPin; split
  · exact quiet_waitClk h
  · exact h

/-- The map is published once a read's pin is over (R174, R175). -/
theorem publishNow_unpub {e : Engine} (h : e.xact.unpub = true) :
    publishNow e = publish { waitPin e.xact.pinned e with xact := { e.xact with pinned := none } } := by
  unfold publishNow
  rw [h, if_neg (by decide)]
  dsimp only
  rw [show ∀ y : Engine, y.xact = e.xact → ({ y with xact := { y.xact with pinned := none } } : Engine) =
    { y with xact := { e.xact with pinned := none } } from fun y hy => by rw [hy]]
  · rfl
  · exact waitPin_xact e.xact.pinned e

theorem publish_none {e : Engine} (h : e.xact.pubWait = []) : publish e =
    { e with xact := { e.xact with pub := e.xact.cur, pubEpoch := e.xact.epoch, unpub := false, pubWait := [], shown := none } } := by
  unfold publish
  rw [h]
  rfl

/-- A map that no command waits for is published at rest (R174). -/
theorem publishNow_quiet {e : Engine} (h : e.xact.unpub = true) (hw : e.xact.pubWait = []) (hq : Quiet e) :
    (settle (publishNow e)).xact.pub = e.xact.cur ∧ (settle (publishNow e)).xact.pubEpoch = e.xact.epoch ∧
      (settle (publishNow e)).xact.unpub = false := by
  have hp := quiet_waitPin (x := e.xact.pinned) hq
  rw [publishNow_unpub h, publish_none (e := { waitPin e.xact.pinned e with xact := { e.xact with pinned := none } }) hw, settle_quiet]
  · exact ⟨rfl, rfl, rfl⟩
  · exact ⟨hq.groups, hp.tags, hp.step, hp.sleep⟩

/-- The rows of an arm after the run of its agent up to `clk` (R39, R41). -/
theorem armed_up_arming {x : Aper} {clk : Nat} (h : (x.armed_ clk).arming = true) :
    x.arming = true ∧ (x.armed_ clk).strobe + 10 * (80 - (x.armed_ clk).armRow) = x.strobe + 10 * (80 - x.armRow) := by
  unfold Aper.armed_ at h ⊢
  cases hx : x.arming with
  | false => simp [hx] at h
  | true =>
    refine ⟨rfl, ?_⟩
    simp only [Bool.not_true, Bool.false_eq_true, if_false]
    have : strobesBy clk x.strobe (80 - x.armRow) ≤ 80 - x.armRow := Nat.min_le_left _ _
    omega

theorem armed_up_done {x : Aper} {clk : Nat} (h : x.arming = true) (hc : x.strobe + 10 * (80 - x.armRow) ≤ clk) :
    (x.armed_ clk).arming = false ∧ (x.armed_ clk).armed = true := by
  have hn : strobesBy clk x.strobe (80 - x.armRow) = 80 - x.armRow := by
    unfold strobesBy; omega
  unfold Aper.armed_
  rw [h, hn]
  simp only [Bool.not_true, Bool.false_eq_true, if_false, Bool.not_eq_eq_eq_not, Bool.not_false, decide_eq_true_eq, and_self]
  omega

theorem trimmed_arming (x : Aper) (clk : Nat) : (x.trimmed clk).arming = x.arming ∧ (x.trimmed clk).armed = x.armed := by
  unfold Aper.trimmed
  split
  · exact ⟨rfl, rfl⟩
  · split
    · exact ⟨rfl, rfl⟩
    · dsimp only
      split
      · exact ⟨rfl, rfl⟩
      · split <;> exact ⟨rfl, rfl⟩

/-- An aperture that is being armed is not being trimmed. -/
theorem trimmed_of_arming {x : Aper} (clk : Nat) (h : x.arming = true) : x.trimmed clk = x := by
  unfold Aper.trimmed
  split
  · rfl
  · exact if_pos h

theorem strobed_of_armed {x : Aper} {clk : Nat} (h : x.arming = false) :
    (x.strobed clk).arming = false ∧ (x.strobed clk).armed = x.armed := by
  have ha : x.armed_ clk = x := by unfold Aper.armed_; rw [h]; rfl
  rw [Aper.strobed, ha]
  exact ⟨(trimmed_arming x clk).1.trans h, (trimmed_arming x clk).2⟩

/-- An arm that is under way is done at its end (R41). -/
theorem strobed_done {x : Aper} {c d : Nat} (h : (x.strobed c).arming = true)
    (hd : (x.strobed c).strobe + 10 * (80 - (x.strobed c).armRow) ≤ d) : (x.strobed d).arming = false ∧ (x.strobed d).armed = true := by
  have ha : (x.armed_ c).arming = true := by rw [← h]; exact (trimmed_arming _ _).1.symm
  rw [Aper.strobed, trimmed_of_arming c ha] at hd
  obtain ⟨hx, hend⟩ := armed_up_arming ha
  obtain ⟨h1, h2⟩ := armed_up_done hx (hend ▸ hd)
  exact ⟨(trimmed_arming _ _).1.trans h1, (trimmed_arming _ _).2.trans h2⟩

/-- What an arm whose last row is written leaves (R41). -/
theorem armDone_done {a : Nat} {e : Engine} (h : (e.aper a).arming = true) :
    ((armDone a e).aper a).armed = true ∧ ((armDone a e).aper a).arming = false ∧ (armDone a e).clk = max e.clk (armEnd e a) := by
  have hw : ((waitClk (armEnd e a) e).aper a).arming = false ∧ ((waitClk (armEnd e a) e).aper a).armed = true := by
    rw [Engine.aper, waitClk_bkp, waitClk_clk]
    exact strobed_done h (Nat.le_max_right _ _)
  rw [armDone, if_pos h, aper_updAper]
  obtain ⟨h1, h2⟩ := strobed_of_armed (clk := (waitClk (armEnd e a) e).clk) hw.1
  exact ⟨h2.trans hw.2, h1, waitClk_clk _ _⟩

/-- The parks that are left are looked at for the oldest without a job (R334, R335). -/
theorem majorPark_none {x e : Engine} (hx : x = { e with flt := { e.flt with parks := e.flt.parks.filter (livePark e) } })
    (h : x.flt.parks.find? (fun k => k.job.isNone) = none) : majorParkNow e = x := by
  subst hx
  unfold majorParkNow
  dsimp only at h ⊢
  rw [h]

theorem majorPark_some {x e : Engine} {k : MajorPark} (hx : x = { e with flt := { e.flt with parks := e.flt.parks.filter (livePark e) } })
    (h : x.flt.parks.find? (fun k => k.job.isNone) = some k) :
    majorParkNow e =
      if !k.live x then { x with flt := { x.flt with parks := x.flt.parks.erase k } }
      else if parkHeld x k ∨ x.sys.mode = .hold then x
      else match (if x.sys.mode = .schedule then scheduleRepair k.ports x else parkNow k.ports none x) with
        | none => { x with flt := { x.flt with parks := x.flt.parks.erase k } }
        | some n => { n with flt := { n.flt with
            parks := n.flt.parks.map (fun z => if z = k then { z with job := some x.xact.nextJob } else z) } } := by
  subst hx
  unfold majorParkNow
  dsimp only at h ⊢
  rw [h] <;> rfl

/-- Settles O23: each row by the condition of its occasion. -/
theorem transactionEventsAct : Obligations.transactionEventsAct := by
  unfold Obligations.transactionEventsAct
  refine ⟨?arm, ?armComplete, ?prepared, ?noGroup, ?syncMissing, ?startMissing, ?openTmo, ?check, ?sluice, ?publish, ?condition, ?park⟩
  case arm =>
    rintro s id r e0 rfl
    constructor
    · rintro j e k hj hp hw hr rfl rfl
      refine exec_run (f := armNow id r) rfl ?_
      unfold armNow
      simp only [hj]
      rw [if_neg (by simp [hp, hw, hr])] <;> rfl
    · intro h
      refine exec_run (f := armNow id r) rfl ?_
      unfold armNow
      dsimp only
      split
      · rfl
      case _ j hj => exact if_pos (by simpa using h j hj)
  case armComplete =>
    intro s a
    constructor
    · intro h
      exact Goes.of (f := armDone a) rfl (armDone_done (e := s.start) h)
    · intro h
      exact exec_run (f := armDone a) rfl (if_neg (by rw [show s.start.aper a = s.eng.aper a from rfl, h]; decide))
  case prepared =>
    intro s id b
    constructor
    · intro t ht hst hr
      refine exec_run (f := settled (preparedNow id b)) rfl (congrArg settle ?_)
      unfold preparedNow
      rw [show s.start.txn id = some t from ht]
      dsimp only
      rw [if_neg (by simp [hst, hr])] <;> rfl
    · intro h
      refine exec_run (f := settled (preparedNow id b)) rfl (congrArg settle ?_)
      unfold preparedNow
      split
      · rfl
      case _ t ht => exact if_pos (h t ht)
  case noGroup =>
    intro s id
    constructor
    · intro t ht hr hg
      refine exec_run (f := settled (noGroupNow id)) rfl (congrArg settle ?_)
      unfold noGroupNow
      rw [show s.start.txn id = some t from ht]
      exact if_neg (by simp [hr, hg])
    · intro h
      refine exec_run (f := settled (noGroupNow id)) rfl (congrArg settle ?_)
      unfold noGroupNow
      split
      · rfl
      case _ t ht => exact if_pos (by simpa using h t ht)
  case syncMissing =>
    intro s id hid
    constructor
    · intro t ht hw hg hn
      refine exec_run (f := settled (fun e => if id = 0 then startMissing e else syncMissingNow id e)) rfl (congrArg settle ?_)
      dsimp only
      rw [if_neg hid, syncMissingNow, show s.start.txn id = some t from ht]
      exact if_neg (by simp [hw, Option.isSome_iff_ne_none.1 hg, hn])
    · intro h
      refine exec_run (f := settled (fun e => if id = 0 then startMissing e else syncMissingNow id e)) rfl (congrArg settle ?_)
      dsimp only
      rw [if_neg hid]
      unfold syncMissingNow
      split
      · rfl
      case _ t ht => exact if_pos (by simpa using h t ht)
  case startMissing =>
    intro s
    exact exec_run (f := settled (fun e => if 0 = 0 then startMissing e else syncMissingNow 0 e)) rfl (congrArg settle (if_pos rfl))
  case openTmo =>
    intro s id
    constructor
    · intro t ht hst hn
      refine exec_run (f := settled (openTmoNow id)) rfl (congrArg settle ?_)
      unfold openTmoNow
      rw [show s.start.txn id = some t from ht]
      dsimp only
      rw [if_neg (by simp [hst, hn])]
    · intro h
      refine exec_run (f := settled (openTmoNow id)) rfl (congrArg settle ?_)
      unfold openTmoNow
      split
      · rfl
      case _ t ht => exact if_pos (h t ht)
  case check =>
    intro s id
    constructor
    · intro j tick e l hj ht hp he hl
      have hgo : checkNow id s.start = match j.owner with
          | .resynth => l
          | .txn n => if inSpan e tick then failTxn n 0x0A 0xFFFF e
            else if j.targets.any (fun x => !(e.aper x.1).armed) then failTxn n 0x07 0xFFFF e
            else updTxn n (fun x => { x with checked := true }) l
          | _ => if inSpan e tick then loseJob j e else l := by
        unfold checkNow
        rw [show s.start.job id = some j from hj]
        simp only [ht]
        rw [if_neg (by simp [hp]), ← he, ← hl] <;> rfl
      refine ⟨fun n hn => ?_, fun hn => ?_, fun hr hn => ?_⟩
      · refine exec_run (f := settled (checkNow id)) rfl (congrArg settle ?_)
        rw [hgo, hn]
      · refine exec_run (f := settled (checkNow id)) rfl (congrArg settle ?_)
        rw [hgo, hn]
      · refine exec_run (f := settled (checkNow id)) rfl (congrArg settle ?_)
        rw [hgo]
        split
        case _ ho => exact absurd ho hr
        case _ n ho => exact absurd ho (hn n)
        case _ => rfl
    · intro h
      refine exec_run (f := settled (checkNow id)) rfl (congrArg settle ?_)
      unfold checkNow
      split
      · rfl
      case _ j hj =>
        split
        · rfl
        case _ t ht =>
          obtain hn | hn := h j hj
          · exact absurd (hn.symm.trans ht) (by simp)
          · exact if_pos hn
  case sluice =>
    intro s
    constructor
    · intro t ht
      refine exec_run (f := settled sluiceNow) rfl (congrArg settle ?_)
      rw [sluiceNow, ht]
    · intro h
      refine exec_run (f := settled sluiceNow) rfl (congrArg settle ?_)
      rw [sluiceNow, h]
  case publish =>
    intro s
    refine ⟨fun h => ⟨?_, fun hw hq => ?_⟩, fun h => ?_⟩
    · rintro e rfl
      refine exec_run (f := settled publishNow) rfl (congrArg settle ?_)
      rw [publishNow_unpub (e := s.start) h] <;> rfl
    · exact Goes.of (f := settled publishNow) rfl (publishNow_quiet (e := s.start) h hw (quiet_start hq))
    · refine exec_run (f := settled publishNow) rfl (congrArg settle (if_pos ?_))
      rw [show s.start.xact = s.eng.xact from rfl, h]; rfl
  case condition =>
    intro s
    constructor
    · intro ht hf hl y x e hy hx he
      refine exec_run (f := conditionNow) rfl ?_
      have hno : ¬((!tilesUp s.start) = true ∨ s.start.sns.frameNo = 0 ∨ s.start.xact.lastRefresh = s.start.sns.frameNo) := by
        simpa [show tilesUp s.start = true from ht] using ⟨hf, hl⟩
      have hsns : y.sns = s.eng.sns := by rw [hy]; exact (waitD_keeps _ _).2
      have hx' : x = { y with xact := { y.xact with lastRefresh := y.sns.frameNo } } := by rw [hx, hsns]
      rw [conditionNow, if_neg hno, he, hx', hy]
      rfl
    · intro h
      refine exec_run (f := conditionNow) rfl (if_pos ?_)
      obtain h | h | h := h
      · exact Or.inl (by rw [show tilesUp s.start = false from h]; rfl)
      · exact Or.inr (Or.inl h)
      · exact Or.inr (Or.inr h)
  case park =>
    intro s x hx
    have hgo (e : Engine) (h : majorParkNow s.start = e) : exec .majorPark s = .next (s.to (settle e)) :=
      exec_run (f := settled majorParkNow) rfl (congrArg settle h)
    refine ⟨?_, fun h => hgo _ (majorPark_none hx h)⟩
    rintro k y hk rfl
    refine ⟨fun hl => hgo _ ?_, fun hl hh => hgo _ ?_, ?_⟩
    · rw [majorPark_some hx hk, if_pos (by rw [hl]; rfl)]
    · rw [majorPark_some hx hk, if_neg (by rw [hl]; decide)]
      exact if_pos (by rw [hx] at hh ⊢; exact hh)
    · rintro o hl hh hm rfl
      have hno : ¬(parkHeld x k = true ∨ x.sys.mode = .hold) := by
        rw [hh, hx]; simpa using hm
      have hmode : x.sys.mode = s.eng.sys.mode := congrArg (·.sys.mode) hx
      have hjob : x.xact.nextJob = s.eng.xact.nextJob := congrArg (·.xact.nextJob) hx
      have hrun := majorPark_some hx hk
      rw [if_neg (by rw [hl]; decide), if_neg hno, hmode] at hrun
      refine ⟨fun hn => hgo _ ?_, fun n hn => hgo _ ?_⟩
      · rw [hrun, hn]
      · rw [hrun, hn, hjob]

end Sys2Proof.Machine
end

section
/-! The statement about the events of schedules (R166, R194, R202, R205). -/

open Sys2Proof

namespace Sys2Proof.Machine

theorem waitD_sch (t : Nat) (e : Engine) : (waitD t e).sch = e.sch := (moves_waitD).part .sch rfl

/-- What ARM_POINT does after the first boundary of a player that has a play to go on from (R194). -/
theorem armPointNow_later {p : Play} {e : Engine} (h : e.sch.st ≠ .waitStart ∨ e.sch.nextB ≠ []) (hh : e.sch.st ≠ .held)
    (hr : playerRuns e = true) (hs : e.sch.stopAfter = none) (hp : lastPlay e = some p) (ha : awaitsEdge e = false) :
    armPointNow e = resolveAfter p (waitD (armPointAt e p) (passQuiet (armPointAt e p) e.sch.nextB.length e)) := by
  have hfirst : ¬(e.sch.st = .waitStart ∧ e.sch.nextB = []) := fun hc => h.elim (· hc.1) (· hc.2)
  unfold armPointNow
  rw [if_neg hfirst, if_neg (by simp [hh, hr, hs]), hp]
  dsimp only
  rw [if_neg (by rw [ha]; decide)]

theorem armPointNow_not {e : Engine} (h : e.sch.st ≠ .waitStart ∨ e.sch.nextB ≠ [])
    (hn : e.sch.st = .held ∨ playerRuns e = false ∨ e.sch.stopAfter.isSome = true ∨ lastPlay e = none ∨ awaitsEdge e = true) :
    armPointNow e = e := by
  have hfirst : ¬(e.sch.st = .waitStart ∧ e.sch.nextB = []) := fun hc => h.elim (· hc.1) (· hc.2)
  unfold armPointNow
  rw [if_neg hfirst]
  split
  · rfl
  case isFalse hno =>
    split
    · rfl
    case _ p hp =>
      simp only [not_or, Bool.not_eq_true, Bool.not_eq_eq_eq_not, Bool.not_true] at hno
      obtain ⟨hh, hr, hs⟩ := hno
      refine if_pos ?_
      simpa [hh, hr, hs, hp] using hn

/-- Settles O24: each row by the condition of its occasion. -/
theorem scheduleEventsAct : Obligations.scheduleEventsAct := by
  unfold Obligations.scheduleEventsAct
  refine ⟨?first, ?firstNot, ?later, ?laterNot, ?arrival, ?arrivalNot⟩
  case first =>
    intro s cx whn t p x hst hnb hs hm hx
    refine exec_run (f := armPointNow) rfl ?_
    rw [armPointNow, if_pos ⟨hst, hnb⟩, firstArmPoint]
    rw [show s.start.sch.start = some (cx, whn, t) from hs, show s.start.sch.missing = some p from hm]
    dsimp only
    rw [waitD_sch, ← hx] <;> rfl
  case firstNot =>
    intro s hst hnb h
    refine exec_run (f := armPointNow) rfl ?_
    rw [armPointNow, if_pos ⟨hst, hnb⟩, firstArmPoint]
    split
    case _ cx whn t p hs hm =>
      obtain h | h := h
      · exact absurd (h.symm.trans hs) (by simp)
      · exact absurd (h.symm.trans hm) (by simp)
    · rfl
  case later =>
    intro s p t x y h hh hr hs hp ha hx ht
    have hgo (e : Engine) (he : resolveAfter p x = e) : exec .armPoint s = .next (s.to e) :=
      exec_run (f := armPointNow) rfl (((armPointNow_later (e := s.start) h hh hr hs hp ha).trans (congrArg (resolveAfter p) hx.symm)).trans he)
    refine ⟨fun cx field hj => hgo _ ?_, fun q left hj hy => hgo _ ?_, fun hj hy => hgo _ ?_⟩
    · rw [ht, resolveAfter, hj]
    · rw [ht, resolveAfter, hj]
      dsimp only
      rw [hy]
    · rw [ht, resolveAfter, hj]
      dsimp only
      rw [hy]
  case laterNot =>
    intro s h hn
    exact exec_run (f := armPointNow) rfl (armPointNow_not (e := s.start) h hn)
  case arrival =>
    intro s p hst hm
    have hgo (e : Engine) (he : (match findSeg s.start p.pos with
        | .absent => s.start
        | .gone => targetGone p.jump (resumePlay s.start)
        | .bad => stopPlayer 4 (match p.jump with
            | some cx => complete cx stWrongMode 0 (resumePlay s.start) | none => resumePlay s.start)
        | .seg w => if rdF s.start Fd.SCH_CTL_POLICY = 1 then stretchFrom p w s.start
            else skipFrom (dNs s.start) ((dNs s.start + 6000 - p.at_) / 1990 + 2) p (if p.left = 0 then none else some p.left) s.start) = e) :
        exec .segmentArrival s = .next (s.to e) := by
      refine exec_run (f := arrivalNow) rfl ?_
      rw [arrivalNow, show s.start.sch.missing = some p from hm]
      dsimp only
      rw [if_neg (show ¬s.start.sch.st ≠ .held from not_not.2 hst), ← he] <;> rfl
    refine ⟨fun w hw => hgo _ ?_, fun hw => hgo _ ?_, fun hw => hgo _ ?_, fun hw => hgo _ ?_⟩
    all_goals rw [show findSeg s.start p.pos = _ from hw] <;> rfl
  case arrivalNot =>
    intro s h
    refine exec_run (f := arrivalNow) rfl ?_
    unfold arrivalNow
    split
    · rfl
    case _ p hp => exact if_pos (h.resolve_right fun hn => absurd (hn.symm.trans hp) (by simp))

end Sys2Proof.Machine
end

section
/-! The statement about the events of calibration (R68-R72, R86, R90, R130-R133). -/

open Sys2Proof

namespace Sys2Proof.Machine

/-- A survey's end is that of its own generation, once its station frames have begun (R86). -/
theorem surveyEndNow_ends {v : Survey} {gen : Nat} {e : Engine} (hv : e.syn.survey = some v) (he : v.ending = true) (hf : v.meas ≤ v.frame)
    (hg : gen = e.syn.gen) :
    surveyEndNow gen e = endSurvey false (each stationDirs stageStation (waitD (e.sns.frameD + 5000) e)) := by
  have hno : ¬((!v.ending) = true ∨ v.frame < v.meas ∨ gen ≠ e.syn.gen) := by simpa [he, hg] using hf
  rw [surveyEndNow, hv]
  dsimp only
  rw [if_neg hno]

theorem surveyEndNow_not {gen : Nat} {e : Engine}
    (h : ∀ v, e.syn.survey = some v → v.ending = false ∨ v.frame < v.meas ∨ gen ≠ e.syn.gen) : surveyEndNow gen e = e := by
  unfold surveyEndNow
  split
  · rfl
  case _ v hv => exact if_pos (by simpa using h v hv)

theorem calSensorEndNow_ends {j : CalJob} {e : Engine} (h : e.sns.job = some j) :
    calSensorEndNow j.p.first e =
      (let x := waitClk (j.at_ + 5000 * calFrames j.p) e
       note Fd.SNS_CAUSE_CAL_DONE
        (complete j.cx (if calAccepted x j = j.p.count then stOk else stImplausible)
          (calAccepted x j + (j.p.count - calAccepted x j) * 4294967296)
          (each (span j.p.first j.p.count) (fun a => recordCal j.p a (j.accOf a)) { x with sns := { x.sns with job := none } }))) := by
  rw [calSensorEndNow, h]
  dsimp only
  rw [if_neg (not_not.2 rfl)]

/-- Flash that has taken the committed stores (R90). -/
theorem persistDone_ok {k : Nat} {e : Engine} (h : e.syn.persist = some k) :
    (persistDone true e).syn = { e.syn with
      persist := none, flashAims := e.syn.aims, flashDeltas := e.syn.deltas, flashSensor := e.sns.cal.map (fun x => (x.1, calKept x.2)) } := by
  rw [persistDone, h]
  rfl

theorem persistDone_fails {k : Nat} {e : Engine} (h : e.syn.persist = some k) :
    persistDone false e = note Fd.SYN_CAUSE_PERSIST_FAIL { e with syn := { e.syn with persist := none } } := by
  rw [persistDone, h]
  rfl

theorem rebuildNow_wanted {p : SweepP} {e : Engine} (hs : sweeps e p.index = true) (hw : rebuildWanted e p.index = true) :
    rebuildNow p e =
      (let r := e.region (idxRegion p.index)
       let x := whenE (!checkOk (aimRec e.syn.aims r.lo p.index)) aimCrc
         (whenE (!checkOk (aimRec e.syn.aims (r.lo + 1) p.index)) aimCrc e)
       let n := buildEff x.syn.aims x.syn.deltas r p.index
       takeRecord (indexSource p.index) p n.rec_
         (putEff p.index n { x with syn := { x.syn with sweep := x.syn.sweep.filter (· ≠ p.index) } })) := by
  unfold rebuildNow
  rw [if_neg (by simp [hs, hw])]

/-- Settles O25: each row by the condition of its occasion. -/
theorem calibrationEventsAct : Obligations.calibrationEventsAct := by
  unfold Obligations.calibrationEventsAct
  refine ⟨?survey, ?surveyNot, ?sensor, ?sensorNot, ?persisted, ?persistFails, ?persistNot, ?rebuild, ?rebuildNot, ?reload, ?reloadNot⟩
  case survey =>
    intro s gen v hv he hf hg
    exact exec_run (f := surveyEndNow gen) rfl (surveyEndNow_ends (e := s.start) hv he hf hg)
  case surveyNot =>
    intro s gen h
    exact exec_run (f := surveyEndNow gen) rfl (surveyEndNow_not (e := s.start) h)
  case sensor =>
    intro s j x hj hx acc hacc
    refine exec_run (f := calSensorEndNow j.p.first) rfl ?_
    rw [hacc, hx, calSensorEndNow_ends (e := s.start) hj]
    rfl
  case sensorNot =>
    intro s n h
    refine exec_run (f := calSensorEndNow n) rfl ?_
    unfold calSensorEndNow
    split
    · rfl
    case _ j hj => exact if_pos (h j hj)
  case persisted =>
    intro s k h
    exact Goes.of (f := persistDone true) rfl (persistDone_ok (e := s.start) h)
  case persistFails =>
    intro s k h
    refine Goes.of (f := persistDone false) rfl ?_
    rw [persistDone_fails (e := s.start) h]
    exact ⟨note_syn _ _, on_of_bit rfl (bit_note _ _ (by decide) (by decide))⟩
  case persistNot =>
    intro s b h
    refine exec_run (f := persistDone b) rfl ?_
    rw [persistDone, show s.start.syn.persist = none from h]
  case rebuild =>
    rintro s p r lo hi x hs hw rfl rfl rfl hx n rfl
    refine exec_run (f := rebuildNow p) rfl ?_
    rw [rebuildNow_wanted (e := s.start) hs hw, hx]
    rfl
  case rebuildNot =>
    intro s p h
    refine exec_run (f := rebuildNow p) rfl (if_pos ?_)
    obtain h | h := h
    · exact Or.inl (by rw [show sweeps s.start p.index = false from h]; rfl)
    · exact Or.inr (by rw [show rebuildWanted s.start p.index = false from h]; rfl)
  case reload =>
    rintro s k lo x rfl h
    refine exec_run (f := fun e => reloadDone k (startReloads e)) rfl ?_
    rw [reloadDone, h]
  case reloadNot =>
    rintro s k x rfl h
    refine exec_run (f := fun e => reloadDone k (startReloads e)) rfl ?_
    rw [reloadDone, h]

end Sys2Proof.Machine
end

section
/-! The statement about refresh, heartbeats, takeovers, drills and the scrubber (R100-R110, R313). -/

open Sys2Proof

namespace Sys2Proof.Machine

/-- A row that its owner writes now, if no drill ends first (R100, R110). -/
theorem refreshNow_writes {b shadow : Bool} {a r : Nat} {l : List FsRead} {e : Engine} (hon : refreshOn e = true) (ha : a < 4100) (hr : r < 80)
    (ho : ownedBy e (if b = true then 2 else 1) (tileOf a) = true) (hf : refreshable e a shadow = true)
    (hold : oldestRow e a r shadow = true) (ht : trimTakes e a r shadow = false) :
    refreshNow b a r shadow l e = drillRow a (rowAt e a r shadow)
      (fun y => refreshRow a r shadow l (waitClk (refreshAt y a (rowAt e a r shadow)) y)) e := by
  unfold refreshNow
  rw [if_neg (by simp [hon]; omega), if_neg (by simp [ho]), if_neg (by simp [hf, hold, ht])]

theorem drillRow_none {a at_ : Nat} {f : Engine → Engine} {e : Engine} (h : e.rfs.drill = none) : drillRow a at_ f e = f e := by
  rw [drillRow, h]

theorem drillRow_some {a at_ : Nat} {f : Engine → Engine} {e : Engine} {d : Drill} (h : e.rfs.drill = some d) :
    drillRow a at_ f e = if drillA e d = true ∧ ageInstant e (tileOf a) at_ d.abort ≤ refreshAt e a at_
      then endDrill d 1 (waitClk (ageInstant e (tileOf a) at_ d.abort) e) else f e := by
  rw [drillRow, h]
  exact ite_congr (propext (by simp)) (fun _ => rfl) (fun _ => rfl)

/-- A row of the owner that the tile does not take now, or that is not its oldest (R100, R104). -/
theorem refreshNow_skips {b shadow : Bool} {a r : Nat} {l : List FsRead} {e : Engine} (hon : refreshOn e = true) (ha : a < 4100) (hr : r < 80)
    (ho : ownedBy e (if b = true then 2 else 1) (tileOf a) = true)
    (h : refreshable e a shadow = false ∨ oldestRow e a r shadow = false ∨ trimTakes e a r shadow = true) :
    refreshNow b a r shadow l e = e := by
  unfold refreshNow
  rw [if_neg (by simp [hon]; omega), if_neg (by simp [ho]), if_pos (by simpa using h)]

theorem heartbeatNow_beats {b clean : Bool} {e : Engine} (hon : refreshOn e = true) (hok : selfCheck e b clean = true) :
    heartbeatNow b clean e = beat b e := by
  unfold heartbeatNow
  rw [if_neg (by simp [hon])]
  simp [hok]

/-- What a heartbeat is noted as (R106, R108). -/
theorem beat_eq (b : Bool) (e : Engine) :
    beat b e = setLive (if b = ownerIsB e then Fd.RFS_CAUSE_LIVE_HB_LINK else Fd.RFS_CAUSE_LIVE_SILENT) false { e with rfs :=
      if b = true then { e.rfs with hbB := some e.clk } else { e.rfs with
        hbA := some e.clk
        gapless := if (ownerIsB e && on e Fd.RFS_CTL_FAILBACK_EN) = true then
          some (if hbArrives e false = true then e.rfs.gapless.getD e.clk else e.clk) else none } } := by
  have hown (x : Engine) (hb : x.bkp = e.bkp) (hc : x.clk = e.clk) :
      (if b == ownerIsB x then Fd.RFS_CAUSE_LIVE_HB_LINK else Fd.RFS_CAUSE_LIVE_SILENT) =
        if b = ownerIsB e then Fd.RFS_CAUSE_LIVE_HB_LINK else Fd.RFS_CAUSE_LIVE_SILENT := by
    have : ownerIsB x = ownerIsB e := by rw [ownerIsB, ownsTiles, hb, hc]; rfl
    rw [this]
    exact ite_congr (propext beq_iff_eq) (fun _ => rfl) (fun _ => rfl)
  cases b with
  | true => exact congrArg (fun f => setLive f false { e with rfs := { e.rfs with hbB := some e.clk } }) (hown _ rfl rfl)
  | false => exact congrArg (fun f => setLive f false _) (hown _ rfl rfl)

/-- A sequencer whose self-check fails goes out of service (R106, R108). -/
theorem heartbeatNow_fails {b clean : Bool} {e x : Engine} (hon : refreshOn e = true) (hok : selfCheck e b clean = false)
    (hx : x = { e with rfs := if b = true then { e.rfs with checkB := e.rfs.checkB && e.rfs.rstB }
                              else { e.rfs with
                                checkA := e.rfs.checkA && e.rfs.rstA
                                drill := e.rfs.drill.map (fun d => { d with aFailed := true }) } }) :
    heartbeatNow b clean e = if (if b = true then selfB e else selfA e) = true then note Fd.RFS_CAUSE_UNHEALTHY x else x := by
  unfold heartbeatNow
  rw [if_neg (by simp [hon]), hok, hx]
  cases b <;> simp

/-- A silence of 8 µs that is not told yet (R106). -/
theorem heartbeatMissingNow_tells {b : Bool} {e y : Engine} (hon : refreshOn e = true)
    (hl : on e (if b = ownerIsB e then Fd.RFS_CAUSE_LIVE_HB_LINK else Fd.RFS_CAUSE_LIVE_SILENT) = false)
    (hy : y = if b = true then waitClk (hbFrom e b + 8000) e
      else { waitClk (hbFrom e b + 8000) e with rfs := { e.rfs with gapless := none } }) :
    heartbeatMissingNow b e =
      if b ≠ ownerIsB e then setLive Fd.RFS_CAUSE_LIVE_SILENT true (note Fd.RFS_CAUSE_SILENT y)
      else if allYounger y (fun _ => true) 1536 then setLive Fd.RFS_CAUSE_LIVE_HB_LINK true (note Fd.RFS_CAUSE_HB_LINK y) else y := by
  have hl' : on e (if (b == ownerIsB e) = true then Fd.RFS_CAUSE_LIVE_HB_LINK else Fd.RFS_CAUSE_LIVE_SILENT) = false := by
    simpa using hl
  unfold heartbeatMissingNow
  rw [if_neg (by simp [hon])]
  dsimp only
  rw [if_neg (by rw [hl']; decide), waitClk_rfs, ← hy]
  exact ite_congr (propext (by simp)) (fun _ => rfl) (fun _ => rfl)

theorem heartbeatMissingNow_told {b : Bool} {e : Engine} (hon : refreshOn e = true)
    (hl : on e (if b = ownerIsB e then Fd.RFS_CAUSE_LIVE_HB_LINK else Fd.RFS_CAUSE_LIVE_SILENT) = true) : heartbeatMissingNow b e = e := by
  unfold heartbeatMissingNow
  rw [if_neg (by simp [hon])]
  exact if_pos (by simpa using hl)

/-- A takeover of the tiles (R107, R109). -/
theorem takeoverNow_claims {b : Bool} {n : Nat} {e : Engine} (hon : refreshOn e = true) (hb : b = ownerIsB e) (hh : hbArrives e b = false)
    (hr : (if b = true then e.rfs.rstA else e.rfs.rstB) = false)
    (hn : firstAged e (ownedBy e (if b = true then 2 else 1)) 1536 = some n) :
    takeoverNow e =
      (let x := claimAll (if b = true then 1 else 2) (waitClk (n + 1) e)
       let y := setLive Fd.RFS_CAUSE_LIVE_SILENT false (setLive Fd.RFS_CAUSE_LIVE_HB_LINK false x)
       voidForce (note Fd.RFS_CAUSE_TAKEOVER (inc Reg.RFS_TAKEOVER_CNT { y with rfs :=
         if b = true then { y.rfs with gapless := none, checkB := false } else { y.rfs with gapless := none, checkA := false } }))) := by
  subst hb
  have hno : ¬((!refreshOn e) = true ∨ hbArrives e (ownerIsB e) = true ∨ (if ownerIsB e = true then e.rfs.rstA else e.rfs.rstB) = true) := by
    simp only [hon, hh, hr, Bool.not_true, Bool.false_eq_true, or_self, not_false_eq_true]
  unfold takeoverNow
  dsimp only
  rw [if_neg hno, hn]
  dsimp only
  split <;> rfl

theorem takeoverNow_not {b : Bool} {e : Engine} (hb : b = ownerIsB e) (h : refreshOn e = false ∨ hbArrives e b = true ∨
    (if b = true then e.rfs.rstA else e.rfs.rstB) = true ∨ firstAged e (ownedBy e (if b = true then 2 else 1)) 1536 = none) :
    takeoverNow e = e := by
  subst hb
  unfold takeoverNow
  dsimp only
  by_cases hno : (!refreshOn e) = true ∨ hbArrives e (ownerIsB e) = true ∨
    (if ownerIsB e = true then e.rfs.rstA else e.rfs.rstB) = true
  · exact if_pos hno
  · rw [if_neg hno]
    simp only [not_or, Bool.not_eq_true, Bool.not_eq_eq_eq_not, Bool.not_true] at hno
    obtain ⟨hon, hh, hr⟩ := hno
    simp only [hon, hh, hr, Bool.true_eq_false, Bool.false_eq_true, false_or] at h
    rw [h]

/-- A fail-back (R108). -/
theorem failbackNow_claims {g : Nat} {e : Engine} (hg : e.rfs.gapless = some g) (hon : refreshOn e = true) (ho : ownerIsB e = true)
    (hen : on e Fd.RFS_CTL_FAILBACK_EN = true) (ha : autoOwner e = true) (hd : e.rfs.drill = none) (hs : selfA e = true) :
    failbackNow e =
      (let x := waitClk (g + 10000000000) e
       note Fd.RFS_CAUSE_FAILBACK (claimAll 1
        { x with rfs := { x.rfs with gapless := none, hbA := some x.clk, hbB := x.rfs.hbB.map (fun _ => x.clk) } })) := by
  rw [failbackNow, hg]
  dsimp only
  rw [if_neg (by simp [hon, ho, hen, ha, hd, hs])]

theorem failbackNow_not {e : Engine} (h : refreshOn e = false ∨ e.rfs.gapless = none ∨ ownerIsB e = false ∨
    on e Fd.RFS_CTL_FAILBACK_EN = false ∨ autoOwner e = false ∨ e.rfs.drill.isSome = true ∨ selfA e = false) : failbackNow e = e := by
  unfold failbackNow
  split
  · rfl
  case _ g hg => exact if_pos (by simpa [hg] using h)

/-- Settles O26: each row by the condition of its occasion. -/
theorem refreshEventsAct : Obligations.refreshEventsAct := by
  unfold Obligations.refreshEventsAct
  refine ⟨?refresh, ?skip, ?other, ?off, ?beat, ?unwell, ?missing, ?dark, ?takeover, ?takeoverNot, ?claims, ?failback, ?failbackNot,
    ?drillEnd, ?drillNone, ?drillClaim, ?scrub⟩
  case refresh =>
    intro s b shadow a r l at_ x hon ha hr ho hf hold ht hat hx
    have hgo := refreshNow_writes (e := s.start) (l := l) hon ha hr ho hf hold ht
    rw [show rowAt s.start a r shadow = at_ from hat.symm] at hgo
    constructor
    · intro hd
      refine exec_run (f := refreshNow b a r shadow l) rfl ?_
      rw [hgo, drillRow_none (e := s.start) hd, hx] <;> rfl
    · intro d hd
      refine exec_run (f := refreshNow b a r shadow l) rfl (hgo.trans ?_)
      split
      case isTrue h => exact (drillRow_some (e := s.start) hd).trans (if_pos h)
      case isFalse => rfl
  case skip =>
    intro s b shadow a r l hon ha hr ho h
    exact exec_run (f := refreshNow b a r shadow l) rfl (refreshNow_skips (e := s.start) hon ha hr ho h)
  case other =>
    intro s b shadow a r l hon ha hr ho
    refine exec_run (f := refreshNow b a r shadow l) rfl ?_
    unfold refreshNow
    rw [if_neg (by simp [show refreshOn s.start = true from hon]; omega)]
    exact if_pos (by rw [show ownedBy s.start (if b = true then 2 else 1) (tileOf a) = false from ho]; rfl)
  case off =>
    intro s b shadow a r l h
    exact exec_run (f := refreshNow b a r shadow l) rfl (if_pos (by simpa [show refreshOn s.start = refreshOn s.eng from rfl] using h))
  case beat =>
    rintro s b clean hon hok g rfl
    refine exec_run (f := heartbeatNow b clean) rfl ?_
    rw [heartbeatNow_beats (e := s.start) hon hok, beat_eq]
    rfl
  case unwell =>
    intro s b clean x hon hok hx
    exact exec_run (f := heartbeatNow b clean) rfl (heartbeatNow_fails (e := s.start) hon hok hx)
  case missing =>
    intro s b x y hon hx hy
    rw [hx] at hy
    refine ⟨fun hb hl => ?_, fun hb hl => ?_, fun hl => ?_⟩
    · refine exec_run (f := heartbeatMissingNow b) rfl ?_
      rw [heartbeatMissingNow_tells (e := s.start) hon (by rw [if_neg (show b ≠ ownerIsB s.start from hb)]; exact hl) hy]
      exact if_pos hb
    · refine exec_run (f := heartbeatMissingNow b) rfl ?_
      rw [heartbeatMissingNow_tells (e := s.start) hon (by rw [if_pos (show b = ownerIsB s.start from hb)]; exact hl) hy]
      exact if_neg (not_not.2 hb)
    · exact exec_run (f := heartbeatMissingNow b) rfl (heartbeatMissingNow_told (e := s.start) hon hl)
  case dark =>
    intro s b h
    have hno : (!refreshOn s.start) = true := by rw [show refreshOn s.start = false from h]; rfl
    exact ⟨exec_run (f := heartbeatNow b true) rfl (if_pos hno), exec_run (f := heartbeatNow b false) rfl (if_pos hno),
      exec_run (f := heartbeatMissingNow b) rfl (if_pos hno), exec_run (f := takeoverNow) rfl (takeoverNow_not (e := s.start) rfl (Or.inl h)),
      exec_run (f := failbackNow) rfl (failbackNow_not (e := s.start) (Or.inl h))⟩
  case takeover =>
    intro s b n x y hon hb hh hr hn hx hy
    refine exec_run (f := takeoverNow) rfl ?_
    rw [hy, hx, takeoverNow_claims (e := s.start) hon hb hh hr hn]
  case takeoverNot =>
    intro s b hb h
    exact exec_run (f := takeoverNow) rfl (takeoverNow_not (e := s.start) hb (Or.inr h))
  case claims => exact fun b k e hk => claimAll_tile b k e hk
  case failback =>
    intro s g hg hon ho hen ha hd hs x hx
    refine exec_run (f := failbackNow) rfl ?_
    rw [hx, failbackNow_claims (e := s.start) hg hon ho hen ha hd hs]
  case failbackNot =>
    intro s h
    exact exec_run (f := failbackNow) rfl (failbackNow_not (e := s.start) (Or.inr h))
  case drillEnd =>
    intro s d due hd hdue
    refine exec_run (f := drillEndNow) rfl ?_
    rw [hdue, drillEndNow, show s.start.rfs.drill = some d from hd]
    have hc : (!drillA s.start d) = true ↔ drillA s.eng d = false := by rw [Bool.not_eq_true']; rfl
    exact ite_congr (propext hc) (fun _ => rfl) (fun _ => rfl)
  case drillNone =>
    intro s h
    have hd : s.start.rfs.drill = none := h
    exact ⟨exec_run (f := drillEndNow) rfl (by rw [drillEndNow, hd]), exec_run (f := drillClaimNow) rfl (by rw [drillClaimNow, hd])⟩
  case drillClaim =>
    intro s d hd
    refine exec_run (f := drillClaimNow) rfl ?_
    rw [drillClaimNow, show s.start.rfs.drill = some d from hd]
    rfl
  case scrub => exact fun s l => exec_run (f := fun e => if e.sys.mode = .off then e else each l scrubOne e) rfl rfl

end Sys2Proof.Machine
end

section
/-! The statement about frames, conversions and references (R119-R129, R166, R305). -/

open Sys2Proof

namespace Sys2Proof.Machine

theorem tile_updTile (k : Nat) (f : Tile → Tile) (e : Engine) : (updTile k f e).tile k = f (e.tile k) := by
  simp [updTile, Engine.tile]

/-- A frame of a tile starts at the engine's clk (R119, R123). -/
theorem frameStart_frameAt (k : Nat) (edge : Bool) (e : Engine) : ((frameStart k edge e).tile k).frameAt = some e.clk := by
  have hl (x : Engine) : (each (tileAps k) (loopFrame edge) x).bkp = x.bkp :=
    each_same (fun x : Engine => x.bkp) _ _ (fun _ _ => (moves_loopFrame).part .bkp rfl) _
  unfold frameStart
  dsimp only
  split
  · rw [tile_congr (hl _), tile_updTile]
  · rw [tile_updTile]

theorem acceptEdge_frame (k : Nat) (e : Engine) :
    ((acceptEdge k e).tile k).frameD = dNs e ∧ ((acceptEdge k e).tile k).frameAt = some e.clk := by
  rw [acceptEdge, tile_updTile]
  exact ⟨rfl, frameStart_frameAt k true e⟩

/-- A rising edge of the frame source where the tiles work (R123, R166, R305). -/
theorem frameEdge_powered {l here ok : List Nat} {e x y : Engine} (ht : tilesUp e = true) (hm : e.sys.mode ≠ .boot)
    (hh : here = (List.range 256).filter (fun t => !decide (t ∈ l))) (ho : ok = here.filter (edgeOk e))
    (hx : x = if here.any (edgeEarly e) = true then note Fd.SNS_CAUSE_SYNC_EARLY (inc Reg.SNS_SYNC_EARLY_CNT e) else e)
    (hy : y = if 0 ∈ ok then inc Reg.SNS_FRAME_CNT (each ok acceptEdge x) else each ok acceptEdge x) :
    frameEdge l e = if ok = [] then x else fixStart (dNs y) (fixSync (dNs y) (countFrames
      { y with sns := { y.sns with frameNo := y.sns.frameNo + 1, frameD := dNs y } })) := by
  have hno : ¬((!tilesUp e) = true ∨ e.sys.mode = .boot) := by simp [ht, hm]
  unfold frameEdge
  rw [if_neg hno]
  dsimp only
  rw [← hh, ← ho, ← hx, ← hy]
  rfl

theorem bank_updBank_same (k : Nat) (f : Bank → Bank) (e : Engine) : (updBank k f e).bank k = f (e.bank k) := by
  simp [updBank, Engine.bank]

theorem bank_updBank_ne {j k : Nat} (f : Bank → Bank) (e : Engine) (h : j ≠ k) : (updBank k f e).bank j = e.bank j :=
  Tbl.get_upd_ne _ _ _ _ _ h.symm

/-- Conversions of an aperture out of its turn, or of a tile without a frame, are not taken (R119, R120). -/
theorem conversionNow_not {a k : Nat} {cs : List Conv} {os : Option Conv} {e : Engine}
    (h : (a < 4100 ∧ ∀ f, framing e (tileOf a) = some f → inTurn e a f = false) ∨
      (4100 ≤ a ∧ framing e (a - 4100) = none) ∨ 4356 ≤ a) : conversionNow a cs k os e = e := by
  unfold conversionNow
  obtain ⟨ha, h⟩ | ⟨ha, h⟩ | ha := h
  · rw [if_pos ha]
    split
    case _ f hf => exact if_neg (by rw [h f hf]; decide)
    · rfl
  · rw [if_neg (by omega), h]
    exact ite_self _
  · rw [if_neg (by omega), if_neg (by omega)]

/-- Settles O27: each row by the condition of its occasion. -/
theorem sensingEventsAct : Obligations.sensingEventsAct := by
  unfold Obligations.sensingEventsAct
  refine ⟨?edge, ?accept, ?noEdge, ?lost, ?notLost, ?free, ?notFree, ?convert, ?window, ?idle, ?settled, ?dark⟩
  case edge =>
    intro s l here ok x y hsrc ht hm hh ho hx hy
    constructor
    · refine exec_run (f := fun e => if on e Fd.SNS_CTL_FRAME_SRC then e else frameEdge l e) rfl ?_
      dsimp only
      rw [if_neg (by rw [show on s.start Fd.SNS_CTL_FRAME_SRC = false from hsrc]; decide)]
      exact frameEdge_powered (e := s.start) ht hm hh ho hx hy
    · intro k hk
      rw [ho, List.mem_filter, hh, List.mem_filter] at hk
      obtain ⟨⟨-, hl⟩, hok⟩ := hk
      exact ⟨by simpa using hl, hok⟩
  case accept => exact fun k e _ => acceptEdge_frame k e
  case noEdge =>
    intro s l h
    refine exec_run (f := fun e => if on e Fd.SNS_CTL_FRAME_SRC then e else frameEdge l e) rfl ?_
    split
    · rfl
    case isFalse hsrc =>
      refine if_pos ?_
      obtain h | h | h := h
      · exact absurd h hsrc
      · exact Or.inl (by rw [show tilesUp s.start = false from h]; rfl)
      · exact Or.inr h
  case lost =>
    rintro s k x ht hl hr rfl
    refine exec_run (f := syncLossNow k) rfl (if_neg ?_)
    rw [show tilesUp s.start = true from ht, show s.start.tile k = s.eng.tile k from rfl, hl, hr]
    decide
  case notLost =>
    intro s k h
    refine exec_run (f := syncLossNow k) rfl (if_pos ?_)
    rw [show tilesUp s.start = tilesUp s.eng from rfl, show s.start.tile k = s.eng.tile k from rfl]
    simpa using h
  case free =>
    intro s k ht hl hr
    refine exec_run (f := freeRunNow k) rfl (if_neg ?_)
    rw [show tilesUp s.start = true from ht, show s.start.tile k = s.eng.tile k from rfl, hl, hr]
    decide
  case notFree =>
    intro s k h
    refine exec_run (f := freeRunNow k) rfl (if_pos ?_)
    rw [show tilesUp s.start = tilesUp s.eng from rfl, show s.start.tile k = s.eng.tile k from rfl]
    simpa using h
  case convert =>
    intro s a k f cs os ha hf ht
    refine exec_run (f := conversionNow a cs k os) rfl ?_
    rw [conversionNow, if_pos ha, show framing s.start (tileOf a) = some f from hf]
    exact if_pos ht
  case window =>
    intro s t k f cs os ht hf
    refine exec_run (f := conversionNow (4100 + t) cs k os) rfl ?_
    rw [conversionNow, if_neg (by omega), if_pos (by omega), Nat.add_sub_cancel_left, show framing s.start t = some f from hf]
  case idle =>
    intro s a k cs os h
    exact exec_run (f := conversionNow a cs k os) rfl (conversionNow_not (e := s.start) h)
  case settled =>
    intro s k hp
    refine Goes.to (exec_run (f := fun e => if unpowered e then e else updBank k (fun b => { b with settling := none, settled := true }) e)
      rfl (if_neg (by rw [show unpowered s.start = false from hp]; decide))) ⟨?_, fun j hj => ?_⟩
    · exact bank_updBank_same k _ s.start
    · exact bank_updBank_ne _ s.start hj
  case dark =>
    intro s k hp
    exact exec_run (f := fun e => if unpowered e then e else updBank k (fun b => { b with settling := none, settled := true }) e) rfl (if_pos hp)

end Sys2Proof.Machine
end

section
/-! The statement about loop evaluations and thermal measurements (R135-R155, R350-R356). -/

open Sys2Proof

namespace Sys2Proof.Machine

/-- A due loop takes its turn and is evaluated, or run down where it is disabled (R135-R137). -/
theorem loopEvaluationNow_due {a : Nat} {b : Bool} {res : Residue} {l : List FsRead} {e : Engine} (h : loopDue e a = true) :
    loopEvaluationNow a b res l e =
      (let y := takeTurn a b e
       if loopEn y a = false then
         (if (y.loopOf a).st = .disabled then y else trimPass a (0, 0) (0, 0) res l (updLoop a (fun z => { z with st := .disabled }) y))
       else evaluate a (samplesHere e a b) res l (if (y.loopOf a).st = .disabled then updLoop a Loop.reacquire y else y)) := by
  unfold loopEvaluationNow
  rw [if_neg (by rw [h]; decide)]
  exact ite_congr (Bool.not_eq_true' _) (fun _ => rfl) (fun _ => rfl)

/-- The measurement of a group waits for its interval after the last (R350-R356). -/
theorem thermalNow_measured {g : Nat} {l rs : List (Nat × Int)} {ok : List Nat} {e x y z w : Engine} (h : measured e g = true)
    (hx : x = match (e.thm.lastAt).getD g none with | some t => waitClk (t + intervalNs e g) e | none => e)
    (hy : y = { x with thm := { x.thm with lastAt := x.thm.lastAt.set g (some x.clk) } }) (hrs : rs = groupReadings y g l)
    (hz : z = each rs (fun r => sensorRead r.1 r.2) y) (hok : ok = (rs.map (·.1)).filter (fun i => !(z.sensor i).failed))
    (hw : w = each ok (fun i e => fastCheck i (if g = 0 ∨ g = 2 then riseCheck i e else e)) z) :
    thermalNow g l e = limits g (if g = 0 then each ok tileTemp w else if g = 2 then each (List.range 64) regionTemp w else w) := by
  subst hw hok hz hrs hy hx
  unfold thermalNow
  rw [if_neg (by rw [h]; decide)] <;> rfl

/-- Settles O28: each row by the condition of its occasion. -/
theorem evaluationEventsAct : Obligations.evaluationEventsAct := by
  unfold Obligations.evaluationEventsAct
  refine ⟨?loop, ?noLoop, ?thermal, ?noThermal⟩
  case loop =>
    rintro s a n b res l y h hn hy
    refine exec_run (f := loopEvaluationNow a b res l) rfl ?_
    have hturn : takeTurn a b s.start = y := by rw [hy, hn]; rfl
    rw [loopEvaluationNow_due (e := s.start) h, hturn]
    rfl
  case noLoop =>
    intro s a b res l h
    exact exec_run (f := loopEvaluationNow a b res l) rfl (if_pos (by rw [show loopDue s.start a = false from h]; rfl))
  case thermal =>
    intro s g l rs ok x y z w h hx hy hrs hz hok hw
    refine exec_run (f := thermalNow g l) rfl (thermalNow_measured (e := s.start) h (hx.trans ?_) hy hrs hz hok hw)
    rfl
  case noThermal =>
    intro s g l h
    exact exec_run (f := thermalNow g l) rfl (if_pos (by rw [show measured s.start g = false from h]; rfl))

end Sys2Proof.Machine
end

section
/-! The statement about feeds, auxiliary supplies and rails (R359-R361). -/

open Sys2Proof

namespace Sys2Proof.Machine

theorem unfed_setFeed (b v : Bool) (e : Engine) : unfed (setFeed b v e) = unfed e := by cases b <;> rfl

theorem darkened_pwr (e : Engine) : (detach (darkArray e)).pwr = e.pwr :=
  ((moves_detach).part .pwr rfl).trans ((moves_darkArray).part .pwr rfl)

/-- What an engine without its rails keeps of its supplies (R360). -/
theorem goDark_pwr (c : Bool) (e : Engine) : (goDark c e).pwr = { e.pwr with rails := false, collapsed := c } :=
  congrArg (fun p : PwrSt => { p with rails := false, collapsed := c }) (darkened_pwr e)

theorem powerLossNow_fed {e : Engine} (h : unfed e = false) :
    powerLossNow e = { goDark false e with
      pwr := { (goDark false e).pwr with feedA := false, feedB := false, auxA := false, auxB := false } } :=
  if_neg (by rw [h]; decide)

/-- The return of a feed (R359, R360). -/
theorem feedReturnNow_fed {b : Bool} {e x : Engine} (h : unfed e = false)
    (hx : x = brakeOff 3 (setLive Fd.PWR_CAUSE_LIVE_BROWNOUT false (setLive
      (if b = true then Fd.PWR_CAUSE_LIVE_FEED_B_LOSS else Fd.PWR_CAUSE_LIVE_FEED_A_LOSS) false (setFeed b true e)))) :
    feedReturnNow b e = if x.pwr.collapsed = true ∧ x.sys.mode = .off then
      beginBoot (resetEngine false .rst (darkArray { x with pwr := { x.pwr with collapsed := false } })) else x := by
  have hgo : feedReturnNow b e = if x.pwr.collapsed then restart x else x := by
    unfold feedReturnNow
    rw [if_neg (by rw [unfed_setFeed, h]; decide), hx]
  rw [hgo, ite_and]
  exact ite_congr rfl (fun _ => rfl) (fun _ => rfl)

/-- The collapse of the rails in a brownout (R360, R361). -/
theorem railCollapseNow_brown {e : Engine} (hb : on e Fd.PWR_CAUSE_LIVE_BROWNOUT = true) (hp : unpowered e = false) :
    railCollapseNow e = if standbyOn e = false then powerLossNow e
      else if e.sys.mode = .lockout then { e with pwr := { e.pwr with rails := false } } else goDark true e := by
  unfold railCollapseNow
  rw [if_neg (by rw [hb, hp]; decide)]
  exact ite_congr (Bool.not_eq_true' _) (fun _ => rfl) (fun _ => rfl)

/-- Settles O29: each row by the condition of its occasion. -/
theorem supplyEventsAct : Obligations.supplyEventsAct := by
  unfold Obligations.supplyEventsAct
  refine ⟨fun _ => rfl, ?feedLoss, ?feedGone, ?feedReturn, ?feedUnfed, ?brownout, ?noBrownout, ?collapseAll, ?collapse, ?noCollapse,
    ?current, ?setOver, ?railWarn, ?auxLoss, ?auxGone, ?auxReturn, ?loss, ?noLoss⟩
  case feedLoss =>
    rintro s b x h rfl
    refine exec_run (f := feedLossNow b) rfl (if_neg ?_)
    rw [show feedOf s.start b = true from h]
    decide
  case feedGone =>
    intro s b h
    exact exec_run (f := feedLossNow b) rfl (if_pos (by rw [show feedOf s.start b = false from h]; rfl))
  case feedReturn =>
    intro s b x h hx
    exact exec_run (f := feedReturnNow b) rfl (feedReturnNow_fed (e := s.start) h hx)
  case feedUnfed =>
    intro s b h
    exact exec_run (f := feedReturnNow b) rfl (if_pos ((unfed_setFeed b true s.start).trans h))
  case brownout =>
    rintro s x hm hb rfl
    refine exec_run (f := brownoutNow) rfl (if_neg ?_)
    rintro (h | h)
    · exact hm h
    · exact Bool.noConfusion (hb.symm.trans h)
  case noBrownout =>
    intro s h
    exact exec_run (f := brownoutNow) rfl (if_pos h)
  case collapseAll =>
    intro s hb hp hs
    refine exec_run (f := railCollapseNow) rfl ?_
    rw [railCollapseNow_brown (e := s.start) hb hp]
    exact if_pos hs
  case collapse =>
    intro s hb hp hs
    have hgo := railCollapseNow_brown (e := s.start) hb hp
    rw [if_neg (by rw [show standbyOn s.start = true from hs]; decide)] at hgo
    refine ⟨fun hm => exec_run (f := railCollapseNow) rfl (hgo.trans (if_pos hm)), fun hm => ?_⟩
    refine Goes.to (exec_run (f := railCollapseNow) rfl (hgo.trans (if_neg hm))) ⟨rfl, rfl, rfl, ?_, ?_, rfl⟩
    · rw [goDark_pwr]; rfl
    · rw [goDark_pwr]; rfl
  case noCollapse =>
    intro s h
    refine exec_run (f := railCollapseNow) rfl (if_pos ?_)
    obtain h | h := h
    · exact Or.inl (by rw [show on s.start Fd.PWR_CAUSE_LIVE_BROWNOUT = false from h]; rfl)
    · exact Or.inr h
  case current =>
    intro s l
    refine exec_run (f := overcurrentNow l) rfl (ite_congr ?_ (fun _ => rfl) (fun _ => rfl))
    rw [Bool.not_eq_true']
    rfl
  case setOver => intro b v e; cases b <;> rfl
  case railWarn =>
    rintro s x rfl
    exact exec_run (f := fun e => if unpowered e then e
      else let e := note Fd.PWR_CAUSE_RAIL_WARN e; { e with pwr := { e.pwr with railWarn := true } }) rfl rfl
  case auxLoss =>
    rintro s b x h rfl
    refine exec_run (f := auxLossNow b) rfl (if_neg ?_)
    rw [show auxOf s.start b = true from h]
    decide
  case auxGone =>
    intro s b h
    exact exec_run (f := auxLossNow b) rfl (if_pos (by rw [show auxOf s.start b = false from h]; rfl))
  case auxReturn =>
    rintro s b x rfl
    exact exec_run (f := auxReturnNow b) rfl rfl
  case loss =>
    intro s h
    exact Goes.to (exec_run (f := powerLossNow) rfl (powerLossNow_fed (e := s.start) h)) ⟨rfl, rfl, rfl, rfl, rfl, rfl, rfl, rfl⟩
  case noLoss =>
    intro s h
    exact exec_run (f := powerLossNow) rfl (if_pos h)

end Sys2Proof.Machine
end

section
/-! The statement about the reference clocks and the timebase (R363-R365). -/

open Sys2Proof

namespace Sys2Proof.Machine

/-- A reference that has been good is lost (R363-R365). -/
theorem refclkLostNow_lost {b : Bool} {e x : Engine} (hm : e.sys.mode ≠ .off) (hl : refLost e b = false)
    (hx : x = tbCheck (setLive (if b = true then Fd.PWR_CAUSE_LIVE_REFCLK_B_LOSS else Fd.PWR_CAUSE_LIVE_REFCLK_A_LOSS) true
      (note (if b = true then Fd.PWR_CAUSE_REFCLK_B_LOSS else Fd.PWR_CAUSE_REFCLK_A_LOSS) (setRef b false e)))) :
    refclkLostNow b e = if (x.pwr.lostA && x.pwr.lostB) = true
      then raise Fd.PWR_CAUSE_REFCLK_LOSS (setLive Fd.PWR_CAUSE_LIVE_REFCLK_LOSS true x) else x := by
  unfold refclkLostNow
  rw [if_neg hm, if_neg (by rw [hl]; decide), hx]

theorem tbRevertNow_reverts {e : Engine} (hm : e.sys.mode ≠ .off) (hr : on e Fd.PWR_TB_CTL_REVERT = true)
    (hp : on e Fd.PWR_TB_CTL_PREF ≠ e.pwr.tbB) (ho : otherTb e = true) :
    tbRevertNow e = switchTb (waitClk (refSince e (on e Fd.PWR_TB_CTL_PREF) + 10000000000) e) := by
  have hno : ¬(e.sys.mode = .off ∨ (!on e Fd.PWR_TB_CTL_REVERT) = true ∨ on e Fd.PWR_TB_CTL_PREF = e.pwr.tbB ∨ (!otherTb e) = true) := by
    simp only [hm, hr, hp, ho, Bool.not_true, Bool.false_eq_true, or_self, not_false_eq_true]
  unfold tbRevertNow
  dsimp only
  rw [if_neg hno]

/-- Settles O30: each row by the condition of its occasion. -/
theorem referenceEventsAct : Obligations.referenceEventsAct := by
  unfold Obligations.referenceEventsAct
  refine ⟨?lost, ?again, ?off, ?setRef, ?good, ?notGood, ?revert, ?noRevert⟩
  case lost =>
    intro s b x hm hl hx
    exact exec_run (f := refclkLostNow b) rfl (refclkLostNow_lost (e := s.start) hm hl hx)
  case again =>
    intro s b hm hl
    exact exec_run (f := refclkLostNow b) rfl ((if_neg hm).trans (if_pos hl))
  case off =>
    intro s b hm
    exact exec_run (f := refclkLostNow b) rfl (if_pos hm)
  case setRef => intro b good e; cases b <;> exact ⟨rfl, rfl⟩
  case good =>
    intro s b hm hg
    refine exec_run (f := refGoodNow b) rfl (if_neg ?_)
    rintro (h | h)
    · exact hm h
    · exact Bool.noConfusion (hg.symm.trans h)
  case notGood =>
    intro s b h
    exact exec_run (f := refGoodNow b) rfl (if_pos h)
  case revert =>
    rintro s p rfl hm hr hp ho
    exact exec_run (f := tbRevertNow) rfl (tbRevertNow_reverts (e := s.start) hm hr hp ho)
  case noRevert =>
    intro s h
    refine exec_run (f := tbRevertNow) rfl (if_pos ?_)
    obtain h | h | h | h := h
    · exact Or.inl h
    · exact Or.inr (Or.inl (by rw [show on s.start Fd.PWR_TB_CTL_REVERT = false from h]; rfl))
    · exact Or.inr (Or.inr (Or.inl h))
    · exact Or.inr (Or.inr (Or.inr (by rw [show otherTb s.start = false from h]; rfl)))

end Sys2Proof.Machine
end

section
/-! The statement about wire faults, hung masters, stalled handshakes and the hold-off (R329-R348). -/

open Sys2Proof

namespace Sys2Proof.Machine

/-- A pair that is found broken is recorded once (R329, R330). -/
theorem wireFaultNow_records {b i c off : Nat} {e x : Engine} (hm : e.sys.mode ≠ .off) (hr : hasReporter b i c = true)
    (hn : reporter b i c ∉ e.flt.wires) (ho : causeOff b i = some off)
    (hx : x = mark Fd.FLT_CAUSE_WIRE (inc Reg.FLT_WIRE_CNT (noteRec (mkRec e true b i c (classOf b c) 0) off
      { e with flt := { e.flt with wires := e.flt.wires ++ [reporter b i c] } }))) :
    wireFaultNow b i c e = wireReact b i c (if b = 18 then (match summaryBit c with | some f => mark f x | none => x) else x) := by
  have hno : ¬(e.sys.mode = .off ∨ (!hasReporter b i c) = true ∨ reporter b i c ∈ e.flt.wires) := by
    simp only [hm, hr, hn, Bool.not_true, Bool.false_eq_true, or_self, not_false_eq_true]
  rw [wireFaultNow, if_neg hno, ho, hx]
  rfl

theorem wireFaultNow_not {b i c : Nat} {e : Engine} (h : e.sys.mode = .off ∨ hasReporter b i c = false ∨
    reporter b i c ∈ e.flt.wires ∨ causeOff b i = none) : wireFaultNow b i c e = e := by
  unfold wireFaultNow
  split
  · rfl
  case isFalse hno =>
    simp only [not_or, Bool.not_eq_false, Bool.not_eq_eq_eq_not, Bool.not_true] at hno
    obtain ⟨hm, hr, hn⟩ := hno
    simp only [hm, hr, hn, Bool.true_eq_false, false_or] at h
    rw [h]

/-- A broken pair that reads good again (R330). -/
theorem wireOkNow_good {b i c : Nat} {e : Engine} (hm : e.sys.mode ≠ .off) (hw : reporter b i c ∈ e.flt.wires) :
    wireOkNow b i c e = { pass 1000 e with flt := { e.flt with wires := e.flt.wires.filter (· ≠ reporter b i c) } } :=
  if_neg (not_or.2 ⟨hm, not_not.2 hw⟩)

/-- A hung master is an event of class MAJOR (R347). -/
theorem raiseD_busHang (m a : Nat) (e : Engine) : raiseD Fd.FLT_CAUSE_BUS_HANG m a e = noteD Fd.FLT_CAUSE_BUS_HANG m a e := rfl

theorem masterHeld_holdMaster {m : Nat} (e : Engine) (h : m < 8) : masterHeld (holdMaster m e) m = true := by
  rw [masterHeld, holdMaster, rd_wr_same]
  exact bit_or _ _ (by omega)

/-- An access that stays outstanding is told and holds its master, in LOCKOUT it is told only (R336, R347). -/
theorem busHangNow_tells {m a : Nat} {e : Engine} (hp : unpowered e = false) (hm : m < 8) (hh : masterHeld e m = false) :
    busHangNow m a e = if e.sys.mode = .lockout then raiseD Fd.FLT_CAUSE_BUS_HANG m (a % 4294967296) e
      else holdMaster m (raiseD Fd.FLT_CAUSE_BUS_HANG m (a % 4294967296) e) := by
  have hno : ¬(unpowered e = true ∨ m ≥ 8 ∨ masterHeld e m = true) := by
    rw [hp, hh]; simp; omega
  have hsys : (raiseD Fd.FLT_CAUSE_BUS_HANG m (a % 4294967296) e).sys = e.sys := by rw [raiseD_busHang, noteD_sys]
  unfold busHangNow
  rw [if_neg hno]
  dsimp only
  rw [hsys]

/-- A stalled handshake freezes its tile, in LOCKOUT it does not (R335, R336). -/
theorem hsErrNow_tells {k : Nat} {e x : Engine} (hp : unpowered e = false) (hk : k < 256) (hs : (e.tile k).hsStall = false)
    (hx : x = updTile k (fun y => { y with hsStall := true })
      (setLive (tileCause Fd.TILE_CAUSE_LIVE_HS_ERR k) true (noteTile Fd.TILE_CAUSE_HS_ERR k 0 e))) :
    hsErrNow k e = if e.sys.mode = .lockout then x else freezeTile k x := by
  have hno : ¬(unpowered e = true ∨ k ≥ 256 ∨ (e.tile k).hsStall = true) := by
    rw [hp, hs]; simp; omega
  have hsys : x.sys = e.sys := by
    rw [hx, updTile_sys, setLive, wrF_sys, noteTile_sys]
  unfold hsErrNow
  rw [if_neg hno]
  dsimp only
  rw [← hx, hsys]

/-- Settles O31: each row by the condition of its occasion. -/
theorem faultEventsAct : Obligations.faultEventsAct := by
  unfold Obligations.faultEventsAct
  refine ⟨?wire, ?wireNot, ?good, ?goodNot, ?hang, ?hangNot, ?held, ?stall, ?stallNot, ?grave, ?graveNot, ?holdoff, ?holdoffNot⟩
  case wire =>
    intro s b i c off x hm hr hn ho hx
    refine exec_run (f := fun e => if false then wireOkNow b i c e else wireFaultNow b i c e) rfl ?_
    exact (wireFaultNow_records (e := s.start) hm hr hn ho hx).trans rfl
  case wireNot =>
    intro s b i c h
    exact exec_run (f := fun e => if false then wireOkNow b i c e else wireFaultNow b i c e) rfl (wireFaultNow_not (e := s.start) h)
  case good =>
    intro s b i c hm hw
    exact Goes.to (exec_run (f := fun e => if true then wireOkNow b i c e else wireFaultNow b i c e) rfl
      (wireOkNow_good (e := s.start) hm hw)) ⟨rfl, rfl, rfl⟩
  case goodNot =>
    intro s b i c h
    exact exec_run (f := fun e => if true then wireOkNow b i c e else wireFaultNow b i c e) rfl (if_pos h)
  case hang =>
    intro s m a hp hm hh
    exact exec_run (f := busHangNow m a) rfl (busHangNow_tells (e := s.start) hp hm hh)
  case hangNot =>
    intro s m a h
    exact exec_run (f := busHangNow m a) rfl (if_pos h)
  case held => exact fun m e hm => masterHeld_holdMaster e hm
  case stall =>
    intro s k x hp hk hs hx
    exact exec_run (f := settled (hsErrNow k)) rfl (congrArg settle (hsErrNow_tells (e := s.start) hp hk hs hx))
  case stallNot =>
    intro s k h
    exact exec_run (f := settled (hsErrNow k)) rfl (congrArg settle (if_pos h))
  case grave =>
    intro s h
    have hno : ¬(!s.start.flt.graveBusy) = true := by rw [show s.start.flt.graveBusy = true from h]; decide
    exact ⟨exec_run (gravePersist_run true s) (if_neg hno), exec_run (gravePersist_run false s) (if_neg hno)⟩
  case graveNot =>
    intro s b h
    exact exec_run (gravePersist_run b s) (if_pos (by rw [show s.start.flt.graveBusy = false from h]; rfl))
  case holdoff => exact fun s x h hx y hy => atn_go s x h hx y hy
  case holdoffNot =>
    intro s h
    exact exec_run (atn_run s) (if_pos (by rw [show s.start.flt.risePend = false from h]; rfl))

end Sys2Proof.Machine
end

section
/-! The statement about snapshots and persistent registers (R303, R316, R317, R322-R325). -/

open Sys2Proof

namespace Sys2Proof.Machine

theorem waitD_snap (t : Nat) (e : Engine) : (waitD t e).snap = e.snap := (moves_waitD).part .snap rfl

/-- What the pulse leaves of the requests (R322, R324). -/
theorem pulse_snap (e : Engine) : (pulse e).snap = { e.snap with
    latched := some (latch e), nowWait := if atGoes e then e.snap.nowWait else e.snap.nowWait.tail,
    serving := if atGoes e then e.snap.atPend.toList.map (fun p => some p.1) else e.snap.nowWait.take 1,
    atPend := if atGoes e then none else e.snap.atPend } := by
  rw [pulse, restartViews_snap]

theorem pulse_clk (e : Engine) : (pulse e).clk = e.clk := (moves_pulse).part .clk rfl

/-- The end of a programming takes 20 µs from its start (R316). -/
theorem nvDone_clk {ok : Bool} {off : Nat} {v : Word} {e : Engine} (h : e.nvr.busy = some (off, v)) :
    (nvDone ok e).clk = max e.clk (e.nvr.busyAt + 20000) := by
  unfold nvDone
  rw [h]
  dsimp only
  rw [apply_ite Engine.clk, note_clk, ite_self, apply_ite Engine.clk, note_clk, ite_self]
  exact waitClk_clk _ _

theorem wearOf_put {e : Engine} {off n : Nat} {b : Option (Nat × Word)} {m : Tbl Word} {w : NvrSt}
    (h : e.nvr = { w with busy := b, wear := Tbl.put (fun _ => 0) w.wear off n, stored := m }) : wearOf e off = n := by
  rw [wearOf, h]
  exact Tbl.get_put_same _ _ _ _

/-- Settles O32: each row by the condition of its occasion. -/
theorem snapshotEventsAct : Obligations.snapshotEventsAct := by
  unfold Obligations.snapshotEventsAct
  refine ⟨?pulse, ?noPulse, ?readable, ?again, ?notReadable, ?programmed, ?failed, ?idle⟩
  case pulse =>
    intro s u x hu hx
    have hsnap : x.snap = s.eng.snap := by rw [hx]; exact waitD_snap u s.start
    have hgo : pulseNow s.start = pulse x := by rw [pulseNow, show snapTick s.start = some u from hu, hx]
    refine Goes.to (exec_run (f := pulseNow) rfl hgo) ?_
    rw [pulse_snap, hsnap, pulse_clk]
    refine ⟨rfl, ?_, rfl, fun h => ?_, fun h => ?_⟩
    · rw [latch, hsnap]
    · rw [h]; exact ⟨rfl, rfl, rfl⟩
    · rw [h]; exact ⟨rfl, rfl, rfl⟩
  case noPulse =>
    intro s h
    refine exec_run (f := pulseNow) rfl ?_
    rw [pulseNow, show snapTick s.start = none from h]
  case readable =>
    intro s sh x h hx
    have hsnap : x.snap = s.eng.snap := by rw [hx]; exact (moves_waitClk).part .snap rfl
    refine exec_run (f := readableNow) rfl ?_
    rw [readableNow, show s.start.snap.latched = some sh from h]
    dsimp only
    rw [show waitClk s.start.snap.copyTo s.start = x from hx.symm, hsnap] <;> rfl
  case again => rintro e u late rfl rfl; rfl
  case notReadable =>
    intro s h
    refine exec_run (f := readableNow) rfl ?_
    rw [readableNow, show s.start.snap.latched = none from h]
  case programmed =>
    intro s off v h
    obtain ⟨x, hx, hnvr, hwarn⟩ := nvDone_eq true s off v h
    refine Goes.to (exec_run (f := nvDone true) rfl (hx.trans (if_pos rfl))) ⟨?_, wearOf_put hnvr, ?_, ?_, fun hn => ?_⟩
    · rw [hnvr]
    · rw [hnvr]; exact Tbl.get_ins_same _ _ _ _
    · rw [← show nvDone true s.start = x from hx]
      exact nvDone_clk (e := s.start) h
    · exact on_of_bit rfl (hwarn (by rw [hn]))
  case failed =>
    intro s off v h
    obtain ⟨x, hx, hnvr, -⟩ := nvDone_eq false s off v h
    have hx' : nvDone false s.start = note Fd.NVR_CAUSE_PROG_FAIL x := hx
    have hkeep : (note Fd.NVR_CAUSE_PROG_FAIL x).nvr = x.nvr := note_nvr _ _
    refine Goes.to (exec_run (f := nvDone false) rfl hx') ⟨?_, wearOf_put (hkeep.trans hnvr), ?_, ?_, ?_⟩
    · rw [hkeep, hnvr]
    · rw [hkeep, hnvr]; rfl
    · rw [← hx']
      exact nvDone_clk (e := s.start) h
    · exact on_of_bit rfl (bit_note _ _ (by decide) (by decide))
  case idle =>
    intro s b h
    refine exec_run (f := nvDone b) rfl ?_
    rw [nvDone, show s.start.nvr.busy = none from h]

end Sys2Proof.Machine
end

section
/-! The statement about the mailbox rows (R289, R318-R323). -/

open Sys2Proof

namespace Sys2Proof.Machine

/-- The rows of the read selectors with what each reads (R321). -/
def mbxReads : List ((Rq → Bool → Nat → List Word → Instr) × Nat × (Engine → Nat → List Word)) :=
  [(Instr.time, 1, fun e _ => timeRead e), (.timeSlot, 2, timeSlotRead),
   (.tsq, 4, fun e i => match e.tim.tsq[i]? with | some t => tsWords t | none => []),
   (.xactEpoch, 0x10, fun e _ => twoWords e.xact.epoch), (.xactMapEpoch, 0x11, fun e _ => twoWords e.xact.pubEpoch),
   (.dmaFault, 0x20, fun e i => if faultRec e i = {} then [] else (faultRec e i).words i),
   (.snapInfo, 0x30, fun e _ => snapInfoWords e),
   (.snapReg, 0x31, fun e i => (List.range 8).map (fun k =>
     if isCounter (i + 4 * k) = true then Tbl.get (fun _ => 0) e.snap.cur.counters (i + 4 * k) else 0))]

theorem mbxReads_read : ∀ x ∈ mbxReads, selDir x.2.1 = some false ∧ ∀ e i, selRead x.2.1 i e = x.2.2 e i := by
  simp only [mbxReads, List.forall_mem_cons, List.not_mem_nil, false_implies, implies_true, and_true]
  exact ⟨⟨rfl, fun _ _ => rfl⟩, ⟨rfl, fun _ _ => rfl⟩, ⟨rfl, fun _ _ => rfl⟩, ⟨rfl, fun _ _ => rfl⟩, ⟨rfl, fun _ _ => rfl⟩,
    ⟨rfl, fun _ _ => rfl⟩, ⟨rfl, fun _ _ => rfl⟩, ⟨rfl, fun _ _ => rfl⟩⟩

theorem mbxReads_run : ∀ x ∈ mbxReads, ∀ (s : State) (rq : Rq) (w : Bool) (i : Nat) (d : List Word),
    exec (x.1 rq w i d) s = .next (s.run (mbxOp rq x.2.1 w i d)) := by
  simp only [mbxReads, List.forall_mem_cons, List.not_mem_nil, false_implies, implies_true, and_true]
  exact ⟨fun _ _ _ _ _ => rfl, fun _ _ _ _ _ => rfl, fun _ _ _ _ _ => rfl, fun _ _ _ _ _ => rfl, fun _ _ _ _ _ => rfl,
    fun _ _ _ _ _ => rfl, fun _ _ _ _ _ => rfl, fun _ _ _ _ _ => rfl⟩

/-- A requester may read what it asks for (R255, R321). -/
theorem selErr_allowed {sel k : Nat} {e : Engine} {m : Mbx} (hd : selDir m.sel = some m.write) (hs : m.sel = sel) (hi : idxOk e sel m.idx = true)
    (hv : k < 16 ∨ (vfMay sel = true ∧ (sel ≠ 0x20 ∨ faultRec e m.idx = {} ∨ (faultRec e m.idx).dom = k - 16))) :
    selErr (if 16 ≤ k then some (k - 16) else none) m e = 0 := by
  subst hs
  unfold selErr
  rw [if_neg (not_not.2 hd), hi]
  obtain hv | ⟨hv, hrec⟩ := hv
  · rw [if_neg (show ¬16 ≤ k by omega)]; simp
  · rw [hv]
    simp only [Bool.not_true, Bool.and_false, Bool.false_eq_true, if_false]
    refine if_neg ?_
    rintro ⟨hsel, hne, hdom⟩
    obtain h | h | h := hrec
    · exact h hsel
    · exact hne h
    · rw [h] at hdom
      split at hdom <;> simp at hdom

/-- What a read of a mailbox leaves (R319-R321). -/
theorem mbxOp_read {sel : Nat} {s : State} {rq : Rq} {i : Nat} {d : List Word} (hd : selDir sel = some false)
    (ho : mbxOpen s.eng rq = true) (hb : (s.eng.mbxOf (rqNum rq)).busy = false) (hi : i < 4294967296) (hok : idxOk s.eng sel i = true)
    (hv : rqNum rq < 16 ∨ (vfMay sel = true ∧ (sel ≠ 0x20 ∨ faultRec s.eng i = {} ∨ (faultRec s.eng i).dom = rqNum rq - 16))) :
    mbxOp rq sel false i d s.start = updMbx (rqNum rq) (fun m => m.done 0
      (if sel = 0x30 ∨ sel = 0x31 then s.eng.snap.cur.gen % 65536 else 0) (pad8 (selRead m.sel m.idx (started rq sel false i d s.start))))
      (started rq sel false i d s.start) := by
  have hm := started_mbx rq sel false i d s
  rw [Nat.mod_eq_of_lt hi] at hm
  have hs3 : sel ≠ 3 := by rintro rfl; exact absurd hd (by decide)
  have hs4 : sel ≠ 0x32 := by rintro rfl; exact absurd hd (by decide)
  rw [mbxOp_go (show mbxOpen s.start rq = true from ho) (show (s.start.mbxOf (rqNum rq)).busy = false from hb),
    mbxRun_read (selErr_allowed (sel := sel) (by rw [hm]; exact hd) (by rw [hm]) (by rw [hm]; exact hok) (by rw [hm]; exact hv))
      (by rw [hm]; exact hs3) (by rw [hm]; exact hs4), hm]
  rfl

/-- What the rows that write run (R289, R318). -/
theorem mbxRun_timeSet {k : Nat} {e : Engine} (h : selErr (if 16 ≤ k then some (k - 16) else none) (e.mbxOf k) e = 0)
    (hs : (e.mbxOf k).sel = 3) : mbxRun k e =
      updMbx k (fun m => m.done (if (timeSet (e.mbxOf k).data e).2 then 0 else 4) 0 m.data) (timeSet (e.mbxOf k).data e).1 := by
  unfold mbxRun
  dsimp only
  rw [h, if_neg (by decide), if_pos hs]

theorem mbxRun_preset {k : Nat} {e : Engine} (h : selErr (if 16 ≤ k then some (k - 16) else none) (e.mbxOf k) e = 0)
    (hs : (e.mbxOf k).sel = 0x32) : mbxRun k e =
      updMbx k (fun m => m.done 0 0 m.data) (wr (e.mbxOf k).idx (wordAt (e.mbxOf k).data 0) e) := by
  unfold mbxRun
  dsimp only
  rw [h, if_neg (by decide), if_neg (by rw [hs]; decide), if_pos hs]

theorem mbxOf_wr (k o v : Nat) (e : Engine) : (wr o v e).mbxOf k = e.mbxOf k := rfl

/-- Settles O33: each row by its selector and the error of its operation. -/
theorem mailboxRowsAct : Obligations.mailboxRowsAct := by
  unfold Obligations.mailboxRowsAct
  refine ⟨?read, ?timeSet, ?preset, ?rows⟩
  case read =>
    intro c sel r s rq i d hmem ho hb hi hok hv
    obtain ⟨hd, hr⟩ := mbxReads_read _ hmem
    have hrun := mbxOp_read (d := d) hd ho hb hi hok hv
    refine Goes.to (exec_run (mbxReads_run _ hmem s rq false i d) hrun) ⟨?_, rfl, rfl, rfl⟩
    have hsame : r (started rq sel false i d s.start) i = r s.eng i := ((hr _ i).symm.trans rfl).trans (hr s.eng i)
    rw [mbxOf_updMbx, started_mbx, hr, Nat.mod_eq_of_lt hi, ← hsame]
    rfl
  case timeSet =>
    intro s rq d x p ho hb hlt hx hp
    refine exec_run (f := mbxOp rq 3 true 0 d) rfl ?_
    have hm := started_mbx rq 3 true 0 d s
    have hstart : started rq 3 true 0 d s.start = x := hx.symm
    rw [mbxOp_go (show mbxOpen s.start rq = true from ho) (show (s.start.mbxOf (rqNum rq)).busy = false from hb),
      mbxRun_timeSet (selErr_allowed (sel := 3) (by rw [hm]; rfl) (by rw [hm]) (by rw [hm]; rfl) (Or.inl hlt)) (by rw [hm]), hm,
      hstart, hp]
    rfl
  case preset =>
    intro s rq i d ho hb hlt hi hc
    have hm := started_mbx rq 0x32 true i d s
    rw [Nat.mod_eq_of_lt hi] at hm
    have hgo : mbxOp rq 0x32 true i d s.start = updMbx (rqNum rq) (fun m => m.done 0 0 m.data)
        (wr i (wordAt (pad8 d) 0) (started rq 0x32 true i d s.start)) := by
      rw [mbxOp_go (show mbxOpen s.start rq = true from ho) (show (s.start.mbxOf (rqNum rq)).busy = false from hb),
        mbxRun_preset (selErr_allowed (sel := 0x32) (by rw [hm]; rfl) (by rw [hm]) (by rw [hm]; exact hc) (Or.inl hlt)) (by rw [hm]), hm]
      rfl
    refine Goes.to (exec_run (f := mbxOp rq 0x32 true i d) rfl hgo) ⟨?_, fun o hne => ?_, ?_⟩
    · rw [rd_updMbx, rd_wr_same]
      exact Nat.mod_eq_of_lt (BitVec.isLt _)
    · rw [rd_updMbx, rd_wr_ne _ _ _ _ hne.symm, started, rd_updMbx]
      exact rd_congr rfl rfl rfl o
    · rw [mbxOf_updMbx, mbxOf_wr, hm]
      rfl
  case rows =>
    intro c sel s rq w i d hmem
    have hrun := mbx_row c sel s rq w i d hmem
    refine ⟨fun ho => exec_run hrun (mbxOp_shut (e := s.start) ho), fun ho hb => exec_run hrun (mbxOp_busy (e := s.start) ho hb),
      fun ho hb hdir => Goes.of hrun (mbx_stop sel 1 s rq w i d ho hb (by decide) ?_),
      fun ho hb hdir hvf hidx => Goes.of hrun (mbx_stop sel 2 s rq w i d ho hb (by decide) ?_),
      fun k ho hb hdir hk hno => Goes.of hrun (mbx_stop sel 3 s rq w i d ho hb (by decide) ?_)⟩
    · rintro m rfl rfl -
      exact if_pos hdir
    · rintro m rfl rfl hi
      unfold selErr
      rw [if_neg (not_not.2 hdir), if_neg, if_pos]
      · rw [hi, idxOk_started, hidx]; rfl
      · split
        case isTrue h => rw [hvf (rqNum rq - 16) (by omega)]; simp
        case isFalse => simp
    · rintro m rfl rfl hi
      unfold selErr
      rw [if_neg (not_not.2 hdir), hk, if_pos (Nat.le_add_right 16 k), Nat.add_sub_cancel_left]
      obtain hno | ⟨hsel, hlt, hrec, hdom⟩ := hno
      · rw [hno]; rfl
      · have hi' : m.idx = i := by rw [hi, Nat.mod_eq_of_lt (by omega)]
        rw [hi', hsel, idxOk_started]
        rw [if_neg (by simp [vfMay]), if_neg (by simp [idxOk, hlt]), if_pos]
        exact ⟨rfl, hrec, by simpa [show faultRec (started rq 32 m.write i d s.start) i = faultRec s.eng i from rfl] using hdom⟩

end Sys2Proof.Machine
end

section
/-! The statement about tokens and claims of the ring (R264-R274, R285). -/

open Sys2Proof

namespace Sys2Proof.Machine

/-- The bytes of a number, least first, name the number below their range. -/
theorem ofBytes_leBytes (n x : Nat) : ofBytes (leBytes n x) = x % 256 ^ n := by
  induction n generalizing x with
  | zero => simp [leBytes, ofBytes, Nat.mod_one]
  | succ n ih =>
    have hb : (BitVec.ofNat 8 x).toNat = x % 256 := BitVec.toNat_ofNat x 8
    rw [leBytes, ofBytes, ih, hb, Nat.pow_succ', Nat.mod_mul]

/-- A claim carries its bid and its nonce (R272). -/
theorem claim_fields (o : Origin) (b : Bool) (bid n : Nat) :
    claimBid (ctlFrom o 2 b (leBytes 1 bid ++ [0] ++ leBytes 4 n)) = bid % 256 * 281474976710656 + o.sa ∧
      claimNonce (ctlFrom o 2 b (leBytes 1 bid ++ [0] ++ leBytes 4 n)) = n % 4294967296 := by
  constructor
  · have h : fieldOf (leBytes 1 bid ++ [0] ++ leBytes 4 n) 0 1 = ofBytes (leBytes 1 bid) := rfl
    exact congrArg (· * 281474976710656 + o.sa) (h.trans (ofBytes_leBytes 1 bid))
  · have h : fieldOf (leBytes 1 bid ++ [0] ++ leBytes 4 n) 2 4 = ofBytes (leBytes 4 n) := rfl
    exact h.trans (ofBytes_leBytes 4 n)

/-- A control frame of the ring on a receiver that hears it (R269-R272). -/
theorem ctlArrives_heard {b : Bool} {f : Sys2Proof.Frame} {e : Engine} (hp : p2p e = false) (hh : hears e b = true) (hs : f.sized = true) :
    ctlArrives b f e = frameHere b f (ringRun e) := by
  rw [ctlArrives, hp, if_neg (by decide), frameIn, hh, hs]
  rfl

theorem ctlArrives_unheard {b : Bool} {f : Sys2Proof.Frame} {e : Engine} (h : p2p e = true ∨ hears e b = false) : ctlArrives b f e = e := by
  unfold ctlArrives
  split
  · rfl
  case isFalse hp =>
    rw [frameIn, h.resolve_left hp]
    rfl

/-- A frame of the station's own address is stripped (R269). -/
theorem frameHere_own {b : Bool} {f : Sys2Proof.Frame} {e : Engine} (hp : p2p e = false) (hs : f.sa = ownMac e) (hr : isRepeater e = false) :
    frameHere b f e = ownFrameIn b f e := by
  rw [frameHere, hp, if_neg (by decide), if_pos ⟨hs, by rw [hr]; rfl⟩]

/-- A frame of another, or any at a repeater, without a hop left (R269). -/
theorem frameHere_orphan {b : Bool} {f : Sys2Proof.Frame} {e : Engine} (hp : p2p e = false) (ho : f.sa ≠ ownMac e ∨ isRepeater e = true)
    (ht : f.ttl ≤ 1) : frameHere b f e = inc Reg.LRG_ORPHAN_CNT e := by
  have hno : ¬(f.sa = ownMac e ∧ (!isRepeater e) = true) := by
    rintro ⟨hs, hr⟩
    exact ho.elim (· hs) (fun h => by simp [h] at hr)
  rw [frameHere, hp, if_neg (by decide), if_neg hno, if_pos (Or.inr (Or.inl ht))]

theorem frameHere_ctl {b : Bool} {f : Sys2Proof.Frame} {e : Engine} (hp : p2p e = false) (ho : f.sa ≠ ownMac e ∨ isRepeater e = true)
    (ht : 1 < f.ttl) (hk : f.kind ≠ 0) (hk3 : f.kind ≤ 3) (hc : f.fcsOk = true) : frameHere b f e = ctlIn b f e := by
  have hno : ¬(f.sa = ownMac e ∧ (!isRepeater e) = true) := by
    rintro ⟨hs, hr⟩
    exact ho.elim (· hs) (fun h => by simp [h] at hr)
  rw [frameHere, hp, if_neg (by decide), if_neg hno, if_neg (by simp [hc]; omega), if_pos hk]

/-- The rules of the control frames (R271-R273). -/
theorem ownFrameIn_token {b : Bool} {f : Sys2Proof.Frame} {e : Engine} (hc : f.fcsOk = true) (hk : f.kind = 1) :
    ownFrameIn b f e = tokenIn b f (inc Reg.LRG_STRIP_CNT e) := if_pos ⟨hc, hk⟩

theorem ownFrameIn_claim {b : Bool} {f : Sys2Proof.Frame} {e : Engine} (hc : f.fcsOk = true) (hk : f.kind = 2) :
    ownFrameIn b f e = claimIn b f (inc Reg.LRG_STRIP_CNT e) := by
  rw [ownFrameIn, if_neg (by simp [hk]), if_pos ⟨hc, hk⟩]

theorem ctlIn_token {b : Bool} {f : Sys2Proof.Frame} {e : Engine} (hk : f.kind = 1) : ctlIn b f e = tokenIn b f e := if_pos hk

theorem ctlIn_claim {b : Bool} {f : Sys2Proof.Frame} {e : Engine} (hk : f.kind = 2) : ctlIn b f e = claimIn b f e := by
  rw [ctlIn, if_neg (by rw [hk]; decide), if_pos hk]

/-- The claims of both rings have ended once the two are found one loop (R274). -/
theorem endClaim_loop (b : Bool) (e : Engine) : (endClaim b true e).lrg.a.claiming = false ∧ (endClaim b true e).lrg.b.claiming = false := by
  unfold endClaim whenE
  dsimp only
  cases b <;> cases ha : e.lrg.a.claiming <;> cases hb : e.lrg.b.claiming <;> simp [ringOf, updRing, ha, hb]

theorem endClaim_dupMac (b l : Bool) (e : Engine) : (endClaim b l e).lrg.dupMac = e.lrg.dupMac := by
  have hone (c : Bool) (x : Engine) :
      (if (ringOf x c).claiming then updRing c (fun r => { r with claiming := false, tokenAt := x.clk }) x else x).lrg.dupMac =
        x.lrg.dupMac := by
    split
    · cases c <;> rfl
    · rfl
  unfold endClaim whenE
  dsimp only
  split
  · rw [hone, hone]
  · rw [hone]

theorem dupFound_lrg (b : Bool) (e : Engine) : (dupFound b e).lrg.dupMac = true ∧ (dupFound b e).lrg.a.claiming = false ∧
    (dupFound b e).lrg.b.claiming = false := by
  refine ⟨?_, endClaim_loop b _⟩
  rw [dupFound, endClaim_dupMac, note_lrg]

/-- A token at a station that is not claiming (R271). -/
theorem tokenIn_taken {b : Bool} {f : Sys2Proof.Frame} {e x : Engine} (hr : isRepeater e = false) (hc : (ringOf e b).claiming = false)
    (hx : x = updRing b (fun r => { r with tokenAt := e.clk, gen := fieldOf f.payload 0 2, token := some { at_ := e.clk, f := f } })
      { e with lrg := { e.lrg with gen := fieldOf f.payload 0 2, operational := true } }) : tokenIn b f e = ringRun x := by
  rw [tokenIn, hr, if_neg (by decide), hc, if_neg (by decide), hx]

/-- A claim at a station of the ring, by its bid (R272, R273). -/
theorem claimIn_higher {b : Bool} {f : Sys2Proof.Frame} {e x : Engine} (hr : isRepeater e = false) (hb : ownBid e < claimBid f)
    (hx : x = awaitToken (endClaim b (oneLoop e b f) e)) : claimIn b f e = if f.sa = ownMac x then x else forwardFrame b f x := by
  rw [claimIn, hr, if_neg (by decide), if_pos hb, hx]

theorem claimIn_lower {b : Bool} {f : Sys2Proof.Frame} {e : Engine} (hr : isRepeater e = false) (hb : claimBid f < ownBid e) :
    claimIn b f e = if (ringOf e b).claiming = true then sendClaim b e else startClaim b e := by
  rw [claimIn, hr, if_neg (by decide), if_neg (Nat.lt_asymm hb), if_pos hb]

theorem claimIn_own {b : Bool} {f : Sys2Proof.Frame} {e : Engine} (hr : isRepeater e = false) (hb : claimBid f = ownBid e) :
    claimIn b f e = ownClaimIn b f e := by
  rw [claimIn, hr, if_neg (by decide), if_neg (by omega), if_neg (by omega)]

/-- Settles O34: each row by the condition of its occasion. -/
theorem tokenEventsAct : Obligations.tokenEventsAct := by
  unfold Obligations.tokenEventsAct
  refine ⟨?unheard, ?heard, ?token, ?serve, fun _ _ _ => rfl, ?next, ?claim, dupFound_lrg, fun _ _ => rfl, ?hold, ?refill, ?timers⟩
  case unheard =>
    intro s b o g bid n h
    exact ⟨exec_run (f := ctlArrives b (ctlFrom o 1 b (leBytes 2 g))) rfl (ctlArrives_unheard (e := s.start) h),
      exec_run (f := ctlArrives b (ctlFrom o 2 b (leBytes 1 bid ++ [0] ++ leBytes 4 n))) rfl (ctlArrives_unheard (e := s.start) h)⟩
  case heard =>
    rintro s b o g bid n f c y hp hh rfl hy rfl rfl
    have ht {x : Engine} (h : frameHere b (ctlFrom o 1 b (leBytes 2 g)) (ringRun s.start) = x) :
        exec (.token b { gen := g, src := o }) s = .next (s.to x) :=
      exec_run (f := ctlArrives b (ctlFrom o 1 b (leBytes 2 g))) rfl ((ctlArrives_heard (e := s.start) hp hh rfl).trans h)
    have hc {x : Engine} (h : frameHere b (ctlFrom o 2 b (leBytes 1 bid ++ [0] ++ leBytes 4 n)) (ringRun s.start) = x) :
        exec (.claim b bid o n) s = .next (s.to x) :=
      exec_run (f := ctlArrives b (ctlFrom o 2 b (leBytes 1 bid ++ [0] ++ leBytes 4 n))) rfl
        ((ctlArrives_heard (e := s.start) hp hh rfl).trans h)
    refine ⟨fun hs hr => ⟨ht ?_, hc ?_⟩, fun ho hl => ⟨ht ?_, hc ?_⟩, fun ho hl => ⟨ht ?_, hc ?_⟩, claim_fields o b bid n⟩
    · rw [frameHere_own hy hs hr, ownFrameIn_token rfl rfl]
    · rw [frameHere_own hy hs hr, ownFrameIn_claim rfl rfl]
    · exact frameHere_orphan hy ho hl
    · exact frameHere_orphan hy ho hl
    · rw [frameHere_ctl hy ho hl (Nat.succ_ne_zero 0) (Nat.le_add_left 1 2) rfl, ctlIn_token rfl]
    · rw [frameHere_ctl hy ho hl (Nat.succ_ne_zero 1) (Nat.le_add_left 2 1) rfl, ctlIn_claim rfl]
  case token =>
    exact fun b f e x => ⟨fun hr => if_pos hr, fun hr hc => (if_neg (by rw [hr]; decide)).trans (if_pos hc), tokenIn_taken⟩
  case serve => intro b tx t k e; rw [serve] <;> rfl
  case next => intro tx t x l e h; rw [txNext, h]
  case claim =>
    intro b f e
    exact ⟨fun hr => if_pos hr, fun hr hb x hx => claimIn_higher hr hb hx, claimIn_lower, claimIn_own⟩
  case hold =>
    intro b n e
    exact ite_congr (propext Option.isNone_iff_eq_none) (fun _ => rfl) (fun _ => rfl)
  case refill =>
    intro s
    refine exec_run (f := fun e => whenE (!unpowered e) shaperRefill e) rfl ?_
    cases h : unpowered s.eng with
    | true => rw [show unpowered s.start = true from h]; rfl
    | false => rw [show unpowered s.start = false from h]; rfl
  case timers =>
    rintro s b tmo rfl
    refine ⟨exec_run (f := trtExpiry b) rfl (ite_congr ?_ (fun _ => rfl) (fun _ => rfl)),
      exec_run (f := claimTimeout b) rfl (ite_congr ?_ (fun _ => rfl) (fun _ => rfl))⟩
    · simp only [Bool.or_eq_true, Bool.not_eq_true', beq_iff_eq, or_assoc]
      rfl
    · simp only [Bool.or_eq_true, Bool.not_eq_true', beq_iff_eq]
      rfl

end Sys2Proof.Machine
end

section
/-! The statement about the links of the ring (R267, R274, R275, R280). -/

open Sys2Proof

namespace Sys2Proof.Machine

theorem waitClk_lrg (n : Nat) (e : Engine) : (waitClk n e).lrg = e.lrg := (moves_waitClk).part .lrg rfl

/-- A hello that the station hears is noted, and the ring opposite wrapped or unwrapped by it (R267, R274, R275). -/
theorem helloIn_heard {b ra rb : Bool} {e x : Engine} (hp : p2p e = false) (hh : hears e b = true)
    (hx : x = updRing (!b) (fun r => { r with heard := if b = true then ra else rb }) (updRing b (fun r =>
      { r with helloAt := some e.clk, goodAt := if (hellosTo e b e.clk && r.goodAt.isSome) = true then r.goodAt else some e.clk }) e)) :
    helloIn b ra rb e = if (if b = true then ra else rb) = false then wrapRing (!b) x else tryUnwrap false (tryUnwrap true x) := by
  rw [helloIn, hp, hh, if_neg (by decide), hx]
  exact ite_congr (Bool.not_eq_true' _) (fun _ => rfl) (fun _ => rfl)

/-- What a link that fails does before it is down (R267). -/
theorem linkDown_up {b lock : Bool} {e x y z : Engine} (hi : e.lrg.inserted = true) (hk : p2p e = false ∨ lock = true)
    (hu : (ringOf e b).rxUp = true) (hx : x = if lock = true then loseLock b e else e) (hy : y = waitClk (downAt x (ringOf x b)) x)
    (hz : z = note Fd.LRG_CAUSE_LINK_DOWN (updRing b (fun r => { r with rxUp := false, goodAt := none }) y)) :
    linkDown { onB := b, lock := lock } e =
      if p2p z = true then (if b = true then z else ringRun { z with lrg := { z.lrg with secondary := true, primaryAt := none } })
      else wrapRing b z := by
  have hgo : ¬(!e.lrg.inserted || (p2p e && !lock)) = true := by
    obtain h | h := hk <;> simp [hi, h]
  unfold linkDown
  dsimp only
  rw [if_neg hgo, if_neg (by rw [hu]; decide), hz, hy, hx]
  rfl

theorem linkDown_down {b lock : Bool} {e : Engine} (hi : e.lrg.inserted = true) (hk : p2p e = false ∨ lock = true)
    (hu : (ringOf e b).rxUp = false) : linkDown { onB := b, lock := lock } e = if lock = true then loseLock b e else e := by
  have hgo : ¬(!e.lrg.inserted || (p2p e && !lock)) = true := by
    obtain h | h := hk <;> simp [hi, h]
  unfold linkDown
  dsimp only
  rw [if_neg hgo, if_pos (by rw [hu]; decide)]
  rfl

theorem linkDown_not {b lock : Bool} {e : Engine} (h : e.lrg.inserted = false ∨ (p2p e = true ∧ lock = false)) :
    linkDown { onB := b, lock := lock } e = e := by
  refine if_pos ?_
  obtain h | ⟨h, hk⟩ := h
  · simp [h]
  · simp [h, hk]

/-- A link whose conditions have held long enough comes up (R267). -/
theorem linkUp_up {b : Bool} {g : Nat} {e x y : Engine} (hi : e.lrg.inserted = true) (hu : (ringOf e b).rxUp = false)
    (hl : (ringOf e b).lock = true) (hg : (ringOf e b).goodAt = some g) (hh : hellosTo e b (max e.clk (g + 10000000)) = true)
    (hx : x = waitClk (g + 10000000) e) (hy : y = updRing b (fun r => { r with rxUp := true }) x) :
    linkUp b e = if p2p y = true then ringRun (if b = true then y else { y with lrg := { y.lrg with primaryAt := some y.clk } })
      else tryUnwrap b y := by
  rw [linkUp, hg]
  dsimp only
  rw [hi, hu, hl, hh, if_neg (by decide), hy, hx]

theorem linkUp_not {b : Bool} {e : Engine} (h : e.lrg.inserted = false ∨ (ringOf e b).rxUp = true ∨ (ringOf e b).lock = false ∨
    (∀ g, (ringOf e b).goodAt = some g → hellosTo e b (max e.clk (g + 10000000)) = false)) : linkUp b e = e := by
  unfold linkUp
  dsimp only
  split
  · rfl
  case _ g hg =>
    refine if_pos ?_
    obtain h | h | h | h := h
    · simp [h]
    · simp [h]
    · simp [h]
    · simp [h g hg]

theorem ringOf_updRing_same (b : Bool) (f : RingSt → RingSt) (e : Engine) : ringOf (updRing b f e) b = f (ringOf e b) := by
  cases b <;> rfl

theorem ringOf_updRing_other (b : Bool) (f : RingSt → RingSt) (e : Engine) : ringOf (updRing b f e) (!b) = ringOf e (!b) := by
  cases b <;> rfl

theorem blockLock_locks {b : Bool} {e : Engine} (hi : e.lrg.inserted = true) (hl : (ringOf e b).lock = false) :
    blockLock b e = updRing b (fun r =>
      { r with lock := true, goodAt := if hellosTo e b e.clk then some e.clk else none }) e := by
  rw [blockLock, hi, hl, if_neg (by decide)]

/-- The primary link is used again (R280). -/
theorem primaryReturn_returns {t : Nat} {e x : Engine} (ht : e.lrg.primaryAt = some t) (hp : p2p e = true) (hi : e.lrg.inserted = true)
    (hs : e.lrg.secondary = true) (hu : e.lrg.a.rxUp = true) (hx : x = waitClk (t + 1000000000) e) :
    primaryReturn e = ringRun { x with lrg := { x.lrg with secondary := false, primaryAt := none } } := by
  rw [primaryReturn, ht]
  dsimp only
  rw [hp, hi, hs, hu, if_neg (by decide), hx]

theorem primaryReturn_not {e : Engine} (h : e.lrg.primaryAt = none ∨ p2p e = false ∨ e.lrg.inserted = false ∨ e.lrg.secondary = false ∨
    e.lrg.a.rxUp = false) : primaryReturn e = e := by
  unfold primaryReturn
  split
  · rfl
  case _ t ht =>
    refine if_pos ?_
    obtain h | h | h | h | h := h
    · exact absurd (h.symm.trans ht) (by simp)
    all_goals simp [h]

/-- Settles O35: each row by the condition of its occasion. -/
theorem linkEventsAct : Obligations.linkEventsAct := by
  unfold Obligations.linkEventsAct
  refine ⟨?send, ?due, ?hello, ?noHello, ?down, ?isDown, ?noDown, ?up, ?noUp, ?lock, ?noLock, ?primary, ?noPrimary⟩
  case send =>
    intro s
    refine exec_run (f := helloSendNow) rfl ?_
    unfold helloSendNow
    dsimp only
    rw [waitClk_lrg]
    refine ite_congr ?_ (fun _ => rfl) (fun _ => rfl)
    simp only [Bool.or_eq_true, Bool.not_eq_true']
    rfl
  case due => rintro e t rfl; rw [helloDue] <;> rfl
  case hello =>
    rintro s b ra rb fresh x hp hh rfl hx
    exact exec_run (f := helloIn b ra rb) rfl (helloIn_heard (e := s.start) hp hh hx)
  case noHello =>
    intro s b ra rb h
    refine exec_run (f := helloIn b ra rb) rfl (if_pos ?_)
    obtain h | h := h
    · rw [show p2p s.start = true from h]; rfl
    · rw [show hears s.start b = false from h, Bool.or_eq_true]; exact Or.inr rfl
  case down =>
    intro s b lock x y z hi hk hu hx hy hz
    exact exec_run (f := linkDown { onB := b, lock := lock }) rfl (linkDown_up (e := s.start) hi hk hu hx hy hz)
  case isDown =>
    intro s b lock hi hk hu
    exact exec_run (f := linkDown { onB := b, lock := lock }) rfl (linkDown_down (e := s.start) hi hk hu)
  case noDown =>
    intro s b lock h
    exact exec_run (f := linkDown { onB := b, lock := lock }) rfl (linkDown_not (e := s.start) h)
  case up =>
    intro s b g x y hi hu hl hg hh hx hy
    exact exec_run (f := linkUp b) rfl (linkUp_up (e := s.start) hi hu hl hg hh hx hy)
  case noUp =>
    intro s b h
    exact exec_run (f := linkUp b) rfl (linkUp_not (e := s.start) h)
  case lock =>
    intro s b hi hl
    refine Goes.to (exec_run (f := blockLock b) rfl (blockLock_locks (e := s.start) hi hl)) ⟨?_, ?_⟩
    · exact ringOf_updRing_same b _ s.start
    · exact ringOf_updRing_other b _ s.start
  case noLock =>
    intro s b h
    refine exec_run (f := blockLock b) rfl (if_pos ?_)
    obtain h | h := h
    · rw [show s.start.lrg = s.eng.lrg from rfl, h]; rfl
    · rw [show ringOf s.start b = ringOf s.eng b from rfl, h, Bool.or_true]
  case primary =>
    intro s t x ht hp hi hs hu hx
    exact exec_run (f := primaryReturn) rfl (primaryReturn_returns (e := s.start) ht hp hi hs hu hx)
  case noPrimary =>
    intro s h
    exact exec_run (f := primaryReturn) rfl (primaryReturn_not (e := s.start) h)

end Sys2Proof.Machine
end

section
/-! The statement about PAUSE on the ring (R269, R280-R282). -/

open Sys2Proof

namespace Sys2Proof.Machine

/-- The frame of a PAUSE (R281). -/
def pauseFrame (p : PauseIn) (q : Nat) : Sys2Proof.Frame :=
  { da := p.da, sa := p.sa, ttl := p.ttl, eth := 0x8808, payload := pauseBytes q }

theorem pauseOf_pauseFrame (p : PauseIn) (q : Nat) : pauseOf (pauseFrame p q) = some (q % 65536) := by
  have h1 : (BitVec.ofNat 8 (q / 256)).toNat = q / 256 % 256 := BitVec.toNat_ofNat _ 8
  have h0 : (BitVec.ofNat 8 q).toNat = q % 256 := BitVec.toNat_ofNat _ 8
  have hsum : q / 256 % 256 * 256 + q % 256 = q % 65536 := by omega
  rw [pauseOf, pauseFrame, pauseBytes]
  dsimp only
  rw [if_pos ⟨rfl, rfl, rfl⟩, h1, h0, hsum]

/-- A DATA frame with the station's own address is only counted (R269). -/
theorem ownFrameIn_data {b : Bool} {f : Sys2Proof.Frame} {e : Engine} (h1 : f.kind ≠ 1) (h2 : f.kind ≠ 2) :
    ownFrameIn b f e = inc Reg.LRG_STRIP_CNT e := by
  rw [ownFrameIn, if_neg (fun h => h1 h.2), if_neg (fun h => h2 h.2)]

/-- No frame but those of the time unit gets a transparent clock's correction (R269, R292). -/
theorem forwardData_plain {known b : Bool} {f : Sys2Proof.Frame} {e : Engine} (h : f.eth ≠ 0x88F7) :
    forwardData known b f e = forwardFrame b f e := by
  have hw : tcWanted known f e = false := by
    rw [tcWanted, beq_eq_false_iff_ne.2 h]
    simp
  rw [forwardData, hw]
  rfl

theorem pauseFrame_eth (p : PauseIn) (q : Nat) : (pauseFrame p q).eth ≠ 0x88F7 := by
  show (0x8808 : Nat) ≠ 0x88F7
  decide

/-- What a frame does in point-to-point mode (R280, R281). -/
theorem frameHere_link {b : Bool} {f : Sys2Proof.Frame} {y : Engine} (hp : p2p y = true) : frameHere b f y = linkFrame b f y := if_pos hp

theorem linkFrame_pause {b : Bool} {f : Sys2Proof.Frame} {q : Nat} {y : Engine} (hc : f.fcsOk = true) (hq : pauseOf f = some q) :
    linkFrame b f y = if pauseFor y f.da = true then pauseApply q y else y := by
  rw [linkFrame, hc, if_neg (by decide), hq]

/-- What a DATA frame of another station does at a station of the ring (R269, R270, R281). -/
theorem dataIn_stranger {b : Bool} {f : Sys2Proof.Frame} {y : Engine} (hr : rosterFrom y f.sa = none) :
    dataIn b f y = if on (stranger y) Fd.LRG_CTL_STRIP_STRANGER = true then stranger y else forwardData false b f (stranger y) := by
  rw [dataIn, hr]

theorem dataIn_pause {b : Bool} {f : Sys2Proof.Frame} {i q : Nat} {y : Engine} (hr : rosterFrom y f.sa = some i) (hq : pauseOf f = some q) :
    dataIn b f y = if f.da = ownMac y then forwardData true b f (pauseApply q y)
      else if f.da = pauseMac then inc Reg.LRG_ORPHAN_CNT y else forwardData true b f y := by
  rw [dataIn, hr, hq]

/-- A DATA frame of a ring that reaches a station (R269, R273). -/
theorem frameHere_data {b : Bool} {f : Sys2Proof.Frame} {y : Engine} (hp : p2p y = false) (ho : ¬(f.sa = ownMac y ∧ isRepeater y = false))
    (ht : 1 < f.ttl) (hk : f.kind = 0) (hc : f.fcsOk = true) : frameHere b f y =
      if isRepeater y = true then forwardData (rosterFrom y f.sa).isSome b f y else dataIn b f y := by
  have hno : ¬(f.kind > 3 ∨ f.ttl ≤ 1 ∨ (!f.fcsOk) = true) := by rw [hk, hc]; simp; omega
  rw [frameHere, hp, if_neg (by decide), if_neg (by rw [Bool.not_eq_true']; exact ho), if_neg hno, if_neg (not_not.2 hk)]

/-- A PAUSE on a ring (R269, R273, R281). -/
theorem frameHere_pause {p : PauseIn} {q : Nat} {y : Engine} (hp : p2p y = false) :
    frameHere p.onB (pauseFrame p q) y =
      if p.sa = ownMac y ∧ isRepeater y = false then inc Reg.LRG_STRIP_CNT y
      else if p.ttl ≤ 1 then inc Reg.LRG_ORPHAN_CNT y
      else if isRepeater y = true then forwardFrame p.onB (pauseFrame p q) y
      else if rosterFrom y p.sa = none then
        (if on (stranger y) Fd.LRG_CTL_STRIP_STRANGER = true then stranger y else forwardFrame p.onB (pauseFrame p q) (stranger y))
      else if p.da = ownMac y then forwardFrame p.onB (pauseFrame p q) (pauseApply (q % 65536) y)
      else if p.da = pauseMac then inc Reg.LRG_ORPHAN_CNT y
      else forwardFrame p.onB (pauseFrame p q) y := by
  have hfwd (k : Bool) (x : Engine) : forwardData k p.onB (pauseFrame p q) x = forwardFrame p.onB (pauseFrame p q) x :=
    forwardData_plain (pauseFrame_eth p q)
  by_cases hown : p.sa = ownMac y ∧ isRepeater y = false
  · rw [if_pos hown, frameHere_own hp hown.1 hown.2, ownFrameIn_data (Nat.zero_ne_one) (Nat.zero_ne_add_one 1)]
  rw [if_neg hown]
  have ho : (pauseFrame p q).sa ≠ ownMac y ∨ isRepeater y = true := by
    rw [← Bool.not_eq_false]; exact not_and_or.1 hown
  by_cases ht : p.ttl ≤ 1
  · rw [if_pos ht, frameHere_orphan hp ho ht]
  rw [if_neg ht, frameHere_data hp hown (Nat.lt_of_not_le ht) rfl rfl, hfwd]
  refine ite_congr rfl (fun _ => rfl) (fun _ => ?_)
  cases hr : rosterFrom y p.sa with
  | none => rw [if_pos rfl, dataIn_stranger hr, hfwd]
  | some i =>
    rw [if_neg (by simp), dataIn_pause hr (pauseOf_pauseFrame p q), hfwd, hfwd]
    rfl

theorem frameIn_heard {b : Bool} {f : Sys2Proof.Frame} {e : Engine} (hh : hears e b = true) (hs : f.sized = true) :
    frameIn b f e = frameHere b f (ringRun e) := by
  rw [frameIn, hh, hs]
  rfl

/-- The station repeats its PAUSE to those whose half time is over (R282). -/
theorem pauseRepeat_due {p : Paused} {l : List Paused} {e x : Engine} {due : Paused → Bool} (hl : e.lrg.pausedBy = p :: l)
    (ha : e.lrg.above = true) (hu : lwm e < e.lrg.used) (hp : pauses e = true)
    (hx : x = waitClk (((p :: l).map (fun p => p.at_ + halfPause e)).foldl min (p.at_ + halfPause e)) e)
    (hd : due = (fun p => decide (p.at_ + halfPause x ≤ x.clk))) :
    pauseRepeat e = each (x.lrg.pausedBy.filter due) (sendPause (rdF x Fd.LRG_PAUSE_QUANTA))
      { x with lrg := { x.lrg with pausedBy := x.lrg.pausedBy.map (fun p => if due p = true then { p with at_ := x.clk } else p) } } := by
  rw [pauseRepeat, hl]
  dsimp only
  rw [if_neg (by simp [ha, hp, hu]), hd, hx]

theorem pauseRepeat_not {e : Engine} (h : e.lrg.pausedBy = [] ∨ pauses e = false ∨ e.lrg.above = false ∨ e.lrg.used ≤ lwm e) :
    pauseRepeat e = e := by
  unfold pauseRepeat
  split
  · rfl
  case _ p l hl =>
    refine if_pos ?_
    obtain h | h | h | h := h
    · exact absurd (h.symm.trans hl) (by simp)
    all_goals simp [h]

/-- Settles O36: each row by the condition of its occasion. -/
theorem pauseEventsAct : Obligations.pauseEventsAct := by
  unfold Obligations.pauseEventsAct
  refine ⟨?unheard, ?link, ?ring, ?apply, ?expiry, ?noExpiry, ?again, ?notAgain, ?release, ?silent, fun _ => rfl⟩
  case unheard =>
    intro s p q h
    refine exec_run (f := frameIn p.onB (pauseFrame p q)) rfl (if_pos ?_)
    rw [show hears s.start p.onB = false from h]
    rfl
  case link =>
    rintro s p q y hh rfl hp
    exact exec_run (f := frameIn p.onB (pauseFrame p q)) rfl ((frameIn_heard (e := s.start) hh rfl).trans
      ((frameHere_link hp).trans (linkFrame_pause rfl (pauseOf_pauseFrame p q))))
  case ring =>
    rintro s p q f x y hh rfl hp rfl rfl
    refine exec_run (f := frameIn p.onB (pauseFrame p q)) rfl ?_
    rw [frameIn_heard (e := s.start) hh rfl, frameHere_pause hp]
    rfl
  case apply => rintro q e x rfl; rfl
  case expiry =>
    rintro s t x ht rfl
    refine exec_run (f := pauseExpiry) rfl ?_
    rw [pauseExpiry, show s.start.lrg.pauseTo = some t from ht]
  case noExpiry =>
    intro s h
    refine exec_run (f := pauseExpiry) rfl ?_
    rw [pauseExpiry, show s.start.lrg.pauseTo = none from h]
  case again =>
    intro s p l x due hl ha hu hp hx hd
    exact exec_run (f := pauseRepeat) rfl (pauseRepeat_due (e := s.start) hl ha hu hp hx hd)
  case notAgain =>
    intro s h
    exact exec_run (f := pauseRepeat) rfl (pauseRepeat_not (e := s.start) h)
  case release =>
    intro s
    refine exec_run (f := pauseRelease) rfl ?_
    by_cases h : s.eng.lrg.above = true ∧ s.eng.lrg.used ≤ lwm s.eng
    · rw [if_neg (by simp [h.1, h.2])]
      exact if_pos (by rw [Bool.and_eq_true, decide_eq_true_eq]; exact h)
    · rw [if_pos (by rw [← Nat.not_le, ← Bool.not_eq_true]; exact not_and_or.1 h)]
      exact if_neg (by rw [Bool.and_eq_true, decide_eq_true_eq]; exact h)
  case silent => intro q p e h; rw [sendPause, h]; rfl

end Sys2Proof.Machine
end

section
/-! The statement about the frames of the ring (R265, R269-R283). -/

open Sys2Proof

namespace Sys2Proof.Machine

theorem sized_iff {f : Sys2Proof.Frame} : f.sized = true ↔ 64 ≤ f.wire ∧ f.wire ≤ 2000 := by simp [Frame.sized]

theorem frameIn_dropped {b : Bool} {f : Sys2Proof.Frame} {e : Engine} (h : hears e b = false ∨ f.wire < 64 ∨ 2000 < f.wire) :
    frameIn b f e = e := by
  refine if_pos ?_
  rw [Bool.or_eq_true, Bool.not_eq_true', Bool.not_eq_true', ← Bool.not_eq_true f.sized, sized_iff]
  exact h.imp_right (by omega)

/-- A frame that reaches the station, once its transmitters have sent what they have room for (R265). -/
theorem ringFrame_run {s : State} {b : Bool} {f : Sys2Proof.Frame} {x y : Engine} (hh : hears s.eng b = true) (hlo : 64 ≤ f.wire)
    (hhi : f.wire ≤ 2000) (hy : y = ringRun s.start) (hx : frameHere b f y = x) : exec (.ringFrame b f) s = .next (s.to x) :=
  exec_run (f := frameIn b f) rfl ((frameIn_heard (e := s.start) hh (sized_iff.2 ⟨hlo, hhi⟩)).trans (hy ▸ hx))

theorem linkFrame_data {b : Bool} {f : Sys2Proof.Frame} {i : Nat} {y : Engine} (hc : f.fcsOk = true) (hq : pauseOf f = none)
    (hr : rosterFrom y f.sa = some i) : linkFrame b f y = if f.eth = 0x88F7 then timeFrame i b f y else copyFrame i b f y := by
  rw [linkFrame, hc, if_neg (by decide), hq, hr]

theorem linkFrame_stranger {b : Bool} {f : Sys2Proof.Frame} {y : Engine} (hc : f.fcsOk = true) (hq : pauseOf f = none)
    (hr : rosterFrom y f.sa = none) : linkFrame b f y = stranger y := by
  rw [linkFrame, hc, if_neg (by decide), hq, hr]

theorem linkFrame_damaged {b : Bool} {f : Sys2Proof.Frame} {y : Engine} (hc : f.fcsOk = false) : linkFrame b f y = inc Reg.LRG_ORPHAN_CNT y :=
  if_pos (by rw [hc]; rfl)

/-- A frame of the ring that goes nowhere (R269). -/
theorem frameHere_stopped {b : Bool} {f : Sys2Proof.Frame} {e : Engine} (hp : p2p e = false) (ho : f.sa ≠ ownMac e ∨ isRepeater e = true)
    (h : 3 < f.kind ∨ f.ttl ≤ 1 ∨ f.fcsOk = false) : frameHere b f e = inc Reg.LRG_ORPHAN_CNT e := by
  have hno : ¬(f.sa = ownMac e ∧ (!isRepeater e) = true) := by
    rintro ⟨hs, hr⟩
    exact ho.elim (· hs) (fun h => by simp [h] at hr)
  rw [frameHere, hp, if_neg (by decide), if_neg hno, if_pos (by rwa [Bool.not_eq_true'])]

theorem ctlIn_hello {b : Bool} {f : Sys2Proof.Frame} {e : Engine} (hk : f.kind = 3) :
    ctlIn b f e = helloIn b (bit (fieldOf f.payload 0 1) 0) (bit (fieldOf f.payload 0 1) 1) e := by
  rw [ctlIn, if_neg (by rw [hk]; decide), if_neg (by rw [hk]; decide)]

theorem dataIn_known {b : Bool} {f : Sys2Proof.Frame} {i : Nat} {y : Engine} (hr : rosterFrom y f.sa = some i) (hq : pauseOf f = none) :
    dataIn b f y = forwardData true b f (if f.eth = 0x88F7 then timeFrame i b f y
      else if daMine y f.da = true then copyFrame i b f y else y) := by
  rw [dataIn, hr, hq]
  rfl

/-- A copied frame that passes its checks goes by its type (R277, R278, R281, R283). -/
theorem process_checked {i : Nat} {b : Bool} {f : Sys2Proof.Frame} {e x : Engine}
    (h : (f.sec = none ∧ x = e) ∨ (∃ t, f.sec = some t ∧ secCheck i t e = some x)) :
    process i b f e = if f.eth = 0x88B5 then
        (if f.sec.isSome = true ∧ f.da = ownMac x ∧ rosBits x i 0 30 30 = 1 then ringCommand i b f.payload x else x)
      else if f.eth = 0x88B6 ∨ f.eth = 0x8808 ∨ f.eth = 0x88F7 then x
      else if rosBits x i 0 29 29 = 1 ∧ (f.sec.isSome = true ∨ rosBits x i 0 28 28 = 1) then hostFrame i b f.sec.isSome f x else x := by
  have hck : (match f.sec with | some t => secCheck i t e | none => some e) = some x := by
    obtain ⟨hs, rfl⟩ | ⟨t, hs, ht⟩ := h
    · rw [hs]
    · rw [hs]; exact ht
  have hmem : (f.eth ∈ [0x88B6, 0x8808, 0x88F7]) = (f.eth = 0x88B6 ∨ f.eth = 0x8808 ∨ f.eth = 0x88F7) := by simp
  have hgo : process i b f e = match (some x : Option Engine) with
      | none => note Fd.LRG_CAUSE_SEC_FAIL (inc Reg.LRG_SEC_CNT e)
      | some e =>
        if f.eth = 0x88B5 then
          (if f.sec.isSome ∧ f.da = ownMac e ∧ rosBits e i 0 30 30 = 1 then ringCommand i b f.payload e else e)
        else if f.eth ∈ [0x88B6, 0x8808, 0x88F7] then e
        else if rosBits e i 0 29 29 = 1 ∧ (f.sec.isSome ∨ rosBits e i 0 28 28 = 1) then hostFrame i b f.sec.isSome f e
        else e := by rw [← hck]; rfl
  rw [hgo]
  exact ite_congr rfl (fun _ => rfl) (fun _ => ite_congr hmem (fun _ => rfl) (fun _ => rfl))

theorem process_fails {i : Nat} {b : Bool} {f : Sys2Proof.Frame} {t : SecTag} {e : Engine} (hs : f.sec = some t) (hc : secCheck i t e = none) :
    process i b f e = note Fd.LRG_CAUSE_SEC_FAIL (inc Reg.LRG_SEC_CNT e) := by
  unfold process
  rw [hs]
  dsimp only
  rw [hc]

/-- Settles O37: each frame by what it is and where it comes from. -/
theorem frameEventsAct : Obligations.frameEventsAct := by
  unfold Obligations.frameEventsAct
  refine ⟨?dropped, ?link, ?own, ?other, ?command, ?noCommand, fun _ _ _ _ _ => process_fails, fun _ _ _ _ _ => process_checked⟩
  case dropped =>
    intro s b f h
    exact exec_run (f := frameIn b f) rfl (frameIn_dropped (e := s.start) h)
  case link =>
    intro s b f y hh hlo hhi hy hp
    have hgo {x : Engine} (h : linkFrame b f y = x) : exec (.ringFrame b f) s = .next (s.to x) :=
      ringFrame_run hh hlo hhi hy ((frameHere_link hp).trans h)
    exact ⟨fun hc => hgo (linkFrame_damaged hc), fun q hc hq => hgo (linkFrame_pause hc hq),
      fun hc hq hr => hgo (linkFrame_stranger hc hq hr), fun i hc hq hr => hgo (linkFrame_data hc hq hr)⟩
  case own =>
    rintro s b f x y hh hlo hhi hy hp hs hr rfl
    exact ringFrame_run hh hlo hhi hy (frameHere_own hp hs hr)
  case other =>
    intro s b f y hh hlo hhi hy hp ho
    have hgo {x : Engine} (h : frameHere b f y = x) : exec (.ringFrame b f) s = .next (s.to x) := ringFrame_run hh hlo hhi hy h
    have ho' : ¬(f.sa = ownMac y ∧ isRepeater y = false) := fun h => ho.elim (· h.1) (fun hr => Bool.noConfusion (h.2.symm.trans hr))
    refine ⟨fun h => hgo (frameHere_stopped hp ho h), fun ht hc => ?_⟩
    have hctl (hk : f.kind ≠ 0) (hk3 : f.kind ≤ 3) : frameHere b f y = ctlIn b f y := frameHere_ctl hp ho ht hk hk3 hc
    have hdata (hk : f.kind = 0) : frameHere b f y =
        if isRepeater y = true then forwardData (rosterFrom y f.sa).isSome b f y else dataIn b f y := frameHere_data hp ho' ht hk hc
    have hstation (hk : f.kind = 0) (hr : isRepeater y = false) : frameHere b f y = dataIn b f y := by
      rw [hdata hk, if_neg (by rw [hr]; decide)]
    refine ⟨fun hk => hgo ?_, fun hk => hgo ?_, fun hk => hgo ?_, fun hk hr => hgo ?_, fun hk hr hn x hx => hgo ?_,
      fun i hk hr hi hq => hgo ?_, fun i q hk hr hi hq => hgo ?_⟩
    · rw [hctl (by omega) (by omega), ctlIn_token hk]
    · rw [hctl (by omega) (by omega), ctlIn_claim hk]
    · rw [hctl (by omega) (by omega), ctlIn_hello hk]
    · rw [hdata hk, if_pos hr]
    · rw [hstation hk hr, dataIn_stranger hn, hx]
    · rw [hstation hk hr, dataIn_known hi hq]
    · rw [hstation hk hr, dataIn_pause hi hq]
  case command =>
    intro s b f h1 h2 h3
    exact exec_run (f := fun e => if f.eth = 0x88B5 ∧ f.kind = 0 ∧ f.da = ownMac e then frameIn b f e else e) rfl (if_pos ⟨h1, h2, h3⟩)
  case noCommand =>
    intro s b f h
    refine exec_run (f := fun e => if f.eth = 0x88B5 ∧ f.kind = 0 ∧ f.da = ownMac e then frameIn b f e else e) rfl (if_neg ?_)
    rintro ⟨h1, h2, h3⟩
    exact h.elim (· h1) (fun h => h.elim (· h2) (· h3))

end Sys2Proof.Machine
end

section
/-! The statement about the time slots as slaves (R293-R299). -/

open Sys2Proof

namespace Sys2Proof.Machine

/-- Two engines whose registers and their copies are the same. -/
def SameRegs (a b : Engine) : Prop := a.regs = b.regs ∧ a.trip1 = b.trip1 ∧ a.trip2 = b.trip2

theorem rdF_of_sameRegs {a b : Engine} (h : SameRegs a b) (f : Fld) : rdF a f = rdF b f := by
  obtain ⟨h0, h1, h2⟩ := h
  rw [rdF, rdF, rd_congr h0 h1 h2]

theorem on_of_sameRegs {a b : Engine} (h : SameRegs a b) (f : Fld) : on a f = on b f := by rw [on, on, rdF_of_sameRegs h]

theorem p2p_of_sameRegs {a b : Engine} (h : SameRegs a b) : p2p a = p2p b := on_of_sameRegs h _

theorem slotRing_of_sameRegs {a b : Engine} (h : SameRegs a b) (hl : a.lrg = b.lrg) (n : Nat) : slotRing a n = slotRing b n := by
  rw [slotRing, slotRing, p2p_of_sameRegs h, on_of_sameRegs h, hl]

theorem delayReqBytes_of_sameRegs {a b : Engine} (h : SameRegs a b) (d q : Nat) : delayReqBytes a d q = delayReqBytes b d q := by
  have hm : ownMac a = ownMac b := by rw [ownMac, ownMac, rdF_of_sameRegs h, rdF_of_sameRegs h]
  rw [delayReqBytes, delayReqBytes, ownPort, ownPort, hm]

theorem waitClk_sameRegs (n : Nat) (e : Engine) : SameRegs (waitClk n e) e :=
  ⟨(moves_waitClk).part .regs rfl, (moves_waitClk).part .trip1 rfl, (moves_waitClk).part .trip2 rfl⟩

theorem updSlotT_sameRegs (n : Nat) (f : TSlot → TSlot) (e : Engine) : SameRegs (updSlotT n f e) e :=
  ⟨(moves_updSlotT).part .regs rfl, (moves_updSlotT).part .trip1 rfl, (moves_updSlotT).part .trip2 rfl⟩

/-- A Sync that its slot hears on its ring (R293, R296). -/
theorem syncIn_heard {n ttl : Nat} {b w : Bool} {r : SyncRec} {e x : Engine} (hn : n ≤ 1) (hh : slotHears e n = true)
    (hr : slotRing e n = b)
    (hx : x = updSlotT n (fun y => { y with
      sync := some { r with t2 := stamp r.t2 }, lastSync := e.clk, hops := if p2p e = true then y.hops else some (255 - ttl) }) e) :
    syncIn n b w ttl r e =
      if p2p e = false ∧ (w = true ∨ ∃ h, (e.tim.slot n).hops = some h ∧ h ≠ 255 - ttl) then pathChange n x else x := by
  have hno : ¬(n > 1 ∨ (!slotHears e n) = true ∨ slotRing e n ≠ b) := by simp [hh, hr]; omega
  unfold syncIn
  rw [if_neg hno]
  dsimp only
  rw [← hx]
  refine ite_congr ?_ (fun _ => rfl) (fun _ => rfl)
  cases (e.tim.slot n).hops <;> simp

/-- A Follow_Up of the Sync that its slot has kept (R294). -/
theorem followUpIn_completes {n seq : Nat} {o c : Int} {r : SyncRec} {e : Engine} (hn : n ≤ 1) (hh : slotHears e n = true)
    (hr : (e.tim.slot n).sync = some r) (hs : r.seq = seq) (hc : r.complete = false) :
    followUpIn n seq o c e = updSlotT n (fun x => { x with sync := some { r with t1 := o, cs := r.cs + c, complete := true } }) e := by
  unfold followUpIn
  rw [if_neg (by simp [hh]; omega), hr]
  dsimp only
  rw [if_neg (by simp [hs, hc])]

theorem followUpIn_not {n seq : Nat} {o c : Int} {e : Engine} (h : 1 < n ∨ slotHears e n = false ∨
    (∀ r, (e.tim.slot n).sync = some r → r.seq ≠ seq ∨ r.complete = true)) : followUpIn n seq o c e = e := by
  unfold followUpIn
  split
  · rfl
  case isFalse hno =>
    simp only [not_or, Bool.not_eq_true, Bool.not_eq_false', gt_iff_lt] at hno
    obtain ⟨hn, hh⟩ := hno
    simp only [hn, hh, Bool.true_eq_false, false_or] at h
    split
    · rfl
    case _ r hr => exact if_pos (h r hr)

/-- The end of the interval since the last Delay_Req (R293). -/
def reqWait (y : TSlot) (e : Engine) : Engine :=
  match y.reqAt with
  | some t => waitClk (t + y.reqEvery) e
  | none => e

theorem reqWait_keeps (y : TSlot) (e : Engine) : SameRegs (reqWait y e) e ∧ (reqWait y e).lrg = e.lrg := by
  unfold reqWait
  split
  · exact ⟨waitClk_sameRegs _ _, waitClk_lrg _ _⟩
  · exact ⟨⟨rfl, rfl, rfl⟩, rfl⟩

theorem delayReqNow_eq {n : Nat} {t3 : Int} {e : Engine} (h : ¬(n > 1 ∨ (!slotHears e n) = true ∨ isRepeater e = true)) :
    delayReqNow n t3 e =
      (let y := e.tim.slot n
       let x := reqWait y e
       let dn := rdF x (Fd.TIM_DOM_CFG_DOMAIN_NUM.at n 32)
       let out := if p2p x then x.lrg.secondary else !slotRing x n
       let z := updSlotT n (fun z => { z with reqAt := some x.clk, seq := (z.seq + 1) % 65536 }) x
       ringRun (queueFrame 7
        { da := 0x011B19000000, eth := 0x88F7, payload := delayReqBytes z dn y.seq, wire := wireLen (p2p z) false 44, onB := out,
          req := some { t3 := stamp t3, ringB := out, seq := y.seq, domain := dn, slot := n, at_ := x.clk } } z)) := by
  unfold delayReqNow
  rw [if_neg h] <;> rfl

/-- A Delay_Req goes to queue 7 once its interval is over (R293, R299). -/
theorem delayReqNow_queues {n dn : Nat} {t3 : Int} {y : TSlot} {e x : Engine} {out : Bool} (hn : n ≤ 1) (hh : slotHears e n = true)
    (hr : isRepeater e = false) (hy : y = e.tim.slot n) (hx : x = reqWait y e)
    (hd : dn = rdF e (Fd.TIM_DOM_CFG_DOMAIN_NUM.at n 32)) (ho : out = if p2p e = true then e.lrg.secondary else !slotRing e n) :
    delayReqNow n t3 e = ringRun (queueFrame 7
      { da := 0x011B19000000, eth := 0x88F7, payload := delayReqBytes x dn y.seq, wire := wireLen (p2p e) false 44, onB := out,
        req := some { t3 := stamp t3, ringB := out, seq := y.seq, domain := dn, slot := n, at_ := x.clk } }
      (updSlotT n (fun z => { z with reqAt := some x.clk, seq := (z.seq + 1) % 65536 }) x)) := by
  obtain ⟨hregs, hlrg⟩ := reqWait_keeps y e
  rw [← hx] at hregs hlrg
  have hslot (f : TSlot → TSlot) : SameRegs (updSlotT n f x) x := updSlotT_sameRegs n f x
  rw [delayReqNow_eq (by simp [hh, hr]; omega)]
  dsimp only
  rw [← hy, ← hx, delayReqBytes_of_sameRegs (hslot _), p2p_of_sameRegs (hslot _), p2p_of_sameRegs hregs, rdF_of_sameRegs hregs,
    slotRing_of_sameRegs hregs hlrg, hlrg, ← hd, ← ho]

/-- What a complete exchange of a slot measures (R294). -/
def exchange (n : Nat) (t4 c : Int) (q : TsEntry) (y : Engine) : Engine :=
  match (y.tim.slot n).sync with
  | none => y
  | some r =>
    if !r.complete || pathHeld y n then y
    else measure n ((r.t2 - r.t1 - r.cs) - ((r.t2 - r.t1 - r.cs) + (t4 - q.t3 - c)) / 2)
      (((r.t2 - r.t1 - r.cs) + (t4 - q.t3 - c)) / 2) y

/-- A Delay_Resp of a slot that hears it, by the entry that it finds in the timestamp queue (R294, R299). -/
theorem delayRespIn_heard {n seq iv : Nat} {t4 c : Int} {e x : Engine} (hn : n ≤ 1) (hh : slotHears e n = true)
    (hx : x = tsqPrune (updSlotT n (fun z => { z with reqEvery := iv }) e)) :
    delayRespIn n seq t4 c iv e =
      match x.tim.tsq.find? (fun t => t.slot == n && t.seq == seq) with
      | none => x
      | some q => exchange n t4 c q { x with tim := { x.tim with tsq := x.tim.tsq.filter (fun t => t != q) } } := by
  unfold delayRespIn
  rw [if_neg (by simp [hh]; omega), hx] <;> rfl

/-- A run of a handover goes on by a millisecond, or joins (R297). -/
theorem joinRun_joins {h : Handover} {e : Engine} (k : Nat) (hh : e.tim.ho = some h) (hj : joinable e h = true) :
    joinRun (k + 1) e = joinAtTick h.target e := by
  rw [joinRun, hh]
  dsimp only
  rw [if_pos hj]

theorem joinRun_waits {h : Handover} {e : Engine} (k : Nat) (hh : e.tim.ho = some h) (hj : joinable e h = false) :
    joinRun (k + 1) e = joinRun k (pass (max 1 (h.at_ + 1000000 - e.clk)) e) := by
  rw [joinRun, hh]
  dsimp only
  rw [if_neg (by rw [hj]; decide)]

theorem joinRun_none {e : Engine} (k : Nat) (hh : e.tim.ho = none) : joinRun (k + 1) e = e := by rw [joinRun, hh]

/-- The row of a handover with `k + 1` steps of its run. -/
theorem handoverJoin_run {s : State} {x : Engine} (hp : unpowered s.eng = false) (k : Nat) (hk : k = 999999999)
    (h : joinRun (k + 1) s.start = x) : exec .handoverJoin s = .next (s.to x) := by
  subst hk
  refine exec_run (f := fun e => if unpowered e then e else joinRun 1000000000 e) rfl ((if_neg ?_).trans h)
  rw [show unpowered s.start = false from hp]
  decide

/-- Settles O38: each row by the condition of its occasion. -/
theorem slaveEventsAct : Obligations.slaveEventsAct := by
  unfold Obligations.slaveEventsAct
  refine ⟨?sync, ?noSync, ?follow, ?noFollow, ?req, ?noReq, ?resp, ?noResp, ?timeout, ?hold, ?noHold, ?expiry, ?noExpiry, ?join,
    fun n e x gap hx hg => by rw [hg, hx]; rfl, fun _ => rfl⟩
  case sync =>
    intro s n ttl seq b w two o c rx x hn hh hr hx
    exact exec_run (f := syncIn n b w ttl ⟨seq, o, c, rx, !two⟩) rfl (syncIn_heard (e := s.start) hn hh hr hx)
  case noSync =>
    intro s n ttl seq b w two o c rx h
    refine exec_run (f := syncIn n b w ttl ⟨seq, o, c, rx, !two⟩) rfl (if_pos ?_)
    rw [Bool.not_eq_true']
    exact h
  case follow =>
    intro s n seq o c r hn hh hr hs hc
    exact exec_run (f := followUpIn n seq o c) rfl (followUpIn_completes (e := s.start) hn hh hr hs hc)
  case noFollow =>
    intro s n seq o c h
    exact exec_run (f := followUpIn n seq o c) rfl (followUpIn_not (e := s.start) h)
  case req =>
    intro s n dn t3 y x out hn hh hr hy hx hd ho
    refine exec_run (f := delayReqNow n t3) rfl (delayReqNow_queues (e := s.start) hn hh hr hy (hx.trans ?_) hd ho)
    rfl
  case noReq =>
    intro s n t3 h
    refine exec_run (f := delayReqNow n t3) rfl (if_pos ?_)
    rw [Bool.not_eq_true']
    exact h
  case resp =>
    intro s n seq iv t4 c x hn hh hx
    have hgo := delayRespIn_heard (e := s.start) (seq := seq) (t4 := t4) (c := c) hn hh hx
    refine ⟨fun hf => exec_run (f := delayRespIn n seq t4 c iv) rfl ?_, fun q y hf hy => ⟨fun r mpd hr hc hp hm =>
      exec_run (f := delayRespIn n seq t4 c iv) rfl ?_, fun h => exec_run (f := delayRespIn n seq t4 c iv) rfl ?_⟩⟩
    · rw [hgo, hf]
    · rw [hgo, hf]
      dsimp only
      rw [← hy, exchange, hr]
      dsimp only
      rw [hc, hp, if_neg (by decide), hm]
    · rw [hgo, hf]
      dsimp only
      rw [← hy, exchange]
      split
      · rfl
      case _ r hr => exact if_pos (by obtain h | h := h r hr <;> simp [h])
  case noResp =>
    intro s n seq iv t4 c h
    refine exec_run (f := delayRespIn n seq t4 c iv) rfl (if_pos ?_)
    rw [Bool.not_eq_true']
    exact h
  case timeout => exact fun s n => exec_run (f := syncTmoNow n) rfl rfl
  case hold =>
    intro s n t hn ht
    refine exec_run (f := pathHoldEndNow n) rfl ?_
    rw [pathHoldEndNow, show (s.start.tim.slot n).pathHoldTo = some t from ht]
    exact if_neg (Nat.not_lt.2 hn)
  case noHold =>
    intro s n h
    refine exec_run (f := pathHoldEndNow n) rfl ?_
    unfold pathHoldEndNow
    split
    · rfl
    case _ t ht => exact if_pos (h.resolve_right fun hn => absurd (hn.symm.trans ht) (by simp))
  case expiry =>
    intro s q l h
    refine exec_run (f := tsqExpiryNow) rfl ?_
    rw [tsqExpiryNow, show s.start.tim.tsq = q :: l from h]
  case noExpiry =>
    intro s h
    refine exec_run (f := tsqExpiryNow) rfl ?_
    rw [tsqExpiryNow, show s.start.tim.tsq = [] from h]
  case join =>
    intro s
    refine ⟨fun h hp hh hj => handoverJoin_run hp _ rfl (joinRun_joins _ hh hj), fun h hp hh hj => ?_, fun h => ?_⟩
    · exact handoverJoin_run hp _ rfl (joinRun_waits 999999999 (e := s.start) hh hj)
    · cases hp : unpowered s.eng with
      | true => exact exec_run (f := fun e => if unpowered e then e else joinRun 1000000000 e) rfl (if_pos hp)
      | false =>
        have hn : s.start.tim.ho = none := h.resolve_left (by rw [hp]; decide)
        exact handoverJoin_run hp _ rfl (joinRun_none _ hn)

end Sys2Proof.Machine
end

section
/-! The statement about pulses and the timestamps of PPS_IN (R300, R301). -/

open Sys2Proof

namespace Sys2Proof.Machine

/-- The edge of PPS_IN as it is timestamped, before the servo is fed (R301). -/
def ppsStamp (e : Engine) : Engine :=
  let x := wr Reg.TIM_PPSIN_NS (dNsF e) (wr Reg.TIM_PPSIN_SEC (dSec e) e)
  { x with tim := { x.tim with ppsInAt := some e.clk } }

/-- The servo takes no edge: PPS_DISC is 0, the slot is LOCKED, or one was fed in the last 0.9 s (R301). -/
def ppsUnfed (e y : Engine) : Prop :=
  on y Fd.TIM_CTL_PPS_DISC = false ∨ (e.tim.slot e.tim.sel).state = .locked ∨ (∃ t, e.tim.ppsInFed = some t ∧ e.clk < t + 900000000)

/-- Where the phase that is fed lies, within half a second of the edge (R301). -/
def ppsPhase (u : Int) : Int := if u ≥ 32768000000000 then u - 65536000000000 else u

/-- What feeds the servo: the selected slot takes the phase of the edge (R301). -/
def ppsFeed (e y : Engine) : Engine :=
  servoRun e.tim.sel (ppsPhase (stamp ((e.tim.d % 65536000000000 : Nat) : Int)))
    { y with tim := { y.tim with ppsInFed := some e.clk } }

/-- A pulse on a powered engine is timestamped and, where the servo takes it, fed (R301). -/
theorem ppsInNow_powered {e : Engine} [Decidable (ppsUnfed e (ppsStamp e))] (hp : unpowered e = false) :
    ppsInNow e = if ppsUnfed e (ppsStamp e) then ppsStamp e else ppsFeed e (ppsStamp e) := by
  have ht : (ppsStamp e).tim = { e.tim with ppsInAt := some e.clk } := by simp [ppsStamp]
  unfold ppsInNow
  rw [if_neg (by rw [hp]; decide)]
  change (if (!on (ppsStamp e) _ || ((ppsStamp e).tim.slot (ppsStamp e).tim.sel).state == _ || _) = true then _ else
    servoRun (ppsStamp e).tim.sel _ _) = _
  refine (ite_congr (propext ?_) (fun _ => rfl) (fun _ => ?_))
  · rw [ppsUnfed, ht]
    cases h : e.tim.ppsInFed <;> simp [or_assoc, TimSt.slot, h]
  · rw [ht]
    rfl

/-- Settles O39, by the guards of the rows (R300, R301). -/
theorem pulseEventsAct : Obligations.pulseEventsAct := by
  unfold Obligations.pulseEventsAct
  refine ⟨?pulse, ?fall, ?rise, ?ppsFall, ?ppsRise, ?dark⟩
  case pulse =>
    intro s x y ns u hp hx hy hu hns
    classical
    have hgo := ppsInNow_powered (e := s.start) hp
    subst hx hy hu hns
    refine exec_run (f := ppsInNow) rfl ?_
    split
    case isTrue h => exact hgo.trans (if_pos h)
    case isFalse h => exact hgo.trans (if_neg h)
  case fall =>
    intro s x hp hh hx
    refine exec_run (f := syncOutNow) rfl ?_
    subst hx
    exact (if_neg (by rw [show unpowered s.start = false from hp]; decide)).trans (if_pos hh)
  case rise =>
    intro s hp hh
    exact exec_run (f := syncOutNow) rfl ((if_neg (by rw [show unpowered s.start = false from hp]; decide)).trans
      (if_neg (by rw [show s.start.tim.syncHigh = false from hh]; decide)))
  case ppsFall =>
    intro s x hp hh hx
    refine exec_run (f := ppsOutNow) rfl ?_
    subst hx
    exact (if_neg (by rw [show unpowered s.start = false from hp]; decide)).trans (if_pos hh)
  case ppsRise =>
    intro s x hp hh hx
    refine exec_run (f := ppsOutNow) rfl ?_
    subst hx
    exact (if_neg (by rw [show unpowered s.start = false from hp]; decide)).trans
      (if_neg (by rw [show s.start.tim.ppsHigh = false from hh]; decide))
  case dark =>
    exact fun s hp => ⟨exec_run (f := ppsInNow) rfl (if_pos hp), exec_run (f := syncOutNow) rfl (if_pos hp),
      exec_run (f := ppsOutNow) rfl (if_pos hp)⟩

end Sys2Proof.Machine
end

section
/-! The statement about the SMBus (R379, R387, R398, R399). -/

open Sys2Proof

namespace Sys2Proof.Machine

theorem smbRead_sent {pec : Option Bool} {e : Engine} (f : Engine → Engine) (h : pec.isSome = true ∨ pecMust e = false) :
    smbRead pec f e = f e := by
  refine if_neg ?_
  obtain h | h := h
  · cases pec with
    | none => cases h
    | some b => simp
  · simp [h]

theorem smbRead_nack {e : Engine} (f : Engine → Engine) (h : pecMust e = true) : smbRead none f e = emit .smbNack e :=
  if_pos h

theorem smbWrite_taken {pec : Option Bool} {e : Engine} (f : Engine → Engine)
    (h : pec = some true ∨ (pec = none ∧ pecMust e = false)) : smbWrite pec f e = f e := by
  obtain rfl | ⟨rfl, h⟩ := h
  · rfl
  · simp [smbWrite, h]

theorem smbWrite_nack {e : Engine} (f : Engine → Engine) (h : pecMust e = true) : smbWrite none f e = emit .smbNack e :=
  if_pos h

/-- A row that acts where `b` holds of the engine: there it is its action. -/
theorem whenRow {c : Instr} {s : State} {b : Engine → Bool} {f : Engine → Engine} {e : Engine}
    (hc : exec c s = .next (s.run fun x => whenE (b x) f x)) (hb : b s.eng = true) (h : f s.start = e)
    (hs : b s.start = b s.eng := by rfl) : exec c s = .next (s.to e) :=
  exec_run (f := fun x => whenE (b x) f x) hc ((if_pos (hs.trans hb)).trans h)

/-- Elsewhere it changes nothing. -/
theorem whenRow_not {c : Instr} {s : State} {b : Engine → Bool} {f : Engine → Engine}
    (hc : exec c s = .next (s.run fun x => whenE (b x) f x)) (hb : b s.eng = false)
    (hs : b s.start = b s.eng := by rfl) : exec c s = .next (s.to s.start) :=
  exec_run (f := fun x => whenE (b x) f x) hc (if_neg (by rw [hs, hb]; decide))

/-- What REG_ADDR does: write word `w`, or read word (R398). -/
def smbAddrRow (w : Option Nat) (pec : Option Bool) (e : Engine) : Engine :=
  match w with
  | some v => if bits v 1 0 ≠ 0 then emit .smbNack e else smbWrite pec (smbPoint v) e
  | none => smbRead pec (fun e => smbSend (leBytes 2 e.pins.smbAddr) e) e

/-- What REG_DATA does: block write of `w`, or block read (R398). -/
def smbDataRow (w : Option Word) (pec : Option Bool) (e : Engine) : Engine :=
  match w with
  | some v => smbWrite pec (fun e => busDword .smbus e.pins.smbAddr v e) e
  | none => smbRead pec smbReg e

theorem exec_regAddr (w : Option Nat) (pec : Option Bool) (s : State) :
    exec (.regAddr w pec) s = .next (s.run fun x => whenE (smbOn x) (smbAddrRow w pec) x) := by
  change Host.Outcome.next (s.run _) = _
  congr 2
  funext x
  cases smbOn x <;> cases w <;> rfl

theorem exec_regData (w : Option Word) (pec : Option Bool) (s : State) :
    exec (.regData w pec) s = .next (s.run fun x => whenE (smbOn x) (smbDataRow w pec) x) := by
  change Host.Outcome.next (s.run _) = _
  congr 2
  funext x
  cases smbOn x <;> cases w <;> rfl

/-- What ALERT_RESPONSE does of an alert that is pending (R399). -/
def smbAlertRow (e : Engine) : Engine :=
  if e.flt.smbAlert = true then
    let x := smbSend (leBytes 1 (2 * smbOwn e)) e
    { x with flt := { x.flt with smbAlert := false } }
  else e

theorem exec_alertResponse (s : State) :
    exec .alertResponse s = .next (s.run fun x => whenE (smbOn x) smbAlertRow x) := by
  change Host.Outcome.next (s.run _) = _
  congr 2
  funext x
  cases smbOn x <;> simp only [whenE, smbAlertRow] <;> simp

/-- Settles O40, by the answer of each transaction (R398, R399). -/
theorem smbusRowsAct : Obligations.smbusRowsAct := by
  unfold Obligations.smbusRowsAct
  refine ⟨fun _ => rfl, ?ids, ?point, ?odd, ?read, ?write, ?nack, ?next, ?alert, ?noAlert, ?off⟩
  case ids =>
    exact fun s hon hp => ⟨whenRow (b := smbOn) rfl hon (smbRead_sent _ (.inr hp)), whenRow (b := smbOn) rfl hon (smbRead_sent _ (.inr hp))⟩
  case point =>
    intro s v pec hon hv
    have hgo : smbAddrRow (some v) pec s.start = smbWrite pec (smbPoint v) s.start := if_neg (not_not_intro hv)
    refine ⟨fun h => whenRow (b := smbOn) (exec_regAddr _ _ _) hon (hgo.trans (smbWrite_taken _ h)), fun h => ?_, fun h hp => ?_⟩
    · subst h
      exact whenRow (b := smbOn) (exec_regAddr _ _ _) hon hgo
    · subst h
      exact whenRow (b := smbOn) (exec_regAddr _ _ _) hon (hgo.trans (smbWrite_nack _ hp))
  case odd => exact fun s v pec hon hv => whenRow (b := smbOn) (exec_regAddr _ _ _) hon (if_pos hv)
  case read =>
    exact fun s pec hon h => ⟨whenRow (b := smbOn) (exec_regAddr _ _ _) hon (smbRead_sent _ h),
      whenRow (b := smbOn) (exec_regData _ _ _) hon (smbRead_sent _ h)⟩
  case write =>
    intro s v pec hon
    refine ⟨fun h => whenRow (b := smbOn) (exec_regData _ _ _) hon (smbWrite_taken _ h), fun h => ?_⟩
    subst h
    exact whenRow (b := smbOn) (exec_regData _ _ _) hon rfl
  case nack =>
    intro s w hon hp c hc
    simp only [List.mem_cons, List.not_mem_nil, or_false] at hc
    obtain rfl | rfl | rfl | rfl | rfl := hc
    · refine whenRow (b := smbOn) (exec_regData _ _ _) hon ?_
      cases w with
      | none => exact smbRead_nack _ hp
      | some v => exact smbWrite_nack _ hp
    · exact whenRow (b := smbOn) (exec_regAddr _ _ _) hon (smbRead_nack _ hp)
    · exact whenRow (b := smbOn) rfl hon (smbRead_nack _ hp)
    · exact whenRow (b := smbOn) rfl hon (smbRead_nack _ hp)
    · exact whenRow (b := smbOn) rfl hon (smbRead_nack _ hp)
  case next =>
    intro s x hon hp hx
    subst hx
    exact whenRow (b := smbOn) rfl hon (smbRead_sent _ (.inr hp))
  case alert => exact fun s hon h => whenRow (b := smbOn) (exec_alertResponse s) hon (if_pos h)
  case noAlert =>
    exact fun s hon h => whenRow (b := smbOn) (exec_alertResponse s) hon (if_neg (by rw [show s.start.flt.smbAlert = false from h]; decide))
  case off =>
    intro s w v pec hon c hc
    simp only [List.mem_cons, List.not_mem_nil, or_false] at hc
    obtain rfl | rfl | rfl | rfl | rfl | rfl := hc
    · exact whenRow_not (b := smbOn) rfl hon
    · exact whenRow_not (b := smbOn) rfl hon
    · exact whenRow_not (b := smbOn) (exec_regAddr _ _ _) hon
    · exact whenRow_not (b := smbOn) (exec_regData _ _ _) hon
    · exact whenRow_not (b := smbOn) rfl hon
    · exact whenRow_not (b := smbOn) (exec_alertResponse s) hon

end Sys2Proof.Machine
end

section
/-! The statement about the test access port (R347, R400, R401). -/

open Sys2Proof

namespace Sys2Proof.Machine

/-- A master's own hold ends with its release (R347). -/
theorem masterHeld_releaseMaster (m n : Nat) (e : Engine) (hn : n < 8) :
    masterHeld (releaseMaster m e) n = (masterHeld e n && (255 ^^^ (1 <<< m)).testBit n) := by
  rw [masterHeld, releaseMaster, rd_wr_same, bit_iff, masterHeld, bit_iff, show 4294967296 = 2 ^ 32 from rfl,
    Nat.testBit_mod_two_pow, Nat.testBit_and, decide_eq_true (by omega), Bool.true_and]

theorem rd_releaseMaster (m o : Nat) (e : Engine) (h : o ≠ Reg.FLT_HANG) : rd (releaseMaster m e) o = rd e o :=
  rd_wr_ne _ _ _ _ h.symm

/-- The lands are held by EXTEST, CLAMP and HIGHZ where the mode allows them (R401). -/
theorem pinsHeld_extest {e : Engine} (ht : tapOn e = true) :
    pinsHeld (loadIr 3 e) = inMode e [.bypass, .test, .safe] := by
  have ht' : tapOn (loadIr 3 e) = true := ht
  have hm : inMode (loadIr 3 e) [.bypass, .test, .safe] = inMode e [.bypass, .test, .safe] := rfl
  simp only [pinsHeld, ht', tapIr, hm, show (loadIr 3 e).pins.jtagIr = 3 from rfl]
  cases inMode e [.bypass, .test, .safe] <;> simp

/-- Settles O41, by what each instruction shifts out (R400, R401). -/
theorem tapRowsAct : Obligations.tapRowsAct := by
  unfold Obligations.tapRowsAct
  refine ⟨?shift, ?sample, ?extest, ?off, ?reset, ?run, ?bypass⟩
  case shift =>
    exact fun s h => ⟨whenRow (b := tapOn) rfl h rfl, whenRow (b := tapOn) rfl h rfl, whenRow (b := tapOn) rfl h rfl,
      whenRow (b := tapOn) rfl h rfl⟩
  case sample =>
    intro s b x h hx
    subst hx
    exact whenRow (b := tapOn) rfl h rfl
  case extest =>
    intro s x h hx
    subst hx
    refine whenRow (b := tapOn) rfl h ?_
    dsimp only
    rw [pinsHeld_extest (e := s.start) h]
    rfl
  case off =>
    intro s b h c hc
    simp only [List.mem_cons, List.not_mem_nil, or_false] at hc
    obtain rfl | rfl | rfl | rfl | rfl | rfl := hc <;> exact whenRow_not (b := tapOn) rfl h
  case reset =>
    intro s
    have hkeep : ∀ m, m < 8 → (255 ^^^ (1 <<< 7)).testBit m = decide (m < 7) := by decide
    refine Goes.of (f := fun e => releaseMaster 7 { e with pins := { e.pins with jtagIr := 1, trstLow := true } }) rfl
      ⟨rfl, ?_, fun m hm => ?_, fun o ho => rd_releaseMaster _ _ _ ho, ?_⟩
    · rw [masterHeld_releaseMaster _ _ _ (by decide), hkeep 7 (by decide), decide_eq_false (by decide), Bool.and_false]
    · rw [masterHeld_releaseMaster _ _ _ (by omega), hkeep m (by omega), decide_eq_true hm, Bool.and_true]
      rfl
    · exact ((start_unchanged s).mono (by decide)).trans
        (((moves_releaseMaster).then (by decide) <| moves_pins (w := 32796) (by decide) <| Moves.refl _ _).unchanged _ (by decide))
  case run => exact fun s => exec_run (f := fun e => { e with pins := { e.pins with trstLow := false } }) rfl rfl
  case bypass =>
    intro e h hm
    exact if_pos ⟨h, by rw [hm]; rfl⟩

end Sys2Proof.Machine
end

section
/-! The statement about firmware images and BIST (R375, R377, R378, R380). -/

open Sys2Proof

namespace Sys2Proof.Machine

/-- Settles O42, by the event each row waits for (R375, R377, R378, R380). -/
theorem firmwareEventsAct : Obligations.firmwareEventsAct := by
  unfold Obligations.firmwareEventsAct
  refine ⟨?staged, ?noStage, ?activated, ?noRestart, ?bist, ?noBist⟩
  case staged =>
    intro s cx k w x h hx
    subst hx
    have hgo : ∀ v, exec (.fwStaged v) s = .next (s.run (fwStagedNow v)) := fun v => rfl
    have hs : s.start.sys.fwStage = some (cx, k) := h
    refine ⟨fun i hi => exec_run (hgo _) ?_, exec_run (hgo _) ?_, exec_run (hgo _) ?_, exec_run (hgo _) ?_⟩
    · subst hi
      rw [fwStagedNow, hs] <;> rfl
    all_goals
      rw [fwStagedNow, hs] <;> rfl
  case noStage =>
    intro s v h
    refine exec_run (f := fwStagedNow v) rfl ?_
    rw [fwStagedNow, show s.start.sys.fwStage = none from h]
  case activated =>
    intro s r x v h hx hv
    subst hv hx
    have hs : s.start.sys.fwRestart = some r := h
    refine ⟨exec_run (f := fwActivatedNow true) rfl ?_, exec_run (f := fwActivatedNow false) rfl ?_⟩
    all_goals
      rw [fwActivatedNow, hs] <;> rfl
  case noRestart =>
    intro s b h
    refine exec_run (f := fwActivatedNow b) rfl ?_
    rw [fwActivatedNow, show s.start.sys.fwRestart = none from h]
  case bist =>
    intro s j f place bad o x y z h hx hy ho hb hz
    refine exec_run (f := bistEndNow f place) rfl ?_
    rw [bistEndNow, show s.start.sys.bist = some j from h]
    subst hx hy ho hb hz
    rfl
  case noBist =>
    intro s f place h
    refine exec_run (f := bistEndNow f place) rfl ?_
    rw [bistEndNow, show s.start.sys.bist = none from h]

end Sys2Proof.Machine
end

section
/-! The statement about the guarded register rows (R310-R312, R315). -/

open Sys2Proof

namespace Sys2Proof.Machine

-- the guarded registers' own effects ---------------------------------------------------------------------------------------------

theorem guardedApply_dom (rq : Rq) (hi : Bool) (v : Nat) (e : Engine) :
    guardedApply rq (if hi = true then Reg.CMD_DOM_EN1 else Reg.CMD_DOM_EN0) v e = domEnApply hi v e := by
  cases hi <;> rfl

theorem guardedApply_tile (rq : Rq) (k v : Nat) (e : Engine) :
    guardedApply rq (Reg.TILE_CTL + 0x40 * k) v e = tileCtlApply k v e := by
  have ht : Reg.TILE_CTL = 0x8014 := rfl
  have hlow : ∀ o ∈ [Reg.BKP_SPAN, Reg.BKP_BRAKE_EN, Reg.CMD_DOM_EN0, Reg.CMD_DOM_EN1, Reg.RFS_OVR, Reg.THM_BRAKE_EN, Reg.PWR_BRAKE_EN,
      Reg.FLT_GRAVE_CLR, Reg.FLT_IRST, Reg.SYS_REMAP, Reg.DMA_PM_CTL], Reg.TILE_CTL + 0x40 * k ≠ o := by
    intro o ho h
    have hsmall : ∀ o ∈ [Reg.BKP_SPAN, Reg.BKP_BRAKE_EN, Reg.CMD_DOM_EN0, Reg.CMD_DOM_EN1, Reg.RFS_OVR, Reg.THM_BRAKE_EN,
      Reg.PWR_BRAKE_EN, Reg.FLT_GRAVE_CLR, Reg.FLT_IRST, Reg.SYS_REMAP, Reg.DMA_PM_CTL], o < 0x8000 := by decide
    have := hsmall o ho
    omega
  simp only [List.forall_mem_cons] at hlow
  obtain ⟨h1, h2, h3, h4, h5, h6, h7, h8, h9, h10, h11, -⟩ := hlow
  rw [guardedApply, if_neg h1, if_neg h2, if_neg h3, if_neg h4, if_neg h5, if_neg (not_or.2 ⟨h6, h7⟩), if_neg h8, if_neg h9, if_neg h10,
    if_neg h11, if_pos (by omega)]
  congr 1
  omega

/-- FLT_IRST: a refusal, a number alone, or a reset that begins (R348). -/
theorem irstApply_eq (v : Nat) (e : Engine) :
    irstApply v e =
      (if 280 < bits v 8 0 ∨ bit v 31 = true ∧ irstRefused e (bits v 8 0) = true then note Fd.FLT_CAUSE_IRST_REFUSED e
       else if bit v 31 = false then wrF Fd.FLT_IRST_ISLAND (bits v 8 0) e
       else
         let x := wrF Fd.FLT_IRST_ISLAND (bits v 8 0) e
         let y := { x with flt := { x.flt with irst := some (bits v 8 0) } }
         if bits v 8 0 < 256 then tileReset (bits v 8 0) y else islandWork (bits v 8 0) y) :=
  ite_congr rfl (fun _ => rfl) fun _ => ite_congr (Bool.not_eq_true' _) (fun _ => rfl) fun _ => rfl

-- the rows ---------------------------------------------------------------------------------------------------------------------------

/-- A guarded register that takes writes stands at `off`, which is no guard address (R310). -/
def guardedAt (off : Nat) : Bool := (guardMain off).isNone && (regInfo off).any (fun r => decide (r.kind = .guarded) && !r.readOnly)

theorem guardedAt_iff {off : Nat} (h : guardedAt off = true) :
    guardMain off = none ∧ ∃ r, regInfo off = some r ∧ r.kind = .guarded ∧ r.readOnly = false := by
  simp only [guardedAt, Bool.and_eq_true, Option.isNone_iff_eq_none, Option.any_eq_true, decide_eq_true_eq, Bool.not_eq_true'] at h
  exact h

theorem guardedAt_tile {k : Nat} (hk : k < 256) : guardedAt (Reg.TILE_CTL + 0x40 * k) = true := by
  obtain ⟨hg, hs, hr⟩ := tileCtl_info k hk
  obtain ⟨r, h⟩ := Option.isSome_iff_exists.1 hs
  obtain ⟨hkind, hro⟩ := hr r h
  simp [guardedAt, hg, h, hkind, hro]

/-- A row that writes an armed register without a lock applies the word (R312). -/
theorem armedRow {c : Instr} {s : State} {rq : Rq} {off : Nat} {v : Word} {p : Engine × Nat} {e : Engine}
    (hc : exec c s = .next (s.run (busDword rq off v))) (hr : Reaches rq off s.eng) (ha : Armed rq off v s.eng)
    (hp : p = written off v (unlatched rq s.start)) (hat : guardedAt off = true) (hl : locked s.eng off = false)
    (h : guardedApply rq off p.2 p.1 = e) : exec c s = .next (s.to e) := by
  obtain ⟨hg, r, hi, hk, hro⟩ := guardedAt_iff hat
  exact exec_run hc ((busDword_guarded (e := s.start) hr ha hp hg hi hk hro hl).trans h)

/-- The guarded rows, each with its register (R310-R312). -/
def guardedRows (rq : Rq) (off k : Nat) (v : Word) (hi : Bool) : List (Instr × Nat) :=
  [(Instr.guardedWrite rq off v false, off), (.guardedWrite rq off v true, off), (.spanWrite rq v, Reg.BKP_SPAN),
    (.shortRetry rq k v, Reg.TILE_CTL + 0x40 * k), (.islandRst rq k v, Reg.TILE_CTL + 0x40 * k), (.fltIrst rq v, Reg.FLT_IRST),
    (.forceOwner rq v, Reg.RFS_OVR), (.graveClr rq v, Reg.FLT_GRAVE_CLR),
    (.domEnWrite rq hi v, if hi = true then Reg.CMD_DOM_EN1 else Reg.CMD_DOM_EN0), (.remapWrite rq v, Reg.SYS_REMAP)]

/-- Each of them is a write of its register, none but the second as the half of an 8-byte write (R244). -/
theorem guardedRows_exec {s : State} {rq : Rq} {off k : Nat} {v : Word} {hi : Bool} {p : Instr × Nat} (hp : p ∈ guardedRows rq off k v hi) :
    exec p.1 s = .next (s.run (busWrite rq p.2 v (p.1 == .guardedWrite rq off v true) true)) := by
  have heq : ∀ (c d : Instr), c ≠ d → (c == d) = false := fun c d h => beq_eq_false_iff_ne.2 h
  simp only [guardedRows, List.mem_cons, List.not_mem_nil, or_false] at hp
  obtain rfl | rfl | rfl | rfl | rfl | rfl | rfl | rfl | rfl | rfl := hp
  case inr.inl => rw [beq_self_eq_true] <;> rfl
  all_goals rw [heq _ _ (by simp)] <;> rfl

/-- Their registers lie below the configuration space. -/
theorem guardedRows_off {rq : Rq} {off k : Nat} {v : Word} {hi : Bool} (hk : k < 256) (ho : off < cfgAt) :
    ∀ p ∈ guardedRows rq off k v hi, p.2 < cfgAt := by
  have ht : Reg.TILE_CTL + 0x40 * k < cfgAt := by
    have : Reg.TILE_CTL = 0x8014 := rfl
    unfold cfgAt
    omega
  have hdom : (if hi = true then Reg.CMD_DOM_EN1 else Reg.CMD_DOM_EN0) < cfgAt := by cases hi <;> decide
  simp only [guardedRows, List.forall_mem_cons]
  exact ⟨ho, ho, by decide, ht, ht, by decide, by decide, by decide, hdom, by decide, by simp⟩

/-- A write that does not arrive, meets LOCKOUT or a block without power changes nothing (R333, R373). -/
theorem busWrite_ignored {rq : Rq} {off : Nat} {v : Word} {eight all : Bool} {e : Engine} (ho : rq = .pf → off < cfgAt)
    (h : reachable e rq = false ∨ e.sys.mode = .lockout ∨ unpowered e = true ∧ millpond off = false) :
    busWrite rq off v eight all e = e := by
  have hc : ¬(rq = .pf ∧ cfgAt ≤ off) := fun h => absurd h.2 (Nat.not_le.2 (ho h.1))
  unfold busWrite
  by_cases hr : reachable e rq = true
  · rw [hr, if_neg (by decide), if_neg hc, if_pos]
    obtain h | h | ⟨hu, hm⟩ := h
    · rw [hr] at h
      cases h
    · exact .inl h
    · exact .inr ⟨hu, by rw [hm]; rfl⟩
  · exact if_pos (by rw [Bool.eq_false_iff.2 hr]; rfl)

/-- A write that the latch allows to a register that is locked is a lock violation (R315). -/
theorem guardedWrite_locked {rq : Rq} {r : RegInfo} {off v : Nat} {eight : Bool} {e : Engine}
    (h : guardReason (latchOf e (rqNum rq)) off v e.clk eight = 0) (hl : locked e off = true) :
    guardedWrite rq r off v eight e = lockViol (unlatched rq e) := by
  have hl' : locked { e with guards := Tbl.del e.guards (rqNum rq) } off = true := hl
  exact (if_neg (not_not.2 h)).trans (if_pos hl')

theorem locked_tile (k : Nat) (e : Engine) : locked e (Reg.TILE_CTL + 0x40 * k) = false := by
  have ht : Reg.TILE_CTL = 0x8014 := rfl
  have hc : Reg.CMD_OWN_LOCK < 0x8000 := by decide
  have hn : Reg.NVR_LOCK < 0x8000 := by decide
  have h1 : ¬(Reg.TILE_CTL + 0x40 * k = Reg.CMD_OWN_LOCK) := by omega
  have h2 : ¬(Reg.TILE_CTL + 0x40 * k = Reg.NVR_LOCK) := by omega
  rw [locked, beq_eq_false_iff_ne.2 h1, beq_eq_false_iff_ne.2 h2]
  rfl

-- the latch -------------------------------------------------------------------------------------------------------------------------

theorem latchOf_armGuard_same (k main v : Nat) (e : Engine) :
    latchOf (armGuard k main v e) k = some { word := wd v, main := main, at_ := e.clk } := latchOf_ins _ _ _

theorem find_ins_ne {α : Type} (t : Tbl α) {k n : Nat} (v : α) (h : n ≠ k) :
    (Tbl.ins t k v).find? (fun x => x.1 == n) = t.find? (fun x => x.1 == n) := by
  have hk : ∀ l : Tbl α, ((k, v) :: l).find? (fun x => x.1 == n) = l.find? (fun x => x.1 == n) :=
    fun l => List.find?_cons_of_neg (by simpa using h.symm)
  induction t with
  | nil => exact hk []
  | cons x t ih =>
    obtain ⟨m, w⟩ := x
    rw [Tbl.ins]
    split
    · exact hk _
    · split
      · next hkm => rw [hk, List.find?_cons_of_neg (by simpa [← hkm] using h.symm)]
      · rw [List.find?_cons, List.find?_cons, ih]

theorem latchOf_armGuard_ne {k n : Nat} (main v : Nat) (e : Engine) (h : n ≠ k) :
    latchOf (armGuard k main v e) n = latchOf e n := by
  rw [latchOf, armGuard, find_ins_ne _ _ h]
  rfl

/-- Settles O43, by what each guarded register does with the word that is applied (R310-R312). -/
theorem guardedWritesAct : Obligations.guardedWritesAct := by
  unfold Obligations.guardedWritesAct
  refine ⟨?arms, ?refused, ?applied, ?span, ?tile, ?irst, ?owner, ?grave, ?domain, ?remap⟩
  case arms =>
    intro s rq off v hr hg
    have hgo : busDword rq (off + 4) v s.start = armGuard (rqNum rq) off v.toNat s.start := by
      rw [busDword, Reaches.go (e := s.start) hr, barWrite, hg]
    refine Goes.to (exec_run (f := busDword rq (off + 4) v) rfl hgo) ⟨?_, fun k hk => latchOf_armGuard_ne _ _ _ hk, ?_, rfl⟩
    · rw [latchOf_armGuard_same]
      simp [wd]
    · intro p hp
      cases p
      case guards => exact absurd (by decide) hp
      case out => exact absurd (by decide) hp
      all_goals rfl
  case refused =>
    intro s rq off k v hi hk ho _ p hp
    have hc := guardedRows_exec (s := s) (hi := hi) hp
    refine ⟨fun h => exec_run hc (busWrite_ignored (fun _ => guardedRows_off hk ho p hp) h), fun r why hr hg hi hkind hro hw => ?_⟩
    have hgo : ∀ eight, busWrite rq p.2 v eight true s.start = guardedWrite rq r p.2 v.toNat eight s.start := by
      intro eight
      rw [Reaches.go (e := s.start) hr]
      simp [barWrite, hg, hi, hkind, hro]
    refine ⟨fun h0 => exec_run hc ((hgo _).trans (guardedWrite_of_reason hw.symm h0)), fun h0 hl => exec_run hc ((hgo _).trans (guardedWrite_locked (hw.symm.trans h0) hl))⟩
  case applied =>
    exact fun s rq off v r p hr hg hi hk hro ha hl hp => exec_run (f := busDword rq off v) rfl
      (busDword_guarded (e := s.start) hr ha hp hg hi hk hro hl)
  case span =>
    intro s rq v p x y hr ha hp hx hy
    subst hy hx
    exact armedRow rfl hr ha hp (by decide) rfl rfl
  case tile =>
    intro s rq k v p x hk hr ha hp hx
    subst hx
    have hl := locked_tile k s.eng
    exact ⟨armedRow rfl hr ha hp (guardedAt_tile hk) hl (guardedApply_tile rq k _ _),
      armedRow rfl hr ha hp (guardedAt_tile hk) hl (guardedApply_tile rq k _ _)⟩
  case irst =>
    intro s rq v p n x hr ha hp hn hx
    subst hx hn
    exact armedRow rfl hr ha hp (by decide) rfl (irstApply_eq p.2 p.1)
  case owner =>
    intro s rq v p hr ha hp
    exact armedRow rfl hr ha hp (by decide) rfl rfl
  case grave =>
    intro s rq v p hr ha hp
    exact armedRow rfl hr ha hp (by decide) rfl rfl
  case domain =>
    intro s rq hi v off p ho hr ha hp
    subst ho
    refine armedRow rfl hr ha hp (by cases hi <;> decide) (by cases hi <;> rfl) (guardedApply_dom rq hi _ _)
  case remap =>
    intro s rq v p hr ha hp
    exact armedRow rfl hr ha hp (by decide) rfl rfl

end Sys2Proof.Machine
end

section
/-! The statement about the plain register rows (R307, R308, R316). -/

open Sys2Proof

namespace Sys2Proof.Machine

-- the rows ---------------------------------------------------------------------------------------------------------------------------

/-- A plain register that takes writes stands at `off`, which is no guard address (R307). -/
def plainAt (off : Nat) : Bool := (guardMain off).isNone && (regInfo off).any (fun r => decide (r.kind = .plain) && !r.readOnly)

theorem plainAt_iff {off : Nat} (h : plainAt off = true) :
    guardMain off = none ∧ ∃ r, regInfo off = some r ∧ r.kind = .plain ∧ r.readOnly = false := by
  simp only [plainAt, Bool.and_eq_true, Option.isNone_iff_eq_none, Option.any_eq_true, decide_eq_true_eq, Bool.not_eq_true'] at h
  exact h

/-- A row that writes a plain register with an effect `act` of its own, which takes the word as it is stored (R307, R308). -/
theorem plainRow {c : Instr} {s : State} {rq : Rq} {off : Nat} {v : Word} {p : Engine × Nat} {e : Engine}
    (act : Nat → Engine → Engine) (hc : exec c s = .next (s.run (busDword rq off v))) (hr : Reaches rq off s.eng)
    (hp : p = written off v s.start) (hat : plainAt off = true)
    (hact : ∀ r u x, plainApply rq r off u x = act (merged x r off u) x) (h : act p.2 p.1 = e) : exec c s = .next (s.to e) := by
  obtain ⟨hg, r, hi, hk, hro⟩ := plainAt_iff hat
  obtain ⟨hgo, hp'⟩ := busDword_row (e := s.start) hr hp hg hi hk hro
  refine exec_run hc (hgo.trans ((hact r _ _).trans ?_))
  rw [← h, hp']

theorem plainApply_refsel {k : Nat} (hk : k < 16) (rq : Rq) (r : RegInfo) (u : Nat) (e : Engine) :
    plainApply rq r (Reg.SNS_REFSEL + 4 * k) u e = refselApply k (merged e r (Reg.SNS_REFSEL + 4 * k) u) e := by
  interval_cases k <;> rfl

theorem plainApply_rxCfg {n : Nat} (hn : n < 4) (rq : Rq) (r : RegInfo) (u : Nat) (e : Engine) :
    plainApply rq r (Reg.LRG_RX_CFG + 32 * n) u e = rxCfgApply n (merged e r (Reg.LRG_RX_CFG + 32 * n) u) e := by
  interval_cases n <;> rfl

theorem plainApply_rxHead {n : Nat} (hn : n < 4) (rq : Rq) (r : RegInfo) (u : Nat) (e : Engine) :
    plainApply rq r (Reg.LRG_RX_HEAD + 32 * n) u e = rxHeadApply n (merged e r (Reg.LRG_RX_HEAD + 32 * n) u) e := by
  interval_cases n <;> rfl

theorem run_whenE {b : Bool} (h : b = true) (f : Engine → Engine) (s : State) : s.run (whenE b f) = s.run f := by
  subst h
  rfl

/-- A register that its number names is written as one (R127, R283). -/
theorem exec_refselWrite {k : Nat} (hk : k < 16) (rq : Rq) (v : Word) (s : State) :
    exec (.refselWrite rq k v) s = .next (s.run (busDword rq (Reg.SNS_REFSEL + 4 * k) v)) :=
  congrArg Host.Outcome.next (run_whenE (decide_eq_true hk) _ s)

theorem exec_rxCfgWrite {n : Nat} (hn : n < 4) (rq : Rq) (v : Word) (s : State) :
    exec (.rxCfgWrite rq n v) s = .next (s.run (busDword rq (Reg.LRG_RX_CFG + 32 * n) v)) :=
  congrArg Host.Outcome.next (run_whenE (decide_eq_true hn) _ s)

theorem exec_rxHeadWrite {n : Nat} (hn : n < 4) (rq : Rq) (v : Word) (s : State) :
    exec (.rxHeadWrite rq n v) s = .next (s.run (busDword rq (Reg.LRG_RX_HEAD + 32 * n) v)) :=
  congrArg Host.Outcome.next (run_whenE (decide_eq_true hn) _ s)

theorem plainApply_flume (rq : Rq) (r : RegInfo) (u : Nat) (e : Engine) :
    plainApply rq r Reg.SCH_FLUME_PI u e = flumePi (merged e r Reg.SCH_FLUME_PI u) e := by
  unfold plainApply
  rw [if_neg (by decide), if_neg (by decide), if_neg (by decide), if_neg (by decide), if_neg (by decide), if_neg (by decide),
    if_neg (by decide), if_neg (by decide), if_pos rfl]

/-- The plain rows, each with its register (R307, R308). -/
def plainRows (rq : Rq) (off k n : Nat) (v : Word) (b : Bool) : List (Instr × Nat) :=
  [(Instr.marchRun rq v, Reg.BKP_MARCH_CTL), (.flumePiWrite rq v, Reg.SCH_FLUME_PI), (.peakClr rq v, Reg.RFS_CTL),
    (.oneShot rq v, Reg.SNS_OS_CTL), (.refselWrite rq k v, Reg.SNS_REFSEL + 4 * k), (.damselWrite rq v, Reg.LOOP_DAMSEL),
    (.tbPrefWrite rq v, Reg.PWR_TB_CTL), (.snapGo rq v, Reg.SNAP_CTL), (.hwmClr rq v, Reg.CMD_CTL), (.handover rq v, Reg.TIM_CTL),
    (.rxCfgWrite rq n v, Reg.LRG_RX_CFG + 32 * n), (.rxHeadWrite rq n v, Reg.LRG_RX_HEAD + 32 * n),
    (.registerWrite rq off v b, off), (.rwpWrite rq off v, off)]

theorem plainRows_exec {s : State} {rq : Rq} {off k n : Nat} {v : Word} {b : Bool} (hk : k < 16) (hn : n < 4) :
    ∀ p ∈ plainRows rq off k n v b, ∃ all, exec p.1 s = .next (s.run (busWrite rq p.2 v false all)) := by
  simp only [plainRows, List.forall_mem_cons]
  exact ⟨⟨true, rfl⟩, ⟨true, rfl⟩, ⟨true, rfl⟩, ⟨true, rfl⟩, ⟨true, exec_refselWrite hk rq v s⟩, ⟨true, rfl⟩, ⟨true, rfl⟩, ⟨true, rfl⟩,
    ⟨true, rfl⟩, ⟨true, rfl⟩, ⟨true, exec_rxCfgWrite hn rq v s⟩, ⟨true, exec_rxHeadWrite hn rq v s⟩, ⟨b, rfl⟩, ⟨true, rfl⟩, by simp⟩

/-- Their registers lie below the configuration space, where the row does not name the offset itself. -/
theorem plainRows_off {rq : Rq} {off k n : Nat} {v : Word} {b : Bool} (hk : k < 16) (hn : n < 4) (ho : off < cfgAt) :
    ∀ p ∈ plainRows rq off k n v b, p.2 < cfgAt := by
  have hr : Reg.SNS_REFSEL + 4 * k < cfgAt := by interval_cases k <;> decide
  have hc : Reg.LRG_RX_CFG + 32 * n < cfgAt := by interval_cases n <;> decide
  have hh : Reg.LRG_RX_HEAD + 32 * n < cfgAt := by interval_cases n <;> decide
  simp only [plainRows, List.forall_mem_cons]
  exact ⟨by decide, by decide, by decide, by decide, hr, by decide, by decide, by decide, by decide, by decide, hc, hh, ho, ho, by simp⟩

-- where a write goes ----------------------------------------------------------------------------------------------------------------

/-- The two rows that write any register of BAR0. -/
def fabricRows (rq : Rq) (off : Nat) (v : Word) : List Instr := [Instr.registerWrite rq off v true, .rwpWrite rq off v]

theorem fabricRow {rq : Rq} {off : Nat} {v : Word} {s : State} {e : Engine} (hr : Reaches rq off s.eng)
    (h : barWrite rq off v.toNat false s.start = e) {c : Instr} (hc : c ∈ fabricRows rq off v) : exec c s = .next (s.to e) := by
  have hgo : busDword rq off v s.start = e := (Reaches.go (e := s.start) hr).trans h
  simp only [fabricRows, List.mem_cons, List.not_mem_nil, or_false] at hc
  obtain rfl | rfl := hc <;> exact exec_run (f := busDword rq off v) rfl hgo

/-- A write of a virtual function meets its own window (R242, R262, R319). -/
theorem busWrite_vf {d off : Nat} {v : Word} {eight : Bool} {e : Engine} (hr : reachable e (.vf d) = true) (hm : e.sys.mode ≠ .lockout)
    (h4 : off % 4 = 0) : busWrite (.vf d) off v eight true e = vfWrite d off v.toNat e := by
  have hp : unpowered e = false := by
    simp only [reachable, Bool.and_eq_true, Bool.not_eq_true'] at hr
    tauto
  unfold busWrite
  rw [hr, if_neg (by decide), if_neg (by simp), if_neg (by simp [hm, hp]), if_neg (by simp [h4])]

/-- A write of the physical function to its configuration space is served, whole dwords only (R333, R373). -/
theorem busWrite_cfg {off : Nat} {v : Word} {eight b : Bool} {e : Engine} (hr : reachable e .pf = true) (ho : cfgAt ≤ off) :
    busWrite .pf off v eight b e = if b = true ∧ off % 4 = 0 then
      cfgWrite ((off - cfgAt) / 0x1000) ((off - cfgAt) % 0x1000) v.toNat e else e := by
  unfold busWrite
  rw [hr, if_neg (by decide), if_pos ⟨rfl, ho⟩]
  simp only [Bool.and_eq_true, beq_iff_eq]

/-- A write of the physical function past BAR0 meets its MSI-X table (R241). -/
theorem busWrite_bar4 {off : Nat} {v : Word} {e : Engine} (hr : reachable e .pf = true) (hm : e.sys.mode ≠ .lockout)
    (hp : unpowered e = false) (hb : bar4At ≤ off) (ho : off < cfgAt) (h4 : off % 4 = 0) :
    busWrite .pf off v false true e = if off < bar4At + 0x400 then msixWrite 0 (off - bar4At) v.toNat e else e := by
  unfold busWrite
  rw [hr, if_neg (by decide), if_neg (fun h => absurd h.2 (Nat.not_le.2 ho)), if_neg (by simp [hm, hp]), if_neg (by simp [h4])]
  exact if_neg (Nat.not_lt.2 hb)

/-- A host write that does not enable all four bytes of its dword is discarded and, with power, flagged (R244). -/
theorem busWrite_partial {rq : Rq} {off : Nat} {v : Word} {b : Bool} {e : Engine} (hr : reachable e rq = true) (hh : isHost rq = true)
    (hm : e.sys.mode ≠ .lockout) (hp : unpowered e = true → millpond off = true) (ho : rq = .pf → off < cfgAt)
    (hb : b = false ∨ off % 4 ≠ 0) :
    busWrite rq off v false b e = if unpowered e = true then e else note Fd.HIF_CAUSE_PARTIAL_WR e := by
  have hlock : ¬(e.sys.mode = .lockout ∨ unpowered e = true ∧ (!millpond off) = true) := by
    rintro (h | ⟨hu, h⟩)
    · exact hm h
    · rw [hp hu] at h
      cases h
  have hpart : isHost rq = true ∧ ((!b) = true ∨ off % 4 ≠ 0) := ⟨hh, hb.imp_left fun h => by rw [h]; rfl⟩
  unfold busWrite
  rw [hr, if_neg (by decide), if_neg (fun h => absurd h.2 (Nat.not_le.2 (ho h.1))), if_neg hlock, if_pos hpart]

/-- A write of a persistent register: the lock, then BUSY, then its wear stand before its word (R315-R317). -/
theorem barWrite_nv {rq : Rq} {off : Nat} {v : Word} {r : RegInfo} {e : Engine} (hg : guardMain off = none) (hi : regInfo off = some r)
    (hk : r.kind = .nv) (hro : r.readOnly = false) :
    barWrite rq off v.toNat false e =
      if on e Fd.NVR_LOCK_LOCK = true then lockViol e
      else if e.nvr.busy.isSome = true then note Fd.NVR_CAUSE_BUSY_DROP e
      else if worn e off = true then note Fd.NVR_CAUSE_WORN e
      else nvWrite off (written off v e).2 (written off v e).1 := by
  have hw : written off v e =
      ((rsvKeep r off v.toNat e).1, merged (rsvKeep r off v.toNat e).1 r off (rsvKeep r off v.toNat e).2) := by rw [written, hi]
  have hgo : barWrite rq off v.toNat false e =
      if on e Fd.NVR_LOCK_LOCK = true ∨ e.nvr.busy.isSome = true ∨ worn e off = true then nvWrite off v.toNat e
      else nvWrite off (written off v e).2 (written off v e).1 := by
    simp [barWrite, hg, hi, hk, hro, hw]
  rw [hgo]
  by_cases hl : on e Fd.NVR_LOCK_LOCK = true
  · rw [if_pos (.inl hl), nvWrite, if_pos hl, if_pos hl]
  rw [if_neg hl]
  by_cases hb : e.nvr.busy.isSome = true
  · rw [if_pos (.inr (.inl hb)), nvWrite, if_neg hl, if_pos hb, if_pos hb]
  rw [if_neg hb]
  by_cases hd : worn e off = true
  · rw [if_pos (.inr (.inr hd)), nvWrite, if_neg hl, if_neg hb, if_pos hd, if_pos hd]
  · rw [if_neg hd, if_neg (by tauto)]

-- march runs ------------------------------------------------------------------------------------------------------------------------

/-- What refuses a march run: another mode, an algorithm or a background that there is not, or no planes to write (R55). -/
def marchBad (e : Engine) : Prop :=
  e.sys.mode ≠ .test ∨ 6 < rdF e Fd.BKP_MARCH_CTL_ALGO ∨ 3 < rdF e Fd.BKP_MARCH_CTL_BACKGROUND ∨
    (on e Fd.BKP_MARCH_CTL_ACTIVE = false ∧ on e Fd.BKP_MARCH_CTL_SHADOW = false)

theorem marchGo_refused {e : Engine} (hm : marching e = none) (h : marchBad e) :
    marchGo e = wrF Fd.BKP_MARCH_CTL_GO 0 (wrF Fd.BKP_MARCH_STAT_REFUSED 1 e) := by
  unfold marchGo
  rw [hm, if_neg (by decide), if_pos]
  simpa [marchBad, or_assoc] using h

theorem marchGo_begins {e : Engine} (hm : marching e = none) (h : ¬ marchBad e) :
    marchGo e = beginMarch false (rd e Reg.BKP_MARCH_CTL) (wrF Fd.BKP_MARCH_CTL_GO 1 e) := by
  unfold marchGo
  rw [hm, if_neg (by decide), if_neg]
  simpa [marchBad, or_assoc] using h

/-- The registers of a run that begins (R55, R56). -/
theorem rd_beginMarch (bist : Bool) (ctl o : Nat) (e : Engine) :
    rd (beginMarch bist ctl e) o = rd (wr Reg.BKP_MARCH_FAIL_CNT 0 (wrF Fd.BKP_MARCH_FF0_VALID 0 (wr Reg.BKP_MARCH_STAT 0x40000000 e))) o :=
  rfl

-- segment flumes -------------------------------------------------------------------------------------------------------------------

/-- The entries of the flume's ring (R200). -/
def flumeSize (e : Engine) : Nat := match e.sch.flume with | some (_, _, n) => 2 ^ n | none => 0

theorem flumePi_eq (v : Nat) (e : Engine) :
    flumePi v e =
      if (v + 4294967296 - rd e Reg.SCH_FLUME_CI) % 4294967296 > flumeSize e ∨ posBefore v (rd e Reg.SCH_FLUME_PI) = true
      then note Fd.SCH_CAUSE_FLUME_BAD e else flumeFetch (wr Reg.SCH_FLUME_PI v e) := by
  unfold flumePi flumeSize
  cases e.sch.flume <;> rfl

-- one-shots and snapshots -----------------------------------------------------------------------------------------------------------

/-- The shot that the word `v` of SNS_OS_CTL asks for (R129). -/
def shotOf (host : Bool) (v clk : Nat) : Shot :=
  { sensor := bits v 14 0, range := bit v 29, force := bit v 30, host := host, at_ := clk }

/-- The shot joins its tile's queue (R129). -/
def queueShot (host : Bool) (v clk : Nat) (e : Engine) : Engine :=
  updBank (tileOf (bits v 14 0 / 5)) (fun b => { b with shots := b.shots ++ [shotOf host v clk] }) e

theorem oneShotGo_host (v : Nat) (e : Engine) :
    oneShotGo true v e =
      (let x := wr Reg.SNS_OS_CTL (setBits (v % 4294967296) 31 31 (rdF e Fd.SNS_OS_CTL_GO)) e
       if bit v 31 = false then x
       else if on e Fd.SNS_OS_STAT_BUSY = true ∨ bits v 14 0 > 20499 ∨ 8 ≤ (x.bank (tileOf (bits v 14 0 / 5))).shots.length then
         note Fd.SNS_CAUSE_OS_REFUSED (wrF Fd.SNS_OS_STAT_REFUSED 1 x)
       else wrF Fd.SNS_OS_STAT_BUSY 1 (wrF Fd.SNS_OS_STAT_DONE 0 (wrF Fd.SNS_OS_STAT_REFUSED 0 (wrF Fd.SNS_OS_CTL_GO 1
         (queueShot true v e.clk x))))) :=
  ite_congr (Bool.not_eq_true' _) (fun _ => rfl) fun _ => rfl

theorem oneShotGo_core (v : Nat) (e : Engine) :
    oneShotGo false v e =
      (if bit v 31 = false then e
       else if bits v 14 0 > 20499 ∨ 8 ≤ (e.bank (tileOf (bits v 14 0 / 5))).shots.length then note Fd.SNS_CAUSE_OS_REFUSED e
       else queueShot false v e.clk e) :=
  ite_congr (Bool.not_eq_true' _) (fun _ => rfl) fun _ =>
    ite_congr (propext (by simp)) (fun _ => rfl) fun _ => rfl

theorem snapGoApply_eq (v : Nat) (e : Engine) :
    snapGoApply v e = if bit v 0 = true ∧ snapBusy e = false then
      { e with snap := { e.snap with nowWait := e.snap.nowWait ++ [none], nowAt := tickAfter (dNs e) } } else e := by
  unfold snapGoApply askNow
  cases snapBusy e <;> simp

/-- Settles O44, by where a write goes and what each plain register does with its word. -/
theorem plainWritesAct : Obligations.plainWritesAct := by
  unfold Obligations.plainWritesAct
  refine ⟨?ignored, ?beyond, ?window, ?config, ?table, ?part, ?dark, ?guard, ?nothing, ?readOnly, ?kinds, ?march, ?marching, ?refused,
    ?begins, ?flume, ?peak, ?shot, ?coreShot, ?refsel, ?damsel, ?timebase, ?snap, ?highWater, ?handover, ?rxCfg, ?rxHead⟩
  case ignored =>
    intro s rq off k n v b hk hn ho p hp h
    obtain ⟨all, hc⟩ := plainRows_exec hk hn p hp
    refine exec_run hc (busWrite_ignored (fun hrq => plainRows_off hk hn (ho hrq) p hp) h)
  case beyond =>
    intro s rq k n v hk hn c hc
    simp only [List.mem_cons, List.not_mem_nil, or_false] at hc
    obtain rfl | rfl | rfl := hc
    · exact exec_run (f := whenE (decide (k < 16)) (busDword rq (Reg.SNS_REFSEL + 4 * k) v)) rfl (if_neg (by simpa using hk))
    · exact exec_run (f := whenE (decide (n < 4)) (busDword rq (Reg.LRG_RX_CFG + 32 * n) v)) rfl (if_neg (by simpa using hn))
    · exact exec_run (f := whenE (decide (n < 4)) (busDword rq (Reg.LRG_RX_HEAD + 32 * n) v)) rfl (if_neg (by simpa using hn))
  case window =>
    intro s d off v hr hm h4 c hc
    have hgo : ∀ eight, busWrite (.vf d) off v eight true s.start = vfWrite d off v.toNat s.start := fun _ => busWrite_vf hr hm h4
    simp only [List.mem_cons, List.not_mem_nil, or_false] at hc
    obtain rfl | rfl | rfl | rfl | rfl := hc
    case inr.inr.inr.inr => exact exec_run (f := busWrite (.vf d) off v true true) rfl (hgo true)
    all_goals exact exec_run (f := busWrite (.vf d) off v false true) rfl (hgo false)
  case config => exact fun s off v b hr ho => exec_run (f := busWrite .pf off v false b) rfl (busWrite_cfg hr ho)
  case table =>
    exact fun s off v hr hm hp hb ho h4 => exec_run (f := busWrite .pf off v false true) rfl (busWrite_bar4 hr hm hp hb ho h4)
  case part =>
    intro s rq off v b hr hh hm hp ho hb
    have hu : unpowered s.start = false := hp
    refine exec_run (f := busWrite rq off v false b) rfl
      ((busWrite_partial (e := s.start) hr hh hm (fun h => ?_) ho hb).trans (if_neg (by rw [hu]; decide)))
    rw [hu] at h
    cases h
  case dark =>
    intro s rq off v b ⟨hr, _, hm, hp, hoff, _⟩ hu hh hb
    have ho : off < cfgAt := hoff.trans (by decide)
    exact exec_run (f := busWrite rq off v false b) rfl
      ((busWrite_partial (e := s.start) hr hh hm hp (fun _ => ho) (.inl hb)).trans (if_pos hu))
  case guard =>
    intro s rq off m v hr hg c hc
    refine fabricRow hr ?_ hc
    rw [barWrite, hg]
  case nothing =>
    intro s rq off v hr hg hi c hc
    refine fabricRow hr ?_ hc
    rw [barWrite, hg, hi]
  case readOnly =>
    intro s rq off v r hr hg hi hk hro c hc
    refine fabricRow hr ?_ hc
    simp [barWrite, hg, hi, hk, hro]
  case kinds =>
    intro s rq off v r hr hg hi c hc
    refine ⟨fun hk => fabricRow hr (by simp [barWrite, hg, hi, hk]) hc, fun hk hro => ?_, fun hk hro => ?_, fun hk hro => ?_⟩
    · rw [Reaches.exec_guardedWrite hr hg hi hk hro]
      exact fabricRow hr (by simp [barWrite, hg, hi, hk, hro]) hc
    · exact fabricRow hr (by simp [barWrite, hg, hi, hk, hro]) hc
    · exact fabricRow hr (barWrite_nv hg hi hk hro) hc
  case march =>
    intro s rq v p x hr hp hx
    subst hx
    exact plainRow marchCtlApply rfl hr hp (by decide) (fun _ _ _ => rfl) rfl
  case marching => exact fun x h => if_pos h
  case refused => exact fun x hm h => marchGo_refused hm h
  case begins =>
    intro x n hm ht ha hb hpl hn
    subst hn
    have hok : ¬ marchBad x := by
      rintro (h | h | h | ⟨h1, h2⟩)
      · exact h ht
      · exact absurd ha (Nat.not_le.2 h)
      · exact absurd hb (Nat.not_le.2 h)
      · rw [h1, h2] at hpl
        simp at hpl
    have hctl : ∀ y, rdF (beginMarch false (rd x Reg.BKP_MARCH_CTL) y) Fd.BKP_MARCH_CTL_GO = rdF y Fd.BKP_MARCH_CTL_GO := by
      intro y
      rw [rdF, rd_beginMarch, rd_wr_ne _ _ _ _ (by decide), rd_wrF_ne _ _ _ _ (by decide), rd_wr_ne _ _ _ _ (by decide), rdF]
    rw [marchGo_begins hm hok]
    refine ⟨rfl, ?_, ?_, ?_, ?_⟩
    · rw [rd_beginMarch, rd_wr_ne _ _ _ _ (by decide), rd_wrF_ne _ _ _ _ (by decide), rd_wr_same]
    · rw [rd_beginMarch, rd_wr_same]
    · rw [on, rdF, rd_beginMarch, rd_wr_ne _ _ _ _ (by decide)]
      exact beq_eq_false_iff_ne.2 (by rw [← rdF, rdF_wrF_same _ _ _ (by decide) (by decide)]; decide)
    · rw [on, hctl, rdF_wrF_same _ _ _ (by decide) (by decide)]
      rfl
  case flume =>
    intro s rq v p hr hp
    exact plainRow flumePi rfl hr hp (by decide) (plainApply_flume rq) (flumePi_eq p.2 p.1)
  case peak =>
    intro s rq v p x y hr hp hx hy
    subst hy hx
    exact plainRow rfsCtlApply rfl hr hp (by decide) (fun _ _ _ => rfl) rfl
  case shot =>
    intro s rq v p x y t hr hh hp ht hx hy
    refine plainRow (oneShotGo (hostRq rq)) rfl hr hp (by decide) (fun _ _ _ => rfl) ?_
    subst hy hx ht
    rw [hh]
    exact oneShotGo_host p.2 p.1
  case coreShot =>
    intro s m v p t hr hp ht
    subst ht
    exact plainRow (oneShotGo false) rfl hr hp (by decide) (fun _ _ _ => rfl) (oneShotGo_core p.2 p.1)
  case refsel =>
    intro s rq k v p ch x hk hr hp hch hx
    subst hx hch
    exact plainRow (refselApply k) (exec_refselWrite hk rq v s) hr hp (by interval_cases k <;> decide) (plainApply_refsel hk rq) rfl
  case damsel =>
    exact fun s rq v p hr hp => plainRow damselApply rfl hr hp (by decide) (fun _ _ _ => rfl) rfl
  case timebase =>
    intro s rq v p x hr hp hx
    subst hx
    exact plainRow tbCtlApply rfl hr hp (by decide) (fun _ _ _ => rfl) rfl
  case snap =>
    exact fun s rq v p hr hp => plainRow snapGoApply rfl hr hp (by decide) (fun _ _ _ => rfl) (snapGoApply_eq p.2 p.1)
  case highWater =>
    exact fun s rq v p hr hp => plainRow cmdCtlApply rfl hr hp (by decide) (fun _ _ _ => rfl) rfl
  case handover =>
    intro s rq v p x hr hp hx
    subst hx
    exact plainRow timCtlApply rfl hr hp (by decide) (fun _ _ _ => rfl) rfl
  case rxCfg =>
    exact fun s rq n v p hn hr hp => plainRow (rxCfgApply n) (exec_rxCfgWrite hn rq v s) hr hp (by interval_cases n <;> decide)
      (plainApply_rxCfg hn rq) rfl
  case rxHead =>
    intro s rq n v p h sz hn hr hp hh hsz
    subst hsz hh
    exact plainRow (rxHeadApply n) (exec_rxHeadWrite hn rq v s) hr hp (by interval_cases n <;> decide) (plainApply_rxHead hn rq) rfl

end Sys2Proof.Machine
end
